-- ==== Sys2Proof/Word.lean ====
section
/-! DEFINITION. The word types of the PV7256-C and their plainest arithmetic (R5, R6). -/

namespace Sys2Proof

/-- A 32-bit register word (R53: registers are DWORDs). -/
abbrev Word := BitVec 32

/-- An 8-bit byte. -/
abbrev Byte := BitVec 8

/-- An 18-bit slot word or connection-memory entry (R6, R179). -/
abbrev SlotWord := BitVec 18

/-- Bits `[lo + w - 1 : lo]` of a number (R5: a range includes both ends). -/
def bitsOf (x lo w : Nat) : Nat := x / 2 ^ lo % 2 ^ w

/-- Bit `i` of a number, as a Boolean. -/
def bitOf (x i : Nat) : Bool := x / 2 ^ i % 2 == 1

/-- A Boolean as the value of a one-bit field. -/
def b2n (b : Bool) : Nat := if b then 1 else 0

/-- `x` with bits `[lo + w - 1 : lo]` replaced by `v`. -/
def setBits (x lo w v : Nat) : Nat :=
  x / 2 ^ (lo + w) * 2 ^ (lo + w) + v % 2 ^ w * 2 ^ lo + x % 2 ^ lo

/-- The signed value of a `w`-bit two's-complement field. -/
def signedOf (w x : Nat) : Int :=
  if x % 2 ^ w < 2 ^ (w - 1) then (x % 2 ^ w : Nat) else ((x % 2 ^ w : Nat) : Int) - (2 ^ w : Nat)

/-- A signed number as a `w`-bit two's-complement field. -/
def ofSigned (w : Nat) (v : Int) : Nat := (v % (2 ^ w : Nat)).toNat

/-- `a + b`, saturating at `cap`. -/
def satAdd (cap a b : Nat) : Nat := min cap (a + b)

end Sys2Proof
end

