-- ==== Sys2Proof/Syntax.lean ====
section
/-! DEFINITION. The commands of the block: one constructor per row of spec/opcode_table.json, and the types of
their operands.

Readings fixed here (notes/assumptions): 30 DEDUCED. -/

namespace Sys2Proof

/-- The bus masters of R75. -/
inductive Master
  | pf0 | pf1 | warden | core (k : Fin 8) | dma | debug | service | twin | ctx
deriving DecidableEq, Repr

/-- The privilege modes of a control core (R410, R468). -/
inductive CpuMode | u | s | m
deriving DecidableEq, Repr

/-- The states of a rail monitor (R448). -/
inductive RailState | off | ok | warn | out | fatal
deriving DecidableEq, Repr

/-- The classes of an interlock input (R328). -/
inductive PinClass | low | high | beacon | invalid
deriving DecidableEq, Repr

/-- The functions whose disable drains to a natural boundary (R47). -/
inductive DrainFn
  | carrier (c : Fin 2)
  | laneDatapath (n : Fin 256)
  | laneTransmitter (n : Fin 256)
  /-- A DMA channel: the bytes its descriptor had moved, and those of them that came from the host (R392). -/
  | dmaChannel (k : Fin 16) (moved : Nat) (hostData : List Byte)
  | twinCopy
  | group (i : Fin 262144)
deriving DecidableEq, Repr

/-- A bit of one of the three copies of a fuse item that reads other than Warden last took it (R420). Items: 0 lifecycle,
1 serial number, 2 root key hash, 3 device secret, 4 and 5 the minimum SVNs of the manifest and of the control firmware. -/
structure FuseFlip where
  item : Fin 6
  copy : Fin 3
  bit : Fin 256
deriving DecidableEq, Repr

/-- The bytes the boot flash returns for one slot: key manifest, then control image (R425). -/
structure FlashSlot where
  manifest : List Nat
  image : List Nat
deriving DecidableEq, Repr

/-- What Warden meets during Boot (R426): its self-checks, the bits that its fuse read finds changed, the two flash slots (none: the flash
read failed) and the duration of Boot in ms. -/
structure BootInput where
  romOk : Bool
  sramOk : Bool
  fuses : List FuseFlip
  slot0 : Option FlashSlot
  slot1 : Option FlashSlot
  ms : Nat
deriving DecidableEq, Repr

/-- A field-journal record (R462), its CRC apart. -/
structure JRec where
  seq : Nat
  typ : Nat
  master : Nat
  page : Nat
  uptime : Nat
  aonCycle : Nat
  sf : Nat
  tick : Nat
  modeRole : Nat
  body : List Nat
deriving DecidableEq, Repr

/-- The body of a twin journal record (R340). -/
inductive TwinBody
  | regWrite (page region offDw be data master : Nat)
  | cmBurst (base : Nat) (entries : List Nat)
  | ctxConfig (index : Nat) (dws : List Nat)
  | protState (index : Nat) (dws : List Nat)
  | frameCount (su fc : Nat)
  | pmRecords (tick : Nat) (recs : List (Nat × List Nat))
  | fieldJournal (r : JRec)
  | bulk (region : Nat) (vals : List (Nat × Nat))
deriving DecidableEq, Repr

/-- A twin journal record (R340). -/
structure TwinRec where
  seq : Nat
  sf : Nat
  frame : Nat
  body : TwinBody
deriving DecidableEq, Repr

/-- A mapper entry of the Waltz (R338), with the KIND and S that its twin has for the group (R339). -/
structure MapperEntry where
  word : Nat := 0
  frame : Nat := 0
  phase : Nat := 0
  trim : Int := 0
  gen : Bool := false
  fr : Bool := false
  mfi : Nat := 0
  unread : Nat := 0
  run : Bool := false
  inFrame : Bool := false
  kindS : Nat := 0
deriving DecidableEq, Repr

/-- A port entry of the Waltz (R338). -/
structure PortEntry where
  fc : Nat := 0
  pos : Nat := 0
  mfas : Nat := 0
  d : Nat := 0
deriving DecidableEq, Repr

/-- The header cell of a Waltz message (R335). -/
structure WaltzHeader where
  sf : Nat
  dTx : Nat
  x : Int
  mode : Nat
  role : Nat
  side : Bool
  eligible : Bool
  handover : Bool
  resyncReq : Bool
  resyncAck : Bool
  deferred : Bool
  overrun : Bool
  sfAligned : Bool
  fault : Nat
  appliedSf : Nat
deriving DecidableEq, Repr

/-- A Waltz message (R334): header, whether it holds the port and mapper sections (R335 bytes 20 to 23), their valid
entries, signatures and tags by slot unit, journal records. -/
structure WaltzMsg where
  hdr : WaltzHeader
  copied : Bool
  ports : List (Nat × PortEntry)
  mappers : List (Nat × MapperEntry)
  sigs : List (Nat × Nat)
  tags : List (Nat × Nat)
  recs : List TwinRec
deriving DecidableEq, Repr

/-- The two forms a bus burst takes (R70, R401): beats of byte enables for a read, of (byte enables, data) for a write. -/
inductive BusOp
  | read (beats : List Nat)
  | write (beats : List (Nat × Nat))
deriving DecidableEq, Repr

/-- A burst that a master puts on the matrix (R401); the address is that of the first byte that the first beat's lowest enable
stands for. -/
structure BusReq where
  master : Master
  mode : CpuMode
  addr : Nat
  op : BusOp
  /-- The beat of a memory read at which its target finds an uncorrectable word (R403). -/
  badBeat : Option Nat := none
deriving DecidableEq, Repr

/-- What ended a DMA transfer on the host or memory side (R391). -/
inductive DmaEnd
  | ok
  | hostErr
  /-- An uncorrectable read of a memory target; `bytes` counts the bytes read, those of the bad word included. -/
  | ecc (bytes : Nat)
deriving DecidableEq, Repr

/-- A DMA descriptor as read from host memory (R389). -/
structure Descriptor where
  hostAddr : Nat
  devAddr : Nat
  len : Nat
  ctrl : Nat
deriving DecidableEq, Repr

/-- The views of SVC_MON that the console selects (R456). -/
inductive MonView | rail (r : Fin 10) | temp | verdict | code | auto | off
deriving DecidableEq, Repr

/-- The tests of R458 with their arguments, as TEST_CMD and the console name them. -/
structure TestReq where
  unit : Nat
  full : Bool
  laneLeg : Bool
  eye : Nat
  console : Bool
deriving DecidableEq, Repr

/-- The TAP instructions of R472. -/
inductive TapInstr
  | idcode | samplePreload | extest | clamp | highz | extestPulse | extestTrain | bypass
deriving DecidableEq, Repr

/-- What the test engine measured when a test ends (R458, R460): a checker's synchronisation and errors, the
errors of 64 eye phases, the first failing address of a march, a converter FAIL mask, the uncorrected codewords of
the Emzal lanes, nothing beyond the registers, or a refusal as BUSY by the block under test. -/
inductive TestResult
  | registers
  | eye (errs : List Nat)
  | march (firstFail : Option Nat)
  | checker (synced : Bool) (errors : Nat)
  | converters (failMask : Nat)
  | link (uncorrected : Nat)
  | blockBusy
deriving DecidableEq, Repr

/-- The receiver's estimates (R104): dispersion in 0.01 ns/nm, DGD in 0.1 ps, SOP rate in krad/s, frequency offset in MHz,
SNR of both polarisations in 0.01 dB. -/
structure DspEst where
  cd : Int
  dgd : Nat
  sop : Nat
  fo : Int
  snrX : Nat
  snrY : Nat
deriving DecidableEq, Repr

/-- The overhead of one layer of a received ODU frame (R152, R154, R159): violating bits of its BIP-8, BEI, BDI,
STAT and its trail-trace byte. -/
structure LayerOh where
  bip : Fin 9
  bei : Fin 16
  bdi : Bool
  stat : Fin 8
  tti : Byte
deriving DecidableEq, Repr

/-- A received ODU frame as the context engine sees it: whether its FAS is correct, MFAS, the overhead of path and
TCM1 to TCM6, the APS/PCC bytes (R160), and for a demultiplexed parent a captured MSI and its tributaries' justification
control fields, by the tributary's first slot unit: Cm and ΣC_nD, none where the field fails its check (R139). -/
structure OduFrame where
  fas : Bool
  mfas : Byte
  layers : List LayerOh
  aps : Word
  jc : List (Fin 46080 × Option (Nat × Nat))
  msi : Option (List Byte)
deriving DecidableEq, Repr

/-- One ODU's part of a security multiframe (R435): its ODU frames 0 to 3, each of 4 rows of 3,824 bytes. An ODUCn has one
for each slice. -/
structure SecSlice where
  frames : List (List Byte)
deriving DecidableEq, Repr

/-- The conditions whose persistence of 3 ms R154 times. -/
inductive PersistCond
  | portLof (p : Fin 258)
  | portLom (p : Fin 258)
  | groupLof (egress : Bool) (su : Fin 46080)
deriving DecidableEq, Repr

/-- What happens in the slot core in one core frame (R173 to R198): the words written at ingress slot units, by slot
unit, 64 each; the words that change between write and read; entries of the active page found uncorrectable and
entries corrected; egress groups whose mapper fails its self-check; the stacks of corrected skew-buffer reads, and the
protection group, the unit of the frame read and the stack of uncorrectable ones (R217); lanes whose PRBS checker ran, with
the bits it checked and the errors it counted (R277). -/
structure CoreFrame where
  words : List (Nat × List SlotWord)
  flips : List (Nat × Nat × SlotWord)
  cmBad : List Nat
  cmCorr : Nat
  selfCheck : List Nat
  skewCorr : List (Fin 4)
  skewUncorr : List (Nat × Nat × Fin 4)
  prbs : List (Nat × Nat × Nat)
deriving DecidableEq, Repr


/-- What a line frame is given to send (R118, R290): pairs of data blocks, and the OTUCn frames that have been formed since the last
line frame, each its slices' bytes. -/
structure LinePay where
  half : Nat
  frames : List (List (List Byte))
deriving DecidableEq, Repr

/-- A slot-lane frame as received (R270 to R275): the cycle of the core frame at which its marker ended, its symbols, and what the
RS decoder corrects. -/
structure SlotFrame where
  cycle : Fin 1153
  line : List (Fin 4)
  fixes : List (Nat × Fin 1024)
deriving DecidableEq, Repr

/-- What a Waltz message is checked by (R332, R333): whether every cell of it arrived, the CRC-32 of its header cell and that of its
trailer. -/
structure WaltzCheck where
  whole : Bool
  crc : Nat
  trailer : Nat
deriving DecidableEq, Repr

/-- A window of 64 UI in a lane's received symbols, with the fields that follow it (R253, R256): its place in the stream, its signs, the
first UI in bit 63 and +3 as 1, the control and status fields and the CRC-8. -/
structure MarkerSeen where
  place : Nat
  signs : BitVec 64
  control : Fin 65536
  status : Fin 65536
  crc : Byte
deriving DecidableEq, Repr

/-- A hot-state word whose code found an error when the engine read it (R150): context, word of 64 bits, and whether
the error was uncorrectable. -/
structure EccHit where
  ctx : Fin 262144
  word : Fin 8
  uncorr : Bool
deriving DecidableEq, Repr
/-- The commands the block takes: one constructor per row of the opcode table. -/
inductive Instr
  /-- REGISTER_WRITE (R60). A write, through the register region, to a register that has no row of its own; it takes effect by the field access codes. -/
  | registerWrite (m : Master) (page : Fin 4096) (dw : Fin 4096) (be : Fin 16) (data : Word)
  /-- SET_ALIAS_WRITE (R62). A write through the SET alias ORs the data into each RW field and each unlocked RWL field, as one atomic update. -/
  | setAliasWrite (m : Master) (page : Fin 4096) (dw : Fin 4096) (be : Fin 16) (data : Word)
  /-- CLEAR_ALIAS_WRITE (R62). A write through the CLEAR alias clears the written bits of each RW field and each unlocked RWL field, as one atomic update. -/
  | clearAliasWrite (m : Master) (page : Fin 4096) (dw : Fin 4096) (be : Fin 16) (data : Word)
  /-- TOGGLE_ALIAS_WRITE (R62). A write through the TOGGLE alias XORs the data into each RW field and each unlocked RWL field, as one atomic update. -/
  | toggleAliasWrite (m : Master) (page : Fin 4096) (dw : Fin 4096) (be : Fin 16) (data : Word)
  /-- LOCK_WRITE (R67). A whole-word write of LOCK sets LOCK bits, which stay set until full reset and lock the RWL fields assigned to them. -/
  | lockWrite (m : Master) (page : Fin 4096) (data : Word)
  /-- INT_FORCE_WRITE (R56). A write of 1 to an INT_FORCE bit sets the corresponding INT_STATUS bit. -/
  | intForceWrite (m : Master) (page : Fin 4096) (data : Word)
  /-- SNAPSHOT_TAKE (R66). A write of SNAP_CTRL.TAKE copies the counters of the page, or of every page from page 0x000, into their holding registers on one CORE_CLK edge and advances SNAP_SEQ. -/
  | snapshotTake (m : Master) (page : Fin 4096) (onTick : Bool)
  /-- BLOCK_ENABLE (R49). A write of BLK_CTRL.EN = 1 enables a function, or is held until DRAINING returns to 0. -/
  | blockEnable (m : Master) (page : Fin 4096)
  /-- BLOCK_DISABLE (R47). A write of BLK_CTRL.EN = 0 starts a disable, with DRAINING = 1 until the function's natural boundary; a disable of a memory stack in use is refused with IN_USE. -/
  | blockDisable (m : Master) (page : Fin 4096)
  /-- DRAIN_COMPLETE (R47). A disable takes effect at the function's natural boundary, and DRAINING returns to 0. -/
  | drainComplete (f : DrainFn)
  /-- BLOCK_RESET (R43). A write of BLK_CTRL.BLK_RST resets a block, if it is in Maintenance or disabled and not draining, and raises its reset shield; otherwise it is refused. -/
  | blockReset (m : Master) (page : Fin 4096)
  /-- READY_REACHED (R45). A function completes its readiness work, READY becomes 1, READY_CHG is raised and the reset shield is lowered. -/
  | readyReached (page : Fin 4096)
  /-- READY_TIMEOUT (R45). A function that has not become READY by its maximum time sets FAULT, raises its interrupt and writes a journal record. -/
  | readyTimeout (page : Fin 4096)
  /-- MODE_REQ_ENTER_MAINTENANCE (R37). DEVICE.MODE_REQ OP 1 requests entry to Maintenance, which takes effect at the next superframe boundary, or is refused. -/
  | modeReqEnterMaintenance (m : Master)
  /-- MODE_REQ_LEAVE_MAINTENANCE (R37). DEVICE.MODE_REQ OP 2 requests a return from Maintenance at the next superframe boundary to PREV, or to Twin-Stale from a twin mode. -/
  | modeReqLeaveMaintenance (m : Master)
  /-- MODE_REQ_ENTER_SERVICE (R37). DEVICE.MODE_REQ OP 3 halts every control core and enters Service once all have halted. -/
  | modeReqEnterService (m : Master)
  /-- MODE_REQ_RESTART_FIRMWARE (R50). DEVICE.MODE_REQ OP 4 restarts control firmware while the device is in Service. -/
  | modeReqRestartFirmware (m : Master)
  /-- ROLE_WRITE (R38). A write of DEVICE.ROLE.ROLE sets the role during Boot and Bring-up, and afterwards has no effect and sets LOCK_VIOL. -/
  | roleWrite (m : Master) (role : Fin 4)
  /-- BRINGUP_EXIT (R33). With ROLE non-zero and the slot core READY, the device leaves Bring-up for Standalone, Forerunner or twin discovery. -/
  | bringupExit
  /-- FULL_RESET_COMMAND (R39). A whole-word write of DEVICE.RESET with FULL = 1 and KEY = 0xD0D0 causes a full reset. -/
  | fullResetCommand (m : Master)
  /-- RESET_N_ASSERTED (R39). RESET_N held low for at least 1 µs causes a full reset. -/
  | resetNAsserted
  /-- PERST_N_ASSERTED (R41). PERST_N low causes a full reset with PERST_FULL = 1, or otherwise resets only the PCIe link and the host-interface state. -/
  | perstNAsserted
  /-- VDD_AON_APPLIED (R44). VDD_AON enters its window, the service engine starts, resumes the journal and writes POWER_ON, and the device is Dormant. -/
  | vddAonApplied (xo : Bool) (mv : List Nat)
  /-- VDD_AON_LOST (R487). Loss of VDD_AON makes every output undriven within 10 µs. -/
  | vddAonLost
  /-- RAIL_STATE_CHANGE (R448). A rail monitor measurement moves a rail between OFF, OK, WARN, OUT and FATAL, which may enter Dormant, release Reset or raise RAIL_WARN.
  The measurement is `mv` millivolts; `held` says that the rail has been outside ±3 % for 1 ms. -/
  | railStateChange (r : Fin 10) (mv : Fin 4096) (held : Bool)
  /-- RAIL_FATAL_TIMEOUT (R35). A non-AON rail that stays in FATAL for more than 10 µs causes a fatal fault. -/
  | railFatalTimeout (r : Fin 9)
  /-- TEMPERATURE_SAMPLE (R449). A die temperature reading at 105, 110 or 115 °C causes a THERMAL record, a GASP or a fatal fault. -/
  | temperatureSample (t : Int)
  /-- XO_IN_LOSS (R22). Loss of XO_IN while running causes a fatal fault, and the service engine moves to its RC oscillator. -/
  | xoInLoss
  /-- ROOT_PLL_LOCK_CHANGE (R22). The root PLL locks, which lets the device leave Reset, or loses lock while running, which is a fatal fault. -/
  | rootPllLockChange (locked : Bool)
  /-- WATCHDOG_KICK (R50). A write of CTLFW_WDOG.KICK restarts the watchdog period, and a first kick from Service returns the device to PREV. -/
  | watchdogKick (m : Master) (timeout : Fin 65536)
  /-- WATCHDOG_EXPIRY (R33). The control-firmware watchdog expires and the device enters Service. -/
  | watchdogExpiry
  /-- BOOT_COMPLETE (R426). Warden finishes verifying the boot slots and either starts control firmware and enters Bring-up, enters Service with no image, or enters Quarantine. -/
  | bootComplete (b : BootInput)
  /-- CFW_TTI_EXPECT (R52). CFW_CMD OP 1 sets a point's expected trail trace and comparison options. -/
  | cfwTtiExpect (m : Master) (index : Fin 262144) (data : List Word)
  /-- CFW_POINT_STATUS (R52). CFW_CMD OP 2 returns a point's TIM state and last stable trace. -/
  | cfwPointStatus (m : Master) (index : Fin 262144)
  /-- CFW_MSI_STATUS (R52). CFW_CMD OP 3 returns a mapper's MSI comparison result. -/
  | cfwMsiStatus (m : Master) (index : Fin 262144)
  /-- CFW_SD_CFG (R52). CFW_CMD OP 4 configures signal-degrade assessment for a protection group. -/
  | cfwSdCfg (m : Master) (index : Fin 262144) (data : Word)
  /-- CFW_PG_STATUS (R52). CFW_CMD OP 5 returns a protection group's SD, protocol-failure and exercise state. -/
  | cfwPgStatus (m : Master) (index : Fin 262144)
  /-- CFW_PM_BINS (R52). CFW_CMD OP 6 returns the 15-minute and 24-hour PM bins of a computed point. -/
  | cfwPmBins (m : Master) (index : Fin 262144)
  /-- CFW_COMMAND_DONE (R51). Control firmware writes CFW_DATA and CFW_RESULT, BUSY falls and CFW_DONE is raised. -/
  | cfwCommandDone
  /-- CFW_PUBLISH (R51). Control firmware publishes CFW_IF and CFW_SUMMARY, increments CFW_SEQ and updates TIM, SD and EXT_REQ actions. -/
  | cfwPublish (ifVer : Fin 65536)
  /-- CARRIER_RATE_WRITE (R82). A write to CARRIER.RATE or SLOT while the carrier is disabled starts a rate-mode evaluation; otherwise it is refused with CFG_LOCKED. -/
  | carrierRateWrite (m : Master) (c : Fin 2) (slot : Bool) (be : Fin 16) (data : Word)
  /-- RATE_EVALUATION_DONE (R81). The rate-mode evaluation ends, setting CFG_STATUS, CAPACITY and the shaping parameters, raising CFG_DONE and acting on any held enable. -/
  | rateEvaluationDone (c : Fin 2)
  /-- CARRIER_ENABLE (R81). BLK_CTRL.EN = 1 on a carrier starts foreground calibration and the transmit chain, or is held or refused for CALC, an inadmissible mode or the engine being off. -/
  | carrierEnable (m : Master) (c : Fin 2)
  /-- ENGINE_POWER_ON (R98). A write of PWR_CTRL.ENGINE_ON = 1 powers up the carrier's engine domain. -/
  | enginePowerOn (m : Master) (c : Fin 2)
  /-- ENGINE_POWERED (R98). The engine domain finishes powering up and ENGINE_PWR reads 1. -/
  | enginePowered (c : Fin 2)
  /-- ENGINE_POWER_OFF (R100). A write of ENGINE_ON = 0 switches off the engine domain, or is refused with IN_USE while the carrier is enabled, draining or calibrating. -/
  | enginePowerOff (m : Master) (c : Fin 2)
  /-- TX_ENABLE_WRITE (R99). A write of TX_CTRL.TX_EN enables or disables the transmit chain and light request, and C{c}_LASER_EN follows. -/
  | txEnableWrite (m : Master) (c : Fin 2) (be : Fin 16) (data : Word)
  /-- FOREGROUND_CALIBRATION (R97). CAL_CTRL OP 1 starts foreground calibration as an intrusive or shadow test, subject to R34. -/
  | foregroundCalibration (m : Master) (c : Fin 2)
  /-- CONVERTER_LOOP_TEST (R97). CAL_CTRL OP 2 starts the converter loop test, subject to R34. -/
  | converterLoopTest (m : Master) (c : Fin 2)
  /-- CALIBRATION_DONE (R97). Foreground calibration or the loop test ends, setting CAL_STATUS and raising CAL_DONE or CAL_FAIL. -/
  | calibrationDone (c : Fin 2) (fail : Byte) (ms : Fin 65536) (res : List (Nat × Int))
  /-- BACKGROUND_CALIBRATION (R96). A background calibration period ends and the device corrects converter offsets, gains, timing and DAC mismatch by bounded steps. -/
  | backgroundCalibration (c : Fin 2) (k : Fin 8) (gain : Int) (time : Int)
  /-- CARRIER_SIG_FALL (R92). The carrier's input level stays below SIG_THR for 10 µs, so SIG falls, the stages freeze and PILOT_LOCK and DSP_LOCK fall. -/
  | carrierSigFall (c : Fin 2)
  /-- CARRIER_SIG_RISE (R92). The input level stays above SIG_THR for 10 µs, so SIG rises and the frozen stages resume. -/
  | carrierSigRise (c : Fin 2)
  /-- FREEZE_EXPIRY (R92). RX_CFG.FREEZE expires with SIG still 0, the kept lock bits fall and acquisition restarts from the dispersion search. -/
  | freezeExpiry (c : Fin 2)
  /-- RX_STAGE_ADVANCE (R98). A receive acquisition stage completes and the chain moves to the next stage, up to PILOT_LOCK and DSP_LOCK. -/
  | rxStageAdvance (c : Fin 2) (est : DspEst)
  /-- ADC_POWER_STEP (R229). A 128 ns window of input-referred power ends differing from the previous eight by at least STEP_DB and raises the power-step precursor. -/
  | adcPowerStep (c : Fin 2) (db : Nat)
  /-- PRECURSOR_WINDOW_END (R229). A 1 µs precursor grid window ends and the pilot-error burst and pre-FEC surge precursors are judged for it. -/
  | precursorWindowEnd (pilots0 : Nat) (wrong0 : Nat) (pilots1 : Nat) (wrong1 : Nat)
  /-- ADC_CLIP_CHECK (R105). A 1 ms window ends with more than 1 in 10^4 samples at full scale and ADC_CLIP is raised. -/
  | adcClipCheck (c : Fin 2) (est : DspEst) (clipped : Nat) (samples : Nat)
  /-- CAPTURE_ARM (R101). CAPTURE_CTRL.ARM arms a capture or histogram, or is logged BUSY or NO_MEM. -/
  | captureArm (m : Master) (c : Fin 2) (data : Word)
  /-- CAPTURE_ABORT (R105). CAPTURE_CTRL.ABORT abandons an armed or running capture without writing a record. -/
  | captureAbort (m : Master) (c : Fin 2)
  /-- CAPTURE_TRIGGER (R101). The trigger of an armed capture occurs and the capture SRAM is filled. -/
  | captureTrigger (c : Fin 2) (cycle : Fin 1153) (before : List Byte) (after : List Byte)
  /-- CAPTURE_COPY_DONE (R101). The capture record is copied to the memory window and CAPTURE_DONE is raised. -/
  | captureCopyDone (c : Fin 2)
  /-- HISTOGRAM_DONE (R103). A constellation histogram completes over CAPTURE_LEN and is stored as a record. -/
  | histogramDone (c : Fin 2) (cycle : Fin 1153) (x : List Nat) (y : List Nat)
  /-- FE_COMMAND (R104). A whole-word command on page B + 0x1 starts a front-end bus transaction. -/
  | feCommand (m : Master) (c : Fin 2) (data : Word)
  /-- FE_TRANSACTION_DONE (R105). A front-end transaction completes, raising FE_DONE or FE_ERR. -/
  | feTransactionDone (c : Fin 2) (ack : Bool) (bytes : List Byte)
  /-- LDPC_CODEWORD_ENCODE (R109). A codeword is built by matcher, labels, payload signs, LDPC parity and interleaving onto symbols. -/
  | ldpcCodewordEncode (c : Fin 2) (n : Fin 504) (empty : Unit)
  /-- LDPC_CODEWORD_DECODE (R110). A received codeword is decoded by layered min-sum, dematched and descrambled, and counted. -/
  | ldpcCodewordDecode (c : Fin 2) (n : Fin 504) (llr : List (Fin 32))
  /-- LINE_FRAME_TRANSMIT (R120). A line frame is sent with its overhead codeword carrying the marker, FC, RATE_ECHO, D, bond and back-channel fields. -/
  | lineFrameTransmit (c : Fin 2) (pay : LinePay)
  /-- LINE_FRAME_RECEIVED (R121). A line frame's overhead is judged good or bad, driving the line-marker machine, REM_ fields, D and the counters. -/
  | lineFrameReceived (c : Fin 2) (cycle : Fin 1153)
  /-- OTUC_CANDIDATE (R128). A candidate frame alignment is found in OOF and a new Reel hypothesis is created, dropping the oldest if four are held. -/
  | otucCandidate (c : Fin 2) (u : Nat)
  /-- HYPOTHESIS_CHECK (R128). A hypothesis check falls a frame after the last and either advances the hypothesis, confirms it, or cancels it. -/
  | hypothesisCheck (c : Fin 2) (h : Fin 4)
  /-- OTUC_FRAME_CHECK (R127). An in-frame OTUCn frame has its FAS and MFAS checked, moving the framer among IN_FRAME, IN_FRAME_OOM and OOF. -/
  | otucFrameCheck (c : Fin 2)
  /-- TRIB_READ_ACTIVE (R141). TRIB_CMD OP 1 reads an active tributary-table entry into TRIB_DATA. -/
  | tribReadActive (m : Master) (index : Fin 65536) (eg : Bool) (table : Fin 4)
  /-- TRIB_WRITE_STAGED (R141). TRIB_CMD OP 2 writes TRIB_DATA into a staged table entry. -/
  | tribWriteStaged (m : Master) (index : Fin 65536) (eg : Bool) (table : Fin 4)
  /-- TRIB_READ_STAGED (R141). TRIB_CMD OP 3 reads a staged tributary-table entry into TRIB_DATA. -/
  | tribReadStaged (m : Master) (index : Fin 65536) (eg : Bool) (table : Fin 4)
  /-- TRIB_APPLY (R142). TRIB_CMD OP 4 checks a port's staged entries, refusing invalid, overloaded or in-use configurations. -/
  | tribApply (m : Master) (port : Fin 65536) (eg : Bool)
  /-- TRIB_APPLY_ACTIVATE (R143). An accepted APPLY activates the port's staged entries at the core-frame boundary after its check, ending any Quadrille verification or arm. -/
  | tribApplyActivate
  /-- TRIB_DISCARD (R141). TRIB_CMD OP 5 returns a port's staged entries to its active ones. -/
  | tribDiscard (m : Master) (port : Fin 65536) (eg : Bool)
  /-- ODU_FRAME_RECEIVED (R152). The context engine processes a received ODU frame's overhead, updating BIP, BEI, STAT, BDI, the frame tracker, APS runs and trail trace. -/
  | oduFrameReceived (eg : Bool) (g : Fin 65536) (f : OduFrame) (ecc : List EccHit)
  /-- DEFECT_PERSISTENCE_EXPIRY (R154). A port or group condition persists for 3 ms and dLOF or dLOM is declared or cleared, changing SSF. -/
  | defectPersistenceExpiry (c : PersistCond)
  /-- CTX_READ (R149). CTX_CMD READ returns a whole context record, or zeros and RESULT 2 for a non-Warden read of the security range. -/
  | ctxRead (m : Master) (index : Fin 262144)
  /-- CTX_WRITE_CFG (R149). CTX_CMD WRITE_CFG replaces configuration DWORDs 0 to 5, subject to conflict, type, load and protection checks. -/
  | ctxWriteCfg (m : Master) (index : Fin 262144)
  /-- CTX_CLEAR_COUNTS (R149). CTX_CMD CLEAR_COUNTS zeroes DWORDs 10 to 14 and sets the CFG flag of the current second. -/
  | ctxClearCounts (m : Master) (index : Fin 262144)
  /-- CTX_FREE (R149). CTX_CMD FREE sets a context's TYPE to 0, unless it is enabled or named. -/
  | ctxFree (m : Master) (index : Fin 262144)
  /-- CTX_READ_PM (R165). CTX_CMD READ_PM returns a computed-mode table entry as it stood between two ticks. -/
  | ctxReadPm (m : Master) (index : Fin 262144)
  /-- CTX_CLEAR_PM (R165). CTX_CMD CLEAR_PM zeroes a computed-mode entry's counts and keeps its windows. -/
  | ctxClearPm (m : Master) (index : Fin 262144)
  /-- TICK_BOUNDARY (R161). The one-second tick is registered at a core-frame boundary, increments TICK_SEQ, takes an ON_TICK snapshot and closes the second for every context. -/
  | tickBoundary
  /-- PM_RECORDS_WRITE (R166). Within 100 ms of the tick the second's records are written to cold store and exported to the PM ring, or the second is skipped. -/
  | pmRecordsWrite
  /-- PPS_IN_EDGE (R162). A rising edge of PPS_IN is measured against the tick, and after 3 out-of-window edges the tick is realigned. -/
  | ppsInEdge (offset : Int)
  /-- PPS_IN_LOSS (R162). No PPS_IN edge arrives within 1.1 s, PPS_PRESENT falls and PPS_LOSS is raised. -/
  | ppsInLoss
  /-- CORE_FRAME_BOUNDARY (R173). A core frame ends after its 1,152 cycles, or 1,151 or 1,153 when tracking, and every boundary-timed action takes effect. -/
  | coreFrameBoundary (f : CoreFrame)
  /-- SUPERFRAME_BOUNDARY (R175). A superframe ends, SF_COUNT increments, and Waltz gather, send, apply, signature windows and mode entries take effect. -/
  | superframeBoundary (f : CoreFrame)
  /-- CM_ENTRY_WRITE (R185). A write through the connection-memory window updates a standby entry, ending verification, or is refused for the active page, BUSY or ARMED. -/
  | cmEntryWrite (m : Master) (e : Fin 46080) (region : Fin 4) (be : Fin 16) (data : Word)
  /-- CM_COPY (R187). CM_CMD COPY copies the active page into the standby page. -/
  | cmCopy (m : Master)
  /-- CM_FILL (R187). CM_CMD FILL writes CM_FILL.ENTRY to every standby entry. -/
  | cmFill (m : Master)
  /-- CM_VERIFY (R188). CM_CMD VERIFY starts checking the standby page against the active tributary tables. -/
  | cmVerify (m : Master)
  /-- CM_VERIFY_DONE (R188). Verification ends, setting VERIFIED or STAGED with errors and notices and raising VERIFY_DONE. -/
  | cmVerifyDone (bad : List Nat)
  /-- CM_ARM (R189). CM_CMD ARM schedules the swap at the next core-frame boundary or at superframe SWAP_SF, or is refused NOT_VERIFIED or TOO_LATE. -/
  | cmArm (m : Master) (atSf : Bool)
  /-- CM_DISARM (R191). CM_CMD DISARM cancels a scheduled swap and returns to VERIFIED. -/
  | cmDisarm (m : Master)
  /-- CM_TEST (R200). CM_CMD TEST runs the standby-page memory test, then fills the page with replacement signal. -/
  | cmTest (m : Master)
  /-- CM_OPERATION_DONE (R187). A COPY, FILL or TEST completes, the state returns to STAGED, RESULT is set and CMD_DONE raised. -/
  | cmOperationDone (fail : Option (Fin 46080))
  /-- PROTECTION_EVALUATION (R208). A protection group's engine update evaluates requests in priority order and sets its position, APS_TX and timers. -/
  | protectionEvaluation (g : Fin 262144) (ecc : List EccHit)
  /-- HOLDOFF_EXPIRY (R209). Hold-off expires with SF or UNAV still present and the request is raised. -/
  | holdoffExpiry (g : Fin 262144) (p : Bool)
  /-- WTR_EXPIRY (R209). Wait-to-restore expires and a revertive group reverts, or waits for ALIGNED if buffered. -/
  | wtrExpiry (g : Fin 262144)
  /-- SPECULATION_WINDOW_EXPIRY (R231). The speculation window ends without a confirming defect and the selector reverts at the next core-frame boundary. -/
  | speculationWindowExpiry (g : Fin 262144)
  /-- GUARD_EXPIRY (R230). One window length after a return, GUARD returns to 0 and precursors are heeded again. -/
  | guardExpiry (g : Fin 262144)
  /-- INDEX_FRAME (R219). An index frame's CRC is stored and looked up, driving the aligner's search, match and mismatch counts. -/
  | indexFrame (g : Fin 262144) (p : Bool) (mfas : Byte) (opu : List Byte) (cycle : Fin 1152)
  /-- FILL_COMPLETE (R220). N + 2 core frames of the early copy are written and the aligner enters ALIGNED. -/
  | fillComplete (g : Fin 262144)
  /-- ADMIT (R226). ADMIT_CMD ADMIT checks a buffered group's context, stacks, load, blocks, index entries and delay and admits it or refuses it. -/
  | admitGroup (m : Master) (g : Fin 262144)
  /-- RELEASE (R228). ADMIT_CMD RELEASE returns the aligner to UNADMITTED and frees the allocation at the next core-frame boundary. -/
  | release (m : Master) (g : Fin 262144)
  /-- QUERY (R226). ADMIT_CMD QUERY makes the admission checks without admitting and reports RESULT and NEED. -/
  | query (m : Master) (g : Fin 262144)
  /-- CARRIER_BOND_ENABLE (R235). A write of CBOND_CTRL.EN bonds both carriers as one ODUC64, subject to rate, bond and admission checks. -/
  | carrierBondEnable (m : Master) (en : Bool)
  /-- SLOT_LANE_BOND_ENABLE (R233). A write of SLB_CFG.EN joins consecutive slot-lane lanes into one bonded port, or is refused with BOND_INVALID. -/
  | slotLaneBondEnable (m : Master) (j : Fin 128) (data : Word)
  /-- STACK_READY_LOSS (R217). A stack of STACKS loses READY, every admitted group loses its stored words and its aligner enters SEARCH. -/
  | stackReadyLoss (k : Fin 4)
  /-- MTEST_FREE_BLOCKS (R237). MTEST_CMD OP 1 runs a march test over the skew blocks that no group holds. -/
  | mtestFreeBlocks (m : Master) (k : Fin 4)
  /-- MTEST_WHOLE_STACK (R237). MTEST_CMD OP 2 runs an intrusive march test of the whole stack. -/
  | mtestWholeStack (m : Master) (k : Fin 4)
  /-- MTEST_DONE (R239). A memory test ends, setting MTEST_STATUS and raising MTEST_DONE. -/
  | mtestDone (k : Fin 4) (fail : Option (Fin 16384))
  /-- SCRUB_PASS (R237). A scrub period completes a pass that reads and corrects every unit of the stack. -/
  | scrubPass (k : Fin 4) (corr : Nat) (uncorr : Nat)
  /-- OCTET_PLL_WRITE (R245). A write to PLL_A or PLL_B sets the octet PLL rate, or is refused IN_USE while an enabled lane uses it. -/
  | octetPllWrite (m : Master) (k : Fin 32) (b : Bool) (be : Fin 16) (data : Word)
  /-- OCTET_PLL_LOCK (R245). An octet PLL locks within 1 ms of a valid write. -/
  | octetPllLock (k : Fin 32) (b : Bool)
  /-- LANE_ENABLE (R245). BLK_CTRL.EN = 1 on a lane starts its calibration, or is refused RATE_CONFLICT for a bad format, rate or unlocked PLL. -/
  | laneEnable (m : Master) (n : Fin 256)
  /-- TX_FIR_WRITE (R246). A write of TX_FIR sets the transmitter taps, or is refused FIR_INVALID or BUSY. -/
  | txFirWrite (m : Master) (n : Fin 256) (be : Fin 16) (data : Word)
  /-- LANE_SIG_FALL (R248). A lane's input stays below LOS_THR for 1 µs, SIG falls and the receiver freezes. -/
  | laneSigFall (n : Fin 256)
  /-- LANE_SIG_RISE (R248). A lane's input stays above LOS_THR plus 10 mV for 1 µs and SIG rises. -/
  | laneSigRise (n : Fin 256)
  /-- CDR_LOCK_FALL (R249). A locked CDR departs in frequency or phase, CDR_LOCK falls and the CDR-unlock precursor is raised. -/
  | cdrLockFall (n : Fin 256) (held : Bool)
  /-- CDR_LOCK_RISE (R249). The CDR conditions have held for 10 µs and CDR_LOCK rises. -/
  | cdrLockRise (n : Fin 256)
  /-- TRAINING_FRAME_RECEIVED (R257). A good training frame is received, advancing frame lock and acting once on a new request. -/
  | trainingFrameReceived (n : Fin 256) (seen : MarkerSeen) (next : Option MarkerSeen) (later : List MarkerSeen)
  /-- TRAINING_FRAME_SENT (R258). A training frame is sent carrying the lane's request and status, advancing the countdown to DATA. -/
  | trainingFrameSent (n : Fin 256) (next : Option (Fin 128))
  /-- EQUALISER_CONVERGED (R258). The receiver's FFE and DFE converge with no request outstanding and RX_READY is set. -/
  | equaliserConverged (n : Fin 256) (dc : Fin 32) (peak : Fin 64) (dfe : Byte)
  /-- NO_ACK_TIMEOUT (R258). A request goes unacknowledged for 2 ms and NO_ACK is counted. -/
  | noAckTimeout (n : Fin 256)
  /-- TRAINING_TIMEOUT (R260). TRAIN_CFG.TIMEOUT expires in an attempt, the lane enters TRAIN_FAIL with its REASON and the backoff interval grows. -/
  | trainingTimeout (n : Fin 256)
  /-- TRAINING_BACKOFF_EXPIRY (R260). The retry interval ends and a new training attempt starts. -/
  | trainingBackoffExpiry (n : Fin 256)
  /-- TRAIN_START (R261). TRAIN_CMD START begins a new attempt at once. -/
  | trainStart (m : Master) (n : Fin 256)
  /-- TRAIN_ABORT (R261). TRAIN_CMD ABORT moves the lane to TRAIN_FAIL with REASON HOST, counting a failure. -/
  | trainAbort (m : Master) (n : Fin 256)
  /-- TRAIN_RESET_BACKOFF (R260). TRAIN_CMD RESET_BACKOFF resets the retry interval to 100 ms. -/
  | trainResetBackoff (m : Master) (n : Fin 256)
  /-- IDLE_HOLD_EXPIRY (R263). A lane's receiver stays FROZEN beyond IDLE_HOLD and the lane re-enters SENDING. -/
  | idleHoldExpiry (n : Fin 256)
  /-- TX_MODE_REQUEST (R264). A write of LANE_CTRL.TX_MODE requests active, idle or sleep, taking effect at a core-frame boundary. -/
  | txModeRequest (m : Master) (n : Fin 256) (mode : Fin 4)
  /-- SLEEP_WARMUP_DONE (R264). A transmitter leaving sleep finishes its 50 µs warm-up and sends a Galop. -/
  | sleepWarmupDone (n : Fin 256)
  /-- GALOP_RECEIVED (R266). A frozen receiver recognises Galop frames, resumes adaptation and takes data after the last one. -/
  | galopReceived (n : Fin 256)
  /-- GALOP_WAIT_TIMEOUT (R266). Neither Galop frames nor an in-frame format arrive within 100 µs and the lane starts an attempt. -/
  | galopWaitTimeout (n : Fin 256)
  /-- RX_SLEEP_WRITE (R267). A write of LANE_CTRL.RX_SLEEP powers the receiver down or up. -/
  | rxSleepWrite (m : Master) (n : Fin 256) (on : Bool)
  /-- RX_WAKE_DONE (R267). The receiver regains power 200 µs after RX_SLEEP is cleared and resumes as if SIG had just risen. -/
  | rxWakeDone (n : Fin 256)
  /-- EYE_MEASURE (R268). EYE_CMD OP 1 measures one eye point with the offset sampler. -/
  | eyeMeasure (m : Master) (n : Fin 256) (eye : Fin 4) (phase : Fin 64) (volt : Byte) (dwell : Fin 16)
  /-- EYE_ABANDON (R279). EYE_CMD OP 2 abandons the eye measurement in progress. -/
  | eyeAbandon (m : Master) (n : Fin 256)
  /-- EYE_DONE (R268). An eye measurement ends, setting EYE_ERR and VALID and raising EYE_DONE. -/
  | eyeDone (n : Fin 256) (errors : Nat)
  /-- LOOPBACK_WRITE (R277). A write of TEST_CTRL sets loopback and PRBS functions, as a shadow or intrusive test subject to R34. -/
  | loopbackWrite (m : Master) (n : Fin 256) (be : Fin 16) (data : Word)
  /-- FLEXO_FRAME_RECEIVED (R269). A FlexO frame is aligned, RS-decoded and its OTUC slices checked by the FlexO framer and the Reel. -/
  | flexoFrameReceived (n : Fin 256) (place : Nat) (am : Bool) (otuc : Option (List (Bool × Byte)))
  /-- RS_CODEWORD_DECODE (R275). An RS codeword is decoded and, if uncorrected, its words are written with inverted parity and FEC_UNCORR counts. -/
  | rsCodewordDecode (n : Fin 256) (fixed : Option Nat)
  /-- SLOT_LANE_FRAME_TRANSMIT (R272). A slot-lane frame is built from header, words, scrambling and RS FEC and sent. -/
  | slotLaneFrameTransmit (n : Fin 256)
  /-- SLOT_LANE_FRAME_RECEIVED (R274). A slot-lane frame is checked against its marker and header and its words written into the unit slip buffers. -/
  | slotLaneFrameReceived (n : Fin 256) (h : Option (Fin 4)) (cycle : Fin 1153) (line : List (Fin 4)) (fixes : List (Nat × Fin 1024))
  /-- SLOT_LANE_CANDIDATE (R274). A marker candidate in OOF creates a slot-lane hypothesis. -/
  | slotLaneCandidate (n : Fin 256) (place : Nat) (frame : SlotFrame)
  /-- FORERUNNER_FRAME_RECEIVED (R285). A slot-bus frame is checked and a block is written into each slot whose EQ bit is 1. -/
  | forerunnerFrameReceived (n : Fin 256) (h : Option (Fin 4)) (line : List SlotWord)
  /-- FORERUNNER_CANDIDATE (R284). A FAS and MFI candidate in OOF creates a forerunner hypothesis. -/
  | forerunnerCandidate (n : Fin 256) (place : Fin 1555200) (line : List SlotWord)
  /-- FORERUNNER_BLOCK_COMPLETE (R287). An egress slot's tracker completes a block into its slip buffer, dropping the oldest if three are held. -/
  | forerunnerBlockComplete (n : Fin 256) (k : Fin 8) (empty more : Unit)
  /-- FORERUNNER_FRAME_START (R287). An egress slot-bus frame starts and each slot sends a block, repeats one or sends EQ = 0. -/
  | forerunnerFrameStart (cycle : Fin 1153 := 0)
  /-- FRAME_PULSE_EDGE (R288). A rising edge of FR_FP_IN is measured, and after 3 out-of-window edges the frame start realigns. -/
  | framePulseEdge (cycle : Fin 1153) (long : Bool)
  /-- FRAME_PULSE_LOSS (R288). No FR_FP_IN edge arrives within 250 µs and FP_PRESENT falls. -/
  | framePulseLoss
  /-- SQUELCH_HOLD_EXPIRY (R295). In Forerunner mode FP_PRESENT stays 0 beyond FP_HOLD and every forerunner egress lane is squelched. -/
  | squelchHoldExpiry
  /-- FORERUNNER_FEC_BLOCK (R293). A forerunner FEC block is decoded by its inner Hamming and outer RS codes and counted. -/
  | forerunnerFecBlock (c : Fin 2) (blk : Fin 126) (x y : List (Fin 4)) (inner : List Byte) (fixes : List (Fin 1632 × Fin 1024))
  /-- REFERENCE_SELECTION (R305). Every 1 ms the DPLL evaluates reference selection, which may switch, retarget, or enter HOLDOVER or LOST. -/
  | referenceSelection (off : Int)
  /-- REFERENCE_FAILURE (R302). A reference loses activity or exceeds the gross offset and fails, discarding its window samples. -/
  | referenceFailure (r : Fin 9) (gross : Bool)
  /-- REFERENCE_SAMPLE (R303). A one-second offset sample updates REF_FFO and may set or clear WARN or DISQ. -/
  | referenceSample (r : Fin 9) (off : Int)
  /-- REFERENCE_WTR_EXPIRY (R304). A valid reference completes its wait-to-restore and becomes eligible. -/
  | referenceWtrExpiry (r : Fin 9)
  /-- ACQUISITION_LOCKED (R311). Frequency and phase errors hold for 2 s and the DPLL enters LOCKED. -/
  | acquisitionLocked
  /-- ACQUISITION_TIMEOUT (R311). The acquisition bound expires, the reference's LOCK_FAIL is set and the reference treated as failed. -/
  | acquisitionTimeout
  /-- HISTORY_SAMPLE (R313). Each second the DPLL output offset is recorded in the holdover history. -/
  | historySample (off : Int)
  /-- HOLD_LIMIT_EXPIRY (R314). HOLDOVER lasts HOLD_LIMIT, the DPLL enters LOST and the Bolero ramp starts. -/
  | holdLimitExpiry
  /-- BOLERO_COMPLETE (R314). The Bolero ramp reaches the nominal frequency and RAMP falls. -/
  | boleroComplete
  /-- EMZAL_RETRY_EXPIRY (R326). The link retry interval ends and the link enters LISTEN. -/
  | emzalRetryExpiry
  /-- EMZAL_CALL_HEARD (R326). In LISTEN a call or side A's frames are heard and the link enters SOLO, or frames of its own side give SIDE_CONFLICT. -/
  | emzalCallHeard (side : Bool)
  /-- EMZAL_LISTEN_TIMEOUT (R326). Side A hears no call for 10 ms and starts SOLO. -/
  | emzalListenTimeout
  /-- EMZAL_SOLO_END (R326). Side A's signal stops for 5 ms and the link enters SOLO_B. -/
  | emzalSoloEnd
  /-- EMZAL_SOLO_B_END (R326). Side A's signal returns after 5 ms and the link enters DUPLEX. -/
  | emzalSoloBEnd
  /-- EMZAL_ALIGNMENT_CODEWORD (R325). An alignment codeword is received, locking and deskewing the lane or counting a miss. -/
  | emzalAlignmentCodeword (k : Fin 4) (header : Fin 1048576) (cell : List Nat) (arrival : Nat) (erle : Fin 256) (corr : Nat) (uncorr : Nat)
  /-- EMZAL_LINK_UP (R326). Both sides report alignment on all four lanes and the link enters UP. -/
  | emzalLinkUp
  /-- EMZAL_DUPLEX_TIMEOUT (R326). DUPLEX lasts 10 ms without alignment and the link returns to DOWN. -/
  | emzalDuplexTimeout
  /-- EMZAL_LINK_LOSS (R326). A lane loses SIG, misses 3 alignment codewords or sees 8 uncorrected codewords and the link goes DOWN. -/
  | emzalLinkLoss (k : Fin 4) (sigLost : Bool)
  /-- LINK_GRACE_EXPIRY (R351). 100 µs after the link goes DOWN with no takeover, the standby enters Twin-Stale. -/
  | linkGraceExpiry
  /-- PARTNER_READING_CHANGE (R328). The interlock input classes change the partner reading, which may decide an automatic takeover or set INTERLOCK_FAULT. -/
  | partnerReadingChange (a : PinClass) (b : PinClass) (held : Bool)
  /-- CLAIM_WATCH_EXPIRY (R330). 3 µs after a claim of activity, side B withdraws if the partner reads ACTIVE, otherwise the claim stands. -/
  | claimWatchExpiry
  /-- DISCOVERY_TIMEOUT (R331). Twin discovery reaches its 2 s bound and its outcome is decided by the partner reading and link state. -/
  | discoveryTimeout
  /-- WALTZ_MESSAGE_RECEIVED (R333). A Waltz message arrives whole and is checked, updating superframe tracking from its header. -/
  | waltzMessageReceived (tRx : Int) (check : WaltzCheck) (msg : WaltzMsg)
  /-- TWIN_HANDOVER (R349). TWIN_CMD HANDOVER on the active squelches its outputs at the next superframe and hands over to the partner, or is refused. -/
  | twinHandover (m : Master)
  /-- TWIN_TAKEOVER (R329). TWIN_CMD TAKEOVER on the standby claims activity and starts a switchover, or is refused. -/
  | twinTakeover (m : Master)
  /-- TWIN_RESYNC (R345). TWIN_CMD RESYNC starts bulk resynchronisation on a stale standby. -/
  | twinResync (m : Master)
  /-- TWIN_CLEAR (R356). TWIN_CMD CLEAR clears INTERLOCK_FAULT and DISAGREE. -/
  | twinClear (m : Master)
  /-- HANDOVER_FAIL_TIMEOUT (R352). The partner has not read ACTIVE by B0 + 46.08 µs and the old active raises HANDOVER_FAIL and takes over again. -/
  | handoverFailTimeout
  /-- RESYNC_RETRY_EXPIRY (R345). 100 ms after a failed resynchronisation step, resynchronisation restarts at step 1. -/
  | resyncRetryExpiry
  /-- COPY_EN_WRITE (R356). A write of TWIN_CFG.COPY_EN stops or restarts the Waltz state copy at the next superframe boundary. -/
  | copyEnWrite (m : Master) (en : Bool)
  /-- LABEL_SEND_USER (R366). LBL_CMD SEND_USER queues a USER label packet, or is refused NOT_SENT, LEN_INVALID or BUSY. -/
  | labelSendUser (m : Master) (c : Fin 2) (len : Byte)
  /-- LABEL_GASP (R366). LBL_CMD GASP, or an enabled SIG, thermal or rail event, sends a GASP that cuts any packet in progress. -/
  | labelGasp (m : Master) (c : Fin 2) (code : Byte)
  /-- LABEL_ABORT (R376). LBL_CMD ABORT ends an IDENT or USER at the next symbol boundary. -/
  | labelAbort (m : Master) (c : Fin 2)
  /-- IDENT_PERIOD_EXPIRY (R366). The IDENT period elapses and an IDENT packet is sent. -/
  | identPeriodExpiry (c : Fin 2)
  /-- LABEL_PACKET_SENT (R366). A label packet ends, counted in TX_PKTS and raising TX_DONE or GASP_DONE. -/
  | labelPacketSent (c : Fin 2)
  /-- LABEL_CANDIDATE (R369). A label receiver qualifies a preamble candidate, subject to the NETID filter, and holds or decodes it. -/
  | labelCandidate (x : Fin 4) (sf : Fin 6) (c : Fin 65536) (netid : Fin 128) (time : Nat)
  /-- LABEL_HEADER_DECODED (R370). A label header is decoded, and on a failed check decoding restarts from the newer held candidate. -/
  | labelHeaderDecoded (x : Fin 4) (header : Fin 16777216) (corrected : Bool)
  /-- LABEL_SYMBOL_BOUNDARY (R371). At a symbol boundary a held candidate stronger by CAPTURE_DB pre-empts the packet being decoded. -/
  | labelSymbolBoundary (x : Fin 4)
  /-- LABEL_PACKET_END (R372). A received label packet ends, is delivered or counted PAY_BAD, and the receiver continues or searches. -/
  | labelPacketEnd (x : Fin 4) (now : Nat) (bytes : List Byte) (corrected : Bool) (rate : Int) (snr : Int) (depth : Fin 65536)
  /-- RXQ_POP (R376). RXQ_CMD POP removes the head record of a label receiver's queue. -/
  | rxqPop (m : Master) (x : Fin 4)
  /-- RXQ_FLUSH (R376). RXQ_CMD FLUSH empties a label receiver's queue. -/
  | rxqFlush (m : Master) (x : Fin 4)
  /-- PCIE_LINK_CHANGE (R379). The PCIe link trains up or goes down, raising LINK_CHG and SPEED_DOWN and halting DMA channels as LINK_LOST. -/
  | pcieLinkChange (gen : Fin 8) (width : Fin 32)
  /-- FUNCTION_LEVEL_RESET (R385). An FLR resets the host-interface state of its function, and for PF0 stops every DMA transfer. -/
  | functionLevelReset (pf1 : Bool)
  /-- INT_REARM (R386). A write of INT_REARM resends a vector's message if its request is 1 and it is unmasked. -/
  | intRearm (m : Master) (vec : Fin 2048) (pf1 : Bool)
  /-- MSIX_UNMASK (R386). Unmasking a vector whose PBA bit is set sends its message if its request is still 1. -/
  | msixUnmask (pf1 : Bool) (vec : Option (Fin 2048))
  /-- BUS_MASTER_CHANGE (R392). Clearing Bus Master Enable or entering D3hot pauses DMA at a TLP boundary, and restoring it resumes. -/
  | busMasterChange (pf1 : Bool) (bme : Bool) (d3hot : Bool)
  /-- DMA_TAIL_WRITE (R390). The host advances CH_TAIL, queueing descriptors for the channel. -/
  | dmaTailWrite (m : Master) (k : Fin 16) (tail : Fin 65536)
  /-- DMA_DESCRIPTOR_START (R390). A channel starts the next descriptor after the previous completes, or ends it INVALID or ACCESS before any byte moves. -/
  | dmaDescriptorStart (k : Fin 16) (d : Descriptor)
  /-- DMA_DESCRIPTOR_DONE (R390). A descriptor's transfer ends, its status is written back, HEAD advances and DONE or CH_ERR is raised. -/
  | dmaDescriptorDone (k : Fin 16) (hostData : List Byte) (how : DmaEnd)
  /-- DMA_CHANNEL_DISABLE (R392). Clearing CH_CFG.EN ends the descriptor in progress ABORTED at the end of its TLP. -/
  | dmaChannelDisable (m : Master) (k : Fin 16)
  /-- EVENT_RING_COALESCE (R393). COAL µs after the first unannounced record, or at 32 records, the event ring writes PROD and raises EVT_DATA. -/
  | eventRingCoalesce
  /-- BUS_REQUEST (R401). A master issues a burst to a target, which grants it by priority and round-robin and answers with a response. -/
  | busRequest (r : BusReq) (busy : Bool) (beats : Option Nat)
  /-- AGE_LIMIT_EXPIRY (R401). A waiting request passes AGE_LIMIT, is aged above priority 7 and counted in AGE_PROMOTIONS. -/
  | ageLimitExpiry (id : Nat)
  /-- MASTER_RESET (R407). A master reset discards its ungranted requests, logs torn memory writes and increments its epoch. -/
  | masterReset (m : Master)
  /-- COUNTER_OVERFLOW (R412). An event counter passes from 0xFFFF_FFFF to 0, sets OVF_STATUS, reloads and samples, advances a chained counter or freezes counting. -/
  | counterOverflow (k : Fin 32)
  /-- SAMPLE_RECORD_WRITE (R413). The sampler writes a record into its ring when the overflowing transaction completes, or drops it. -/
  | sampleRecordWrite (k : Fin 32) (payload : List Word)
  /-- FREEZE_WRITE (R411). A write of FRZ_CTRL.FROZEN stops or restarts every event counter. -/
  | freezeWrite (m : Master) (frozen : Bool) (halt : Bool)
  /-- MBOX_CLAIM (R430). MBOX_CLAIM OP 1 claims the mailbox for the writing master, or is logged BUSY. -/
  | mboxClaim (m : Master)
  /-- MBOX_RELEASE (R430). MBOX_CLAIM OP 2 releases the mailbox and Warden zeroes MBOX_DATA. -/
  | mboxRelease (m : Master)
  /-- MBOX_IDLE_TIMEOUT (R430). DONE has been 1 for 1 s with no owner write and the mailbox is released. -/
  | mboxIdleTimeout
  /-- ATTEST (R429). Mailbox ATTEST returns a signed 320-byte attestation report. -/
  | attest (m : Master) (len : Fin 65536)
  /-- KEY_LOAD (R440). Mailbox KEY_LOAD verifies and unwraps a key package into an SA key slot, or refuses it. -/
  | keyLoad (m : Master) (len : Fin 65536)
  /-- KEY_SWITCH (R441). Mailbox KEY_SWITCH schedules a source SA's move to its other key slot. -/
  | keySwitch (m : Master) (len : Fin 65536)
  /-- KEY_SWITCH_EFFECT (R441). The scheduled key switch takes effect at a multiframe boundary and KEY_SWITCHED is raised. -/
  | keySwitchEffect (sa : Fin 1024)
  /-- KEY_ERASE (R440). Mailbox KEY_ERASE zeroes an SA key slot unless it is in use. -/
  | keyErase (m : Master) (len : Fin 65536)
  /-- SA_SET (R433). Mailbox SA_SET configures a security association, with a new EPOCH when EN rises, or refuses it. -/
  | saSet (m : Master) (len : Fin 65536)
  /-- SA_READ (R431). Mailbox SA_READ returns a security association record. -/
  | saRead (m : Master) (len : Fin 65536)
  /-- UPDATE (R443). Mailbox UPDATE verifies, installs and optionally runs a new control-firmware image. -/
  | update (m : Master) (len : Fin 65536) (flashOk : Bool)
  /-- SVN_COMMIT (R427). Mailbox SVN_COMMIT raises a fused minimum SVN to that of the running image. -/
  | svnCommit (m : Master) (len : Fin 65536)
  /-- LIFECYCLE (R431). Mailbox LIFECYCLE advances the lifecycle, zeroing keys on entry to FIELD_RETURN. -/
  | lifecycle (m : Master) (len : Fin 65536)
  /-- MBOX_COMMAND_DONE (R430). Warden ends a mailbox command, writes its output and RESULT, sets DONE and raises MBOX_DONE. -/
  | mboxCommandDone
  /-- CORE_RUN_WRITE (R444). A write of CTL_CORE_CTRL.RUN releases control cores or resets them. -/
  | coreRunWrite (m : Master) (run : Fin 256)
  /-- SECURED_MULTIFRAME (R437). A security multiframe is encrypted or decrypted and authenticated, with AUTH_LOST and SEQ tracked. -/
  | securedMultiframe (sa : Fin 1024) (slices : List SecSlice) (confirmed : Bool)
  /-- CONSOLE_BREAK (R454). SVC_RXD low for 10 ms resets the console session and master 0xD. -/
  | consoleBreak
  /-- FLADAR_STATUS (R456). Console STATUS prints mode, fault, reset cause, boot, clock source and lifecycle. -/
  | fladarStatus
  /-- FLADAR_RAILS (R456). Console RAILS prints each rail's voltage and state. -/
  | fladarRails
  /-- FLADAR_TEMP (R456). Console TEMP prints present and peak die temperature. -/
  | fladarTemp
  /-- FLADAR_RD (R456). Console RD reads DWORDs from a page as PF0 would. -/
  | fladarRd (page : Fin 4096) (off : Fin 16384) (n : Fin 65)
  /-- FLADAR_WR (R456). Console WR makes one whole-word write and journals it, if CON_WR_EN allows. -/
  | fladarWr (page : Fin 4096) (off : Fin 16384) (data : Word)
  /-- FLADAR_MON (R456). Console MON selects the SVC_MON view. -/
  | fladarMon (v : MonView)
  /-- FLADAR_EYE (R456). Console EYE runs test 2 and prints the open width. -/
  | fladarEye (n : Fin 256) (eye : Fin 4)
  /-- FLADAR_JRNL (R456). Console JRNL prints the last journal records. -/
  | fladarJrnl (k : Fin 257)
  /-- FLADAR_MODE (R456). Console MODE issues a DEVICE.MODE_REQ operation. -/
  | fladarMode (op : Fin 8)
  /-- FLADAR_MBOX (R456). Console MBOX runs a mailbox command and prints its output and RESULT. -/
  | fladarMbox (op : Fin 16) (data : List Byte)
  /-- FLADAR_RESET (R456). Console RESET FULL causes a full reset. -/
  | fladarReset
  /-- FLADAR_CLEAR_FATAL (R456). Console CLEAR FATAL clears DEVICE.FATAL and writes a FATAL record. -/
  | fladarClearFatal
  /-- FLADAR_ACK (R457). Console ACK releases SVC_ATTN_N's test and record conditions. -/
  | fladarAck
  /-- FLADAR_ECHO (R456). Console ECHO sets echo on or off. -/
  | fladarEcho (on : Bool)
  /-- ATTN_CLR (R457). A write of SVC_CTRL.ATTN_CLR releases SVC_ATTN_N's test and record conditions. -/
  | attnClr (m : Master)
  /-- TEST_RAILS (R458). Test 1 checks rails, XO_IN and PLL locks. -/
  | testRails (m : Master)
  /-- TEST_EYE (R458). Test 2 sweeps an eye's phase on a lane and fails below 8/64 UI. -/
  | testEye (m : Master) (n : Fin 256) (eye : Fin 4)
  /-- TEST_CTXMEM (R458). Test 3 marches over the hot state of free contexts. -/
  | testCtxmem (m : Master)
  /-- TEST_CORE (R460). Test 4 checks the slot core, and optionally a lane leg, through a swapped-in test pattern and checker. -/
  | testCore (m : Master) (lane : Option (Fin 256))
  /-- TEST_LANE (R458). Test 5 runs raw-format PRBS31 in near-end loopback on a lane and restores it. -/
  | testLane (m : Master) (n : Fin 256)
  /-- TEST_MEM (R458). Test 6 runs a memory test on a stack. -/
  | testMem (m : Master) (k : Fin 4) (full : Bool)
  /-- TEST_CONV (R458). Test 7 runs the converter loop test on a carrier. -/
  | testConv (m : Master) (c : Fin 2)
  /-- TEST_FGCAL (R458). Test 8 runs foreground calibration on a carrier. -/
  | testFgcal (m : Master) (c : Fin 2)
  /-- TEST_EZ (R458). Test 9 checks the Emzal link, its codewords and echo reduction. -/
  | testEz (m : Master)
  /-- TEST_ABORT (R459). TEST ABORT or TEST_CMD.ABORT aborts the running test with code 6t99 and a fail verdict. -/
  | testAbort (m : Master)
  /-- TEST_END (R459). A test ends, sets its status and verdict, writes a TEST record, raises TEST_DONE and restores configuration. -/
  | testEnd (r : TestResult)
  /-- JOURNAL_RECORD_WRITE (R464). A queued journal record passes the rate limiter and is written whole to the next ring slot, or is dropped. -/
  | journalRecordWrite
  /-- JRNL_WRITE_USER (R474). JRNL_CMD WRITE_USER queues a USER journal record. -/
  | jrnlWriteUser (m : Master)
  /-- DEBUG_LINE_RESET (R465). A debug line reset abandons any frame in progress and resets master 0xC. -/
  | debugLineReset
  /-- DEBUG_FRAME (R466). A debug frame to a register without its own row is checked and answered DONE, PENDING, ERROR, DENIED or CHECK. -/
  | debugFrame (wr : Bool) (tag : Fin 8) (reg : Fin 128) (data : Word) (crc : Fin 65536)
  /-- DBG_BUS_READ (R467). BUS_CMD READ starts a bus read by master 0xC. -/
  | dbgBusRead (tag : Fin 8) (autoinc : Bool)
  /-- DBG_BUS_WRITE (R467). BUS_CMD WRITE starts a bus write by master 0xC. -/
  | dbgBusWrite (tag : Fin 8) (autoinc : Bool)
  /-- DBG_BUS_DONE (R467). A debug bus access completes, BUSY falls, OUTCOME is set and AUTOINC advances the address. -/
  | dbgBusDone
  /-- TOKEN_WRITE (R468). A write of TOKEN appends 4 bytes to the debug token. -/
  | tokenWrite (tag : Fin 8) (data : Word)
  /-- UNLOCK_SUBMIT (R469). UNLOCK_CMD SUBMIT grants rights in DEVELOPMENT or passes the token to Warden for checking. -/
  | unlockSubmit (tag : Fin 8)
  /-- UNLOCK_DONE (R469). Warden's token check ends, granting or refusing rights and journalling a SECURITY record. -/
  | unlockDone
  /-- UNLOCK_RELOCK (R469). UNLOCK_CMD RELOCK clears the debug rights. -/
  | unlockRelock (tag : Fin 8)
  /-- CPU_HALT (R471). CPU_CTL HALT stops the selected control core at an instruction boundary. -/
  | cpuHalt (tag : Fin 8)
  /-- CPU_RESUME (R471). CPU_CTL RESUME continues the selected core from its PC. -/
  | cpuResume (tag : Fin 8)
  /-- CPU_STEP (R471). CPU_CTL STEP executes one instruction and halts the core with cause 3. -/
  | cpuStep (tag : Fin 8)
  /-- CPU_HALT_ALL (R471). CPU_CTL HALT_ALL stops every released core. -/
  | cpuHaltAll (tag : Fin 8)
  /-- CPU_RESUME_ALL (R471). CPU_CTL RESUME_ALL continues every halted core. -/
  | cpuResumeAll (tag : Fin 8)
  /-- REG_CMD_READ (R468). REG_CMD 1 reads a halted core's register into REG_LO and REG_HI. -/
  | regCmdRead (tag : Fin 8)
  /-- REG_CMD_WRITE (R468). REG_CMD 2 writes a halted core's register from REG_LO and REG_HI. -/
  | regCmdWrite (tag : Fin 8)
  /-- BREAKPOINT_HIT (R468). A core matches a breakpoint and halts, or halts every core with GROUP. -/
  | breakpointHit (k : Fin 8) (b : Fin 4)
  /-- DBG_OFF_WRITE (R471). A write of DBG_CTRL.DBG_OFF closes the debug port until full reset. -/
  | dbgOffWrite (m : Master)
  /-- JTAG_INSTRUCTION (R472). A TAP instruction takes effect by IEEE 1149.1, pin-driving instructions only while RESET_N is low. -/
  | jtagInstruction (ir : Fin 256)
  /-- RESET_N_RELEASED (R33). RESET_N, or PERST_N with PERST_FULL = 1, is released, and with every source released and the root PLL locked the device leaves Reset for Boot, sampling TWIN_SIDE and BOOT_SRC. -/
  | resetNReleased (perst : Bool) (side : Bool) (src : Fin 4)
  /-- XO_IN_RETURN (R20). XO_IN becomes present again, SVC_CLK returns from the RC oscillator to XO_IN ÷ 4 and the root PLL may begin to lock. -/
  | xoInReturn
  /-- REFERENCE_FAILURE_END (R302). A failed reference has had edges present and its offset within ±50 ppm for 100 ms, so its activity or gross failure ends and its window starts to refill. -/
  | referenceFailureEnd (r : Fin 9)
  /-- WARDEN_INTEGRITY_FAILURE (R35). Warden finds its SRAM integrity failed while running (code 4113), which is a fatal fault. -/
  | wardenIntegrityFailure
  /-- LANE_CTRL_WRITE (R47). A write of LANE_CTRL.DP_EN or TX_EN enables or disables a lane port's slot datapath or egress transmitter, with the draining and training effects of R47, R48 and R261. -/
  | laneCtrlWrite (m : Master) (n : Fin 256) (be : Fin 16) (data : Word)
deriving DecidableEq, Repr

end Sys2Proof
end

