-- ==== Sys2Proof/Decode.lean ====
section
/-! DEFINITION. The table gives no row of this block any bits: its commands reach it over a bus, on pins or as events,
and none is spelled by an instruction word.

Readings fixed here (notes/assumptions): 1 DESIGN CHOICE. -/

namespace Sys2Proof

/-- The command that a word spells by the table's bits: none, as no row gives bits. -/
def decodeTableWord (_nbits _w : Nat) : Option Instr := none

end Sys2Proof
end

