-- ==== Sys2Proof/Machine/Sparse.lean ====
section
/-! DEFINITION. Sparse maps: lists of (key, value) pairs with strictly rising keys. They hold the register
store, the counters and every addressed store of the block as plain data. -/

namespace Sys2Proof.Machine

/-- A map from numbers to values, as a list of pairs; the canonical form has strictly rising keys. -/
abbrev SparseMap (β : Type) := List (Nat × β)

/-- A memory: bytes by address, in the same form. -/
abbrev Memory := List Host.Cell

/-- The value at key `k`; `d` where the key is not listed. -/
def spGet {β : Type} (d : β) : SparseMap β → Nat → β
  | [], _ => d
  | (j, v) :: m, k => if j = k then v else spGet d m k

/-- `m` without any entry for `k`. -/
def spErase {β : Type} (k : Nat) : SparseMap β → SparseMap β
  | [] => []
  | (j, v) :: m => if j = k then spErase k m else (j, v) :: spErase k m

/-- `m` with an entry for `k` placed before the first larger key. -/
def spInsert {β : Type} (k : Nat) (v : β) : SparseMap β → SparseMap β
  | [] => [(k, v)]
  | (j, u) :: m => if k < j then (k, v) :: (j, u) :: m else (j, u) :: spInsert k v m

/-- `m` with `k` mapped to `v`. -/
def spSet {β : Type} (m : SparseMap β) (k : Nat) (v : β) : SparseMap β :=
  spInsert k v (spErase k m)

/-- `m` with `k` mapped to `v`, where `d` is what an unlisted key reads as: writing `d` removes the entry,
so that equal contents are equal data. -/
def spPut {β : Type} [DecidableEq β] (d : β) (m : SparseMap β) (k : Nat) (v : β) : SparseMap β :=
  if v = d then spErase k m else spSet m k v

/-- `m` with the entry at `k` replaced by `f` of it. -/
def spModify {β : Type} [DecidableEq β] (d : β) (m : SparseMap β) (k : Nat) (f : β → β) : SparseMap β :=
  spPut d m k (f (spGet d m k))

/-- `m` without the entries whose keys satisfy `p`. -/
def spDrop {β : Type} (p : Nat → Bool) : SparseMap β → SparseMap β
  | [] => []
  | (j, v) :: m => if p j then spDrop p m else (j, v) :: spDrop p m

/-- Every key of `m` is larger than `k`, and the keys of `m` rise strictly. -/
def spAbove {β : Type} : Nat → SparseMap β → Bool
  | _, [] => true
  | k, (j, _) :: m => decide (k < j) && spAbove j m

/-- The keys rise strictly. -/
def spSorted {β : Type} : SparseMap β → Bool
  | [] => true
  | (j, _) :: m => spAbove j m

/-- No entry equals what an unlisted key reads as. -/
def spNoDefault {β : Type} [DecidableEq β] (d : β) : SparseMap β → Bool
  | [] => true
  | (_, v) :: m => decide (v ≠ d) && spNoDefault d m

/-- The canonical form of a store whose unlisted keys read as `d`. -/
def spWf {β : Type} [DecidableEq β] (d : β) (m : SparseMap β) : Bool :=
  spSorted m && spNoDefault d m

end Sys2Proof.Machine
end

