-- ==== Sys2Proof/Machine/RegTable.lean ====
section
/-! DEFINITION. The register tables of the spec's chapters: for every page class, each register's offset,
repetition, whole-word mark and fields (bits, access code, reset value, controlling LOCK bit), and its counters.

Readings fixed here (notes/assumptions): 111 DESIGN CHOICE. -/

namespace Sys2Proof.Machine

/-- The access codes of R60. -/
inductive Access | rw | ro | w1c | wp | rwl | wo1 | rs | rws
deriving DecidableEq, Repr

/-- One field of a register: its bits, access code, reset value and (RWL) controlling LOCK bit (R60, R67). -/
structure FieldSpec where
  lo : Nat
  w : Nat
  acc : Access
  rst : Nat
  lock : Nat
deriving DecidableEq, Repr

/-- One register, or an array of `n` alike at `stride` bytes; `whole` is the whole-word mark of R69. -/
structure RegSpec where
  off : Nat
  n : Nat
  stride : Nat
  whole : Bool
  fields : List FieldSpec
deriving DecidableEq, Repr

/-- One counter, or an array of `n` at `stride` bytes, of `w` bits (R65). -/
structure CtrSpec where
  off : Nat
  n : Nat
  stride : Nat
  w : Nat
deriving DecidableEq, Repr

/-- The kinds of register page: one per register layout of the chapters. `cmw` is the connection-memory
window, `plain` a mapped page with the common header only. -/
inductive PageClass
  | devPg | cfwPg | carPg | fePg | convPg | dspPg | txsPg | capPg | ldpcPg | lmPg | frmPg | slcPg | lblPg | monPg | oduPg | pdefPg | ctxPg | corePg | tpcPg | pmapPg | protPg | swlPg | bondPg | precPg | memPg | lanePg | octPg | frPg | frsPg | timPg | refPg | twinPg | cmpPg | ezPg | pciePg | dmaPg | ringPg | mxPg | prioPg | perfPg | sampPg | secPg | identPg | wwinPg | keyPg | svcPg | jrPg | dbgPg | parcPg | frlPg | cmw | plain
deriving DecidableEq, Repr

/-- Registers of class dev (spec/02). -/
def regs_dev : List RegSpec := [
  ⟨0x40, 1, 4, false, [⟨0, 4, .ro, 0x1, 32⟩, ⟨4, 4, .ro, 0x0, 32⟩, ⟨8, 2, .ro, 0x0, 32⟩, ⟨12, 2, .ro, 0x0, 32⟩]⟩,
  ⟨0x44, 1, 4, true, [⟨0, 3, .wp, 0x0, 32⟩]⟩,
  ⟨0x48, 1, 4, false, [⟨0, 2, .rwl, 0x0, 0⟩]⟩,
  ⟨0x4C, 1, 4, true, [⟨0, 1, .wp, 0x0, 32⟩, ⟨16, 16, .wp, 0x0, 32⟩]⟩,
  ⟨0x50, 1, 4, false, [⟨0, 1, .rwl, 0x1, 1⟩]⟩,
  ⟨0x54, 1, 4, false, [⟨0, 6, .ro, 0x0, 32⟩]⟩,
  ⟨0x58, 1, 4, false, [⟨0, 16, .ro, 0x0, 32⟩, ⟨16, 3, .ro, 0x0, 32⟩]⟩,
  ⟨0x5C, 1, 4, false, [⟨0, 13, .ro, 0x0, 32⟩]⟩,
  ⟨0x60, 1, 4, false, [⟨0, 16, .rw, 0x3E8, 32⟩, ⟨31, 1, .wp, 0x0, 32⟩]⟩,
  ⟨0x64, 1, 4, false, [⟨0, 2, .ro, 0x0, 32⟩, ⟨2, 2, .ro, 0x0, 32⟩, ⟨16, 16, .ro, 0x0, 32⟩]⟩]

/-- Counters of class dev (spec/02). -/
def ctrs_dev : List CtrSpec := []

/-- Registers of class cfw (spec/02). -/
def regs_cfw : List RegSpec := [
  ⟨0x40, 1, 4, false, [⟨0, 16, .ro, 0x0, 32⟩, ⟨16, 16, .ro, 0x0, 32⟩]⟩,
  ⟨0x44, 1, 4, false, [⟨0, 32, .ro, 0x0, 32⟩]⟩,
  ⟨0x48, 1, 4, true, [⟨0, 4, .wp, 0x0, 32⟩]⟩,
  ⟨0x4C, 1, 4, false, [⟨0, 18, .rw, 0x0, 32⟩]⟩,
  ⟨0x50, 1, 4, false, [⟨0, 4, .ro, 0x0, 32⟩, ⟨16, 6, .ro, 0x0, 32⟩]⟩,
  ⟨0x54, 1, 4, false, [⟨0, 16, .ro, 0x0, 32⟩, ⟨16, 16, .ro, 0x0, 32⟩]⟩,
  ⟨0x80, 32, 4, false, [⟨0, 32, .rw, 0x0, 32⟩]⟩]

/-- Counters of class cfw (spec/02). -/
def ctrs_cfw : List CtrSpec := []

/-- Registers of class car (spec/04). -/
def regs_car : List RegSpec := [
  ⟨0x40, 1, 4, false, [⟨0, 8, .rw, 0x80, 32⟩, ⟨8, 7, .rw, 0x67, 32⟩, ⟨16, 6, .rw, 0x20, 32⟩, ⟨24, 4, .rw, 0x1, 32⟩, ⟨28, 2, .rw, 0x0, 32⟩]⟩,
  ⟨0x44, 1, 4, false, [⟨0, 8, .rw, 0x18, 32⟩, ⟨8, 8, .rw, 0xF, 32⟩]⟩,
  ⟨0x48, 1, 4, false, [⟨0, 1, .ro, 0x0, 32⟩, ⟨1, 1, .ro, 0x0, 32⟩, ⟨2, 4, .ro, 0x0, 32⟩, ⟨8, 7, .ro, 0x7F, 32⟩, ⟨16, 11, .ro, 0x0, 32⟩]⟩,
  ⟨0x4C, 1, 4, false, [⟨0, 22, .ro, 0x0, 32⟩]⟩,
  ⟨0x50, 1, 4, false, [⟨0, 1, .rw, 0x0, 32⟩, ⟨4, 8, .rw, 0x64, 32⟩, ⟨16, 1, .ro, 0x0, 32⟩, ⟨17, 1, .ro, 0x0, 32⟩]⟩,
  ⟨0x54, 1, 4, false, [⟨0, 1, .ro, 0x0, 32⟩, ⟨1, 1, .ro, 0x0, 32⟩, ⟨2, 1, .ro, 0x0, 32⟩, ⟨3, 1, .ro, 0x0, 32⟩, ⟨4, 1, .ro, 0x0, 32⟩, ⟨5, 1, .ro, 0x0, 32⟩, ⟨6, 1, .ro, 0x0, 32⟩, ⟨7, 1, .ro, 0x0, 32⟩, ⟨8, 3, .ro, 0x0, 32⟩]⟩,
  ⟨0x58, 1, 4, false, [⟨0, 1, .rw, 0x0, 32⟩, ⟨1, 1, .ro, 0x0, 32⟩]⟩,
  ⟨0x5C, 1, 4, false, [⟨0, 8, .rw, 0x10, 32⟩, ⟨8, 8, .rw, 0x64, 32⟩, ⟨16, 1, .rw, 0x1, 32⟩]⟩]

/-- Counters of class car (spec/04). -/
def ctrs_car : List CtrSpec := [⟨0x100, 1, 8, 64⟩,
  ⟨0x108, 1, 8, 64⟩]

/-- Registers of class fe (spec/04). R104 gives the page by contents only: every offset, bit position and reset value here is the
model's own (DESIGN CHOICE, log 36 for the command, log 111 for clock selection, status and buffer). -/
def regs_fe : List RegSpec := [
  ⟨0x40, 1, 4, true, [⟨0, 2, .wp, 0x0, 32⟩, ⟨8, 7, .wp, 0x0, 32⟩, ⟨16, 6, .wp, 0x0, 32⟩]⟩,
  ⟨0x44, 1, 4, false, [⟨0, 2, .rw, 0x0, 32⟩]⟩,
  ⟨0x48, 1, 4, false, [⟨0, 1, .ro, 0x0, 32⟩, ⟨1, 1, .ro, 0x0, 32⟩]⟩,
  ⟨0x80, 8, 4, false, [⟨0, 32, .rw, 0x0, 32⟩]⟩]

/-- Counters of class fe (spec/04). -/
def ctrs_fe : List CtrSpec := []

/-- Registers of class conv (spec/04). CAL_CTRL and CAL_STATUS stand as R105 gives them; of the converter adjustments and of SNDR
and skew, R79 and R104 give ranges and steps only: their offsets, bit positions, encodings (swing in 10 mV, reset 300 mV; gain
AUTO and 0 dB at reset) and reset values are the model's own (DESIGN CHOICE, log 111). -/
def regs_conv : List RegSpec := [
  ⟨0x40, 1, 4, true, [⟨0, 2, .wp, 0x0, 32⟩]⟩,
  ⟨0x44, 1, 4, false, [⟨0, 2, .ro, 0x0, 32⟩, ⟨8, 8, .ro, 0x0, 32⟩, ⟨16, 16, .ro, 0x0, 32⟩]⟩,
  ⟨0x80, 4, 4, false, [⟨0, 7, .rw, 0x1E, 32⟩]⟩,
  ⟨0x90, 4, 4, false, [⟨0, 1, .rw, 0x1, 32⟩, ⟨8, 7, .rw, 0x18, 32⟩]⟩,
  ⟨0xA0, 8, 4, false, [⟨0, 10, .rw, 0x0, 32⟩]⟩,
  ⟨0x100, 60, 4, false, [⟨0, 11, .rw, 0x0, 32⟩]⟩,
  ⟨0xC0, 1, 4, false, [⟨0, 12, .rw, 0x0, 32⟩, ⟨16, 12, .rw, 0x0, 32⟩]⟩,
  ⟨0xC4, 1, 4, false, [⟨0, 12, .rw, 0x0, 32⟩, ⟨12, 9, .rw, 0x0, 32⟩, ⟨21, 9, .rw, 0x0, 32⟩]⟩,
  ⟨0x200, 8, 4, false, [⟨0, 16, .ro, 0x0, 32⟩, ⟨16, 16, .ro, 0x0, 32⟩]⟩]

/-- Counters of class conv (spec/04). -/
def ctrs_conv : List CtrSpec := []

/-- Registers of class dsp (spec/04). R104 gives contents and units only, and R91 the default of 127 taps: the offsets, widths and
other reset values (step sizes 0; CD_CFG as two signed 16-bit ends in 0.01 ns/nm, at reset the limits of R91) are the model's own (DESIGN CHOICE, log 111). -/
def regs_dsp : List RegSpec := [
  ⟨0x40, 1, 4, false, [⟨0, 8, .rw, 0x7F, 32⟩, ⟨8, 8, .rw, 0x0, 32⟩]⟩,
  ⟨0x44, 1, 4, false, [⟨0, 16, .rw, 0xD8F0, 32⟩, ⟨16, 16, .rw, 0x2710, 32⟩]⟩,
  ⟨0x48, 1, 4, false, [⟨0, 32, .ro, 0x0, 32⟩]⟩,
  ⟨0x4C, 1, 4, false, [⟨0, 32, .ro, 0x0, 32⟩]⟩,
  ⟨0x50, 1, 4, false, [⟨0, 32, .ro, 0x0, 32⟩]⟩,
  ⟨0x54, 1, 4, false, [⟨0, 32, .ro, 0x0, 32⟩]⟩,
  ⟨0x58, 1, 4, false, [⟨0, 32, .ro, 0x0, 32⟩]⟩,
  ⟨0x5C, 1, 4, false, [⟨0, 32, .ro, 0x0, 32⟩]⟩]

/-- Counters of class dsp (spec/04). -/
def ctrs_dsp : List CtrSpec := []

/-- Registers of class txs (spec/04). R104 gives contents only: offsets and widths are the model's own (DESIGN CHOICE, log
111). -/
def regs_txs : List RegSpec := [
  ⟨0x40, 1, 4, false, [⟨0, 1, .ro, 0x0, 32⟩]⟩,
  ⟨0x44, 8, 4, false, [⟨0, 12, .ro, 0x0, 32⟩]⟩,
  ⟨0x64, 1, 4, false, [⟨0, 14, .ro, 0x0, 32⟩]⟩]

/-- Counters of class txs (spec/04). -/
def ctrs_txs : List CtrSpec := []

/-- Registers of class cap (spec/04). CAPTURE_CTRL stands as R105 gives it; the layout of CAPTURE_STATUS (log 36) and CAPTURE_LEN at
0x44 with 10 bits and reset 1 (log 111) are the model's own (DESIGN CHOICE). -/
def regs_cap : List RegSpec := [
  ⟨0x40, 1, 4, true, [⟨0, 1, .wp, 0x0, 32⟩, ⟨1, 1, .wp, 0x0, 32⟩, ⟨2, 3, .rw, 0x0, 32⟩, ⟨5, 3, .rw, 0x0, 32⟩, ⟨8, 3, .rw, 0x0, 32⟩, ⟨11, 1, .rw, 0x0, 32⟩]⟩,
  ⟨0x44, 1, 4, false, [⟨0, 10, .rw, 0x1, 32⟩]⟩,
  ⟨0x48, 1, 4, false, [⟨0, 3, .ro, 0x0, 32⟩, ⟨6, 26, .ro, 0x0, 32⟩]⟩]

/-- Counters of class cap (spec/04). -/
def ctrs_cap : List CtrSpec := []

/-- Registers of class ldpc (spec/05). -/
def regs_ldpc : List RegSpec := [
  ⟨0x40, 1, 4, false, [⟨0, 5, .rw, 0xC, 32⟩, ⟨8, 1, .rw, 0x1, 32⟩]⟩]

/-- Counters of class ldpc (spec/05). -/
def ctrs_ldpc : List CtrSpec := [⟨0x100, 1, 8, 64⟩,
  ⟨0x108, 1, 8, 64⟩,
  ⟨0x110, 1, 8, 64⟩,
  ⟨0x118, 1, 8, 64⟩]

/-- Registers of class lm (spec/05). -/
def regs_lm : List RegSpec := [
  ⟨0x40, 1, 4, false, [⟨0, 1, .rw, 0x0, 32⟩, ⟨8, 8, .rw, 0x0, 32⟩]⟩,
  ⟨0x44, 1, 4, false, [⟨0, 1, .ro, 0x0, 32⟩, ⟨1, 1, .ro, 0x0, 32⟩, ⟨2, 1, .ro, 0x0, 32⟩, ⟨8, 1, .ro, 0x0, 32⟩, ⟨9, 1, .ro, 0x0, 32⟩, ⟨10, 1, .ro, 0x0, 32⟩, ⟨11, 1, .ro, 0x0, 32⟩, ⟨12, 1, .ro, 0x0, 32⟩, ⟨16, 8, .ro, 0x0, 32⟩]⟩,
  ⟨0x48, 1, 4, false, [⟨0, 32, .ro, 0x0, 32⟩]⟩,
  ⟨0x4C, 1, 4, false, [⟨0, 32, .ro, 0x0, 32⟩]⟩,
  ⟨0x50, 1, 4, false, [⟨0, 24, .ro, 0x0, 32⟩]⟩]

/-- Counters of class lm (spec/05). -/
def ctrs_lm : List CtrSpec := [⟨0x100, 1, 8, 64⟩,
  ⟨0x108, 1, 8, 64⟩,
  ⟨0x110, 1, 8, 64⟩,
  ⟨0x118, 1, 8, 64⟩]

/-- Registers of class frm (spec/05). -/
def regs_frm : List RegSpec := [
  ⟨0x40, 1, 4, false, [⟨0, 3, .rw, 0x2, 32⟩, ⟨4, 1, .rw, 0x1, 32⟩]⟩,
  ⟨0x44, 1, 4, false, [⟨0, 2, .ro, 0x0, 32⟩, ⟨2, 3, .ro, 0x0, 32⟩, ⟨5, 2, .ro, 0x0, 32⟩, ⟨7, 1, .ro, 0x0, 32⟩, ⟨8, 8, .ro, 0x0, 32⟩]⟩,
  ⟨0x50, 4, 4, false, [⟨0, 1, .ro, 0x0, 32⟩, ⟨1, 1, .ro, 0x0, 32⟩, ⟨2, 3, .ro, 0x0, 32⟩, ⟨8, 15, .ro, 0x0, 32⟩, ⟨31, 1, .ro, 0x0, 32⟩]⟩]

/-- Counters of class frm (spec/05). -/
def ctrs_frm : List CtrSpec := [⟨0x100, 1, 8, 64⟩,
  ⟨0x108, 1, 8, 64⟩]

/-- Registers of class slc (spec/05). -/
def regs_slc : List RegSpec := [
  ⟨0x40, 1, 4, false, [⟨0, 32, .ro, 0x0, 32⟩]⟩,
  ⟨0x44, 1, 4, false, [⟨0, 32, .ro, 0x0, 32⟩]⟩]

/-- Counters of class slc (spec/05). -/
def ctrs_slc : List CtrSpec := [⟨0x100, 32, 4, 32⟩,
  ⟨0x180, 32, 4, 32⟩]

/-- Registers of class lbl (spec/13). -/
def regs_lbl : List RegSpec := [
  ⟨0x40, 1, 4, false, [⟨0, 1, .rw, 0x0, 32⟩, ⟨1, 6, .rw, 0x14, 32⟩, ⟨8, 3, .rw, 0x5, 32⟩, ⟨11, 3, .rw, 0x0, 32⟩, ⟨16, 8, .rw, 0x1E, 32⟩, ⟨24, 7, .rw, 0x2D, 32⟩]⟩,
  ⟨0x44, 1, 4, false, [⟨0, 16, .rw, 0x0, 32⟩]⟩,
  ⟨0x48, 1, 4, false, [⟨0, 32, .rw, 0x0, 32⟩]⟩,
  ⟨0x4C, 1, 4, false, [⟨0, 32, .rw, 0x0, 32⟩]⟩,
  ⟨0x50, 1, 4, true, [⟨0, 2, .wp, 0x0, 32⟩, ⟨8, 8, .wp, 0x0, 32⟩, ⟨16, 8, .wp, 0x0, 32⟩]⟩,
  ⟨0x54, 1, 4, false, [⟨0, 2, .ro, 0x0, 32⟩, ⟨2, 1, .ro, 0x0, 32⟩, ⟨3, 1, .ro, 0x0, 32⟩, ⟨4, 2, .ro, 0x0, 32⟩]⟩,
  ⟨0x58, 1, 4, false, [⟨0, 3, .rw, 0x7, 32⟩]⟩,
  ⟨0x80, 16, 4, false, [⟨0, 32, .rw, 0x0, 32⟩]⟩,
  ⟨0x400, 1, 4, false, [⟨0, 1, .rw, 0x1, 32⟩, ⟨1, 6, .rw, 0x3F, 32⟩, ⟨7, 1, .rw, 0x0, 32⟩, ⟨8, 7, .rw, 0x2D, 32⟩, ⟨16, 4, .rw, 0x6, 32⟩, ⟨20, 1, .rw, 0x0, 32⟩, ⟨21, 7, .rw, 0xC, 32⟩]⟩,
  ⟨0x404, 1, 4, false, [⟨0, 2, .ro, 0x0, 32⟩, ⟨2, 3, .ro, 0x0, 32⟩, ⟨5, 2, .ro, 0x0, 32⟩, ⟨16, 16, .ro, 0x0, 32⟩]⟩,
  ⟨0x408, 1, 4, true, [⟨0, 2, .wp, 0x0, 32⟩]⟩,
  ⟨0x40C, 1, 4, false, [⟨0, 5, .ro, 0x0, 32⟩]⟩,
  ⟨0x440, 24, 4, false, [⟨0, 32, .ro, 0x0, 32⟩]⟩]

/-- Counters of class lbl (spec/13). -/
def ctrs_lbl : List CtrSpec := [⟨0x500, 1, 8, 64⟩,
  ⟨0x508, 1, 8, 64⟩,
  ⟨0x510, 1, 8, 64⟩,
  ⟨0x518, 1, 8, 64⟩,
  ⟨0x520, 1, 8, 64⟩,
  ⟨0x528, 1, 8, 64⟩,
  ⟨0x530, 1, 8, 64⟩,
  ⟨0x538, 1, 8, 64⟩,
  ⟨0x100, 1, 8, 64⟩,
  ⟨0x108, 1, 8, 64⟩,
  ⟨0x110, 1, 8, 64⟩]

/-- Registers of class mon (spec/13). -/
def regs_mon : List RegSpec := [
  ⟨0x400, 1, 4, false, [⟨0, 1, .rw, 0x0, 32⟩, ⟨1, 6, .rw, 0x3F, 32⟩, ⟨7, 1, .rw, 0x0, 32⟩, ⟨8, 7, .rw, 0x2D, 32⟩, ⟨16, 4, .rw, 0x6, 32⟩, ⟨20, 1, .rw, 0x0, 32⟩, ⟨21, 7, .rw, 0xC, 32⟩]⟩,
  ⟨0x404, 1, 4, false, [⟨0, 2, .ro, 0x0, 32⟩, ⟨2, 3, .ro, 0x0, 32⟩, ⟨5, 2, .ro, 0x0, 32⟩, ⟨16, 16, .ro, 0x0, 32⟩]⟩,
  ⟨0x408, 1, 4, true, [⟨0, 2, .wp, 0x0, 32⟩]⟩,
  ⟨0x40C, 1, 4, false, [⟨0, 5, .ro, 0x0, 32⟩]⟩,
  ⟨0x440, 24, 4, false, [⟨0, 32, .ro, 0x0, 32⟩]⟩,
  ⟨0x800, 1, 4, false, [⟨0, 1, .rw, 0x0, 32⟩, ⟨1, 6, .rw, 0x3F, 32⟩, ⟨7, 1, .rw, 0x0, 32⟩, ⟨8, 7, .rw, 0x2D, 32⟩, ⟨16, 4, .rw, 0x6, 32⟩, ⟨20, 1, .rw, 0x0, 32⟩, ⟨21, 7, .rw, 0xC, 32⟩]⟩,
  ⟨0x804, 1, 4, false, [⟨0, 2, .ro, 0x0, 32⟩, ⟨2, 3, .ro, 0x0, 32⟩, ⟨5, 2, .ro, 0x0, 32⟩, ⟨16, 16, .ro, 0x0, 32⟩]⟩,
  ⟨0x808, 1, 4, true, [⟨0, 2, .wp, 0x0, 32⟩]⟩,
  ⟨0x80C, 1, 4, false, [⟨0, 5, .ro, 0x0, 32⟩]⟩,
  ⟨0x840, 24, 4, false, [⟨0, 32, .ro, 0x0, 32⟩]⟩]

/-- Counters of class mon (spec/13). -/
def ctrs_mon : List CtrSpec := [⟨0x500, 1, 8, 64⟩,
  ⟨0x508, 1, 8, 64⟩,
  ⟨0x510, 1, 8, 64⟩,
  ⟨0x518, 1, 8, 64⟩,
  ⟨0x520, 1, 8, 64⟩,
  ⟨0x528, 1, 8, 64⟩,
  ⟨0x530, 1, 8, 64⟩,
  ⟨0x538, 1, 8, 64⟩,
  ⟨0x900, 1, 8, 64⟩,
  ⟨0x908, 1, 8, 64⟩,
  ⟨0x910, 1, 8, 64⟩,
  ⟨0x918, 1, 8, 64⟩,
  ⟨0x920, 1, 8, 64⟩,
  ⟨0x928, 1, 8, 64⟩,
  ⟨0x930, 1, 8, 64⟩,
  ⟨0x938, 1, 8, 64⟩]

/-- Registers of class odu (spec/06). -/
def regs_odu : List RegSpec := [
  ⟨0x40, 1, 4, true, [⟨0, 16, .wp, 0x0, 32⟩, ⟨16, 1, .wp, 0x0, 32⟩, ⟨17, 2, .wp, 0x0, 32⟩, ⟨19, 3, .wp, 0x0, 32⟩]⟩,
  ⟨0x44, 1, 4, false, [⟨0, 1, .ro, 0x1, 32⟩, ⟨1, 3, .ro, 0x0, 32⟩, ⟨4, 16, .ro, 0x0, 32⟩]⟩,
  ⟨0x48, 4, 4, false, [⟨0, 32, .rw, 0x0, 32⟩]⟩,
  ⟨0x58, 1, 4, false, [⟨0, 1, .rw, 0x0, 32⟩, ⟨8, 8, .rw, 0xA, 32⟩]⟩,
  ⟨0x5C, 1, 4, false, [⟨0, 1, .ro, 0x0, 32⟩, ⟨1, 1, .ro, 0x0, 32⟩, ⟨16, 16, .ro, 0x0, 32⟩]⟩,
  ⟨0x60, 1, 4, false, [⟨0, 32, .ro, 0x0, 32⟩]⟩,
  ⟨0x64, 1, 4, false, [⟨0, 1, .rw, 0x1, 32⟩, ⟨1, 1, .rw, 0x0, 32⟩, ⟨2, 4, .ro, 0x0, 32⟩]⟩,
  ⟨0x68, 1, 4, false, [⟨0, 1, .rw, 0x0, 32⟩, ⟨1, 5, .rw, 0x1F, 32⟩]⟩,
  ⟨0x6C, 1, 4, false, [⟨0, 12, .ro, 0x0, 32⟩]⟩]

/-- Counters of class odu (spec/06). -/
def ctrs_odu : List CtrSpec := [⟨0x100, 1, 8, 64⟩,
  ⟨0x108, 1, 8, 64⟩,
  ⟨0x110, 1, 8, 64⟩,
  ⟨0x118, 1, 8, 64⟩,
  ⟨0x120, 1, 8, 64⟩]

/-- Registers of class pdef (spec/06). -/
def regs_pdef : List RegSpec := [
  ⟨0x40, 258, 4, false, [⟨0, 9, .ro, 0x0, 32⟩]⟩]

/-- Counters of class pdef (spec/06). -/
def ctrs_pdef : List CtrSpec := []

/-- Registers of class ctx (spec/06). -/
def regs_ctx : List RegSpec := [
  ⟨0x40, 1, 4, true, [⟨0, 18, .wp, 0x0, 32⟩, ⟨18, 3, .wp, 0x0, 32⟩]⟩,
  ⟨0x44, 1, 4, false, [⟨0, 1, .ro, 0x1, 32⟩, ⟨1, 3, .ro, 0x0, 32⟩]⟩,
  ⟨0x48, 1, 4, false, [⟨0, 19, .ro, 0x0, 32⟩]⟩,
  ⟨0x4C, 1, 4, false, [⟨0, 14, .ro, 0x0, 32⟩]⟩,
  ⟨0x80, 16, 4, false, [⟨0, 32, .rw, 0x0, 32⟩]⟩]

/-- Counters of class ctx (spec/06). -/
def ctrs_ctx : List CtrSpec := [⟨0x100, 1, 8, 64⟩,
  ⟨0x108, 1, 8, 64⟩,
  ⟨0x110, 1, 8, 64⟩]

/-- Registers of class core (spec/07). -/
def regs_core : List RegSpec := [
  ⟨0x40, 1, 4, false, [⟨0, 5, .ro, 0x0, 32⟩, ⟨8, 1, .ro, 0x0, 32⟩, ⟨9, 1, .ro, 0x0, 32⟩]⟩,
  ⟨0x44, 1, 4, false, [⟨0, 2, .rw, 0x0, 32⟩]⟩,
  ⟨0x48, 1, 4, true, [⟨0, 3, .wp, 0x0, 32⟩, ⟨3, 1, .wp, 0x0, 32⟩]⟩,
  ⟨0x4C, 1, 4, false, [⟨0, 18, .rw, 0x20000, 32⟩]⟩,
  ⟨0x50, 1, 4, false, [⟨0, 32, .rw, 0x0, 32⟩]⟩,
  ⟨0x54, 1, 4, false, [⟨0, 3, .ro, 0x0, 32⟩, ⟨3, 1, .ro, 0x0, 32⟩, ⟨4, 4, .ro, 0x0, 32⟩]⟩,
  ⟨0x58, 1, 4, false, [⟨0, 16, .ro, 0x0, 32⟩, ⟨16, 4, .ro, 0x0, 32⟩]⟩,
  ⟨0x5C, 1, 4, false, [⟨0, 16, .ro, 0x0, 32⟩, ⟨16, 16, .ro, 0x0, 32⟩]⟩,
  ⟨0x60, 1, 4, false, [⟨0, 32, .ro, 0x0, 32⟩]⟩,
  ⟨0x64, 1, 4, false, [⟨0, 32, .ro, 0x0, 32⟩]⟩,
  ⟨0x68, 1, 4, false, [⟨0, 5, .ro, 0x0, 32⟩]⟩]

/-- Counters of class core (spec/07). -/
def ctrs_core : List CtrSpec := [⟨0x100, 1, 8, 64⟩,
  ⟨0x108, 1, 8, 64⟩,
  ⟨0x110, 1, 8, 64⟩,
  ⟨0x118, 1, 8, 64⟩,
  ⟨0x120, 1, 8, 64⟩]

/-- Registers of class tpc (spec/07). -/
def regs_tpc : List RegSpec := [
  ⟨0x40, 16, 8, false, [⟨0, 16, .rw, 0x0, 32⟩, ⟨16, 1, .rw, 0x0, 32⟩, ⟨17, 1, .rw, 0x0, 32⟩]⟩,
  ⟨0x44, 16, 8, false, [⟨0, 1, .ro, 0x0, 32⟩]⟩]

/-- Counters of class tpc (spec/07). -/
def ctrs_tpc : List CtrSpec := [⟨0x100, 16, 16, 64⟩,
  ⟨0x108, 16, 16, 64⟩]

/-- Registers of class pmap (spec/07). -/
def regs_pmap : List RegSpec := [
  ⟨0x100, 1440, 4, false, [⟨0, 32, .w1c, 0x0, 32⟩]⟩,
  ⟨0x1900, 1440, 4, false, [⟨0, 32, .w1c, 0x0, 32⟩]⟩]

/-- Counters of class pmap (spec/07). -/
def ctrs_pmap : List CtrSpec := []

/-- Registers of class prot (spec/08). -/
def regs_prot : List RegSpec := [
  ⟨0x40, 1, 4, false, [⟨0, 7, .rw, 0x14, 32⟩, ⟨8, 1, .rw, 0x1, 32⟩]⟩,
  ⟨0x44, 2, 4, false, [⟨0, 4, .rw, 0x3, 32⟩, ⟨4, 1, .rw, 0x1, 32⟩, ⟨8, 5, .rw, 0xA, 32⟩, ⟨13, 1, .rw, 0x1, 32⟩, ⟨16, 8, .rw, 0x14, 32⟩, ⟨24, 1, .rw, 0x1, 32⟩]⟩,
  ⟨0x4C, 1, 4, false, [⟨0, 1, .rw, 0x1, 32⟩]⟩,
  ⟨0x50, 1, 4, false, [⟨0, 4, .rw, 0xF, 32⟩]⟩,
  ⟨0x54, 1, 4, true, [⟨0, 18, .wp, 0x0, 32⟩, ⟨18, 3, .wp, 0x0, 32⟩]⟩,
  ⟨0x58, 1, 4, false, [⟨0, 1, .ro, 0x1, 32⟩, ⟨1, 3, .ro, 0x0, 32⟩, ⟨16, 16, .ro, 0x0, 32⟩]⟩,
  ⟨0x5C, 1, 4, false, [⟨0, 15, .ro, 0x0, 32⟩]⟩,
  ⟨0x60, 4, 4, false, [⟨0, 14, .ro, 0x0, 32⟩]⟩,
  ⟨0x70, 1, 4, false, [⟨0, 21, .ro, 0x0, 32⟩]⟩,
  ⟨0x74, 1, 4, false, [⟨0, 32, .ro, 0x0, 32⟩]⟩]

/-- Counters of class prot (spec/08). -/
def ctrs_prot : List CtrSpec := [⟨0x100, 1, 8, 64⟩,
  ⟨0x108, 1, 8, 64⟩,
  ⟨0x110, 1, 8, 64⟩,
  ⟨0x118, 1, 8, 64⟩,
  ⟨0x120, 1, 8, 64⟩]

/-- Registers of class swl (spec/08). -/
def regs_swl : List RegSpec := [
  ⟨0x1000, 1024, 4, false, [⟨0, 32, .ro, 0x0, 32⟩]⟩]

/-- Counters of class swl (spec/08). -/
def ctrs_swl : List CtrSpec := []

/-- Registers of class bond (spec/08). -/
def regs_bond : List RegSpec := [
  ⟨0x40, 1, 4, false, [⟨0, 1, .rw, 0x0, 32⟩]⟩,
  ⟨0x44, 1, 4, false, [⟨0, 1, .ro, 0x0, 32⟩, ⟨1, 1, .ro, 0x0, 32⟩, ⟨2, 1, .ro, 0x0, 32⟩, ⟨11, 21, .ro, 0x0, 32⟩]⟩,
  ⟨0x100, 128, 8, false, [⟨0, 8, .rw, 0x0, 32⟩, ⟨8, 5, .rw, 0x0, 32⟩, ⟨13, 1, .rw, 0x0, 32⟩, ⟨16, 10, .rw, 0x320, 32⟩]⟩,
  ⟨0x104, 128, 8, false, [⟨0, 1, .ro, 0x0, 32⟩, ⟨1, 1, .ro, 0x0, 32⟩, ⟨2, 1, .ro, 0x0, 32⟩, ⟨6, 10, .ro, 0x0, 32⟩, ⟨16, 16, .ro, 0x0, 32⟩]⟩]

/-- Counters of class bond (spec/08). -/
def ctrs_bond : List CtrSpec := []

/-- Registers of class prec (spec/08). -/
def regs_prec : List RegSpec := [
  ⟨0x40, 258, 4, false, [⟨0, 4, .ro, 0x0, 32⟩]⟩]

/-- Counters of class prec (spec/08). -/
def ctrs_prec : List CtrSpec := []

/-- Registers of class mem (spec/08). -/
def regs_mem : List RegSpec := [
  ⟨0x40, 1, 4, false, [⟨0, 1, .ro, 0x0, 32⟩, ⟨1, 1, .ro, 0x0, 32⟩, ⟨8, 8, .ro, 0x0, 32⟩]⟩,
  ⟨0x44, 1, 4, false, [⟨0, 16, .rw, 0x18, 32⟩, ⟨16, 1, .rw, 0x1, 32⟩]⟩,
  ⟨0x48, 1, 4, true, [⟨0, 2, .wp, 0x0, 32⟩]⟩,
  ⟨0x4C, 1, 4, false, [⟨0, 2, .ro, 0x0, 32⟩, ⟨2, 30, .ro, 0x0, 32⟩]⟩]

/-- Counters of class mem (spec/08). -/
def ctrs_mem : List CtrSpec := [⟨0x100, 1, 8, 64⟩,
  ⟨0x108, 1, 8, 64⟩,
  ⟨0x110, 1, 8, 64⟩,
  ⟨0x118, 1, 8, 64⟩,
  ⟨0x120, 1, 8, 64⟩]

/-- Registers of class lane (spec/09). -/
def regs_lane : List RegSpec := [
  ⟨0x40, 1, 4, false, [⟨0, 3, .rw, 0x3, 32⟩, ⟨3, 1, .rw, 0x1, 32⟩, ⟨4, 1, .rw, 0x0, 32⟩, ⟨5, 2, .rw, 0x0, 32⟩, ⟨8, 1, .rw, 0x0, 32⟩, ⟨9, 1, .rw, 0x0, 32⟩, ⟨10, 2, .rw, 0x0, 32⟩]⟩,
  ⟨0x44, 1, 4, false, [⟨0, 1, .rw, 0x0, 32⟩, ⟨1, 1, .rw, 0x0, 32⟩, ⟨2, 2, .rw, 0x0, 32⟩, ⟨4, 1, .rw, 0x0, 32⟩]⟩,
  ⟨0x48, 1, 4, false, [⟨0, 2, .rw, 0x0, 32⟩, ⟨2, 1, .rw, 0x1, 32⟩, ⟨4, 7, .rw, 0xA, 32⟩, ⟨11, 2, .rw, 0x2, 32⟩]⟩,
  ⟨0x4C, 1, 4, true, [⟨0, 2, .wp, 0x0, 32⟩]⟩,
  ⟨0x50, 1, 4, false, [⟨0, 4, .ro, 0x0, 32⟩, ⟨4, 3, .ro, 0x0, 32⟩, ⟨8, 8, .ro, 0x0, 32⟩, ⟨16, 3, .ro, 0x0, 32⟩, ⟨19, 1, .ro, 0x0, 32⟩, ⟨20, 1, .ro, 0x0, 32⟩, ⟨21, 1, .ro, 0x0, 32⟩]⟩,
  ⟨0x54, 1, 4, false, [⟨0, 4, .rw, 0x0, 32⟩, ⟨4, 5, .rw, 0x0, 32⟩, ⟨9, 6, .rw, 0x3A, 32⟩, ⟨15, 5, .rw, 0x1C, 32⟩, ⟨20, 4, .rw, 0x0, 32⟩, ⟨24, 7, .ro, 0x36, 32⟩]⟩,
  ⟨0x58, 1, 4, false, [⟨0, 8, .rw, 0x3C, 32⟩, ⟨8, 8, .rw, 0x64, 32⟩]⟩,
  ⟨0x5C, 1, 4, false, [⟨0, 1, .ro, 0x0, 32⟩, ⟨1, 1, .ro, 0x0, 32⟩, ⟨2, 1, .ro, 0x0, 32⟩, ⟨3, 1, .ro, 0x0, 32⟩, ⟨4, 2, .ro, 0x1, 32⟩, ⟨6, 1, .ro, 0x0, 32⟩]⟩,
  ⟨0x60, 1, 4, false, [⟨0, 3, .rw, 0x2, 32⟩, ⟨4, 1, .rw, 0x1, 32⟩, ⟨8, 6, .rw, 0x10, 32⟩]⟩,
  ⟨0x64, 1, 4, false, [⟨0, 2, .ro, 0x0, 32⟩, ⟨2, 3, .ro, 0x0, 32⟩, ⟨7, 1, .ro, 0x0, 32⟩, ⟨8, 1, .ro, 0x0, 32⟩, ⟨9, 1, .ro, 0x0, 32⟩]⟩,
  ⟨0x68, 1, 4, false, [⟨0, 2, .rw, 0x0, 32⟩, ⟨2, 1, .rw, 0x0, 32⟩, ⟨3, 1, .rw, 0x0, 32⟩, ⟨4, 1, .rw, 0x0, 32⟩]⟩,
  ⟨0x6C, 1, 4, true, [⟨0, 2, .wp, 0x0, 32⟩, ⟨2, 2, .wp, 0x0, 32⟩, ⟨4, 6, .wp, 0x0, 32⟩, ⟨10, 8, .wp, 0x0, 32⟩, ⟨18, 4, .wp, 0x0, 32⟩]⟩,
  ⟨0x70, 1, 4, false, [⟨0, 1, .ro, 0x1, 32⟩, ⟨1, 1, .ro, 0x0, 32⟩]⟩,
  ⟨0x74, 1, 4, false, [⟨0, 32, .ro, 0x0, 32⟩]⟩,
  ⟨0x78, 1, 4, false, [⟨0, 5, .ro, 0x0, 32⟩, ⟨5, 6, .ro, 0x0, 32⟩, ⟨11, 8, .ro, 0x0, 32⟩]⟩]

/-- Counters of class lane (spec/09). -/
def ctrs_lane : List CtrSpec := [⟨0x100, 1, 8, 64⟩,
  ⟨0x108, 1, 8, 64⟩,
  ⟨0x110, 1, 8, 64⟩,
  ⟨0x118, 1, 8, 64⟩,
  ⟨0x120, 1, 8, 64⟩,
  ⟨0x128, 1, 8, 64⟩,
  ⟨0x130, 1, 8, 64⟩,
  ⟨0x138, 1, 8, 64⟩,
  ⟨0x140, 1, 8, 64⟩,
  ⟨0x148, 1, 8, 64⟩,
  ⟨0x150, 1, 8, 64⟩,
  ⟨0x158, 1, 8, 64⟩,
  ⟨0x160, 1, 8, 64⟩]

/-- Registers of class oct (spec/09). -/
def regs_oct : List RegSpec := [
  ⟨0x40, 1, 4, false, [⟨0, 3, .rw, 0x1, 32⟩, ⟨3, 1, .ro, 0x0, 32⟩, ⟨4, 27, .rw, 0x0, 32⟩]⟩,
  ⟨0x44, 1, 4, false, [⟨0, 3, .rw, 0x0, 32⟩, ⟨3, 1, .ro, 0x0, 32⟩, ⟨4, 27, .rw, 0x0, 32⟩]⟩]

/-- Counters of class oct (spec/09). -/
def ctrs_oct : List CtrSpec := []

/-- Registers of class fr (spec/10). -/
def regs_fr : List RegSpec := [
  ⟨0x40, 1, 4, false, [⟨0, 1, .rw, 0x0, 32⟩, ⟨8, 8, .rw, 0x10, 32⟩, ⟨16, 8, .rw, 0xA, 32⟩]⟩,
  ⟨0x44, 1, 4, false, [⟨0, 17, .rw, 0x0, 32⟩]⟩,
  ⟨0x48, 1, 4, false, [⟨0, 1, .ro, 0x0, 32⟩, ⟨1, 1, .ro, 0x0, 32⟩, ⟨2, 1, .ro, 0x0, 32⟩, ⟨16, 16, .ro, 0x0, 32⟩]⟩,
  ⟨0x4C, 1, 4, false, [⟨0, 8, .ro, 0x0, 32⟩]⟩]

/-- Counters of class fr (spec/10). -/
def ctrs_fr : List CtrSpec := [⟨0x100, 1, 8, 64⟩,
  ⟨0x108, 1, 8, 64⟩]

/-- Registers of class frs (spec/10). -/
def regs_frs : List RegSpec := [
  ⟨0x40, 64, 4, false, [⟨0, 8, .ro, 0x0, 32⟩, ⟨8, 8, .ro, 0x0, 32⟩, ⟨16, 8, .ro, 0x0, 32⟩]⟩]

/-- Counters of class frs (spec/10). -/
def ctrs_frs : List CtrSpec := [⟨0x200, 512, 4, 32⟩,
  ⟨0xA00, 512, 4, 32⟩,
  ⟨0x1200, 64, 4, 32⟩,
  ⟨0x1300, 64, 4, 32⟩]

/-- Registers of class tim (spec/11). -/
def regs_tim : List RegSpec := [
  ⟨0x40, 1, 4, false, [⟨0, 1, .rw, 0x0, 32⟩, ⟨1, 2, .rw, 0x0, 32⟩, ⟨3, 1, .rw, 0x1, 32⟩, ⟨4, 2, .rw, 0x0, 32⟩, ⟨6, 4, .rw, 0x0, 32⟩, ⟨16, 11, .rw, 0x5A0, 32⟩]⟩,
  ⟨0x44, 1, 4, false, [⟨0, 7, .rw, 0x4B, 32⟩]⟩,
  ⟨0x48, 1, 4, false, [⟨0, 11, .rw, 0x258, 32⟩, ⟨16, 11, .rw, 0x398, 32⟩]⟩,
  ⟨0x4C, 1, 4, false, [⟨0, 3, .ro, 0x0, 32⟩, ⟨4, 4, .ro, 0xF, 32⟩, ⟨8, 1, .ro, 0x0, 32⟩, ⟨9, 1, .ro, 0x0, 32⟩, ⟨10, 1, .ro, 0x0, 32⟩, ⟨11, 1, .ro, 0x0, 32⟩, ⟨16, 16, .ro, 0x0, 32⟩]⟩,
  ⟨0x50, 1, 4, false, [⟨0, 32, .ro, 0x0, 32⟩]⟩,
  ⟨0x54, 1, 4, false, [⟨0, 32, .ro, 0x0, 32⟩]⟩,
  ⟨0x58, 1, 4, false, [⟨0, 3, .rw, 0x3, 32⟩, ⟨3, 1, .rw, 0x0, 32⟩, ⟨4, 2, .rw, 0x0, 32⟩, ⟨6, 1, .rw, 0x1, 32⟩, ⟨7, 1, .rw, 0x0, 32⟩, ⟨8, 8, .rw, 0x43, 32⟩, ⟨16, 1, .rw, 0x0, 32⟩]⟩,
  ⟨0x5C, 4, 4, false, [⟨0, 9, .rw, 0x1FF, 32⟩]⟩]

/-- Counters of class tim (spec/11). -/
def ctrs_tim : List CtrSpec := [⟨0x100, 1, 8, 64⟩,
  ⟨0x108, 1, 8, 64⟩,
  ⟨0x110, 1, 8, 64⟩,
  ⟨0x118, 1, 8, 64⟩]

/-- Registers of class ref (spec/11). -/
def regs_ref : List RegSpec := [
  ⟨0x40, 8, 8, false, [⟨0, 4, .rw, 0x0, 32⟩, ⟨4, 3, .rw, 0x3, 32⟩, ⟨8, 10, .rw, 0x12C, 32⟩]⟩,
  ⟨0x80, 1, 4, false, [⟨0, 4, .rw, 0x0, 32⟩, ⟨4, 3, .rw, 0x3, 32⟩, ⟨8, 10, .rw, 0x0, 32⟩]⟩,
  ⟨0x44, 9, 8, false, [⟨0, 1, .ro, 0x0, 32⟩, ⟨1, 1, .ro, 0x0, 32⟩, ⟨2, 1, .ro, 0x0, 32⟩, ⟨3, 1, .ro, 0x0, 32⟩, ⟨4, 1, .ro, 0x0, 32⟩, ⟨5, 1, .ro, 0x0, 32⟩, ⟨6, 1, .ro, 0x0, 32⟩, ⟨7, 1, .ro, 0x0, 32⟩, ⟨8, 1, .ro, 0x0, 32⟩, ⟨9, 1, .ro, 0x0, 32⟩, ⟨16, 16, .ro, 0x0, 32⟩]⟩,
  ⟨0xC0, 9, 4, false, [⟨0, 32, .ro, 0x0, 32⟩]⟩]

/-- Counters of class ref (spec/11). -/
def ctrs_ref : List CtrSpec := [⟨0x200, 9, 4, 32⟩]

/-- Registers of class twin (spec/12). -/
def regs_twin : List RegSpec := [
  ⟨0x40, 1, 4, false, [⟨0, 1, .rw, 0x1, 32⟩, ⟨1, 1, .rw, 0x1, 32⟩, ⟨2, 3, .rw, 0x2, 32⟩, ⟨5, 1, .rw, 0x1, 32⟩]⟩,
  ⟨0x44, 1, 4, true, [⟨0, 3, .wp, 0x0, 32⟩]⟩,
  ⟨0x48, 1, 4, false, [⟨0, 3, .ro, 0x0, 32⟩, ⟨3, 1, .ro, 0x0, 32⟩, ⟨4, 2, .ro, 0x0, 32⟩, ⟨6, 1, .ro, 0x0, 32⟩, ⟨7, 1, .ro, 0x0, 32⟩, ⟨8, 1, .ro, 0x0, 32⟩, ⟨9, 1, .ro, 0x0, 32⟩, ⟨10, 1, .ro, 0x0, 32⟩, ⟨11, 1, .ro, 0x0, 32⟩, ⟨12, 1, .ro, 0x0, 32⟩, ⟨16, 4, .ro, 0x0, 32⟩, ⟨20, 4, .ro, 0x0, 32⟩]⟩,
  ⟨0x4C, 1, 4, false, [⟨0, 2, .ro, 0x0, 32⟩, ⟨2, 2, .ro, 0x0, 32⟩, ⟨4, 2, .ro, 0x0, 32⟩, ⟨6, 2, .ro, 0x0, 32⟩, ⟨8, 1, .ro, 0x0, 32⟩]⟩,
  ⟨0x50, 1, 4, false, [⟨0, 16, .ro, 0x0, 32⟩, ⟨16, 16, .ro, 0x0, 32⟩]⟩,
  ⟨0x54, 1, 4, false, [⟨0, 32, .ro, 0x0, 32⟩]⟩,
  ⟨0x58, 1, 4, false, [⟨0, 32, .ro, 0xFFFFFFFF, 32⟩]⟩,
  ⟨0x5C, 1, 4, false, [⟨0, 14, .ro, 0x0, 32⟩, ⟨16, 14, .ro, 0x0, 32⟩]⟩]

/-- Counters of class twin (spec/12). -/
def ctrs_twin : List CtrSpec := [⟨0x100, 1, 8, 64⟩,
  ⟨0x108, 1, 8, 64⟩,
  ⟨0x110, 1, 8, 64⟩,
  ⟨0x118, 1, 8, 64⟩,
  ⟨0x120, 1, 8, 64⟩,
  ⟨0x128, 1, 8, 64⟩,
  ⟨0x130, 1, 8, 64⟩,
  ⟨0x138, 1, 8, 64⟩]

/-- Registers of class cmp (spec/12). -/
def regs_cmp : List RegSpec := [
  ⟨0x40, 1, 4, false, [⟨0, 16, .ro, 0x0, 32⟩, ⟨16, 2, .ro, 0x0, 32⟩]⟩]

/-- Counters of class cmp (spec/12). -/
def ctrs_cmp : List CtrSpec := []

/-- Registers of class ez (spec/12). -/
def regs_ez : List RegSpec := [
  ⟨0x40, 4, 4, false, [⟨0, 1, .ro, 0x0, 32⟩, ⟨1, 1, .ro, 0x0, 32⟩, ⟨2, 1, .ro, 0x0, 32⟩, ⟨3, 8, .ro, 0x0, 32⟩, ⟨16, 16, .ro, 0x0, 32⟩]⟩]

/-- Counters of class ez (spec/12). -/
def ctrs_ez : List CtrSpec := [⟨0x100, 4, 32, 64⟩,
  ⟨0x108, 4, 32, 64⟩,
  ⟨0x110, 4, 32, 64⟩]

/-- Registers of class pcie (spec/14). -/
def regs_pcie : List RegSpec := [
  ⟨0x40, 1, 4, false, [⟨0, 4, .ro, 0x0, 32⟩, ⟨4, 5, .ro, 0x0, 32⟩, ⟨9, 1, .ro, 0x0, 32⟩, ⟨10, 1, .ro, 0x0, 32⟩]⟩,
  ⟨0x44, 1, 4, false, [⟨0, 3, .rw, 0x7, 32⟩]⟩,
  ⟨0x48, 1, 4, true, [⟨0, 11, .wp, 0x0, 32⟩, ⟨11, 1, .wp, 0x0, 32⟩]⟩]

/-- Counters of class pcie (spec/14). -/
def ctrs_pcie : List CtrSpec := [⟨0x100, 1, 8, 64⟩,
  ⟨0x108, 1, 8, 64⟩,
  ⟨0x110, 1, 8, 64⟩]

/-- Registers of class dma (spec/14). -/
def regs_dma : List RegSpec := [
  ⟨0x400, 16, 64, false, [⟨6, 26, .rw, 0x0, 32⟩]⟩,
  ⟨0x404, 16, 64, false, [⟨0, 32, .rw, 0x0, 32⟩]⟩,
  ⟨0x408, 16, 64, false, [⟨0, 5, .rw, 0x4, 32⟩, ⟨8, 1, .rw, 0x0, 32⟩]⟩,
  ⟨0x40C, 16, 64, false, [⟨0, 16, .rw, 0x0, 32⟩]⟩,
  ⟨0x410, 16, 64, false, [⟨0, 16, .ro, 0x0, 32⟩]⟩,
  ⟨0x414, 16, 64, false, [⟨0, 3, .ro, 0x0, 32⟩, ⟨4, 4, .ro, 0x0, 32⟩]⟩,
  ⟨0x418, 16, 64, false, [⟨0, 32, .rw, 0x0, 32⟩]⟩,
  ⟨0x41C, 16, 64, false, [⟨0, 32, .rw, 0x0, 32⟩]⟩]

/-- Counters of class dma (spec/14). -/
def ctrs_dma : List CtrSpec := [⟨0x100, 1, 8, 64⟩,
  ⟨0x108, 1, 8, 64⟩,
  ⟨0x110, 1, 8, 64⟩,
  ⟨0x118, 1, 8, 64⟩]

/-- Registers of class ring (spec/14). -/
def regs_ring : List RegSpec := [
  ⟨0x40, 1, 4, false, [⟨6, 26, .rw, 0x0, 32⟩]⟩,
  ⟨0x44, 1, 4, false, [⟨0, 32, .rw, 0x0, 32⟩]⟩,
  ⟨0x48, 1, 4, false, [⟨0, 5, .rw, 0x8, 32⟩, ⟨8, 1, .rw, 0x0, 32⟩, ⟨16, 8, .rw, 0xA, 32⟩]⟩,
  ⟨0x4C, 1, 4, false, [⟨0, 32, .rw, 0x0, 32⟩]⟩,
  ⟨0x50, 1, 4, false, [⟨0, 32, .ro, 0x0, 32⟩]⟩,
  ⟨0x54, 1, 4, false, [⟨0, 32, .rw, 0x0, 32⟩]⟩,
  ⟨0x58, 1, 4, false, [⟨0, 32, .rw, 0x0, 32⟩]⟩,
  ⟨0x60, 1, 4, false, [⟨6, 26, .rw, 0x0, 32⟩]⟩,
  ⟨0x64, 1, 4, false, [⟨0, 32, .rw, 0x0, 32⟩]⟩,
  ⟨0x68, 1, 4, false, [⟨0, 5, .rw, 0xC, 32⟩, ⟨8, 1, .rw, 0x0, 32⟩]⟩,
  ⟨0x6C, 1, 4, false, [⟨0, 32, .rw, 0x0, 32⟩]⟩,
  ⟨0x70, 1, 4, false, [⟨0, 32, .ro, 0x0, 32⟩]⟩,
  ⟨0x74, 1, 4, false, [⟨0, 32, .rw, 0x0, 32⟩]⟩,
  ⟨0x78, 1, 4, false, [⟨0, 32, .rw, 0x0, 32⟩]⟩]

/-- Counters of class ring (spec/14). -/
def ctrs_ring : List CtrSpec := [⟨0x100, 1, 8, 64⟩,
  ⟨0x108, 1, 8, 64⟩]

/-- Registers of class mx (spec/15). -/
def regs_mx : List RegSpec := [
  ⟨0x40, 1, 4, false, [⟨0, 8, .rw, 0x14, 32⟩]⟩,
  ⟨0x44, 1, 4, false, [⟨0, 32, .ro, 0x0, 32⟩]⟩,
  ⟨0x48, 1, 4, false, [⟨0, 8, .ro, 0x0, 32⟩]⟩,
  ⟨0x4C, 1, 4, false, [⟨0, 4, .ro, 0x0, 32⟩, ⟨4, 4, .ro, 0x0, 32⟩, ⟨8, 8, .ro, 0x0, 32⟩]⟩,
  ⟨0x50, 1, 4, false, [⟨0, 32, .ro, 0x0, 32⟩]⟩,
  ⟨0x54, 1, 4, false, [⟨0, 32, .ro, 0x0, 32⟩]⟩]

/-- Counters of class mx (spec/15). -/
def ctrs_mx : List CtrSpec := [⟨0x100, 1, 8, 64⟩,
  ⟨0x108, 1, 8, 64⟩,
  ⟨0x110, 1, 8, 64⟩,
  ⟨0x118, 1, 8, 64⟩]

/-- Registers of class prio (spec/15). -/
def regs_prio : List RegSpec := [
  ⟨0x40, 1, 4, false, [⟨0, 3, .rwl, 0x4, 0⟩, ⟨4, 3, .rwl, 0x4, 0⟩, ⟨8, 3, .rwl, 0x4, 0⟩, ⟨12, 3, .rwl, 0x4, 0⟩, ⟨16, 3, .rwl, 0x4, 0⟩, ⟨20, 3, .rwl, 0x4, 0⟩, ⟨24, 3, .rwl, 0x4, 0⟩, ⟨28, 3, .rwl, 0x4, 0⟩]⟩,
  ⟨0x48, 1, 4, false, [⟨0, 3, .rwl, 0x1, 0⟩, ⟨4, 3, .rwl, 0x1, 0⟩, ⟨8, 3, .rwl, 0x1, 0⟩, ⟨12, 3, .rwl, 0x1, 0⟩, ⟨16, 3, .rwl, 0x1, 0⟩, ⟨20, 3, .rwl, 0x1, 0⟩, ⟨24, 3, .rwl, 0x1, 0⟩, ⟨28, 3, .rwl, 0x1, 0⟩]⟩,
  ⟨0x50, 1, 4, false, [⟨0, 3, .ro, 0x7, 32⟩, ⟨4, 3, .ro, 0x7, 32⟩, ⟨8, 3, .ro, 0x7, 32⟩, ⟨12, 3, .ro, 0x7, 32⟩, ⟨16, 3, .ro, 0x7, 32⟩, ⟨20, 3, .ro, 0x7, 32⟩, ⟨24, 3, .ro, 0x7, 32⟩, ⟨28, 3, .ro, 0x7, 32⟩]⟩,
  ⟨0x58, 1, 4, false, [⟨0, 3, .rwl, 0x3, 0⟩, ⟨4, 3, .rwl, 0x3, 0⟩, ⟨8, 3, .rwl, 0x3, 0⟩, ⟨12, 3, .rwl, 0x3, 0⟩, ⟨16, 3, .rwl, 0x3, 0⟩, ⟨20, 3, .rwl, 0x3, 0⟩, ⟨24, 3, .rwl, 0x3, 0⟩, ⟨28, 3, .rwl, 0x3, 0⟩]⟩,
  ⟨0x60, 1, 4, false, [⟨0, 3, .rwl, 0x3, 0⟩, ⟨4, 3, .rwl, 0x3, 0⟩, ⟨8, 3, .rwl, 0x3, 0⟩, ⟨12, 3, .rwl, 0x3, 0⟩, ⟨16, 3, .rwl, 0x3, 0⟩, ⟨20, 3, .rwl, 0x3, 0⟩, ⟨24, 3, .rwl, 0x3, 0⟩, ⟨28, 3, .rwl, 0x3, 0⟩]⟩,
  ⟨0x68, 1, 4, false, [⟨0, 3, .rwl, 0x3, 0⟩, ⟨4, 3, .rwl, 0x3, 0⟩, ⟨8, 3, .rwl, 0x3, 0⟩, ⟨12, 3, .rwl, 0x3, 0⟩, ⟨16, 3, .rwl, 0x3, 0⟩, ⟨20, 3, .rwl, 0x3, 0⟩, ⟨24, 3, .rwl, 0x3, 0⟩, ⟨28, 3, .rwl, 0x3, 0⟩]⟩,
  ⟨0x70, 1, 4, false, [⟨0, 3, .rwl, 0x3, 0⟩, ⟨4, 3, .rwl, 0x3, 0⟩, ⟨8, 3, .rwl, 0x3, 0⟩, ⟨12, 3, .rwl, 0x3, 0⟩, ⟨16, 3, .rwl, 0x3, 0⟩, ⟨20, 3, .rwl, 0x3, 0⟩, ⟨24, 3, .rwl, 0x3, 0⟩, ⟨28, 3, .rwl, 0x3, 0⟩]⟩,
  ⟨0x78, 1, 4, false, [⟨0, 3, .rwl, 0x3, 0⟩, ⟨4, 3, .rwl, 0x3, 0⟩, ⟨8, 3, .rwl, 0x3, 0⟩, ⟨12, 3, .rwl, 0x3, 0⟩, ⟨16, 3, .rwl, 0x3, 0⟩, ⟨20, 3, .rwl, 0x3, 0⟩, ⟨24, 3, .rwl, 0x3, 0⟩, ⟨28, 3, .rwl, 0x3, 0⟩]⟩,
  ⟨0x80, 1, 4, false, [⟨0, 3, .rwl, 0x3, 0⟩, ⟨4, 3, .rwl, 0x3, 0⟩, ⟨8, 3, .rwl, 0x3, 0⟩, ⟨12, 3, .rwl, 0x3, 0⟩, ⟨16, 3, .rwl, 0x3, 0⟩, ⟨20, 3, .rwl, 0x3, 0⟩, ⟨24, 3, .rwl, 0x3, 0⟩, ⟨28, 3, .rwl, 0x3, 0⟩]⟩,
  ⟨0x88, 1, 4, false, [⟨0, 3, .rwl, 0x3, 0⟩, ⟨4, 3, .rwl, 0x3, 0⟩, ⟨8, 3, .rwl, 0x3, 0⟩, ⟨12, 3, .rwl, 0x3, 0⟩, ⟨16, 3, .rwl, 0x3, 0⟩, ⟨20, 3, .rwl, 0x3, 0⟩, ⟨24, 3, .rwl, 0x3, 0⟩, ⟨28, 3, .rwl, 0x3, 0⟩]⟩,
  ⟨0x90, 1, 4, false, [⟨0, 3, .rwl, 0x3, 0⟩, ⟨4, 3, .rwl, 0x3, 0⟩, ⟨8, 3, .rwl, 0x3, 0⟩, ⟨12, 3, .rwl, 0x3, 0⟩, ⟨16, 3, .rwl, 0x3, 0⟩, ⟨20, 3, .rwl, 0x3, 0⟩, ⟨24, 3, .rwl, 0x3, 0⟩, ⟨28, 3, .rwl, 0x3, 0⟩]⟩,
  ⟨0x98, 1, 4, false, [⟨0, 3, .rwl, 0x3, 0⟩, ⟨4, 3, .rwl, 0x3, 0⟩, ⟨8, 3, .rwl, 0x3, 0⟩, ⟨12, 3, .rwl, 0x3, 0⟩, ⟨16, 3, .rwl, 0x3, 0⟩, ⟨20, 3, .rwl, 0x3, 0⟩, ⟨24, 3, .rwl, 0x3, 0⟩, ⟨28, 3, .rwl, 0x3, 0⟩]⟩,
  ⟨0xA0, 1, 4, false, [⟨0, 3, .rwl, 0x2, 0⟩, ⟨4, 3, .rwl, 0x2, 0⟩, ⟨8, 3, .rwl, 0x2, 0⟩, ⟨12, 3, .rwl, 0x2, 0⟩, ⟨16, 3, .rwl, 0x2, 0⟩, ⟨20, 3, .rwl, 0x2, 0⟩, ⟨24, 3, .rwl, 0x2, 0⟩, ⟨28, 3, .rwl, 0x2, 0⟩]⟩,
  ⟨0xA8, 1, 4, false, [⟨0, 3, .rwl, 0x5, 0⟩, ⟨4, 3, .rwl, 0x5, 0⟩, ⟨8, 3, .rwl, 0x5, 0⟩, ⟨12, 3, .rwl, 0x5, 0⟩, ⟨16, 3, .rwl, 0x5, 0⟩, ⟨20, 3, .rwl, 0x5, 0⟩, ⟨24, 3, .rwl, 0x5, 0⟩, ⟨28, 3, .rwl, 0x5, 0⟩]⟩,
  ⟨0xB0, 1, 4, false, [⟨0, 3, .ro, 0x6, 32⟩, ⟨4, 3, .ro, 0x6, 32⟩, ⟨8, 3, .ro, 0x6, 32⟩, ⟨12, 3, .ro, 0x6, 32⟩, ⟨16, 3, .ro, 0x6, 32⟩, ⟨20, 3, .ro, 0x6, 32⟩, ⟨24, 3, .ro, 0x6, 32⟩, ⟨28, 3, .ro, 0x6, 32⟩]⟩,
  ⟨0xB8, 1, 4, false, [⟨0, 3, .rwl, 0x5, 0⟩, ⟨4, 3, .rwl, 0x5, 0⟩, ⟨8, 3, .rwl, 0x5, 0⟩, ⟨12, 3, .rwl, 0x5, 0⟩, ⟨16, 3, .rwl, 0x5, 0⟩, ⟨20, 3, .rwl, 0x5, 0⟩, ⟨24, 3, .rwl, 0x5, 0⟩, ⟨28, 3, .rwl, 0x5, 0⟩]⟩]

/-- Counters of class prio (spec/15). -/
def ctrs_prio : List CtrSpec := []

/-- Registers of class perf (spec/15). -/
def regs_perf : List RegSpec := [
  ⟨0x40, 1, 4, false, [⟨0, 1, .rw, 0x0, 32⟩, ⟨1, 1, .rw, 0x0, 32⟩]⟩,
  ⟨0x44, 1, 4, false, [⟨0, 32, .w1c, 0x0, 32⟩]⟩,
  ⟨0x200, 32, 4, false, [⟨0, 32, .rw, 0x0, 32⟩]⟩,
  ⟨0x400, 32, 16, false, [⟨0, 1, .rw, 0x0, 32⟩, ⟨1, 1, .rw, 0x0, 32⟩, ⟨2, 1, .rw, 0x0, 32⟩, ⟨3, 1, .rw, 0x0, 32⟩, ⟨4, 4, .rw, 0x0, 32⟩, ⟨8, 1, .rw, 0x0, 32⟩, ⟨9, 1, .rw, 0x0, 32⟩, ⟨16, 8, .rw, 0x0, 32⟩]⟩,
  ⟨0x404, 32, 16, false, [⟨0, 2, .rw, 0x3, 32⟩, ⟨3, 13, .rw, 0x1FFF, 32⟩, ⟨16, 3, .rw, 0x7, 32⟩, ⟨19, 1, .rw, 0x1, 32⟩, ⟨20, 1, .rw, 0x1, 32⟩, ⟨24, 8, .rw, 0xFF, 32⟩]⟩,
  ⟨0x408, 32, 16, false, [⟨0, 28, .rw, 0x0, 32⟩]⟩,
  ⟨0x40C, 32, 16, false, [⟨0, 28, .rw, 0xFFFFFFF, 32⟩]⟩]

/-- Counters of class perf (spec/15). -/
def ctrs_perf : List CtrSpec := [⟨0x100, 32, 4, 32⟩]

/-- Registers of class samp (spec/15). -/
def regs_samp : List RegSpec := [
  ⟨0x40, 1, 4, false, [⟨0, 1, .rw, 0x0, 32⟩, ⟨1, 2, .rw, 0x0, 32⟩, ⟨3, 5, .rw, 0xA, 32⟩]⟩,
  ⟨0x44, 1, 4, false, [⟨5, 23, .rw, 0x0, 32⟩]⟩,
  ⟨0x48, 1, 4, false, [⟨0, 32, .ro, 0x0, 32⟩]⟩,
  ⟨0x4C, 1, 4, false, [⟨0, 32, .rw, 0x0, 32⟩]⟩]

/-- Counters of class samp (spec/15). -/
def ctrs_samp : List CtrSpec := [⟨0x100, 1, 8, 64⟩,
  ⟨0x108, 1, 8, 64⟩]

/-- Registers of class sec (spec/16). -/
def regs_sec : List RegSpec := [
  ⟨0x40, 1, 4, true, [⟨0, 4, .wp, 0x0, 32⟩, ⟨16, 16, .wp, 0x0, 32⟩]⟩,
  ⟨0x44, 1, 4, false, [⟨0, 1, .ro, 0x1, 32⟩, ⟨1, 1, .ro, 0x0, 32⟩, ⟨4, 4, .ro, 0x0, 32⟩, ⟨8, 4, .ro, 0x0, 32⟩, ⟨12, 4, .ro, 0x0, 32⟩, ⟨16, 13, .ro, 0x0, 32⟩]⟩,
  ⟨0x48, 1, 4, false, [⟨0, 2, .ro, 0x0, 32⟩, ⟨2, 1, .ro, 0x0, 32⟩, ⟨3, 3, .ro, 0x0, 32⟩, ⟨6, 3, .ro, 0x0, 32⟩]⟩,
  ⟨0x4C, 1, 4, false, [⟨0, 7, .ro, 0x0, 32⟩, ⟨8, 7, .ro, 0x0, 32⟩, ⟨16, 7, .ro, 0x0, 32⟩, ⟨24, 7, .ro, 0x0, 32⟩]⟩,
  ⟨0x50, 1, 4, false, [⟨0, 8, .rw, 0x0, 32⟩]⟩,
  ⟨0x54, 1, 4, true, [⟨0, 2, .wp, 0x0, 32⟩]⟩,
  ⟨0x100, 32, 4, false, [⟨0, 32, .ro, 0x0, 32⟩]⟩,
  ⟨0x1000, 1024, 4, false, [⟨0, 32, .rw, 0x0, 32⟩]⟩]

/-- Counters of class sec (spec/16). -/
def ctrs_sec : List CtrSpec := [⟨0x200, 1, 8, 64⟩,
  ⟨0x208, 1, 8, 64⟩,
  ⟨0x210, 1, 8, 64⟩,
  ⟨0x218, 1, 8, 64⟩,
  ⟨0x220, 1, 8, 64⟩]

/-- Registers of class ident (spec/16). -/
def regs_ident : List RegSpec := [
  ⟨0x40, 1, 4, false, [⟨0, 32, .ro, 0x0, 32⟩]⟩,
  ⟨0x44, 1, 4, false, [⟨0, 32, .ro, 0x0, 32⟩]⟩,
  ⟨0x48, 1, 4, false, [⟨0, 11, .ro, 0x0, 32⟩]⟩,
  ⟨0x400, 256, 4, false, [⟨0, 32, .ro, 0x0, 32⟩]⟩]

/-- Counters of class ident (spec/16). -/
def ctrs_ident : List CtrSpec := []

/-- Registers of class wwin (spec/16). -/
def regs_wwin : List RegSpec := [
  ⟨0x40, 1, 4, false, [⟨0, 10, .rws, 0x200, 32⟩]⟩]

/-- Counters of class wwin (spec/16). -/
def ctrs_wwin : List CtrSpec := []

/-- Registers of class key (spec/16). -/
def regs_key : List RegSpec := [
  ⟨0x400, 64, 128, false, [⟨0, 32, .wp, 0x0, 32⟩]⟩,
  ⟨0x404, 64, 128, false, [⟨0, 32, .wp, 0x0, 32⟩]⟩,
  ⟨0x408, 64, 128, false, [⟨0, 32, .wp, 0x0, 32⟩]⟩,
  ⟨0x40C, 64, 128, false, [⟨0, 32, .wp, 0x0, 32⟩]⟩,
  ⟨0x410, 64, 128, false, [⟨0, 32, .wp, 0x0, 32⟩]⟩,
  ⟨0x414, 64, 128, false, [⟨0, 32, .wp, 0x0, 32⟩]⟩,
  ⟨0x418, 64, 128, false, [⟨0, 32, .wp, 0x0, 32⟩]⟩,
  ⟨0x41C, 64, 128, false, [⟨0, 32, .wp, 0x0, 32⟩]⟩,
  ⟨0x420, 64, 128, false, [⟨0, 32, .wp, 0x0, 32⟩]⟩,
  ⟨0x440, 64, 128, false, [⟨0, 32, .wp, 0x0, 32⟩]⟩,
  ⟨0x444, 64, 128, false, [⟨0, 32, .wp, 0x0, 32⟩]⟩,
  ⟨0x448, 64, 128, false, [⟨0, 32, .wp, 0x0, 32⟩]⟩,
  ⟨0x44C, 64, 128, false, [⟨0, 32, .wp, 0x0, 32⟩]⟩,
  ⟨0x450, 64, 128, false, [⟨0, 32, .wp, 0x0, 32⟩]⟩,
  ⟨0x454, 64, 128, false, [⟨0, 32, .wp, 0x0, 32⟩]⟩,
  ⟨0x458, 64, 128, false, [⟨0, 32, .wp, 0x0, 32⟩]⟩,
  ⟨0x45C, 64, 128, false, [⟨0, 32, .wp, 0x0, 32⟩]⟩,
  ⟨0x460, 64, 128, false, [⟨0, 32, .wp, 0x0, 32⟩]⟩,
  ⟨0x47C, 64, 128, false, [⟨0, 2, .rs, 0x0, 32⟩]⟩]

/-- Counters of class key (spec/16). -/
def ctrs_key : List CtrSpec := []

/-- Registers of class svc (spec/17). -/
def regs_svc : List RegSpec := [
  ⟨0x40, 1, 4, false, [⟨0, 1, .rwl, 0x1, 0⟩, ⟨1, 1, .rwl, 0x1, 0⟩, ⟨2, 1, .rw, 0x1, 32⟩]⟩,
  ⟨0x44, 1, 4, false, [⟨0, 3, .rw, 0x0, 32⟩, ⟨3, 4, .rw, 0x1, 32⟩]⟩,
  ⟨0x48, 1, 4, true, [⟨0, 4, .wp, 0x0, 32⟩, ⟨4, 1, .wp, 0x0, 32⟩, ⟨5, 1, .wp, 0x0, 32⟩, ⟨6, 2, .wp, 0x0, 32⟩, ⟨8, 8, .wp, 0x0, 32⟩, ⟨16, 1, .wp, 0x0, 32⟩]⟩,
  ⟨0x4C, 1, 4, false, [⟨0, 2, .ro, 0x0, 32⟩, ⟨2, 4, .ro, 0x0, 32⟩, ⟨16, 16, .ro, 0x0, 32⟩]⟩,
  ⟨0x50, 1, 4, false, [⟨0, 32, .ro, 0x0, 32⟩]⟩,
  ⟨0x54, 1, 4, false, [⟨0, 1, .ro, 0x0, 32⟩, ⟨1, 1, .ro, 0x0, 32⟩, ⟨2, 1, .ro, 0x0, 32⟩, ⟨3, 1, .ro, 0x0, 32⟩, ⟨4, 1, .ro, 0x0, 32⟩, ⟨5, 1, .ro, 0x1, 32⟩, ⟨16, 16, .ro, 0x1, 32⟩]⟩,
  ⟨0x58, 1, 4, true, [⟨0, 1, .wp, 0x0, 32⟩]⟩,
  ⟨0x5C, 1, 4, false, [⟨0, 16, .ro, 0x0, 32⟩, ⟨16, 16, .ro, 0x0, 32⟩]⟩,
  ⟨0x60, 10, 4, false, [⟨0, 12, .ro, 0x0, 32⟩, ⟨12, 3, .ro, 0x0, 32⟩, ⟨16, 12, .ro, 0x0, 32⟩]⟩]

/-- Counters of class svc (spec/17). -/
def ctrs_svc : List CtrSpec := [⟨0x100, 1, 8, 64⟩,
  ⟨0x108, 1, 8, 64⟩,
  ⟨0x110, 1, 8, 64⟩]

/-- Registers of class jr (spec/17). -/
def regs_jr : List RegSpec := [
  ⟨0x40, 1, 4, false, [⟨0, 18, .ro, 0x0, 32⟩]⟩,
  ⟨0x44, 1, 4, false, [⟨0, 32, .ro, 0x1, 32⟩]⟩,
  ⟨0x48, 1, 4, true, [⟨0, 1, .wp, 0x0, 32⟩]⟩,
  ⟨0x80, 7, 4, false, [⟨0, 32, .rw, 0x0, 32⟩]⟩]

/-- Counters of class jr (spec/17). -/
def ctrs_jr : List CtrSpec := [⟨0x100, 1, 8, 64⟩,
  ⟨0x108, 1, 8, 64⟩]

/-- Registers of class dbg (spec/17). -/
def regs_dbg : List RegSpec := [
  ⟨0x40, 1, 4, false, [⟨0, 32, .ro, 0x0, 32⟩]⟩,
  ⟨0x44, 1, 4, false, [⟨0, 1, .wo1, 0x0, 32⟩]⟩]

/-- Counters of class dbg (spec/17). -/
def ctrs_dbg : List CtrSpec := [⟨0x100, 1, 8, 64⟩,
  ⟨0x108, 1, 8, 64⟩]

/-- Registers of class hdr (spec/03). -/
def regs_hdr : List RegSpec := [
  ⟨0x0, 1, 4, false, [⟨0, 16, .ro, 0x0, 32⟩, ⟨16, 4, .ro, 0x1, 32⟩, ⟨20, 12, .ro, 0x0, 32⟩]⟩,
  ⟨0x4, 1, 4, false, [⟨0, 12, .ro, 0x0, 32⟩, ⟨12, 5, .ro, 0x0, 32⟩, ⟨23, 1, .ro, 0x0, 32⟩, ⟨24, 8, .ro, 0xB0, 32⟩]⟩,
  ⟨0x8, 1, 4, false, [⟨0, 1, .ro, 0x0, 32⟩, ⟨1, 1, .ro, 0x0, 32⟩, ⟨2, 1, .ro, 0x0, 32⟩, ⟨3, 1, .ro, 0x0, 32⟩, ⟨4, 1, .ro, 0x0, 32⟩, ⟨5, 1, .ro, 0x0, 32⟩]⟩,
  ⟨0xC, 1, 4, false, [⟨0, 1, .rw, 0x0, 32⟩, ⟨1, 1, .wp, 0x0, 32⟩]⟩,
  ⟨0x10, 1, 4, false, [⟨0, 32, .w1c, 0x0, 32⟩]⟩,
  ⟨0x14, 1, 4, false, [⟨0, 32, .rw, 0x0, 32⟩]⟩,
  ⟨0x18, 1, 4, false, [⟨0, 32, .wp, 0x0, 32⟩]⟩,
  ⟨0x1C, 1, 4, false, [⟨0, 11, .rw, 0x0, 32⟩, ⟨16, 6, .rw, 0x0, 32⟩, ⟨24, 1, .rw, 0x1, 32⟩, ⟨25, 1, .rw, 0x0, 32⟩, ⟨26, 1, .rw, 0x0, 32⟩]⟩,
  ⟨0x20, 1, 4, true, [⟨0, 1, .wp, 0x0, 32⟩, ⟨1, 1, .rw, 0x0, 32⟩]⟩,
  ⟨0x24, 1, 4, false, [⟨0, 32, .ro, 0x0, 32⟩]⟩,
  ⟨0x28, 1, 4, true, [⟨0, 32, .wo1, 0x0, 32⟩]⟩,
  ⟨0x2C, 1, 4, false, [⟨0, 1, .w1c, 0x0, 32⟩, ⟨16, 16, .ro, 0x0, 32⟩]⟩,
  ⟨0x30, 1, 4, false, [⟨0, 4, .ro, 0x0, 32⟩, ⟨4, 4, .ro, 0x0, 32⟩, ⟨8, 2, .ro, 0x0, 32⟩, ⟨10, 1, .ro, 0x0, 32⟩, ⟨12, 12, .ro, 0x0, 32⟩, ⟨31, 1, .w1c, 0x0, 32⟩]⟩]

/-- Registers of class parc (spec/07). -/
def regs_parc : List RegSpec := [
]

/-- Counters of class parc (spec/07). -/
def ctrs_parc : List CtrSpec := [⟨0x100, 258, 4, 32⟩,
  ⟨0x600, 258, 4, 32⟩]

/-- Registers of class frl (spec/10). -/
def regs_frl : List RegSpec := [
]

/-- Counters of class frl (spec/10). -/
def ctrs_frl : List CtrSpec := [⟨0x100, 2, 32, 64⟩,
  ⟨0x108, 2, 32, 64⟩,
  ⟨0x110, 2, 32, 64⟩,
  ⟨0x118, 2, 32, 64⟩]

/-- The registers of a page class, the common header apart (R56). -/
def regsOf : PageClass → List RegSpec
  | .devPg => regs_dev
  | .cfwPg => regs_cfw
  | .carPg => regs_car
  | .fePg => regs_fe
  | .convPg => regs_conv
  | .dspPg => regs_dsp
  | .txsPg => regs_txs
  | .capPg => regs_cap
  | .ldpcPg => regs_ldpc
  | .lmPg => regs_lm
  | .frmPg => regs_frm
  | .slcPg => regs_slc
  | .lblPg => regs_lbl
  | .monPg => regs_mon
  | .oduPg => regs_odu
  | .pdefPg => regs_pdef
  | .ctxPg => regs_ctx
  | .corePg => regs_core
  | .tpcPg => regs_tpc
  | .pmapPg => regs_pmap
  | .protPg => regs_prot
  | .swlPg => regs_swl
  | .bondPg => regs_bond
  | .precPg => regs_prec
  | .memPg => regs_mem
  | .lanePg => regs_lane
  | .octPg => regs_oct
  | .frPg => regs_fr
  | .frsPg => regs_frs
  | .timPg => regs_tim
  | .refPg => regs_ref
  | .twinPg => regs_twin
  | .cmpPg => regs_cmp
  | .ezPg => regs_ez
  | .pciePg => regs_pcie
  | .dmaPg => regs_dma
  | .ringPg => regs_ring
  | .mxPg => regs_mx
  | .prioPg => regs_prio
  | .perfPg => regs_perf
  | .sampPg => regs_samp
  | .secPg => regs_sec
  | .identPg => regs_ident
  | .wwinPg => regs_wwin
  | .keyPg => regs_key
  | .svcPg => regs_svc
  | .jrPg => regs_jr
  | .dbgPg => regs_dbg
  | .parcPg => regs_parc
  | .frlPg => regs_frl
  | .cmw => []
  | .plain => []

/-- The counters of a page class (R65). -/
def ctrsOf : PageClass → List CtrSpec
  | .devPg => ctrs_dev
  | .cfwPg => ctrs_cfw
  | .carPg => ctrs_car
  | .fePg => ctrs_fe
  | .convPg => ctrs_conv
  | .dspPg => ctrs_dsp
  | .txsPg => ctrs_txs
  | .capPg => ctrs_cap
  | .ldpcPg => ctrs_ldpc
  | .lmPg => ctrs_lm
  | .frmPg => ctrs_frm
  | .slcPg => ctrs_slc
  | .lblPg => ctrs_lbl
  | .monPg => ctrs_mon
  | .oduPg => ctrs_odu
  | .pdefPg => ctrs_pdef
  | .ctxPg => ctrs_ctx
  | .corePg => ctrs_core
  | .tpcPg => ctrs_tpc
  | .pmapPg => ctrs_pmap
  | .protPg => ctrs_prot
  | .swlPg => ctrs_swl
  | .bondPg => ctrs_bond
  | .precPg => ctrs_prec
  | .memPg => ctrs_mem
  | .lanePg => ctrs_lane
  | .octPg => ctrs_oct
  | .frPg => ctrs_fr
  | .frsPg => ctrs_frs
  | .timPg => ctrs_tim
  | .refPg => ctrs_ref
  | .twinPg => ctrs_twin
  | .cmpPg => ctrs_cmp
  | .ezPg => ctrs_ez
  | .pciePg => ctrs_pcie
  | .dmaPg => ctrs_dma
  | .ringPg => ctrs_ring
  | .mxPg => ctrs_mx
  | .prioPg => ctrs_prio
  | .perfPg => ctrs_perf
  | .sampPg => ctrs_samp
  | .secPg => ctrs_sec
  | .identPg => ctrs_ident
  | .wwinPg => ctrs_wwin
  | .keyPg => ctrs_key
  | .svcPg => ctrs_svc
  | .jrPg => ctrs_jr
  | .dbgPg => ctrs_dbg
  | .parcPg => ctrs_parc
  | .frlPg => ctrs_frl
  | .cmw => []
  | .plain => []


end Sys2Proof.Machine
end

