-- ==== Sys2Proof/Machine/Fields.lean ====
section
/-! DEFINITION. Handles of the registers' fields and of the counters: page, offset, lowest bit, width and reset
value, as the tables of the spec's chapters give them. -/

namespace Sys2Proof.Machine

/-- A field of a register. -/
structure Fl where
  page : Nat
  off : Nat
  lo : Nat
  w : Nat
  rst : Nat
deriving DecidableEq, Repr

/-- A counter of a page (R65). -/
structure Ct where
  page : Nat
  off : Nat
  w : Nat
deriving DecidableEq, Repr

/-- Where a field is held in the register store. -/
def Fl.key (f : Fl) : Nat := (f.page * 0x4000 + f.off) * 32 + f.lo

/-- Where a counter is held in the counter store. -/
def Ct.key (c : Ct) : Nat := c.page * 0x4000 + c.off

namespace F

-- dev, spec/02
def dev_MODE_STATE : Fl := ⟨0x000, 0x40, 0, 4, 0x1⟩
def dev_MODE_PREV : Fl := ⟨0x000, 0x40, 4, 4, 0x0⟩
def dev_MODE_TWIN_ROLE : Fl := ⟨0x000, 0x40, 8, 2, 0x0⟩
def dev_MODE_REQ_STATUS : Fl := ⟨0x000, 0x40, 12, 2, 0x0⟩
def dev_MODE_REQ_OP : Fl := ⟨0x000, 0x44, 0, 3, 0x0⟩
def dev_ROLE_ROLE : Fl := ⟨0x000, 0x48, 0, 2, 0x0⟩
def dev_RESET_FULL : Fl := ⟨0x000, 0x4C, 0, 1, 0x0⟩
def dev_RESET_KEY : Fl := ⟨0x000, 0x4C, 16, 16, 0x0⟩
def dev_RESET_CFG_PERST_FULL : Fl := ⟨0x000, 0x50, 0, 1, 0x1⟩
def dev_RESET_CAUSE_CAUSE : Fl := ⟨0x000, 0x54, 0, 6, 0x0⟩
def dev_FATAL_CODE : Fl := ⟨0x000, 0x58, 0, 16, 0x0⟩
def dev_FATAL_CLASS : Fl := ⟨0x000, 0x58, 16, 3, 0x0⟩
def dev_READY_SUMMARY : Fl := ⟨0x000, 0x5C, 0, 13, 0x0⟩
def dev_CTLFW_WDOG_TIMEOUT : Fl := ⟨0x000, 0x60, 0, 16, 0x3E8⟩
def dev_CTLFW_WDOG_KICK : Fl := ⟨0x000, 0x60, 31, 1, 0x0⟩
def dev_BOOT_SRC : Fl := ⟨0x000, 0x64, 0, 2, 0x0⟩
def dev_BOOT_IMAGE : Fl := ⟨0x000, 0x64, 2, 2, 0x0⟩
def dev_BOOT_TIME : Fl := ⟨0x000, 0x64, 16, 16, 0x0⟩
-- cfw, spec/02
def cfw_IF_VER : Fl := ⟨0x001, 0x40, 0, 16, 0x0⟩
def cfw_IF_BUILD : Fl := ⟨0x001, 0x40, 16, 16, 0x0⟩
def cfw_SEQ_SEQ : Fl := ⟨0x001, 0x44, 0, 32, 0x0⟩
def cfw_CMD_OP : Fl := ⟨0x001, 0x48, 0, 4, 0x0⟩
def cfw_ARG_INDEX : Fl := ⟨0x001, 0x4C, 0, 18, 0x0⟩
def cfw_RESULT_RESULT : Fl := ⟨0x001, 0x50, 0, 4, 0x0⟩
def cfw_RESULT_OUT_DW : Fl := ⟨0x001, 0x50, 16, 6, 0x0⟩
def cfw_SUMMARY_TIM_POINTS : Fl := ⟨0x001, 0x54, 0, 16, 0x0⟩
def cfw_SUMMARY_PG_ALERTS : Fl := ⟨0x001, 0x54, 16, 16, 0x0⟩
def cfw_DATA_DATA (i : Nat) : Fl := ⟨0x001, (0x80 + 4 * i), 0, 32, 0x0⟩
-- car, spec/04
def car_RATE_RS_CODE (c : Nat) : Fl := ⟨(0x010 + 0x10 * c), 0x40, 0, 8, 0x80⟩
def car_RATE_H_CODE (c : Nat) : Fl := ⟨(0x010 + 0x10 * c), 0x40, 8, 7, 0x67⟩
def car_RATE_SLICES (c : Nat) : Fl := ⟨(0x010 + 0x10 * c), 0x40, 16, 6, 0x20⟩
def car_RATE_ROLLOFF (c : Nat) : Fl := ⟨(0x010 + 0x10 * c), 0x40, 24, 4, 0x1⟩
def car_RATE_MODE (c : Nat) : Fl := ⟨(0x010 + 0x10 * c), 0x40, 28, 2, 0x0⟩
def car_SLOT_WIDTH (c : Nat) : Fl := ⟨(0x010 + 0x10 * c), 0x44, 0, 8, 0x18⟩
def car_SLOT_FE_ACC (c : Nat) : Fl := ⟨(0x010 + 0x10 * c), 0x44, 8, 8, 0xF⟩
def car_CFG_STATUS_VALID (c : Nat) : Fl := ⟨(0x010 + 0x10 * c), 0x48, 0, 1, 0x0⟩
def car_CFG_STATUS_CALC (c : Nat) : Fl := ⟨(0x010 + 0x10 * c), 0x48, 1, 1, 0x0⟩
def car_CFG_STATUS_REASON (c : Nat) : Fl := ⟨(0x010 + 0x10 * c), 0x48, 2, 4, 0x0⟩
def car_CFG_STATUS_H_MIN (c : Nat) : Fl := ⟨(0x010 + 0x10 * c), 0x48, 8, 7, 0x7F⟩
def car_CFG_STATUS_SHAPE_M (c : Nat) : Fl := ⟨(0x010 + 0x10 * c), 0x48, 16, 11, 0x0⟩
def car_CAPACITY_MBPS (c : Nat) : Fl := ⟨(0x010 + 0x10 * c), 0x4C, 0, 22, 0x0⟩
def car_TX_CTRL_TX_EN (c : Nat) : Fl := ⟨(0x010 + 0x10 * c), 0x50, 0, 1, 0x0⟩
def car_TX_CTRL_LEVEL (c : Nat) : Fl := ⟨(0x010 + 0x10 * c), 0x50, 4, 8, 0x64⟩
def car_TX_CTRL_LASER_STATE (c : Nat) : Fl := ⟨(0x010 + 0x10 * c), 0x50, 16, 1, 0x0⟩
def car_TX_CTRL_DARK (c : Nat) : Fl := ⟨(0x010 + 0x10 * c), 0x50, 17, 1, 0x0⟩
def car_RX_STATUS_SIG (c : Nat) : Fl := ⟨(0x010 + 0x10 * c), 0x54, 0, 1, 0x0⟩
def car_RX_STATUS_CD_LOCK (c : Nat) : Fl := ⟨(0x010 + 0x10 * c), 0x54, 1, 1, 0x0⟩
def car_RX_STATUS_TIM_LOCK (c : Nat) : Fl := ⟨(0x010 + 0x10 * c), 0x54, 2, 1, 0x0⟩
def car_RX_STATUS_EQ_CONV (c : Nat) : Fl := ⟨(0x010 + 0x10 * c), 0x54, 3, 1, 0x0⟩
def car_RX_STATUS_FO_LOCK (c : Nat) : Fl := ⟨(0x010 + 0x10 * c), 0x54, 4, 1, 0x0⟩
def car_RX_STATUS_PILOT_LOCK (c : Nat) : Fl := ⟨(0x010 + 0x10 * c), 0x54, 5, 1, 0x0⟩
def car_RX_STATUS_DSP_LOCK (c : Nat) : Fl := ⟨(0x010 + 0x10 * c), 0x54, 6, 1, 0x0⟩
def car_RX_STATUS_FROZEN (c : Nat) : Fl := ⟨(0x010 + 0x10 * c), 0x54, 7, 1, 0x0⟩
def car_RX_STATUS_STAGE (c : Nat) : Fl := ⟨(0x010 + 0x10 * c), 0x54, 8, 3, 0x0⟩
def car_PWR_CTRL_ENGINE_ON (c : Nat) : Fl := ⟨(0x010 + 0x10 * c), 0x58, 0, 1, 0x0⟩
def car_PWR_CTRL_ENGINE_PWR (c : Nat) : Fl := ⟨(0x010 + 0x10 * c), 0x58, 1, 1, 0x0⟩
def car_RX_CFG_SIG_THR (c : Nat) : Fl := ⟨(0x010 + 0x10 * c), 0x5C, 0, 8, 0x10⟩
def car_RX_CFG_FREEZE (c : Nat) : Fl := ⟨(0x010 + 0x10 * c), 0x5C, 8, 8, 0x64⟩
def car_RX_CFG_CD_KEEP (c : Nat) : Fl := ⟨(0x010 + 0x10 * c), 0x5C, 16, 1, 0x1⟩
def car_SHAPE_VIOL_C (c : Nat) : Ct := ⟨(0x010 + 0x10 * c), 0x100, 64⟩
def car_SIG_LOSS_CNT_C (c : Nat) : Ct := ⟨(0x010 + 0x10 * c), 0x108, 64⟩
-- fe, spec/04
def fe_FE_CMD_OP (c : Nat) : Fl := ⟨(0x011 + 0x10 * c), 0x40, 0, 2, 0x0⟩
def fe_FE_CMD_ADDR (c : Nat) : Fl := ⟨(0x011 + 0x10 * c), 0x40, 8, 7, 0x0⟩
def fe_FE_CMD_LEN (c : Nat) : Fl := ⟨(0x011 + 0x10 * c), 0x40, 16, 6, 0x0⟩
def fe_FE_CFG_SPEED (c : Nat) : Fl := ⟨(0x011 + 0x10 * c), 0x44, 0, 2, 0x0⟩
def fe_FE_STATUS_BUSY (c : Nat) : Fl := ⟨(0x011 + 0x10 * c), 0x48, 0, 1, 0x0⟩
def fe_FE_STATUS_NACK (c : Nat) : Fl := ⟨(0x011 + 0x10 * c), 0x48, 1, 1, 0x0⟩
def fe_FE_BUF_DATA (c : Nat) (i : Nat) : Fl := ⟨(0x011 + 0x10 * c), (0x80 + 4 * i), 0, 32, 0x0⟩
-- conv, spec/04
def conv_CAL_CTRL_OP (c : Nat) : Fl := ⟨(0x012 + 0x10 * c), 0x40, 0, 2, 0x0⟩
def conv_CAL_STATUS_STATE (c : Nat) : Fl := ⟨(0x012 + 0x10 * c), 0x44, 0, 2, 0x0⟩
def conv_CAL_STATUS_FAIL (c : Nat) : Fl := ⟨(0x012 + 0x10 * c), 0x44, 8, 8, 0x0⟩
def conv_CAL_STATUS_TIME (c : Nat) : Fl := ⟨(0x012 + 0x10 * c), 0x44, 16, 16, 0x0⟩
def conv_DAC_SWING_MV10 (c : Nat) (i : Nat) : Fl := ⟨(0x012 + 0x10 * c), (0x80 + 4 * i), 0, 7, 0x1E⟩
def conv_ADC_GAIN_AUTO (c : Nat) (i : Nat) : Fl := ⟨(0x012 + 0x10 * c), (0x90 + 4 * i), 0, 1, 0x1⟩
def conv_ADC_GAIN_GAIN (c : Nat) (i : Nat) : Fl := ⟨(0x012 + 0x10 * c), (0x90 + 4 * i), 8, 7, 0x18⟩
def conv_TIMING_PS (c : Nat) (i : Nat) : Fl := ⟨(0x012 + 0x10 * c), (0xA0 + 4 * i), 0, 10, 0x0⟩
def conv_PREEMPH_COEF (c : Nat) (i : Nat) : Fl := ⟨(0x012 + 0x10 * c), (0x100 + 4 * i), 0, 11, 0x0⟩
def conv_RXSKEW_IQX (c : Nat) : Fl := ⟨(0x012 + 0x10 * c), 0xC0, 0, 12, 0x0⟩
def conv_RXSKEW_IQY (c : Nat) : Fl := ⟨(0x012 + 0x10 * c), 0xC0, 16, 12, 0x0⟩
def conv_RXXY_XY (c : Nat) : Fl := ⟨(0x012 + 0x10 * c), 0xC4, 0, 12, 0x0⟩
def conv_RXXY_PHX (c : Nat) : Fl := ⟨(0x012 + 0x10 * c), 0xC4, 12, 9, 0x0⟩
def conv_RXXY_PHY (c : Nat) : Fl := ⟨(0x012 + 0x10 * c), 0xC4, 21, 9, 0x0⟩
def conv_SNDR_SNDR (c : Nat) (i : Nat) : Fl := ⟨(0x012 + 0x10 * c), (0x200 + 4 * i), 0, 16, 0x0⟩
def conv_SNDR_SKEW (c : Nat) (i : Nat) : Fl := ⟨(0x012 + 0x10 * c), (0x200 + 4 * i), 16, 16, 0x0⟩
-- dsp, spec/04
def dsp_MIMO_CFG_TAPS (c : Nat) : Fl := ⟨(0x013 + 0x10 * c), 0x40, 0, 8, 0x7F⟩
def dsp_MIMO_CFG_STEP (c : Nat) : Fl := ⟨(0x013 + 0x10 * c), 0x40, 8, 8, 0x0⟩
def dsp_CD_CFG_LO (c : Nat) : Fl := ⟨(0x013 + 0x10 * c), 0x44, 0, 16, 0xD8F0⟩
def dsp_CD_CFG_HI (c : Nat) : Fl := ⟨(0x013 + 0x10 * c), 0x44, 16, 16, 0x2710⟩
def dsp_CD_EST_CD (c : Nat) : Fl := ⟨(0x013 + 0x10 * c), 0x48, 0, 32, 0x0⟩
def dsp_DGD_EST_DGD (c : Nat) : Fl := ⟨(0x013 + 0x10 * c), 0x4C, 0, 32, 0x0⟩
def dsp_SOP_RATE_SOP (c : Nat) : Fl := ⟨(0x013 + 0x10 * c), 0x50, 0, 32, 0x0⟩
def dsp_FO_EST_FO (c : Nat) : Fl := ⟨(0x013 + 0x10 * c), 0x54, 0, 32, 0x0⟩
def dsp_SNR_X_SNR (c : Nat) : Fl := ⟨(0x013 + 0x10 * c), 0x58, 0, 32, 0x0⟩
def dsp_SNR_Y_SNR (c : Nat) : Fl := ⟨(0x013 + 0x10 * c), 0x5C, 0, 32, 0x0⟩
-- txs, spec/04
def txs_TX_STATE_RUN (c : Nat) : Fl := ⟨(0x014 + 0x10 * c), 0x40, 0, 1, 0x0⟩
def txs_COMP_N (c : Nat) (i : Nat) : Fl := ⟨(0x014 + 0x10 * c), (0x44 + 4 * i), 0, 12, 0x0⟩
def txs_SHAPE_K_K (c : Nat) : Fl := ⟨(0x014 + 0x10 * c), 0x64, 0, 14, 0x0⟩
-- cap, spec/04
def cap_CAPTURE_CTRL_ARM (c : Nat) : Fl := ⟨(0x015 + 0x10 * c), 0x40, 0, 1, 0x0⟩
def cap_CAPTURE_CTRL_ABORT (c : Nat) : Fl := ⟨(0x015 + 0x10 * c), 0x40, 1, 1, 0x0⟩
def cap_CAPTURE_CTRL_POINT (c : Nat) : Fl := ⟨(0x015 + 0x10 * c), 0x40, 2, 3, 0x0⟩
def cap_CAPTURE_CTRL_TRIG (c : Nat) : Fl := ⟨(0x015 + 0x10 * c), 0x40, 5, 3, 0x0⟩
def cap_CAPTURE_CTRL_PRE (c : Nat) : Fl := ⟨(0x015 + 0x10 * c), 0x40, 8, 3, 0x0⟩
def cap_CAPTURE_CTRL_HIST (c : Nat) : Fl := ⟨(0x015 + 0x10 * c), 0x40, 11, 1, 0x0⟩
def cap_CAPTURE_LEN_MS (c : Nat) : Fl := ⟨(0x015 + 0x10 * c), 0x44, 0, 10, 0x1⟩
def cap_CAPTURE_STATUS_STATE (c : Nat) : Fl := ⟨(0x015 + 0x10 * c), 0x48, 0, 3, 0x0⟩
def cap_CAPTURE_STATUS_OFFSET (c : Nat) : Fl := ⟨(0x015 + 0x10 * c), 0x48, 6, 26, 0x0⟩
-- ldpc, spec/05
def ldpc_LDPC_CFG_MAX_IT (c : Nat) : Fl := ⟨(0x016 + 0x10 * c), 0x40, 0, 5, 0xC⟩
def ldpc_LDPC_CFG_EARLY_STOP (c : Nat) : Fl := ⟨(0x016 + 0x10 * c), 0x40, 8, 1, 0x1⟩
def ldpc_CW_TOTAL_C (c : Nat) : Ct := ⟨(0x016 + 0x10 * c), 0x100, 64⟩
def ldpc_CW_UNCORR_C (c : Nat) : Ct := ⟨(0x016 + 0x10 * c), 0x108, 64⟩
def ldpc_BIT_CORR_C (c : Nat) : Ct := ⟨(0x016 + 0x10 * c), 0x110, 64⟩
def ldpc_ITER_SUM_C (c : Nat) : Ct := ⟨(0x016 + 0x10 * c), 0x118, 64⟩
-- lm, spec/05
def lm_LM_CFG_BOND_EN (c : Nat) : Fl := ⟨(0x017 + 0x10 * c), 0x40, 0, 1, 0x0⟩
def lm_LM_CFG_BOND_ID (c : Nat) : Fl := ⟨(0x017 + 0x10 * c), 0x40, 8, 8, 0x0⟩
def lm_LM_STATUS_LOCK (c : Nat) : Fl := ⟨(0x017 + 0x10 * c), 0x44, 0, 1, 0x0⟩
def lm_LM_STATUS_RATE_MISMATCH (c : Nat) : Fl := ⟨(0x017 + 0x10 * c), 0x44, 1, 1, 0x0⟩
def lm_LM_STATUS_BOND_MISMATCH (c : Nat) : Fl := ⟨(0x017 + 0x10 * c), 0x44, 2, 1, 0x0⟩
def lm_LM_STATUS_REM_LM_LOCK (c : Nat) : Fl := ⟨(0x017 + 0x10 * c), 0x44, 8, 1, 0x0⟩
def lm_LM_STATUS_REM_IN_FRAME (c : Nat) : Fl := ⟨(0x017 + 0x10 * c), 0x44, 9, 1, 0x0⟩
def lm_LM_STATUS_REM_DSP_LOCK (c : Nat) : Fl := ⟨(0x017 + 0x10 * c), 0x44, 10, 1, 0x0⟩
def lm_LM_STATUS_REM_BOND_EN (c : Nat) : Fl := ⟨(0x017 + 0x10 * c), 0x44, 11, 1, 0x0⟩
def lm_LM_STATUS_REM_ROLE (c : Nat) : Fl := ⟨(0x017 + 0x10 * c), 0x44, 12, 1, 0x0⟩
def lm_LM_STATUS_REM_BOND_ID (c : Nat) : Fl := ⟨(0x017 + 0x10 * c), 0x44, 16, 8, 0x0⟩
def lm_REMOTE_RATE_RATE (c : Nat) : Fl := ⟨(0x017 + 0x10 * c), 0x48, 0, 32, 0x0⟩
def lm_RX_FC_FC (c : Nat) : Fl := ⟨(0x017 + 0x10 * c), 0x4C, 0, 32, 0x0⟩
def lm_RX_D_D (c : Nat) : Fl := ⟨(0x017 + 0x10 * c), 0x50, 0, 24, 0x0⟩
def lm_OH_BAD_C (c : Nat) : Ct := ⟨(0x017 + 0x10 * c), 0x100, 64⟩
def lm_FC_ERR_C (c : Nat) : Ct := ⟨(0x017 + 0x10 * c), 0x108, 64⟩
def lm_LM_LOSS_C (c : Nat) : Ct := ⟨(0x017 + 0x10 * c), 0x110, 64⟩
def lm_D_BAD_C (c : Nat) : Ct := ⟨(0x017 + 0x10 * c), 0x118, 64⟩
-- frm, spec/05
def frm_FRM_CFG_CONF_N (c : Nat) : Fl := ⟨(0x018 + 0x10 * c), 0x40, 0, 3, 0x2⟩
def frm_FRM_CFG_REEL_EN (c : Nat) : Fl := ⟨(0x018 + 0x10 * c), 0x40, 4, 1, 0x1⟩
def frm_FRM_STATUS_STATE (c : Nat) : Fl := ⟨(0x018 + 0x10 * c), 0x44, 0, 2, 0x0⟩
def frm_FRM_STATUS_HYP_CNT (c : Nat) : Fl := ⟨(0x018 + 0x10 * c), 0x44, 2, 3, 0x0⟩
def frm_FRM_STATUS_LEAD (c : Nat) : Fl := ⟨(0x018 + 0x10 * c), 0x44, 5, 2, 0x0⟩
def frm_FRM_STATUS_PROV (c : Nat) : Fl := ⟨(0x018 + 0x10 * c), 0x44, 7, 1, 0x0⟩
def frm_FRM_STATUS_MFAS (c : Nat) : Fl := ⟨(0x018 + 0x10 * c), 0x44, 8, 8, 0x0⟩
def frm_REEL_HYP_VALID (c : Nat) (i : Nat) : Fl := ⟨(0x018 + 0x10 * c), (0x50 + 4 * i), 0, 1, 0x0⟩
def frm_REEL_HYP_LEAD (c : Nat) (i : Nat) : Fl := ⟨(0x018 + 0x10 * c), (0x50 + 4 * i), 1, 1, 0x0⟩
def frm_REEL_HYP_CHECKS (c : Nat) (i : Nat) : Fl := ⟨(0x018 + 0x10 * c), (0x50 + 4 * i), 2, 3, 0x0⟩
def frm_REEL_HYP_POS (c : Nat) (i : Nat) : Fl := ⟨(0x018 + 0x10 * c), (0x50 + 4 * i), 8, 15, 0x0⟩
def frm_REEL_HYP_PROV (c : Nat) (i : Nat) : Fl := ⟨(0x018 + 0x10 * c), (0x50 + 4 * i), 31, 1, 0x0⟩
def frm_OOF_CNT_C (c : Nat) : Ct := ⟨(0x018 + 0x10 * c), 0x100, 64⟩
def frm_OOM_CNT_C (c : Nat) : Ct := ⟨(0x018 + 0x10 * c), 0x108, 64⟩
-- slc, spec/05
def slc_SLICE_FAS_BAD (c : Nat) : Fl := ⟨(0x019 + 0x10 * c), 0x40, 0, 32, 0x0⟩
def slc_SLICE_MFAS_BAD (c : Nat) : Fl := ⟨(0x019 + 0x10 * c), 0x44, 0, 32, 0x0⟩
def slc_FAS_ERR_C (c : Nat) (i : Nat) : Ct := ⟨(0x019 + 0x10 * c), (0x100 + 4 * i), 32⟩
def slc_MFAS_ERR_C (c : Nat) (i : Nat) : Ct := ⟨(0x019 + 0x10 * c), (0x180 + 4 * i), 32⟩
-- lbl, spec/13
def lbl_LBL_TX_CFG_EN (c : Nat) : Fl := ⟨(0x01C + 0x10 * c), 0x40, 0, 1, 0x0⟩
def lbl_LBL_TX_CFG_DEPTH (c : Nat) : Fl := ⟨(0x01C + 0x10 * c), 0x40, 1, 6, 0x14⟩
def lbl_LBL_TX_CFG_SF (c : Nat) : Fl := ⟨(0x01C + 0x10 * c), 0x40, 8, 3, 0x5⟩
def lbl_LBL_TX_CFG_GASP_SF (c : Nat) : Fl := ⟨(0x01C + 0x10 * c), 0x40, 11, 3, 0x0⟩
def lbl_LBL_TX_CFG_PERIOD (c : Nat) : Fl := ⟨(0x01C + 0x10 * c), 0x40, 16, 8, 0x1E⟩
def lbl_LBL_TX_CFG_NETID (c : Nat) : Fl := ⟨(0x01C + 0x10 * c), 0x40, 24, 7, 0x2D⟩
def lbl_LBL_TX_ID_FREQ (c : Nat) : Fl := ⟨(0x01C + 0x10 * c), 0x44, 0, 16, 0x0⟩
def lbl_LBL_TX_TAG0_TAG (c : Nat) : Fl := ⟨(0x01C + 0x10 * c), 0x48, 0, 32, 0x0⟩
def lbl_LBL_TX_TAG1_TAG (c : Nat) : Fl := ⟨(0x01C + 0x10 * c), 0x4C, 0, 32, 0x0⟩
def lbl_LBL_CMD_OP (c : Nat) : Fl := ⟨(0x01C + 0x10 * c), 0x50, 0, 2, 0x0⟩
def lbl_LBL_CMD_LEN (c : Nat) : Fl := ⟨(0x01C + 0x10 * c), 0x50, 8, 8, 0x0⟩
def lbl_LBL_CMD_CODE (c : Nat) : Fl := ⟨(0x01C + 0x10 * c), 0x50, 16, 8, 0x0⟩
def lbl_LBL_TX_STATUS_STATE (c : Nat) : Fl := ⟨(0x01C + 0x10 * c), 0x54, 0, 2, 0x0⟩
def lbl_LBL_TX_STATUS_USER_PEND (c : Nat) : Fl := ⟨(0x01C + 0x10 * c), 0x54, 2, 1, 0x0⟩
def lbl_LBL_TX_STATUS_GASP_DONE (c : Nat) : Fl := ⟨(0x01C + 0x10 * c), 0x54, 3, 1, 0x0⟩
def lbl_LBL_TX_STATUS_RESULT (c : Nat) : Fl := ⟨(0x01C + 0x10 * c), 0x54, 4, 2, 0x0⟩
def lbl_LBL_GASP_CFG_EN (c : Nat) : Fl := ⟨(0x01C + 0x10 * c), 0x58, 0, 3, 0x7⟩
def lbl_LBL_TXBUF_DATA (c : Nat) (i : Nat) : Fl := ⟨(0x01C + 0x10 * c), (0x80 + 4 * i), 0, 32, 0x0⟩
def lbl_RX_CFG_EN (c : Nat) : Fl := ⟨(0x01C + 0x10 * c), 0x400, 0, 1, 0x1⟩
def lbl_RX_CFG_SF_MASK (c : Nat) : Fl := ⟨(0x01C + 0x10 * c), 0x400, 1, 6, 0x3F⟩
def lbl_RX_CFG_NETID_EN (c : Nat) : Fl := ⟨(0x01C + 0x10 * c), 0x400, 7, 1, 0x0⟩
def lbl_RX_CFG_NETID (c : Nat) : Fl := ⟨(0x01C + 0x10 * c), 0x400, 8, 7, 0x2D⟩
def lbl_RX_CFG_CAPTURE_DB (c : Nat) : Fl := ⟨(0x01C + 0x10 * c), 0x400, 16, 4, 0x6⟩
def lbl_RX_CFG_KEEP_BAD (c : Nat) : Fl := ⟨(0x01C + 0x10 * c), 0x400, 20, 1, 0x0⟩
def lbl_RX_CFG_DET_THR (c : Nat) : Fl := ⟨(0x01C + 0x10 * c), 0x400, 21, 7, 0xC⟩
def lbl_RX_STATUS_STATE (c : Nat) : Fl := ⟨(0x01C + 0x10 * c), 0x404, 0, 2, 0x0⟩
def lbl_RX_STATUS_CUR_SF (c : Nat) : Fl := ⟨(0x01C + 0x10 * c), 0x404, 2, 3, 0x0⟩
def lbl_RX_STATUS_HELD (c : Nat) : Fl := ⟨(0x01C + 0x10 * c), 0x404, 5, 2, 0x0⟩
def lbl_RX_STATUS_CUR_C (c : Nat) : Fl := ⟨(0x01C + 0x10 * c), 0x404, 16, 16, 0x0⟩
def lbl_RXQ_CMD_OP (c : Nat) : Fl := ⟨(0x01C + 0x10 * c), 0x408, 0, 2, 0x0⟩
def lbl_RXQ_STATUS_COUNT (c : Nat) : Fl := ⟨(0x01C + 0x10 * c), 0x40C, 0, 5, 0x0⟩
def lbl_RXQ_HEAD_DATA (c : Nat) (i : Nat) : Fl := ⟨(0x01C + 0x10 * c), (0x440 + 4 * i), 0, 32, 0x0⟩
def lbl_RX_OK_C (c : Nat) : Ct := ⟨(0x01C + 0x10 * c), 0x500, 64⟩
def lbl_HDR_BAD_C (c : Nat) : Ct := ⟨(0x01C + 0x10 * c), 0x508, 64⟩
def lbl_PAY_BAD_C (c : Nat) : Ct := ⟨(0x01C + 0x10 * c), 0x510, 64⟩
def lbl_PREEMPTED_C (c : Nat) : Ct := ⟨(0x01C + 0x10 * c), 0x518, 64⟩
def lbl_RESTARTS_C (c : Nat) : Ct := ⟨(0x01C + 0x10 * c), 0x520, 64⟩
def lbl_NETID_MISMATCH_C (c : Nat) : Ct := ⟨(0x01C + 0x10 * c), 0x528, 64⟩
def lbl_RXQ_DROP_C (c : Nat) : Ct := ⟨(0x01C + 0x10 * c), 0x530, 64⟩
def lbl_CANDIDATES_C (c : Nat) : Ct := ⟨(0x01C + 0x10 * c), 0x538, 64⟩
def lbl_TX_PKTS_C (c : Nat) : Ct := ⟨(0x01C + 0x10 * c), 0x100, 64⟩
def lbl_TX_CUT_C (c : Nat) : Ct := ⟨(0x01C + 0x10 * c), 0x108, 64⟩
def lbl_GASP_SENT_C (c : Nat) : Ct := ⟨(0x01C + 0x10 * c), 0x110, 64⟩
-- mon, spec/13
def mon_RX_CFG0_EN : Fl := ⟨0x2C0, 0x400, 0, 1, 0x0⟩
def mon_RX_CFG0_SF_MASK : Fl := ⟨0x2C0, 0x400, 1, 6, 0x3F⟩
def mon_RX_CFG0_NETID_EN : Fl := ⟨0x2C0, 0x400, 7, 1, 0x0⟩
def mon_RX_CFG0_NETID : Fl := ⟨0x2C0, 0x400, 8, 7, 0x2D⟩
def mon_RX_CFG0_CAPTURE_DB : Fl := ⟨0x2C0, 0x400, 16, 4, 0x6⟩
def mon_RX_CFG0_KEEP_BAD : Fl := ⟨0x2C0, 0x400, 20, 1, 0x0⟩
def mon_RX_CFG0_DET_THR : Fl := ⟨0x2C0, 0x400, 21, 7, 0xC⟩
def mon_RX_STATUS0_STATE : Fl := ⟨0x2C0, 0x404, 0, 2, 0x0⟩
def mon_RX_STATUS0_CUR_SF : Fl := ⟨0x2C0, 0x404, 2, 3, 0x0⟩
def mon_RX_STATUS0_HELD : Fl := ⟨0x2C0, 0x404, 5, 2, 0x0⟩
def mon_RX_STATUS0_CUR_C : Fl := ⟨0x2C0, 0x404, 16, 16, 0x0⟩
def mon_RXQ_CMD0_OP : Fl := ⟨0x2C0, 0x408, 0, 2, 0x0⟩
def mon_RXQ_STATUS0_COUNT : Fl := ⟨0x2C0, 0x40C, 0, 5, 0x0⟩
def mon_RXQ_HEAD0_DATA (i : Nat) : Fl := ⟨0x2C0, (0x440 + 4 * i), 0, 32, 0x0⟩
def mon_RX_CFG1_EN : Fl := ⟨0x2C0, 0x800, 0, 1, 0x0⟩
def mon_RX_CFG1_SF_MASK : Fl := ⟨0x2C0, 0x800, 1, 6, 0x3F⟩
def mon_RX_CFG1_NETID_EN : Fl := ⟨0x2C0, 0x800, 7, 1, 0x0⟩
def mon_RX_CFG1_NETID : Fl := ⟨0x2C0, 0x800, 8, 7, 0x2D⟩
def mon_RX_CFG1_CAPTURE_DB : Fl := ⟨0x2C0, 0x800, 16, 4, 0x6⟩
def mon_RX_CFG1_KEEP_BAD : Fl := ⟨0x2C0, 0x800, 20, 1, 0x0⟩
def mon_RX_CFG1_DET_THR : Fl := ⟨0x2C0, 0x800, 21, 7, 0xC⟩
def mon_RX_STATUS1_STATE : Fl := ⟨0x2C0, 0x804, 0, 2, 0x0⟩
def mon_RX_STATUS1_CUR_SF : Fl := ⟨0x2C0, 0x804, 2, 3, 0x0⟩
def mon_RX_STATUS1_HELD : Fl := ⟨0x2C0, 0x804, 5, 2, 0x0⟩
def mon_RX_STATUS1_CUR_C : Fl := ⟨0x2C0, 0x804, 16, 16, 0x0⟩
def mon_RXQ_CMD1_OP : Fl := ⟨0x2C0, 0x808, 0, 2, 0x0⟩
def mon_RXQ_STATUS1_COUNT : Fl := ⟨0x2C0, 0x80C, 0, 5, 0x0⟩
def mon_RXQ_HEAD1_DATA (i : Nat) : Fl := ⟨0x2C0, (0x840 + 4 * i), 0, 32, 0x0⟩
def mon_RX_OK0_C : Ct := ⟨0x2C0, 0x500, 64⟩
def mon_HDR_BAD0_C : Ct := ⟨0x2C0, 0x508, 64⟩
def mon_PAY_BAD0_C : Ct := ⟨0x2C0, 0x510, 64⟩
def mon_PREEMPTED0_C : Ct := ⟨0x2C0, 0x518, 64⟩
def mon_RESTARTS0_C : Ct := ⟨0x2C0, 0x520, 64⟩
def mon_NETID_MISMATCH0_C : Ct := ⟨0x2C0, 0x528, 64⟩
def mon_RXQ_DROP0_C : Ct := ⟨0x2C0, 0x530, 64⟩
def mon_CANDIDATES0_C : Ct := ⟨0x2C0, 0x538, 64⟩
def mon_RX_OK1_C : Ct := ⟨0x2C0, 0x900, 64⟩
def mon_HDR_BAD1_C : Ct := ⟨0x2C0, 0x908, 64⟩
def mon_PAY_BAD1_C : Ct := ⟨0x2C0, 0x910, 64⟩
def mon_PREEMPTED1_C : Ct := ⟨0x2C0, 0x918, 64⟩
def mon_RESTARTS1_C : Ct := ⟨0x2C0, 0x920, 64⟩
def mon_NETID_MISMATCH1_C : Ct := ⟨0x2C0, 0x928, 64⟩
def mon_RXQ_DROP1_C : Ct := ⟨0x2C0, 0x930, 64⟩
def mon_CANDIDATES1_C : Ct := ⟨0x2C0, 0x938, 64⟩
-- odu, spec/06
def odu_TRIB_CMD_INDEX : Fl := ⟨0x040, 0x40, 0, 16, 0x0⟩
def odu_TRIB_CMD_DIR : Fl := ⟨0x040, 0x40, 16, 1, 0x0⟩
def odu_TRIB_CMD_TABLE : Fl := ⟨0x040, 0x40, 17, 2, 0x0⟩
def odu_TRIB_CMD_OP : Fl := ⟨0x040, 0x40, 19, 3, 0x0⟩
def odu_TRIB_STATUS_DONE : Fl := ⟨0x040, 0x44, 0, 1, 0x1⟩
def odu_TRIB_STATUS_RESULT : Fl := ⟨0x040, 0x44, 1, 3, 0x0⟩
def odu_TRIB_STATUS_FAIL_SU : Fl := ⟨0x040, 0x44, 4, 16, 0x0⟩
def odu_TRIB_DATA_DATA (i : Nat) : Fl := ⟨0x040, (0x48 + 4 * i), 0, 32, 0x0⟩
def odu_TICK_CFG_PPS_ALIGN : Fl := ⟨0x040, 0x58, 0, 1, 0x0⟩
def odu_TICK_CFG_WINDOW : Fl := ⟨0x040, 0x58, 8, 8, 0xA⟩
def odu_TICK_STATUS_PPS_PRESENT : Fl := ⟨0x040, 0x5C, 0, 1, 0x0⟩
def odu_TICK_STATUS_PPS_ALIGNED : Fl := ⟨0x040, 0x5C, 1, 1, 0x0⟩
def odu_TICK_STATUS_OFFSET : Fl := ⟨0x040, 0x5C, 16, 16, 0x0⟩
def odu_TICK_SEQ_SEQ : Fl := ⟨0x040, 0x60, 0, 32, 0x0⟩
def odu_PM_CFG_LATCH_EN : Fl := ⟨0x040, 0x64, 0, 1, 0x1⟩
def odu_PM_CFG_EXPORT_EN : Fl := ⟨0x040, 0x64, 1, 1, 0x0⟩
def odu_PM_CFG_COLD_OK : Fl := ⟨0x040, 0x64, 2, 4, 0x0⟩
def odu_EVQ_CFG_EN : Fl := ⟨0x040, 0x68, 0, 1, 0x0⟩
def odu_EVQ_CFG_CLASS : Fl := ⟨0x040, 0x68, 1, 5, 0x1F⟩
def odu_MON_LOAD_LOAD : Fl := ⟨0x040, 0x6C, 0, 12, 0x0⟩
def odu_EVQ_POSTED_C : Ct := ⟨0x040, 0x100, 64⟩
def odu_EVQ_DROP_C : Ct := ⟨0x040, 0x108, 64⟩
def odu_PM_EXPORT_SKIP_C : Ct := ⟨0x040, 0x110, 64⟩
def odu_JC_ERR_C : Ct := ⟨0x040, 0x118, 64⟩
def odu_MAP_SELFCHK_C : Ct := ⟨0x040, 0x120, 64⟩
-- pdef, spec/06
def pdef_PORT_DEF_DEF (i : Nat) : Fl := ⟨0x041, (0x40 + 4 * i), 0, 9, 0x0⟩
-- ctx, spec/06
def ctx_CTX_CMD_INDEX : Fl := ⟨0x060, 0x40, 0, 18, 0x0⟩
def ctx_CTX_CMD_OP : Fl := ⟨0x060, 0x40, 18, 3, 0x0⟩
def ctx_CTX_STATUS_DONE : Fl := ⟨0x060, 0x44, 0, 1, 0x1⟩
def ctx_CTX_STATUS_RESULT : Fl := ⟨0x060, 0x44, 1, 3, 0x0⟩
def ctx_CTX_USED_USED : Fl := ⟨0x060, 0x48, 0, 19, 0x0⟩
def ctx_COMP_USED_USED : Fl := ⟨0x060, 0x4C, 0, 14, 0x0⟩
def ctx_CTX_DATA_DATA (i : Nat) : Fl := ⟨0x060, (0x80 + 4 * i), 0, 32, 0x0⟩
def ctx_UPDATES_C : Ct := ⟨0x060, 0x100, 64⟩
def ctx_CTX_ECC_CORR_C : Ct := ⟨0x060, 0x108, 64⟩
def ctx_CTX_ECC_UNCORR_C : Ct := ⟨0x060, 0x110, 64⟩
-- core, spec/07
def core_CORE_STATUS_FRAME : Fl := ⟨0x080, 0x40, 0, 5, 0x0⟩
def core_CORE_STATUS_ACTIVE : Fl := ⟨0x080, 0x40, 8, 1, 0x0⟩
def core_CORE_STATUS_TRACKING : Fl := ⟨0x080, 0x40, 9, 1, 0x0⟩
def core_CM_CTRL_VIEW : Fl := ⟨0x080, 0x44, 0, 2, 0x0⟩
def core_CM_CMD_OP : Fl := ⟨0x080, 0x48, 0, 3, 0x0⟩
def core_CM_CMD_AT_SF : Fl := ⟨0x080, 0x48, 3, 1, 0x0⟩
def core_CM_FILL_ENTRY : Fl := ⟨0x080, 0x4C, 0, 18, 0x20000⟩
def core_SWAP_SF_SF : Fl := ⟨0x080, 0x50, 0, 32, 0x0⟩
def core_CM_STATUS_STATE : Fl := ⟨0x080, 0x54, 0, 3, 0x0⟩
def core_CM_STATUS_INVALIDATED : Fl := ⟨0x080, 0x54, 3, 1, 0x0⟩
def core_CM_STATUS_RESULT : Fl := ⟨0x080, 0x54, 4, 4, 0x0⟩
def core_CM_VERIFY_FIRST_SU : Fl := ⟨0x080, 0x58, 0, 16, 0x0⟩
def core_CM_VERIFY_FIRST_ERR : Fl := ⟨0x080, 0x58, 16, 4, 0x0⟩
def core_CM_VERIFY_CNT_ERRORS : Fl := ⟨0x080, 0x5C, 0, 16, 0x0⟩
def core_CM_VERIFY_CNT_NOTICES : Fl := ⟨0x080, 0x5C, 16, 16, 0x0⟩
def core_SWAP_SEQ_SEQ : Fl := ⟨0x080, 0x60, 0, 32, 0x0⟩
def core_SWAP_LAST_SF_SF : Fl := ⟨0x080, 0x64, 0, 32, 0x0⟩
def core_SWAP_LAST_FRAME_FRAME : Fl := ⟨0x080, 0x68, 0, 5, 0x0⟩
def core_SF_COUNT_C : Ct := ⟨0x080, 0x100, 64⟩
def core_PAR_IN_TOTAL_C : Ct := ⟨0x080, 0x108, 64⟩
def core_PAR_OUT_TOTAL_C : Ct := ⟨0x080, 0x110, 64⟩
def core_CM_ECC_CORR_C : Ct := ⟨0x080, 0x118, 64⟩
def core_CM_ECC_UNCORR_C : Ct := ⟨0x080, 0x120, 64⟩
-- tpc, spec/07
def tpc_TPC_CFG_SU (i : Nat) : Fl := ⟨0x081, (0x40 + 8 * i), 0, 16, 0x0⟩
def tpc_TPC_CFG_SIDE (i : Nat) : Fl := ⟨0x081, (0x40 + 8 * i), 16, 1, 0x0⟩
def tpc_TPC_CFG_EN (i : Nat) : Fl := ⟨0x081, (0x40 + 8 * i), 17, 1, 0x0⟩
def tpc_TPC_STATUS_SYNC (i : Nat) : Fl := ⟨0x081, (0x44 + 8 * i), 0, 1, 0x0⟩
def tpc_BIT_ERR_C (i : Nat) : Ct := ⟨0x081, (0x100 + 16 * i), 64⟩
def tpc_WORDS_C (i : Nat) : Ct := ⟨0x081, (0x108 + 16 * i), 64⟩
-- pmap, spec/07
def pmap_PMAP_IN_MAP (i : Nat) : Fl := ⟨0x08F, (0x100 + 4 * i), 0, 32, 0x0⟩
def pmap_PMAP_OUT_MAP (i : Nat) : Fl := ⟨0x08F, (0x1900 + 4 * i), 0, 32, 0x0⟩
-- prot, spec/08
def prot_PROT_CFG_SPEC_WIN : Fl := ⟨0x090, 0x40, 0, 7, 0x14⟩
def prot_PROT_CFG_PREC_EN : Fl := ⟨0x090, 0x40, 8, 1, 0x1⟩
def prot_PREC_CFG_STEP_DB (i : Nat) : Fl := ⟨0x090, (0x44 + 4 * i), 0, 4, 0x3⟩
def prot_PREC_CFG_STEP_EN (i : Nat) : Fl := ⟨0x090, (0x44 + 4 * i), 4, 1, 0x1⟩
def prot_PREC_CFG_PILOT_PCT (i : Nat) : Fl := ⟨0x090, (0x44 + 4 * i), 8, 5, 0xA⟩
def prot_PREC_CFG_PILOT_EN (i : Nat) : Fl := ⟨0x090, (0x44 + 4 * i), 13, 1, 0x1⟩
def prot_PREC_CFG_SURGE_THR (i : Nat) : Fl := ⟨0x090, (0x44 + 4 * i), 16, 8, 0x14⟩
def prot_PREC_CFG_SURGE_EN (i : Nat) : Fl := ⟨0x090, (0x44 + 4 * i), 24, 1, 0x1⟩
def prot_LANE_PREC_CDR_EN : Fl := ⟨0x090, 0x4C, 0, 1, 0x1⟩
def prot_SKEW_CFG_STACKS : Fl := ⟨0x090, 0x50, 0, 4, 0xF⟩
def prot_ADMIT_CMD_INDEX : Fl := ⟨0x090, 0x54, 0, 18, 0x0⟩
def prot_ADMIT_CMD_OP : Fl := ⟨0x090, 0x54, 18, 3, 0x0⟩
def prot_ADMIT_STATUS_DONE : Fl := ⟨0x090, 0x58, 0, 1, 0x1⟩
def prot_ADMIT_STATUS_RESULT : Fl := ⟨0x090, 0x58, 1, 3, 0x0⟩
def prot_ADMIT_STATUS_NEED : Fl := ⟨0x090, 0x58, 16, 16, 0x0⟩
def prot_LOAD_SU_LOAD : Fl := ⟨0x090, 0x5C, 0, 15, 0x0⟩
def prot_BLOCKS_BLOCKS (i : Nat) : Fl := ⟨0x090, (0x60 + 4 * i), 0, 14, 0x0⟩
def prot_INDEX_USED_USED : Fl := ⟨0x090, 0x70, 0, 21, 0x0⟩
def prot_SWLOG_WR_WR : Fl := ⟨0x090, 0x74, 0, 32, 0x0⟩
def prot_SWITCHES_C : Ct := ⟨0x090, 0x100, 64⟩
def prot_ALIGN_LOSS_C : Ct := ⟨0x090, 0x108, 64⟩
def prot_SKEW_ECC_CORR_C : Ct := ⟨0x090, 0x110, 64⟩
def prot_SKEW_ECC_UNCORR_C : Ct := ⟨0x090, 0x118, 64⟩
def prot_ADMIT_REFUSED_C : Ct := ⟨0x090, 0x120, 64⟩
-- swl, spec/08
def swl_SWLOG_DW (i : Nat) : Fl := ⟨0x091, (0x1000 + 4 * i), 0, 32, 0x0⟩
-- bond, spec/08
def bond_CBOND_CTRL_EN : Fl := ⟨0x092, 0x40, 0, 1, 0x0⟩
def bond_CBOND_STATUS_ALIGNED : Fl := ⟨0x092, 0x44, 0, 1, 0x0⟩
def bond_CBOND_STATUS_EARLY : Fl := ⟨0x092, 0x44, 1, 1, 0x0⟩
def bond_CBOND_STATUS_SKEW_OVER : Fl := ⟨0x092, 0x44, 2, 1, 0x0⟩
def bond_CBOND_STATUS_SKEW : Fl := ⟨0x092, 0x44, 11, 21, 0x0⟩
def bond_SLB_CFG_FIRST (i : Nat) : Fl := ⟨0x092, (0x100 + 8 * i), 0, 8, 0x0⟩
def bond_SLB_CFG_COUNT (i : Nat) : Fl := ⟨0x092, (0x100 + 8 * i), 8, 5, 0x0⟩
def bond_SLB_CFG_EN (i : Nat) : Fl := ⟨0x092, (0x100 + 8 * i), 13, 1, 0x0⟩
def bond_SLB_CFG_SKEW_MAX (i : Nat) : Fl := ⟨0x092, (0x100 + 8 * i), 16, 10, 0x320⟩
def bond_SLB_STATUS_ALIGNED (i : Nat) : Fl := ⟨0x092, (0x104 + 8 * i), 0, 1, 0x0⟩
def bond_SLB_STATUS_PROV (i : Nat) : Fl := ⟨0x092, (0x104 + 8 * i), 1, 1, 0x0⟩
def bond_SLB_STATUS_SKEW_OVER (i : Nat) : Fl := ⟨0x092, (0x104 + 8 * i), 2, 1, 0x0⟩
def bond_SLB_STATUS_SKEW (i : Nat) : Fl := ⟨0x092, (0x104 + 8 * i), 6, 10, 0x0⟩
def bond_SLB_STATUS_IN_FRAME (i : Nat) : Fl := ⟨0x092, (0x104 + 8 * i), 16, 16, 0x0⟩
-- prec, spec/08
def prec_PREC_STATUS_PREC (i : Nat) : Fl := ⟨0x093, (0x40 + 4 * i), 0, 4, 0x0⟩
-- mem, spec/08
def mem_MEM_STATUS_TRAINED (i : Nat) : Fl := ⟨(0x2B0 + i), 0x40, 0, 1, 0x0⟩
def mem_MEM_STATUS_ECC_INIT (i : Nat) : Fl := ⟨(0x2B0 + i), 0x40, 1, 1, 0x0⟩
def mem_MEM_STATUS_TEMP (i : Nat) : Fl := ⟨(0x2B0 + i), 0x40, 8, 8, 0x0⟩
def mem_SCRUB_CFG_PERIOD (i : Nat) : Fl := ⟨(0x2B0 + i), 0x44, 0, 16, 0x18⟩
def mem_SCRUB_CFG_SCRUB_EN (i : Nat) : Fl := ⟨(0x2B0 + i), 0x44, 16, 1, 0x1⟩
def mem_MTEST_CMD_OP (i : Nat) : Fl := ⟨(0x2B0 + i), 0x48, 0, 2, 0x0⟩
def mem_MTEST_STATUS_STATE (i : Nat) : Fl := ⟨(0x2B0 + i), 0x4C, 0, 2, 0x0⟩
def mem_MTEST_STATUS_FAIL_BLK (i : Nat) : Fl := ⟨(0x2B0 + i), 0x4C, 2, 30, 0x0⟩
def mem_ECC_CORR_C (i : Nat) : Ct := ⟨(0x2B0 + i), 0x100, 64⟩
def mem_ECC_UNCORR_C (i : Nat) : Ct := ⟨(0x2B0 + i), 0x108, 64⟩
def mem_RD_BYTES_C (i : Nat) : Ct := ⟨(0x2B0 + i), 0x110, 64⟩
def mem_WR_BYTES_C (i : Nat) : Ct := ⟨(0x2B0 + i), 0x118, 64⟩
def mem_SCRUB_PASSES_C (i : Nat) : Ct := ⟨(0x2B0 + i), 0x120, 64⟩
-- lane, spec/09
def lane_LANE_CFG_FORMAT (n : Nat) : Fl := ⟨(0x100 + n), 0x40, 0, 3, 0x3⟩
def lane_LANE_CFG_MOD (n : Nat) : Fl := ⟨(0x100 + n), 0x40, 3, 1, 0x1⟩
def lane_LANE_CFG_PLL_SEL (n : Nat) : Fl := ⟨(0x100 + n), 0x40, 4, 1, 0x0⟩
def lane_LANE_CFG_DIV (n : Nat) : Fl := ⟨(0x100 + n), 0x40, 5, 2, 0x0⟩
def lane_LANE_CFG_TX_POL (n : Nat) : Fl := ⟨(0x100 + n), 0x40, 8, 1, 0x0⟩
def lane_LANE_CFG_RX_POL (n : Nat) : Fl := ⟨(0x100 + n), 0x40, 9, 1, 0x0⟩
def lane_LANE_CFG_PRECODE (n : Nat) : Fl := ⟨(0x100 + n), 0x40, 10, 2, 0x0⟩
def lane_LANE_CTRL_DP_EN (n : Nat) : Fl := ⟨(0x100 + n), 0x44, 0, 1, 0x0⟩
def lane_LANE_CTRL_TX_EN (n : Nat) : Fl := ⟨(0x100 + n), 0x44, 1, 1, 0x0⟩
def lane_LANE_CTRL_TX_MODE (n : Nat) : Fl := ⟨(0x100 + n), 0x44, 2, 2, 0x0⟩
def lane_LANE_CTRL_RX_SLEEP (n : Nat) : Fl := ⟨(0x100 + n), 0x44, 4, 1, 0x0⟩
def lane_TRAIN_CFG_PROTO (n : Nat) : Fl := ⟨(0x100 + n), 0x48, 0, 2, 0x0⟩
def lane_TRAIN_CFG_RETRY_EN (n : Nat) : Fl := ⟨(0x100 + n), 0x48, 2, 1, 0x1⟩
def lane_TRAIN_CFG_TIMEOUT (n : Nat) : Fl := ⟨(0x100 + n), 0x48, 4, 7, 0xA⟩
def lane_TRAIN_CFG_INIT_PRESET (n : Nat) : Fl := ⟨(0x100 + n), 0x48, 11, 2, 0x2⟩
def lane_TRAIN_CMD_OP (n : Nat) : Fl := ⟨(0x100 + n), 0x4C, 0, 2, 0x0⟩
def lane_TRAIN_STATUS_STATE (n : Nat) : Fl := ⟨(0x100 + n), 0x50, 0, 4, 0x0⟩
def lane_TRAIN_STATUS_REASON (n : Nat) : Fl := ⟨(0x100 + n), 0x50, 4, 3, 0x0⟩
def lane_TRAIN_STATUS_ATTEMPT (n : Nat) : Fl := ⟨(0x100 + n), 0x50, 8, 8, 0x0⟩
def lane_TRAIN_STATUS_BACKOFF (n : Nat) : Fl := ⟨(0x100 + n), 0x50, 16, 3, 0x0⟩
def lane_TRAIN_STATUS_PRECODE_TX (n : Nat) : Fl := ⟨(0x100 + n), 0x50, 19, 1, 0x0⟩
def lane_TRAIN_STATUS_PRECODE_RX (n : Nat) : Fl := ⟨(0x100 + n), 0x50, 20, 1, 0x0⟩
def lane_TRAIN_STATUS_REM_RX_READY (n : Nat) : Fl := ⟨(0x100 + n), 0x50, 21, 1, 0x0⟩
def lane_TX_FIR_CM3 (n : Nat) : Fl := ⟨(0x100 + n), 0x54, 0, 4, 0x0⟩
def lane_TX_FIR_CM2 (n : Nat) : Fl := ⟨(0x100 + n), 0x54, 4, 5, 0x0⟩
def lane_TX_FIR_CM1 (n : Nat) : Fl := ⟨(0x100 + n), 0x54, 9, 6, 0x3A⟩
def lane_TX_FIR_C1 (n : Nat) : Fl := ⟨(0x100 + n), 0x54, 15, 5, 0x1C⟩
def lane_TX_FIR_C2 (n : Nat) : Fl := ⟨(0x100 + n), 0x54, 20, 4, 0x0⟩
def lane_TX_FIR_C0 (n : Nat) : Fl := ⟨(0x100 + n), 0x54, 24, 7, 0x36⟩
def lane_RX_CFG_LOS_THR (n : Nat) : Fl := ⟨(0x100 + n), 0x58, 0, 8, 0x3C⟩
def lane_RX_CFG_IDLE_HOLD (n : Nat) : Fl := ⟨(0x100 + n), 0x58, 8, 8, 0x64⟩
def lane_RX_STATUS_SIG (n : Nat) : Fl := ⟨(0x100 + n), 0x5C, 0, 1, 0x0⟩
def lane_RX_STATUS_CDR_LOCK (n : Nat) : Fl := ⟨(0x100 + n), 0x5C, 1, 1, 0x0⟩
def lane_RX_STATUS_FROZEN (n : Nat) : Fl := ⟨(0x100 + n), 0x5C, 2, 1, 0x0⟩
def lane_RX_STATUS_EQ_CONV (n : Nat) : Fl := ⟨(0x100 + n), 0x5C, 3, 1, 0x0⟩
def lane_RX_STATUS_TX_STATE (n : Nat) : Fl := ⟨(0x100 + n), 0x5C, 4, 2, 0x1⟩
def lane_RX_STATUS_RX_ASLEEP (n : Nat) : Fl := ⟨(0x100 + n), 0x5C, 6, 1, 0x0⟩
def lane_FRM_CFG_CONF_N (n : Nat) : Fl := ⟨(0x100 + n), 0x60, 0, 3, 0x2⟩
def lane_FRM_CFG_REEL_EN (n : Nat) : Fl := ⟨(0x100 + n), 0x60, 4, 1, 0x1⟩
def lane_FRM_CFG_GALOP_LEN (n : Nat) : Fl := ⟨(0x100 + n), 0x60, 8, 6, 0x10⟩
def lane_FRM_STATUS_STATE (n : Nat) : Fl := ⟨(0x100 + n), 0x64, 0, 2, 0x0⟩
def lane_FRM_STATUS_HYP_CNT (n : Nat) : Fl := ⟨(0x100 + n), 0x64, 2, 3, 0x0⟩
def lane_FRM_STATUS_PROV (n : Nat) : Fl := ⟨(0x100 + n), 0x64, 7, 1, 0x0⟩
def lane_FRM_STATUS_REM_IN_FRAME (n : Nat) : Fl := ⟨(0x100 + n), 0x64, 8, 1, 0x0⟩
def lane_FRM_STATUS_REM_SIG (n : Nat) : Fl := ⟨(0x100 + n), 0x64, 9, 1, 0x0⟩
def lane_TEST_CTRL_LOOP (n : Nat) : Fl := ⟨(0x100 + n), 0x68, 0, 2, 0x0⟩
def lane_TEST_CTRL_GEN_EN (n : Nat) : Fl := ⟨(0x100 + n), 0x68, 2, 1, 0x0⟩
def lane_TEST_CTRL_CHK_EN (n : Nat) : Fl := ⟨(0x100 + n), 0x68, 3, 1, 0x0⟩
def lane_TEST_CTRL_POLY (n : Nat) : Fl := ⟨(0x100 + n), 0x68, 4, 1, 0x0⟩
def lane_EYE_CMD_OP (n : Nat) : Fl := ⟨(0x100 + n), 0x6C, 0, 2, 0x0⟩
def lane_EYE_CMD_EYE (n : Nat) : Fl := ⟨(0x100 + n), 0x6C, 2, 2, 0x0⟩
def lane_EYE_CMD_PHASE (n : Nat) : Fl := ⟨(0x100 + n), 0x6C, 4, 6, 0x0⟩
def lane_EYE_CMD_VOLT (n : Nat) : Fl := ⟨(0x100 + n), 0x6C, 10, 8, 0x0⟩
def lane_EYE_CMD_DWELL (n : Nat) : Fl := ⟨(0x100 + n), 0x6C, 18, 4, 0x0⟩
def lane_EYE_STATUS_DONE (n : Nat) : Fl := ⟨(0x100 + n), 0x70, 0, 1, 0x1⟩
def lane_EYE_STATUS_VALID (n : Nat) : Fl := ⟨(0x100 + n), 0x70, 1, 1, 0x0⟩
def lane_EYE_ERR_ERRORS (n : Nat) : Fl := ⟨(0x100 + n), 0x74, 0, 32, 0x0⟩
def lane_RX_EQ_DC_GAIN (n : Nat) : Fl := ⟨(0x100 + n), 0x78, 0, 5, 0x0⟩
def lane_RX_EQ_PEAK (n : Nat) : Fl := ⟨(0x100 + n), 0x78, 5, 6, 0x0⟩
def lane_RX_EQ_DFE1 (n : Nat) : Fl := ⟨(0x100 + n), 0x78, 11, 8, 0x0⟩
def lane_FEC_CW_C (n : Nat) : Ct := ⟨(0x100 + n), 0x100, 64⟩
def lane_FEC_CORR_SYM_C (n : Nat) : Ct := ⟨(0x100 + n), 0x108, 64⟩
def lane_FEC_UNCORR_C (n : Nat) : Ct := ⟨(0x100 + n), 0x110, 64⟩
def lane_OOF_CNT_C (n : Nat) : Ct := ⟨(0x100 + n), 0x118, 64⟩
def lane_SIG_LOSS_CNT_C (n : Nat) : Ct := ⟨(0x100 + n), 0x120, 64⟩
def lane_CDR_UNLOCK_C (n : Nat) : Ct := ⟨(0x100 + n), 0x128, 64⟩
def lane_TRAIN_ATTEMPTS_C (n : Nat) : Ct := ⟨(0x100 + n), 0x130, 64⟩
def lane_NO_ACK_C (n : Nat) : Ct := ⟨(0x100 + n), 0x138, 64⟩
def lane_HDR_BAD_C (n : Nat) : Ct := ⟨(0x100 + n), 0x140, 64⟩
def lane_FC_ERR_C (n : Nat) : Ct := ⟨(0x100 + n), 0x148, 64⟩
def lane_SL_OVF_C (n : Nat) : Ct := ⟨(0x100 + n), 0x150, 64⟩
def lane_PRBS_BITS_C (n : Nat) : Ct := ⟨(0x100 + n), 0x158, 64⟩
def lane_PRBS_ERR_C (n : Nat) : Ct := ⟨(0x100 + n), 0x160, 64⟩
-- oct, spec/09
def oct_PLL_A_RATE_SEL (k : Nat) : Fl := ⟨(0x200 + k), 0x40, 0, 3, 0x1⟩
def oct_PLL_A_LOCK (k : Nat) : Fl := ⟨(0x200 + k), 0x40, 3, 1, 0x0⟩
def oct_PLL_A_CUSTOM_KBD (k : Nat) : Fl := ⟨(0x200 + k), 0x40, 4, 27, 0x0⟩
def oct_PLL_B_RATE_SEL (k : Nat) : Fl := ⟨(0x200 + k), 0x44, 0, 3, 0x0⟩
def oct_PLL_B_LOCK (k : Nat) : Fl := ⟨(0x200 + k), 0x44, 3, 1, 0x0⟩
def oct_PLL_B_CUSTOM_KBD (k : Nat) : Fl := ⟨(0x200 + k), 0x44, 4, 27, 0x0⟩
-- fr, spec/10
def fr_FR_CFG_FP_MASTER : Fl := ⟨0x220, 0x40, 0, 1, 0x0⟩
def fr_FR_CFG_FP_WINDOW : Fl := ⟨0x220, 0x40, 8, 8, 0x10⟩
def fr_FR_CFG_FP_HOLD : Fl := ⟨0x220, 0x40, 16, 8, 0xA⟩
def fr_FR_OFFSET_FP_OFFSET : Fl := ⟨0x220, 0x44, 0, 17, 0x0⟩
def fr_FR_STATUS_FP_PRESENT : Fl := ⟨0x220, 0x48, 0, 1, 0x0⟩
def fr_FR_STATUS_FP_ALIGNED : Fl := ⟨0x220, 0x48, 1, 1, 0x0⟩
def fr_FR_STATUS_SQUELCH : Fl := ⟨0x220, 0x48, 2, 1, 0x0⟩
def fr_FR_STATUS_FP_PHASE : Fl := ⟨0x220, 0x48, 16, 16, 0x0⟩
def fr_FR_MFI_TX_MFI : Fl := ⟨0x220, 0x4C, 0, 8, 0x0⟩
def fr_FP_REALIGN_CNT_C : Ct := ⟨0x220, 0x100, 64⟩
def fr_SLIP_TOTAL_C : Ct := ⟨0x220, 0x108, 64⟩
-- frs, spec/10
def frs_SLOT_STATUS_RX_EQ (g : Nat) (i : Nat) : Fl := ⟨(0x222 + g), (0x40 + 4 * i), 0, 8, 0x0⟩
def frs_SLOT_STATUS_TRK (g : Nat) (i : Nat) : Fl := ⟨(0x222 + g), (0x40 + 4 * i), 8, 8, 0x0⟩
def frs_SLOT_STATUS_RUN (g : Nat) (i : Nat) : Fl := ⟨(0x222 + g), (0x40 + 4 * i), 16, 8, 0x0⟩
def frs_SLIP_REP_C (g : Nat) (i : Nat) : Ct := ⟨(0x222 + g), (0x200 + 4 * i), 32⟩
def frs_SLIP_DROP_C (g : Nat) (i : Nat) : Ct := ⟨(0x222 + g), (0xA00 + 4 * i), 32⟩
def frs_MFI_ERR_C (g : Nat) (i : Nat) : Ct := ⟨(0x222 + g), (0x1200 + 4 * i), 32⟩
def frs_VBAD_C (g : Nat) (i : Nat) : Ct := ⟨(0x222 + g), (0x1300 + 4 * i), 32⟩
-- tim, spec/11
def tim_DPLL_CFG_OPTION : Fl := ⟨0x240, 0x40, 0, 1, 0x0⟩
def tim_DPLL_CFG_BW : Fl := ⟨0x240, 0x40, 1, 2, 0x0⟩
def tim_DPLL_CFG_REVERT : Fl := ⟨0x240, 0x40, 3, 1, 0x1⟩
def tim_DPLL_CFG_MODE : Fl := ⟨0x240, 0x40, 4, 2, 0x0⟩
def tim_DPLL_CFG_FORCE_REF : Fl := ⟨0x240, 0x40, 6, 4, 0x0⟩
def tim_DPLL_CFG_HOLD_LIMIT : Fl := ⟨0x240, 0x40, 16, 11, 0x5A0⟩
def tim_DPLL_CFG2_SLOPE_LIM : Fl := ⟨0x240, 0x44, 0, 7, 0x4B⟩
def tim_MON_CFG_WARN : Fl := ⟨0x240, 0x48, 0, 11, 0x258⟩
def tim_MON_CFG_DISQ : Fl := ⟨0x240, 0x48, 16, 11, 0x398⟩
def tim_DPLL_STATUS_STATE : Fl := ⟨0x240, 0x4C, 0, 3, 0x0⟩
def tim_DPLL_STATUS_SEL_REF : Fl := ⟨0x240, 0x4C, 4, 4, 0xF⟩
def tim_DPLL_STATUS_HIST_VALID : Fl := ⟨0x240, 0x4C, 8, 1, 0x0⟩
def tim_DPLL_STATUS_RAMP : Fl := ⟨0x240, 0x4C, 9, 1, 0x0⟩
def tim_DPLL_STATUS_EVER_QUAL : Fl := ⟨0x240, 0x4C, 10, 1, 0x0⟩
def tim_DPLL_STATUS_TWIN_OVR : Fl := ⟨0x240, 0x4C, 11, 1, 0x0⟩
def tim_DPLL_STATUS_HOLD_MIN : Fl := ⟨0x240, 0x4C, 16, 16, 0x0⟩
def tim_DPLL_FFO_FFO : Fl := ⟨0x240, 0x50, 0, 32, 0x0⟩
def tim_HIST_FFO_FFO : Fl := ⟨0x240, 0x54, 0, 32, 0x0⟩
def tim_OUT_CFG_FREQ0 : Fl := ⟨0x240, 0x58, 0, 3, 0x3⟩
def tim_OUT_CFG_SRC0 : Fl := ⟨0x240, 0x58, 3, 1, 0x0⟩
def tim_OUT_CFG_RCV0 : Fl := ⟨0x240, 0x58, 4, 2, 0x0⟩
def tim_OUT_CFG_SQUELCH0 : Fl := ⟨0x240, 0x58, 6, 1, 0x1⟩
def tim_OUT_CFG_EN0 : Fl := ⟨0x240, 0x58, 7, 1, 0x0⟩
def tim_OUT_CFG_OUT1 : Fl := ⟨0x240, 0x58, 8, 8, 0x43⟩
def tim_OUT_CFG_PPS_EN : Fl := ⟨0x240, 0x58, 16, 1, 0x0⟩
def tim_RCV_SEL_PORT (i : Nat) : Fl := ⟨0x240, (0x5C + 4 * i), 0, 9, 0x1FF⟩
def tim_REF_SWITCHES_C : Ct := ⟨0x240, 0x100, 64⟩
def tim_HOLDOVER_ENTRIES_C : Ct := ⟨0x240, 0x108, 64⟩
def tim_HOLDOVER_SECONDS_C : Ct := ⟨0x240, 0x110, 64⟩
def tim_LOST_ENTRIES_C : Ct := ⟨0x240, 0x118, 64⟩
-- ref, spec/11
def ref_REF_CFG_PRIO (i : Nat) : Fl := ⟨0x241, (0x40 + 8 * i), 0, 4, 0x0⟩
def ref_REF_CFG_FREQ (i : Nat) : Fl := ⟨0x241, (0x40 + 8 * i), 4, 3, 0x3⟩
def ref_REF_CFG_WTR (i : Nat) : Fl := ⟨0x241, (0x40 + 8 * i), 8, 10, 0x12C⟩
def ref_REF_CFG8_PRIO : Fl := ⟨0x241, 0x80, 0, 4, 0x0⟩
def ref_REF_CFG8_FREQ : Fl := ⟨0x241, 0x80, 4, 3, 0x3⟩
def ref_REF_CFG8_WTR : Fl := ⟨0x241, 0x80, 8, 10, 0x0⟩
def ref_REF_STATUS_ACTIVITY (i : Nat) : Fl := ⟨0x241, (0x44 + 8 * i), 0, 1, 0x0⟩
def ref_REF_STATUS_GROSS (i : Nat) : Fl := ⟨0x241, (0x44 + 8 * i), 1, 1, 0x0⟩
def ref_REF_STATUS_WARN (i : Nat) : Fl := ⟨0x241, (0x44 + 8 * i), 2, 1, 0x0⟩
def ref_REF_STATUS_DISQ (i : Nat) : Fl := ⟨0x241, (0x44 + 8 * i), 3, 1, 0x0⟩
def ref_REF_STATUS_WINDOW_FULL (i : Nat) : Fl := ⟨0x241, (0x44 + 8 * i), 4, 1, 0x0⟩
def ref_REF_STATUS_SRC_FAIL (i : Nat) : Fl := ⟨0x241, (0x44 + 8 * i), 5, 1, 0x0⟩
def ref_REF_STATUS_LOCK_FAIL (i : Nat) : Fl := ⟨0x241, (0x44 + 8 * i), 6, 1, 0x0⟩
def ref_REF_STATUS_VALID (i : Nat) : Fl := ⟨0x241, (0x44 + 8 * i), 7, 1, 0x0⟩
def ref_REF_STATUS_ELIGIBLE (i : Nat) : Fl := ⟨0x241, (0x44 + 8 * i), 8, 1, 0x0⟩
def ref_REF_STATUS_SELECTED (i : Nat) : Fl := ⟨0x241, (0x44 + 8 * i), 9, 1, 0x0⟩
def ref_REF_STATUS_WTR_LEFT (i : Nat) : Fl := ⟨0x241, (0x44 + 8 * i), 16, 16, 0x0⟩
def ref_REF_FFO_FFO (i : Nat) : Fl := ⟨0x241, (0xC0 + 4 * i), 0, 32, 0x0⟩
def ref_DISQ_CNT_C (i : Nat) : Ct := ⟨0x241, (0x200 + 4 * i), 32⟩
-- twin, spec/12
def twin_TWIN_CFG_AUTO_EN : Fl := ⟨0x250, 0x40, 0, 1, 0x1⟩
def twin_TWIN_CFG_CMP_EN : Fl := ⟨0x250, 0x40, 1, 1, 0x1⟩
def twin_TWIN_CFG_CMP_PERSIST : Fl := ⟨0x250, 0x40, 2, 3, 0x2⟩
def twin_TWIN_CFG_COPY_EN : Fl := ⟨0x250, 0x40, 5, 1, 0x1⟩
def twin_TWIN_CMD_OP : Fl := ⟨0x250, 0x44, 0, 3, 0x0⟩
def twin_TWIN_STATUS_LINK : Fl := ⟨0x250, 0x48, 0, 3, 0x0⟩
def twin_TWIN_STATUS_SIDE : Fl := ⟨0x250, 0x48, 3, 1, 0x0⟩
def twin_TWIN_STATUS_PARTNER : Fl := ⟨0x250, 0x48, 4, 2, 0x0⟩
def twin_TWIN_STATUS_ELIGIBLE : Fl := ⟨0x250, 0x48, 6, 1, 0x0⟩
def twin_TWIN_STATUS_SF_ALIGNED : Fl := ⟨0x250, 0x48, 7, 1, 0x0⟩
def twin_TWIN_STATUS_TWIN_ABSENT : Fl := ⟨0x250, 0x48, 8, 1, 0x0⟩
def twin_TWIN_STATUS_INTERLOCK_FAULT : Fl := ⟨0x250, 0x48, 9, 1, 0x0⟩
def twin_TWIN_STATUS_DISAGREE : Fl := ⟨0x250, 0x48, 10, 1, 0x0⟩
def twin_TWIN_STATUS_SIDE_CONFLICT : Fl := ⟨0x250, 0x48, 11, 1, 0x0⟩
def twin_TWIN_STATUS_RESYNC : Fl := ⟨0x250, 0x48, 12, 1, 0x0⟩
def twin_TWIN_STATUS_STALE_CAUSE : Fl := ⟨0x250, 0x48, 16, 4, 0x0⟩
def twin_TWIN_STATUS_PARTNER_MODE : Fl := ⟨0x250, 0x48, 20, 4, 0x0⟩
def twin_INTERLOCK_A_IN : Fl := ⟨0x250, 0x4C, 0, 2, 0x0⟩
def twin_INTERLOCK_B_IN : Fl := ⟨0x250, 0x4C, 2, 2, 0x0⟩
def twin_INTERLOCK_A_OUT : Fl := ⟨0x250, 0x4C, 4, 2, 0x0⟩
def twin_INTERLOCK_B_OUT : Fl := ⟨0x250, 0x4C, 6, 2, 0x0⟩
def twin_INTERLOCK_SEL_O : Fl := ⟨0x250, 0x4C, 8, 1, 0x0⟩
def twin_SF_TRACK_PHASE : Fl := ⟨0x250, 0x50, 0, 16, 0x0⟩
def twin_SF_TRACK_LATENCY : Fl := ⟨0x250, 0x50, 16, 16, 0x0⟩
def twin_SF_OFS_OFS : Fl := ⟨0x250, 0x54, 0, 32, 0x0⟩
def twin_APPLIED_SF_SF : Fl := ⟨0x250, 0x58, 0, 32, 0xFFFFFFFF⟩
def twin_JRNL_ROOM_URGENT : Fl := ⟨0x250, 0x5C, 0, 14, 0x0⟩
def twin_JRNL_ROOM_BACKLOG : Fl := ⟨0x250, 0x5C, 16, 14, 0x0⟩
def twin_SWITCHOVERS_C : Ct := ⟨0x250, 0x100, 64⟩
def twin_RESYNCS_C : Ct := ⟨0x250, 0x108, 64⟩
def twin_OVERRUNS_C : Ct := ⟨0x250, 0x110, 64⟩
def twin_DEFER_CYCLES_C : Ct := ⟨0x250, 0x118, 64⟩
def twin_MSG_BAD_C : Ct := ⟨0x250, 0x120, 64⟩
def twin_LINK_DOWNS_C : Ct := ⟨0x250, 0x128, 64⟩
def twin_MISMATCH_WIN_C : Ct := ⟨0x250, 0x130, 64⟩
def twin_DIVERGE_C : Ct := ⟨0x250, 0x138, 64⟩
-- cmp, spec/12
def cmp_CMP_STATUS_FIRST_SU : Fl := ⟨0x251, 0x40, 0, 16, 0x0⟩
def cmp_CMP_STATUS_BLAME : Fl := ⟨0x251, 0x40, 16, 2, 0x0⟩
-- ez, spec/12
def ez_EZ_STATUS_SIG (i : Nat) : Fl := ⟨0x252, (0x40 + 4 * i), 0, 1, 0x0⟩
def ez_EZ_STATUS_AM_LOCK (i : Nat) : Fl := ⟨0x252, (0x40 + 4 * i), 1, 1, 0x0⟩
def ez_EZ_STATUS_CONVERGED (i : Nat) : Fl := ⟨0x252, (0x40 + 4 * i), 2, 1, 0x0⟩
def ez_EZ_STATUS_ERLE (i : Nat) : Fl := ⟨0x252, (0x40 + 4 * i), 3, 8, 0x0⟩
def ez_EZ_STATUS_SKEW (i : Nat) : Fl := ⟨0x252, (0x40 + 4 * i), 16, 16, 0x0⟩
def ez_FEC_CW_C (i : Nat) : Ct := ⟨0x252, (0x100 + 32 * i), 64⟩
def ez_FEC_CORR_SYM_C (i : Nat) : Ct := ⟨0x252, (0x108 + 32 * i), 64⟩
def ez_FEC_UNCORR_C (i : Nat) : Ct := ⟨0x252, (0x110 + 32 * i), 64⟩
-- pcie, spec/14
def pcie_LINK_STATUS_GEN : Fl := ⟨0x260, 0x40, 0, 4, 0x0⟩
def pcie_LINK_STATUS_WIDTH : Fl := ⟨0x260, 0x40, 4, 5, 0x0⟩
def pcie_LINK_STATUS_UP : Fl := ⟨0x260, 0x40, 9, 1, 0x0⟩
def pcie_LINK_STATUS_FLIT : Fl := ⟨0x260, 0x40, 10, 1, 0x0⟩
def pcie_LINK_CFG_MAX_GEN : Fl := ⟨0x260, 0x44, 0, 3, 0x7⟩
def pcie_INT_REARM_VEC : Fl := ⟨0x260, 0x48, 0, 11, 0x0⟩
def pcie_INT_REARM_PF : Fl := ⟨0x260, 0x48, 11, 1, 0x0⟩
def pcie_LINK_DOWNS_C : Ct := ⟨0x260, 0x100, 64⟩
def pcie_UR_SENT_C : Ct := ⟨0x260, 0x108, 64⟩
def pcie_MSIX_SENT_C : Ct := ⟨0x260, 0x110, 64⟩
-- dma, spec/14
def dma_CH_BASE_LO_BASE (i : Nat) : Fl := ⟨0x261, (0x400 + 64 * i), 6, 26, 0x0⟩
def dma_CH_BASE_HI_BASE (i : Nat) : Fl := ⟨0x261, (0x404 + 64 * i), 0, 32, 0x0⟩
def dma_CH_CFG_LOG2_SIZE (i : Nat) : Fl := ⟨0x261, (0x408 + 64 * i), 0, 5, 0x4⟩
def dma_CH_CFG_EN (i : Nat) : Fl := ⟨0x261, (0x408 + 64 * i), 8, 1, 0x0⟩
def dma_CH_TAIL_TAIL (i : Nat) : Fl := ⟨0x261, (0x40C + 64 * i), 0, 16, 0x0⟩
def dma_CH_HEAD_HEAD (i : Nat) : Fl := ⟨0x261, (0x410 + 64 * i), 0, 16, 0x0⟩
def dma_CH_STATUS_STATE (i : Nat) : Fl := ⟨0x261, (0x414 + 64 * i), 0, 3, 0x0⟩
def dma_CH_STATUS_LAST (i : Nat) : Fl := ⟨0x261, (0x414 + 64 * i), 4, 4, 0x0⟩
def dma_CH_WB_LO_WB (i : Nat) : Fl := ⟨0x261, (0x418 + 64 * i), 0, 32, 0x0⟩
def dma_CH_WB_HI_WB (i : Nat) : Fl := ⟨0x261, (0x41C + 64 * i), 0, 32, 0x0⟩
def dma_DESC_DONE_C : Ct := ⟨0x261, 0x100, 64⟩
def dma_DESC_ERR_C : Ct := ⟨0x261, 0x108, 64⟩
def dma_BYTES_H2D_C : Ct := ⟨0x261, 0x110, 64⟩
def dma_BYTES_D2H_C : Ct := ⟨0x261, 0x118, 64⟩
-- ring, spec/14
def ring_EVR_BASE_LO_BASE : Fl := ⟨0x262, 0x40, 6, 26, 0x0⟩
def ring_EVR_BASE_HI_BASE : Fl := ⟨0x262, 0x44, 0, 32, 0x0⟩
def ring_EVR_CFG_LOG2_SIZE : Fl := ⟨0x262, 0x48, 0, 5, 0x8⟩
def ring_EVR_CFG_EN : Fl := ⟨0x262, 0x48, 8, 1, 0x0⟩
def ring_EVR_CFG_COAL : Fl := ⟨0x262, 0x48, 16, 8, 0xA⟩
def ring_EVR_CONS_CONS : Fl := ⟨0x262, 0x4C, 0, 32, 0x0⟩
def ring_EVR_PROD_PROD : Fl := ⟨0x262, 0x50, 0, 32, 0x0⟩
def ring_EVR_WB_LO_WB : Fl := ⟨0x262, 0x54, 0, 32, 0x0⟩
def ring_EVR_WB_HI_WB : Fl := ⟨0x262, 0x58, 0, 32, 0x0⟩
def ring_PMR_BASE_LO_BASE : Fl := ⟨0x262, 0x60, 6, 26, 0x0⟩
def ring_PMR_BASE_HI_BASE : Fl := ⟨0x262, 0x64, 0, 32, 0x0⟩
def ring_PMR_CFG_LOG2_SIZE : Fl := ⟨0x262, 0x68, 0, 5, 0xC⟩
def ring_PMR_CFG_EN : Fl := ⟨0x262, 0x68, 8, 1, 0x0⟩
def ring_PMR_CONS_CONS : Fl := ⟨0x262, 0x6C, 0, 32, 0x0⟩
def ring_PMR_PROD_PROD : Fl := ⟨0x262, 0x70, 0, 32, 0x0⟩
def ring_PMR_WB_LO_WB : Fl := ⟨0x262, 0x74, 0, 32, 0x0⟩
def ring_PMR_WB_HI_WB : Fl := ⟨0x262, 0x78, 0, 32, 0x0⟩
def ring_EVR_RECORDS_C : Ct := ⟨0x262, 0x100, 64⟩
def ring_PM_SECONDS_C : Ct := ⟨0x262, 0x108, 64⟩
-- mx, spec/15
def mx_MX_CFG_AGE_LIMIT : Fl := ⟨0x270, 0x40, 0, 8, 0x14⟩
def mx_MX_ERR_ADDR_LO_ADDR : Fl := ⟨0x270, 0x44, 0, 32, 0x0⟩
def mx_MX_ERR_ADDR_HI_ADDR : Fl := ⟨0x270, 0x48, 0, 8, 0x0⟩
def mx_MX_TORN_MASTER : Fl := ⟨0x270, 0x4C, 0, 4, 0x0⟩
def mx_MX_TORN_TARGET : Fl := ⟨0x270, 0x4C, 4, 4, 0x0⟩
def mx_MX_TORN_BEATS : Fl := ⟨0x270, 0x4C, 8, 8, 0x0⟩
def mx_MX_TORN_ADDR_LO_ADDR : Fl := ⟨0x270, 0x50, 0, 32, 0x0⟩
def mx_MX_TORN_ADDR_HI_ADDR : Fl := ⟨0x270, 0x54, 0, 32, 0x0⟩
def mx_ERR_RSP_C : Ct := ⟨0x270, 0x100, 64⟩
def mx_SHIELD_RSP_C : Ct := ⟨0x270, 0x108, 64⟩
def mx_TORN_WRITES_C : Ct := ⟨0x270, 0x110, 64⟩
def mx_AGE_PROMOTIONS_C : Ct := ⟨0x270, 0x118, 64⟩
-- prio, spec/15
def prio_PRIO_LO0_P0 : Fl := ⟨0x271, 0x40, 0, 3, 0x4⟩
def prio_PRIO_LO0_P1 : Fl := ⟨0x271, 0x40, 4, 3, 0x4⟩
def prio_PRIO_LO0_P2 : Fl := ⟨0x271, 0x40, 8, 3, 0x4⟩
def prio_PRIO_LO0_P3 : Fl := ⟨0x271, 0x40, 12, 3, 0x4⟩
def prio_PRIO_LO0_P4 : Fl := ⟨0x271, 0x40, 16, 3, 0x4⟩
def prio_PRIO_LO0_P5 : Fl := ⟨0x271, 0x40, 20, 3, 0x4⟩
def prio_PRIO_LO0_P6 : Fl := ⟨0x271, 0x40, 24, 3, 0x4⟩
def prio_PRIO_LO0_P7 : Fl := ⟨0x271, 0x40, 28, 3, 0x4⟩
def prio_PRIO_LO1_P0 : Fl := ⟨0x271, 0x48, 0, 3, 0x1⟩
def prio_PRIO_LO1_P1 : Fl := ⟨0x271, 0x48, 4, 3, 0x1⟩
def prio_PRIO_LO1_P2 : Fl := ⟨0x271, 0x48, 8, 3, 0x1⟩
def prio_PRIO_LO1_P3 : Fl := ⟨0x271, 0x48, 12, 3, 0x1⟩
def prio_PRIO_LO1_P4 : Fl := ⟨0x271, 0x48, 16, 3, 0x1⟩
def prio_PRIO_LO1_P5 : Fl := ⟨0x271, 0x48, 20, 3, 0x1⟩
def prio_PRIO_LO1_P6 : Fl := ⟨0x271, 0x48, 24, 3, 0x1⟩
def prio_PRIO_LO1_P7 : Fl := ⟨0x271, 0x48, 28, 3, 0x1⟩
def prio_PRIO_LO2_P0 : Fl := ⟨0x271, 0x50, 0, 3, 0x7⟩
def prio_PRIO_LO2_P1 : Fl := ⟨0x271, 0x50, 4, 3, 0x7⟩
def prio_PRIO_LO2_P2 : Fl := ⟨0x271, 0x50, 8, 3, 0x7⟩
def prio_PRIO_LO2_P3 : Fl := ⟨0x271, 0x50, 12, 3, 0x7⟩
def prio_PRIO_LO2_P4 : Fl := ⟨0x271, 0x50, 16, 3, 0x7⟩
def prio_PRIO_LO2_P5 : Fl := ⟨0x271, 0x50, 20, 3, 0x7⟩
def prio_PRIO_LO2_P6 : Fl := ⟨0x271, 0x50, 24, 3, 0x7⟩
def prio_PRIO_LO2_P7 : Fl := ⟨0x271, 0x50, 28, 3, 0x7⟩
def prio_PRIO_LO3_P0 : Fl := ⟨0x271, 0x58, 0, 3, 0x3⟩
def prio_PRIO_LO3_P1 : Fl := ⟨0x271, 0x58, 4, 3, 0x3⟩
def prio_PRIO_LO3_P2 : Fl := ⟨0x271, 0x58, 8, 3, 0x3⟩
def prio_PRIO_LO3_P3 : Fl := ⟨0x271, 0x58, 12, 3, 0x3⟩
def prio_PRIO_LO3_P4 : Fl := ⟨0x271, 0x58, 16, 3, 0x3⟩
def prio_PRIO_LO3_P5 : Fl := ⟨0x271, 0x58, 20, 3, 0x3⟩
def prio_PRIO_LO3_P6 : Fl := ⟨0x271, 0x58, 24, 3, 0x3⟩
def prio_PRIO_LO3_P7 : Fl := ⟨0x271, 0x58, 28, 3, 0x3⟩
def prio_PRIO_LO4_P0 : Fl := ⟨0x271, 0x60, 0, 3, 0x3⟩
def prio_PRIO_LO4_P1 : Fl := ⟨0x271, 0x60, 4, 3, 0x3⟩
def prio_PRIO_LO4_P2 : Fl := ⟨0x271, 0x60, 8, 3, 0x3⟩
def prio_PRIO_LO4_P3 : Fl := ⟨0x271, 0x60, 12, 3, 0x3⟩
def prio_PRIO_LO4_P4 : Fl := ⟨0x271, 0x60, 16, 3, 0x3⟩
def prio_PRIO_LO4_P5 : Fl := ⟨0x271, 0x60, 20, 3, 0x3⟩
def prio_PRIO_LO4_P6 : Fl := ⟨0x271, 0x60, 24, 3, 0x3⟩
def prio_PRIO_LO4_P7 : Fl := ⟨0x271, 0x60, 28, 3, 0x3⟩
def prio_PRIO_LO5_P0 : Fl := ⟨0x271, 0x68, 0, 3, 0x3⟩
def prio_PRIO_LO5_P1 : Fl := ⟨0x271, 0x68, 4, 3, 0x3⟩
def prio_PRIO_LO5_P2 : Fl := ⟨0x271, 0x68, 8, 3, 0x3⟩
def prio_PRIO_LO5_P3 : Fl := ⟨0x271, 0x68, 12, 3, 0x3⟩
def prio_PRIO_LO5_P4 : Fl := ⟨0x271, 0x68, 16, 3, 0x3⟩
def prio_PRIO_LO5_P5 : Fl := ⟨0x271, 0x68, 20, 3, 0x3⟩
def prio_PRIO_LO5_P6 : Fl := ⟨0x271, 0x68, 24, 3, 0x3⟩
def prio_PRIO_LO5_P7 : Fl := ⟨0x271, 0x68, 28, 3, 0x3⟩
def prio_PRIO_LO6_P0 : Fl := ⟨0x271, 0x70, 0, 3, 0x3⟩
def prio_PRIO_LO6_P1 : Fl := ⟨0x271, 0x70, 4, 3, 0x3⟩
def prio_PRIO_LO6_P2 : Fl := ⟨0x271, 0x70, 8, 3, 0x3⟩
def prio_PRIO_LO6_P3 : Fl := ⟨0x271, 0x70, 12, 3, 0x3⟩
def prio_PRIO_LO6_P4 : Fl := ⟨0x271, 0x70, 16, 3, 0x3⟩
def prio_PRIO_LO6_P5 : Fl := ⟨0x271, 0x70, 20, 3, 0x3⟩
def prio_PRIO_LO6_P6 : Fl := ⟨0x271, 0x70, 24, 3, 0x3⟩
def prio_PRIO_LO6_P7 : Fl := ⟨0x271, 0x70, 28, 3, 0x3⟩
def prio_PRIO_LO7_P0 : Fl := ⟨0x271, 0x78, 0, 3, 0x3⟩
def prio_PRIO_LO7_P1 : Fl := ⟨0x271, 0x78, 4, 3, 0x3⟩
def prio_PRIO_LO7_P2 : Fl := ⟨0x271, 0x78, 8, 3, 0x3⟩
def prio_PRIO_LO7_P3 : Fl := ⟨0x271, 0x78, 12, 3, 0x3⟩
def prio_PRIO_LO7_P4 : Fl := ⟨0x271, 0x78, 16, 3, 0x3⟩
def prio_PRIO_LO7_P5 : Fl := ⟨0x271, 0x78, 20, 3, 0x3⟩
def prio_PRIO_LO7_P6 : Fl := ⟨0x271, 0x78, 24, 3, 0x3⟩
def prio_PRIO_LO7_P7 : Fl := ⟨0x271, 0x78, 28, 3, 0x3⟩
def prio_PRIO_LO8_P0 : Fl := ⟨0x271, 0x80, 0, 3, 0x3⟩
def prio_PRIO_LO8_P1 : Fl := ⟨0x271, 0x80, 4, 3, 0x3⟩
def prio_PRIO_LO8_P2 : Fl := ⟨0x271, 0x80, 8, 3, 0x3⟩
def prio_PRIO_LO8_P3 : Fl := ⟨0x271, 0x80, 12, 3, 0x3⟩
def prio_PRIO_LO8_P4 : Fl := ⟨0x271, 0x80, 16, 3, 0x3⟩
def prio_PRIO_LO8_P5 : Fl := ⟨0x271, 0x80, 20, 3, 0x3⟩
def prio_PRIO_LO8_P6 : Fl := ⟨0x271, 0x80, 24, 3, 0x3⟩
def prio_PRIO_LO8_P7 : Fl := ⟨0x271, 0x80, 28, 3, 0x3⟩
def prio_PRIO_LO9_P0 : Fl := ⟨0x271, 0x88, 0, 3, 0x3⟩
def prio_PRIO_LO9_P1 : Fl := ⟨0x271, 0x88, 4, 3, 0x3⟩
def prio_PRIO_LO9_P2 : Fl := ⟨0x271, 0x88, 8, 3, 0x3⟩
def prio_PRIO_LO9_P3 : Fl := ⟨0x271, 0x88, 12, 3, 0x3⟩
def prio_PRIO_LO9_P4 : Fl := ⟨0x271, 0x88, 16, 3, 0x3⟩
def prio_PRIO_LO9_P5 : Fl := ⟨0x271, 0x88, 20, 3, 0x3⟩
def prio_PRIO_LO9_P6 : Fl := ⟨0x271, 0x88, 24, 3, 0x3⟩
def prio_PRIO_LO9_P7 : Fl := ⟨0x271, 0x88, 28, 3, 0x3⟩
def prio_PRIO_LO10_P0 : Fl := ⟨0x271, 0x90, 0, 3, 0x3⟩
def prio_PRIO_LO10_P1 : Fl := ⟨0x271, 0x90, 4, 3, 0x3⟩
def prio_PRIO_LO10_P2 : Fl := ⟨0x271, 0x90, 8, 3, 0x3⟩
def prio_PRIO_LO10_P3 : Fl := ⟨0x271, 0x90, 12, 3, 0x3⟩
def prio_PRIO_LO10_P4 : Fl := ⟨0x271, 0x90, 16, 3, 0x3⟩
def prio_PRIO_LO10_P5 : Fl := ⟨0x271, 0x90, 20, 3, 0x3⟩
def prio_PRIO_LO10_P6 : Fl := ⟨0x271, 0x90, 24, 3, 0x3⟩
def prio_PRIO_LO10_P7 : Fl := ⟨0x271, 0x90, 28, 3, 0x3⟩
def prio_PRIO_LO11_P0 : Fl := ⟨0x271, 0x98, 0, 3, 0x3⟩
def prio_PRIO_LO11_P1 : Fl := ⟨0x271, 0x98, 4, 3, 0x3⟩
def prio_PRIO_LO11_P2 : Fl := ⟨0x271, 0x98, 8, 3, 0x3⟩
def prio_PRIO_LO11_P3 : Fl := ⟨0x271, 0x98, 12, 3, 0x3⟩
def prio_PRIO_LO11_P4 : Fl := ⟨0x271, 0x98, 16, 3, 0x3⟩
def prio_PRIO_LO11_P5 : Fl := ⟨0x271, 0x98, 20, 3, 0x3⟩
def prio_PRIO_LO11_P6 : Fl := ⟨0x271, 0x98, 24, 3, 0x3⟩
def prio_PRIO_LO11_P7 : Fl := ⟨0x271, 0x98, 28, 3, 0x3⟩
def prio_PRIO_LO12_P0 : Fl := ⟨0x271, 0xA0, 0, 3, 0x2⟩
def prio_PRIO_LO12_P1 : Fl := ⟨0x271, 0xA0, 4, 3, 0x2⟩
def prio_PRIO_LO12_P2 : Fl := ⟨0x271, 0xA0, 8, 3, 0x2⟩
def prio_PRIO_LO12_P3 : Fl := ⟨0x271, 0xA0, 12, 3, 0x2⟩
def prio_PRIO_LO12_P4 : Fl := ⟨0x271, 0xA0, 16, 3, 0x2⟩
def prio_PRIO_LO12_P5 : Fl := ⟨0x271, 0xA0, 20, 3, 0x2⟩
def prio_PRIO_LO12_P6 : Fl := ⟨0x271, 0xA0, 24, 3, 0x2⟩
def prio_PRIO_LO12_P7 : Fl := ⟨0x271, 0xA0, 28, 3, 0x2⟩
def prio_PRIO_LO13_P0 : Fl := ⟨0x271, 0xA8, 0, 3, 0x5⟩
def prio_PRIO_LO13_P1 : Fl := ⟨0x271, 0xA8, 4, 3, 0x5⟩
def prio_PRIO_LO13_P2 : Fl := ⟨0x271, 0xA8, 8, 3, 0x5⟩
def prio_PRIO_LO13_P3 : Fl := ⟨0x271, 0xA8, 12, 3, 0x5⟩
def prio_PRIO_LO13_P4 : Fl := ⟨0x271, 0xA8, 16, 3, 0x5⟩
def prio_PRIO_LO13_P5 : Fl := ⟨0x271, 0xA8, 20, 3, 0x5⟩
def prio_PRIO_LO13_P6 : Fl := ⟨0x271, 0xA8, 24, 3, 0x5⟩
def prio_PRIO_LO13_P7 : Fl := ⟨0x271, 0xA8, 28, 3, 0x5⟩
def prio_PRIO_LO14_P0 : Fl := ⟨0x271, 0xB0, 0, 3, 0x6⟩
def prio_PRIO_LO14_P1 : Fl := ⟨0x271, 0xB0, 4, 3, 0x6⟩
def prio_PRIO_LO14_P2 : Fl := ⟨0x271, 0xB0, 8, 3, 0x6⟩
def prio_PRIO_LO14_P3 : Fl := ⟨0x271, 0xB0, 12, 3, 0x6⟩
def prio_PRIO_LO14_P4 : Fl := ⟨0x271, 0xB0, 16, 3, 0x6⟩
def prio_PRIO_LO14_P5 : Fl := ⟨0x271, 0xB0, 20, 3, 0x6⟩
def prio_PRIO_LO14_P6 : Fl := ⟨0x271, 0xB0, 24, 3, 0x6⟩
def prio_PRIO_LO14_P7 : Fl := ⟨0x271, 0xB0, 28, 3, 0x6⟩
def prio_PRIO_LO15_P0 : Fl := ⟨0x271, 0xB8, 0, 3, 0x5⟩
def prio_PRIO_LO15_P1 : Fl := ⟨0x271, 0xB8, 4, 3, 0x5⟩
def prio_PRIO_LO15_P2 : Fl := ⟨0x271, 0xB8, 8, 3, 0x5⟩
def prio_PRIO_LO15_P3 : Fl := ⟨0x271, 0xB8, 12, 3, 0x5⟩
def prio_PRIO_LO15_P4 : Fl := ⟨0x271, 0xB8, 16, 3, 0x5⟩
def prio_PRIO_LO15_P5 : Fl := ⟨0x271, 0xB8, 20, 3, 0x5⟩
def prio_PRIO_LO15_P6 : Fl := ⟨0x271, 0xB8, 24, 3, 0x5⟩
def prio_PRIO_LO15_P7 : Fl := ⟨0x271, 0xB8, 28, 3, 0x5⟩
-- perf, spec/15
def perf_FRZ_CTRL_FROZEN : Fl := ⟨0x272, 0x40, 0, 1, 0x0⟩
def perf_FRZ_CTRL_FRZ_HALT : Fl := ⟨0x272, 0x40, 1, 1, 0x0⟩
def perf_OVF_STATUS_OVF : Fl := ⟨0x272, 0x44, 0, 32, 0x0⟩
def perf_RELOAD_RELOAD (i : Nat) : Fl := ⟨0x272, (0x200 + 4 * i), 0, 32, 0x0⟩
def perf_EVT_CFG_EN (i : Nat) : Fl := ⟨0x272, (0x400 + 16 * i), 0, 1, 0x0⟩
def perf_EVT_CFG_CHAIN (i : Nat) : Fl := ⟨0x272, (0x400 + 16 * i), 1, 1, 0x0⟩
def perf_EVT_CFG_SAMPLE (i : Nat) : Fl := ⟨0x272, (0x400 + 16 * i), 2, 1, 0x0⟩
def perf_EVT_CFG_FRZ_OVF (i : Nat) : Fl := ⟨0x272, (0x400 + 16 * i), 3, 1, 0x0⟩
def perf_EVT_CFG_CLASS (i : Nat) : Fl := ⟨0x272, (0x400 + 16 * i), 4, 4, 0x0⟩
def perf_EVT_CFG_ADDR_EN (i : Nat) : Fl := ⟨0x272, (0x400 + 16 * i), 8, 1, 0x0⟩
def perf_EVT_CFG_USER (i : Nat) : Fl := ⟨0x272, (0x400 + 16 * i), 9, 1, 0x0⟩
def perf_EVT_CFG_EVENT (i : Nat) : Fl := ⟨0x272, (0x400 + 16 * i), 16, 8, 0x0⟩
def perf_FILT_MASTER_LO (i : Nat) : Fl := ⟨0x272, (0x404 + 16 * i), 0, 2, 0x3⟩
def perf_FILT_MASTER_HI (i : Nat) : Fl := ⟨0x272, (0x404 + 16 * i), 3, 13, 0x1FFF⟩
def perf_FILT_PRIV (i : Nat) : Fl := ⟨0x272, (0x404 + 16 * i), 16, 3, 0x7⟩
def perf_FILT_RD (i : Nat) : Fl := ⟨0x272, (0x404 + 16 * i), 19, 1, 0x1⟩
def perf_FILT_WR (i : Nat) : Fl := ⟨0x272, (0x404 + 16 * i), 20, 1, 0x1⟩
def perf_FILT_TARGET (i : Nat) : Fl := ⟨0x272, (0x404 + 16 * i), 24, 8, 0xFF⟩
def perf_ADDR_BASE_BASE (i : Nat) : Fl := ⟨0x272, (0x408 + 16 * i), 0, 28, 0x0⟩
def perf_ADDR_LIMIT_LIMIT (i : Nat) : Fl := ⟨0x272, (0x40C + 16 * i), 0, 28, 0xFFFFFFF⟩
def perf_CNT_C (i : Nat) : Ct := ⟨0x272, (0x100 + 4 * i), 32⟩
-- samp, spec/15
def samp_SAMP_CFG_EN : Fl := ⟨0x273, 0x40, 0, 1, 0x0⟩
def samp_SAMP_CFG_STACK : Fl := ⟨0x273, 0x40, 1, 2, 0x0⟩
def samp_SAMP_CFG_LOG2_SIZE : Fl := ⟨0x273, 0x40, 3, 5, 0xA⟩
def samp_SAMP_BASE_BASE : Fl := ⟨0x273, 0x44, 5, 23, 0x0⟩
def samp_SAMP_PROD_PROD : Fl := ⟨0x273, 0x48, 0, 32, 0x0⟩
def samp_SAMP_CONS_CONS : Fl := ⟨0x273, 0x4C, 0, 32, 0x0⟩
def samp_SAMP_RECORDS_C : Ct := ⟨0x273, 0x100, 64⟩
def samp_SAMP_DROP_C : Ct := ⟨0x273, 0x108, 64⟩
-- sec, spec/16
def sec_MBOX_CMD_OP : Fl := ⟨0x280, 0x40, 0, 4, 0x0⟩
def sec_MBOX_CMD_LEN : Fl := ⟨0x280, 0x40, 16, 16, 0x0⟩
def sec_MBOX_STATUS_DONE : Fl := ⟨0x280, 0x44, 0, 1, 0x1⟩
def sec_MBOX_STATUS_OWNED : Fl := ⟨0x280, 0x44, 1, 1, 0x0⟩
def sec_MBOX_STATUS_RESULT : Fl := ⟨0x280, 0x44, 4, 4, 0x0⟩
def sec_MBOX_STATUS_MASTER : Fl := ⟨0x280, 0x44, 8, 4, 0x0⟩
def sec_MBOX_STATUS_OWNER : Fl := ⟨0x280, 0x44, 12, 4, 0x0⟩
def sec_MBOX_STATUS_OUT_LEN : Fl := ⟨0x280, 0x44, 16, 13, 0x0⟩
def sec_SEC_STATUS_LIFECYCLE : Fl := ⟨0x280, 0x48, 0, 2, 0x0⟩
def sec_SEC_STATUS_DEBUG_UNLOCKED : Fl := ⟨0x280, 0x48, 2, 1, 0x0⟩
def sec_SEC_STATUS_BOOT_ERR0 : Fl := ⟨0x280, 0x48, 3, 3, 0x0⟩
def sec_SEC_STATUS_BOOT_ERR1 : Fl := ⟨0x280, 0x48, 6, 3, 0x0⟩
def sec_SEC_SVN_MAN_SVN : Fl := ⟨0x280, 0x4C, 0, 7, 0x0⟩
def sec_SEC_SVN_MAN_MIN : Fl := ⟨0x280, 0x4C, 8, 7, 0x0⟩
def sec_SEC_SVN_CTL_SVN : Fl := ⟨0x280, 0x4C, 16, 7, 0x0⟩
def sec_SEC_SVN_CTL_MIN : Fl := ⟨0x280, 0x4C, 24, 7, 0x0⟩
def sec_CTL_CORE_CTRL_RUN : Fl := ⟨0x280, 0x50, 0, 8, 0x0⟩
def sec_MBOX_CLAIM_OP : Fl := ⟨0x280, 0x54, 0, 2, 0x0⟩
def sec_AUTH_MAP_MAP (i : Nat) : Fl := ⟨0x280, (0x100 + 4 * i), 0, 32, 0x0⟩
def sec_MBOX_DATA_DATA (i : Nat) : Fl := ⟨0x280, (0x1000 + 4 * i), 0, 32, 0x0⟩
def sec_AUTH_FAIL_TOTAL_C : Ct := ⟨0x280, 0x200, 64⟩
def sec_REPLAY_TOTAL_C : Ct := ⟨0x280, 0x208, 64⟩
def sec_KEY_LOADS_C : Ct := ⟨0x280, 0x210, 64⟩
def sec_ATTESTS_C : Ct := ⟨0x280, 0x218, 64⟩
def sec_MBOX_REFUSED_C : Ct := ⟨0x280, 0x220, 64⟩
-- ident, spec/16
def ident_SERIAL_LO_SERIAL : Fl := ⟨0x281, 0x40, 0, 32, 0x0⟩
def ident_SERIAL_HI_SERIAL : Fl := ⟨0x281, 0x44, 0, 32, 0x0⟩
def ident_CERT_LEN_LEN : Fl := ⟨0x281, 0x48, 0, 11, 0x0⟩
def ident_CERT_CERT (i : Nat) : Fl := ⟨0x281, (0x400 + 4 * i), 0, 32, 0x0⟩
-- wwin, spec/16
def wwin_WARDEN_WIN_BASE : Fl := ⟨0x282, 0x40, 0, 10, 0x200⟩
-- key, spec/16
def key_KEY_A0_KEY (k : Nat) (i : Nat) : Fl := ⟨(0x290 + k), (0x400 + 128 * i), 0, 32, 0x0⟩
def key_KEY_A1_KEY (k : Nat) (i : Nat) : Fl := ⟨(0x290 + k), (0x404 + 128 * i), 0, 32, 0x0⟩
def key_KEY_A2_KEY (k : Nat) (i : Nat) : Fl := ⟨(0x290 + k), (0x408 + 128 * i), 0, 32, 0x0⟩
def key_KEY_A3_KEY (k : Nat) (i : Nat) : Fl := ⟨(0x290 + k), (0x40C + 128 * i), 0, 32, 0x0⟩
def key_KEY_A4_KEY (k : Nat) (i : Nat) : Fl := ⟨(0x290 + k), (0x410 + 128 * i), 0, 32, 0x0⟩
def key_KEY_A5_KEY (k : Nat) (i : Nat) : Fl := ⟨(0x290 + k), (0x414 + 128 * i), 0, 32, 0x0⟩
def key_KEY_A6_KEY (k : Nat) (i : Nat) : Fl := ⟨(0x290 + k), (0x418 + 128 * i), 0, 32, 0x0⟩
def key_KEY_A7_KEY (k : Nat) (i : Nat) : Fl := ⟨(0x290 + k), (0x41C + 128 * i), 0, 32, 0x0⟩
def key_SALT_A_SALT (k : Nat) (i : Nat) : Fl := ⟨(0x290 + k), (0x420 + 128 * i), 0, 32, 0x0⟩
def key_KEY_B0_KEY (k : Nat) (i : Nat) : Fl := ⟨(0x290 + k), (0x440 + 128 * i), 0, 32, 0x0⟩
def key_KEY_B1_KEY (k : Nat) (i : Nat) : Fl := ⟨(0x290 + k), (0x444 + 128 * i), 0, 32, 0x0⟩
def key_KEY_B2_KEY (k : Nat) (i : Nat) : Fl := ⟨(0x290 + k), (0x448 + 128 * i), 0, 32, 0x0⟩
def key_KEY_B3_KEY (k : Nat) (i : Nat) : Fl := ⟨(0x290 + k), (0x44C + 128 * i), 0, 32, 0x0⟩
def key_KEY_B4_KEY (k : Nat) (i : Nat) : Fl := ⟨(0x290 + k), (0x450 + 128 * i), 0, 32, 0x0⟩
def key_KEY_B5_KEY (k : Nat) (i : Nat) : Fl := ⟨(0x290 + k), (0x454 + 128 * i), 0, 32, 0x0⟩
def key_KEY_B6_KEY (k : Nat) (i : Nat) : Fl := ⟨(0x290 + k), (0x458 + 128 * i), 0, 32, 0x0⟩
def key_KEY_B7_KEY (k : Nat) (i : Nat) : Fl := ⟨(0x290 + k), (0x45C + 128 * i), 0, 32, 0x0⟩
def key_SALT_B_SALT (k : Nat) (i : Nat) : Fl := ⟨(0x290 + k), (0x460 + 128 * i), 0, 32, 0x0⟩
def key_VALID_VALID (k : Nat) (i : Nat) : Fl := ⟨(0x290 + k), (0x47C + 128 * i), 0, 2, 0x0⟩
-- svc, spec/17
def svc_SVC_CFG_CON_WR_EN : Fl := ⟨0x2A0, 0x40, 0, 1, 0x1⟩
def svc_SVC_CFG_CON_TEST_EN : Fl := ⟨0x2A0, 0x40, 1, 1, 0x1⟩
def svc_SVC_CFG_ATTN_EN : Fl := ⟨0x2A0, 0x40, 2, 1, 0x1⟩
def svc_MON_CTRL_VIEW : Fl := ⟨0x2A0, 0x44, 0, 3, 0x0⟩
def svc_MON_CTRL_RAIL : Fl := ⟨0x2A0, 0x44, 3, 4, 0x1⟩
def svc_TEST_CMD_TEST : Fl := ⟨0x2A0, 0x48, 0, 4, 0x0⟩
def svc_TEST_CMD_FULL : Fl := ⟨0x2A0, 0x48, 4, 1, 0x0⟩
def svc_TEST_CMD_LANE_LEG : Fl := ⟨0x2A0, 0x48, 5, 1, 0x0⟩
def svc_TEST_CMD_EYE : Fl := ⟨0x2A0, 0x48, 6, 2, 0x0⟩
def svc_TEST_CMD_UNIT : Fl := ⟨0x2A0, 0x48, 8, 8, 0x0⟩
def svc_TEST_CMD_ABORT : Fl := ⟨0x2A0, 0x48, 16, 1, 0x0⟩
def svc_TEST_STATUS_STATE : Fl := ⟨0x2A0, 0x4C, 0, 2, 0x0⟩
def svc_TEST_STATUS_TEST : Fl := ⟨0x2A0, 0x4C, 2, 4, 0x0⟩
def svc_TEST_STATUS_CODE : Fl := ⟨0x2A0, 0x4C, 16, 16, 0x0⟩
def svc_TEST_DETAIL_DETAIL : Fl := ⟨0x2A0, 0x50, 0, 32, 0x0⟩
def svc_SVC_STATUS_XO_PRESENT : Fl := ⟨0x2A0, 0x54, 0, 1, 0x0⟩
def svc_SVC_STATUS_CLK_SRC : Fl := ⟨0x2A0, 0x54, 1, 1, 0x0⟩
def svc_SVC_STATUS_ROOT_LOCK : Fl := ⟨0x2A0, 0x54, 2, 1, 0x0⟩
def svc_SVC_STATUS_SESSION : Fl := ⟨0x2A0, 0x54, 3, 1, 0x0⟩
def svc_SVC_STATUS_ATTN : Fl := ⟨0x2A0, 0x54, 4, 1, 0x0⟩
def svc_SVC_STATUS_ECHO : Fl := ⟨0x2A0, 0x54, 5, 1, 0x1⟩
def svc_SVC_STATUS_AON_CYCLE : Fl := ⟨0x2A0, 0x54, 16, 16, 0x1⟩
def svc_SVC_CTRL_ATTN_CLR : Fl := ⟨0x2A0, 0x58, 0, 1, 0x0⟩
def svc_TEMP_NOW : Fl := ⟨0x2A0, 0x5C, 0, 16, 0x0⟩
def svc_TEMP_PEAK : Fl := ⟨0x2A0, 0x5C, 16, 16, 0x0⟩
def svc_RAIL_MV (i : Nat) : Fl := ⟨0x2A0, (0x60 + 4 * i), 0, 12, 0x0⟩
def svc_RAIL_STATE (i : Nat) : Fl := ⟨0x2A0, (0x60 + 4 * i), 12, 3, 0x0⟩
def svc_RAIL_MIN_MV (i : Nat) : Fl := ⟨0x2A0, (0x60 + 4 * i), 16, 12, 0x0⟩
def svc_TESTS_RUN_C : Ct := ⟨0x2A0, 0x100, 64⟩
def svc_TESTS_FAILED_C : Ct := ⟨0x2A0, 0x108, 64⟩
def svc_CONSOLE_CMDS_C : Ct := ⟨0x2A0, 0x110, 64⟩
-- jr, spec/17
def jr_JRNL_WR_SLOT : Fl := ⟨0x2A1, 0x40, 0, 18, 0x0⟩
def jr_JRNL_SEQ_SEQ : Fl := ⟨0x2A1, 0x44, 0, 32, 0x1⟩
def jr_JRNL_CMD_WRITE_USER : Fl := ⟨0x2A1, 0x48, 0, 1, 0x0⟩
def jr_JRNL_USER_DATA (i : Nat) : Fl := ⟨0x2A1, (0x80 + 4 * i), 0, 32, 0x0⟩
def jr_JRNL_RECORDS_C : Ct := ⟨0x2A1, 0x100, 64⟩
def jr_JRNL_DROPPED_C : Ct := ⟨0x2A1, 0x108, 64⟩
-- dbg, spec/17
def dbg_DBG_STATUS_STATUS : Fl := ⟨0x2A2, 0x40, 0, 32, 0x0⟩
def dbg_DBG_CTRL_DBG_OFF : Fl := ⟨0x2A2, 0x44, 0, 1, 0x0⟩
def dbg_DBG_FRAMES_C : Ct := ⟨0x2A2, 0x100, 64⟩
def dbg_DBG_CRC_ERR_C : Ct := ⟨0x2A2, 0x108, 64⟩
-- hdr, spec/03
def hdr_CAP_ID_ID (p : Nat) : Fl := ⟨p, 0x0, 0, 16, 0x0⟩
def hdr_CAP_ID_VERSION (p : Nat) : Fl := ⟨p, 0x0, 16, 4, 0x1⟩
def hdr_CAP_ID_NEXT (p : Nat) : Fl := ⟨p, 0x0, 20, 12, 0x0⟩
def hdr_BLK_INFO_INSTANCE (p : Nat) : Fl := ⟨p, 0x4, 0, 12, 0x0⟩
def hdr_BLK_INFO_PAGE_IDX (p : Nat) : Fl := ⟨p, 0x4, 12, 5, 0x0⟩
def hdr_BLK_INFO_PWR_OFF (p : Nat) : Fl := ⟨p, 0x4, 23, 1, 0x0⟩
def hdr_BLK_INFO_SI_REV (p : Nat) : Fl := ⟨p, 0x4, 24, 8, 0xB0⟩
def hdr_BLK_STATUS_READY (p : Nat) : Fl := ⟨p, 0x8, 0, 1, 0x0⟩
def hdr_BLK_STATUS_BUSY (p : Nat) : Fl := ⟨p, 0x8, 1, 1, 0x0⟩
def hdr_BLK_STATUS_FAULT (p : Nat) : Fl := ⟨p, 0x8, 2, 1, 0x0⟩
def hdr_BLK_STATUS_DRAINING (p : Nat) : Fl := ⟨p, 0x8, 3, 1, 0x0⟩
def hdr_BLK_STATUS_MAINT (p : Nat) : Fl := ⟨p, 0x8, 4, 1, 0x0⟩
def hdr_BLK_STATUS_PROV (p : Nat) : Fl := ⟨p, 0x8, 5, 1, 0x0⟩
def hdr_BLK_CTRL_EN (p : Nat) : Fl := ⟨p, 0xC, 0, 1, 0x0⟩
def hdr_BLK_CTRL_BLK_RST (p : Nat) : Fl := ⟨p, 0xC, 1, 1, 0x0⟩
def hdr_INT_STATUS_INT (p : Nat) : Fl := ⟨p, 0x10, 0, 32, 0x0⟩
def hdr_INT_ENABLE_EN (p : Nat) : Fl := ⟨p, 0x14, 0, 32, 0x0⟩
def hdr_INT_FORCE_FORCE (p : Nat) : Fl := ⟨p, 0x18, 0, 32, 0x0⟩
def hdr_INT_VECTOR_VEC0 (p : Nat) : Fl := ⟨p, 0x1C, 0, 11, 0x0⟩
def hdr_INT_VECTOR_VEC1 (p : Nat) : Fl := ⟨p, 0x1C, 16, 6, 0x0⟩
def hdr_INT_VECTOR_TO_PF0 (p : Nat) : Fl := ⟨p, 0x1C, 24, 1, 0x1⟩
def hdr_INT_VECTOR_TO_PF1 (p : Nat) : Fl := ⟨p, 0x1C, 25, 1, 0x0⟩
def hdr_INT_VECTOR_TO_CTL (p : Nat) : Fl := ⟨p, 0x1C, 26, 1, 0x0⟩
def hdr_SNAP_CTRL_TAKE (p : Nat) : Fl := ⟨p, 0x20, 0, 1, 0x0⟩
def hdr_SNAP_CTRL_ON_TICK (p : Nat) : Fl := ⟨p, 0x20, 1, 1, 0x0⟩
def hdr_SNAP_SEQ_SEQ (p : Nat) : Fl := ⟨p, 0x24, 0, 32, 0x0⟩
def hdr_LOCK_LOCK (p : Nat) : Fl := ⟨p, 0x28, 0, 32, 0x0⟩
def hdr_LOCK_VIOL_VIOL (p : Nat) : Fl := ⟨p, 0x2C, 0, 1, 0x0⟩
def hdr_LOCK_VIOL_COUNT (p : Nat) : Fl := ⟨p, 0x2C, 16, 16, 0x0⟩
def hdr_ERR_LOG_CODE (p : Nat) : Fl := ⟨p, 0x30, 0, 4, 0x0⟩
def hdr_ERR_LOG_MASTER (p : Nat) : Fl := ⟨p, 0x30, 4, 4, 0x0⟩
def hdr_ERR_LOG_ALIAS (p : Nat) : Fl := ⟨p, 0x30, 8, 2, 0x0⟩
def hdr_ERR_LOG_OVERFLOW (p : Nat) : Fl := ⟨p, 0x30, 10, 1, 0x0⟩
def hdr_ERR_LOG_OFFSET_DW (p : Nat) : Fl := ⟨p, 0x30, 12, 12, 0x0⟩
def hdr_ERR_LOG_VALID (p : Nat) : Fl := ⟨p, 0x30, 31, 1, 0x0⟩
-- parc, spec/07
def parc_PAR_IN_C (i : Nat) : Ct := ⟨0x08E, (0x100 + 4 * i), 32⟩
def parc_PAR_OUT_C (i : Nat) : Ct := ⟨0x08E, (0x600 + 4 * i), 32⟩
-- frl, spec/10
def frl_RS_CW_C (i : Nat) : Ct := ⟨0x221, (0x100 + 32 * i), 64⟩
def frl_RS_CORR_SYM_C (i : Nat) : Ct := ⟨0x221, (0x108 + 32 * i), 64⟩
def frl_RS_UNCORR_C (i : Nat) : Ct := ⟨0x221, (0x110 + 32 * i), 64⟩
def frl_HAM_CORR_C (i : Nat) : Ct := ⟨0x221, (0x118 + 32 * i), 64⟩

end F

end Sys2Proof.Machine
end

