-- ==== Sys2Proof/Machine/State.lean ====
section
/-! DEFINITION. The state of the PV7256-C as plain data: the register store, the counters and their holding
registers, the hidden state of every block, the outputs, and the queue of waiting commands; the reasons a step
can stop; and the state right after reset.

Readings fixed here (notes/assumptions): 3 DESIGN CHOICE, 8 DESIGN CHOICE, 33 PRESUMED, 57 DESIGN CHOICE, 90 DEDUCED,
92 PRESUMED, 109 DESIGN CHOICE. -/

namespace Sys2Proof.Machine

/-- Reasons the machine stops with a fault. No meaning of this model raises one: the spec gives every command of
the table an effect. -/
inductive Fault
  /-- Raised by no command; kept so that the type has a name to list (safe). -/
  | none
deriving DecidableEq, Repr

/-- Reasons a command is refused by the model. -/
inductive Refusal
  /-- The command has no meaning in this model yet (safe: nothing can be proved of it). -/
  | notModelled (mnemonic : String)
deriving DecidableEq, Repr

/-- What the block has put out, newest first: the model's own record of the outputs the spec describes. -/
inductive Out
  /-- An MSI-X message of PF0 or PF1 (R386). -/
  | msix (pf : Nat) (vec addr data : Nat)
  /-- A write to host memory: descriptor writeback, HEAD, PROD, records, DMA data (R389 to R394). -/
  | hostWrite (addr : Nat) (bytes : List Nat)
  /-- A response of the bus matrix: master ID, response code of R414, data DWORDs (R403). -/
  | busReply (master resp : Nat) (data : List Nat)
  /-- Values of a console data line, in the order the command's rule lists them (R456). -/
  | conData (vals : List Nat)
  /-- A console status line OK, or ERR with its code (R455). -/
  | conOk
  | conErr (code : Nat)
  /-- Console notices: 0 FATAL code, 1 MODE state, 2 TEST number, verdict, code (R455); 3 what holds the device in Reset: rail
  indices of R448, and 0 for XO_IN (R44; the spec gives this report no wording). -/
  | conNotice (kind : Nat) (vals : List Nat)
  /-- A debug reply: TAG, code of R466, and for a read DATA and its CRC-16. -/
  | dbgReply (tag code : Nat) (data : Option (Nat × Nat))
  /-- A write of an image to a boot-flash slot (R443). -/
  | flashWrite (addr : Nat) (bytes : List Nat)
  /-- A Waltz message sent to the partner (R334): its codeword periods, and each lane's PAM4 symbols (R324, R325). -/
  | waltz (msg : WaltzMsg) (periods : List (List (Nat × List (List Nat)))) (lines : List (List Nat))
  /-- Emzal training frames of one status field, sent until the link's state changes or for one call: a frame's symbols on each
  lane (R326). -/
  | ezTraining (status : Nat) (symbols : List (List Nat))
  /-- The symbols of an alignment codeword on Emzal lane `k` (R325). -/
  | ezAlign (k : Nat) (symbols : List Nat)
  /-- Both interlock rails take a drive: 0 low, 1 high, 2 beacon (R327). -/
  | rails (drive : Nat)
  /-- TWIN_SEL_O takes a level (R349). -/
  | twinSel (high : Bool)
  /-- A codeword of a line frame: carrier, codeword number, and the level at each (symbol period of the frame, dimension), out of a
  constellation of the given energy, the sum over 3,072 amplitudes. TX_CTRL.LEVEL, in 0.1 dB, sets the drive: each level is sent
  at √(3072 / energy) × 10^(−LEVEL / 200) of DAC full scale (R87, R109 to R116). -/
  | codeword (c n energy level : Nat) (levels : List (Nat × Nat × Int))
  /-- A line frame's overhead bytes (R120), the energy of its payload codewords and LEVEL as in `codeword`, and its pilots' signs:
  each pilot dimension is sent at √E grid units, which is 10^(−LEVEL / 200) of DAC full scale (R88). -/
  | lineFrame (c : Nat) (oh : List Nat) (energy level : Nat) (pilots : List (Nat × Nat × Int))
  /-- A line frame of MODE 1: carrier, LEVEL, pilots as in `lineFrame` with E = 5, and the level at each (symbol period, dimension)
  (R289 to R292). -/
  | foreLine (c level : Nat) (pilots levels : List (Nat × Nat × Int))
  /-- A slot-lane frame's symbols on the line (R272, R242, R243). -/
  | slotLane (n : Nat) (symbols : List Nat)
  /-- A lane training frame: its control and status fields and its 4,096 symbols, levels 0 to 3 or bits (R253, R258). -/
  | training (n : Nat) (control status : Nat) (symbols : List Nat)
  /-- The PRBS generator of a raw lane starts, with PRBS13 or PRBS31, or stops (R277). -/
  | prbsGen (n : Nat) (poly13 : Option Bool)
  /-- A label packet begins: carrier, kind, payload bytes, spreading factor, depth in 0.1 %, and its symbols, rising or
  falling, with their values (R359, R362 to R366). -/
  | label (c kind : Nat) (bytes : List Nat) (sf depth : Nat) (symbols : List (Bool × Nat))
  /-- A label packet stops before its end (R366, R367, R376). -/
  | labelStop (c : Nat)
  /-- C{c}_LASER_EN takes a level (R99). -/
  | laser (c : Nat) (high : Bool)
  /-- REF_OUT starts from a source at a frequency code, or is held low (R317). -/
  | refOut (k : Nat) (runs : Option (Nat × Nat))
  /-- A pulse of PPS_OUT (R318). -/
  | pps
  /-- A front-end bus transaction: carrier, operation, address, length, written bytes (R104). -/
  | frontEnd (c op addr len : Nat) (bytes : List Nat)
  /-- A Galop: lane, frames, precoding on, and the symbols of its frames (R265). -/
  | galop (n frames : Nat) (precode : Bool) (symbols : List Nat)
  /-- A slot-bus frame of a lane: MFI, the receiver's in-frame bit, each slot's block, none for EQ = 0, and the 86,400 words on the
  line, scrambled, bit 17 of each first (R281, R282, R287). -/
  | frFrame (n mfi : Nat) (inFrame : Bool) (blocks : List (Option (List Nat))) (line : List Nat)
  /-- An ODU frame that an egress group sends, with what its sources insert (R152, R210). -/
  | oduFrame (h : Nat) (bytes : List Nat)
  /-- The MSI that a parent's egress ODU carries from now on (R139). -/
  | msi (g : Nat) (bytes : List Nat)
  /-- The egress frame start moves by so many CORE_CLK cycles: the slot-bus frames on the line are cut there, or the gap after them is
  filled with 0x2_0000 (R288). -/
  | frMove (cycles : Int)
  /-- A pulse of FR_FP_OUT at an egress frame start, long where MFI is 0 (R288). -/
  | frPulse (long : Bool)
  /-- A slice of a multiframe leaves its security association: a source's ciphertext and SOH bytes, or a sink's
  plaintext (R435). -/
  | secured (sa : Nat) (frames : List (List Nat))
deriving DecidableEq, Repr

/-! ## Device and modes (spec/02_modes.md) -/

/-- The twelve modes of R33. -/
inductive Mode
  | dormant | reset | boot | bringUp | standalone | twinActive | twinStandby | twinStale
  | forerunner | maintenance | service | quarantine
deriving DecidableEq, Repr

/-- A mode request accepted and not yet taken (R37). -/
inductive ModeReq | none | enterMaint | leaveMaint | enterService
deriving DecidableEq, Repr

/-- The device's mode and what decides it (R33 to R41), beside the registers of page 0x000. -/
structure Dev where
  /-- Current mode. -/
  mode : Mode := .reset
  /-- Mode left when Maintenance or Service was entered (R50 PREV). -/
  prev : Mode := .dormant
  /-- Mode from which Maintenance was entered, kept while Service interrupts Maintenance. -/
  maintPrev : Mode := .dormant
  /-- DEVICE.MODE.TWIN_ROLE: 0 none, 1 active, 2 standby, 3 stale. -/
  twinRole : Nat := 0
  /-- The request that waits, and the master that made it (R37, R75). -/
  req : ModeReq := .none
  reqBy : Nat := 0
  /-- RESET_N is low. -/
  rstLow : Bool := true
  /-- PERST_N is low. -/
  perstLow : Bool := true
  /-- VDD_AON is in its window (R44, R487). -/
  aonOn : Bool := true
  /-- Bring-up has been left since the last full reset (R38). -/
  broughtUp : Bool := false
  /-- The datapath is off: Service entered from Boot (R33). -/
  datapathOff : Bool := false
  /-- Control firmware runs (R73). -/
  fwRunning : Bool := false
  /-- Control firmware was restarted in Service and has not yet kicked the watchdog (R33). -/
  fwRestarting : Bool := false
  /-- Level of the TWIN_SIDE strap (R492). -/
  strapSide : Bool := false
  /-- Level of the BOOT_SRC straps (R492). -/
  strapSrc : Nat := 0
deriving DecidableEq, Repr

/-! ## Control firmware's published work (R51, R52) -/

/-- What control firmware keeps for a monitoring point (R52 TTI_EXPECT, POINT_STATUS). -/
structure CfwPoint where
  trace : List Nat := []
  compare : Nat := 0
  bdiOnTim : Bool := false
  tim : Bool := false
  forced : Bool := false
  sd : Bool := false
deriving DecidableEq, Repr

/-- What control firmware keeps for a mapper (R52 MSI_STATUS). -/
structure CfwMsi where
  msim : Bool := false
  compared : Bool := false
  slice : Nat := 0
  slot : Nat := 0
  found : Nat := 0
deriving DecidableEq, Repr

/-- What control firmware keeps for a protection group (R52 SD_CFG, PG_STATUS). -/
structure CfwGroup where
  x : Nat := 0
  window : Nat := 0
  en : Bool := false
  sdW : Bool := false
  sdP : Bool := false
  protFail : Bool := false
  /-- Seconds for which each copy's ratio has stayed below the clearing threshold. -/
  clearW : Nat := 0
  clearP : Nat := 0
  /-- Errored blocks of the last seconds, newest first: (EB, F) of W, then of P. -/
  histW : List (Nat × Nat) := []
  histP : List (Nat × Nat) := []
deriving DecidableEq, Repr

/-- A control-firmware command in progress (R51). -/
structure CfwCmd where
  op : Nat
  index : Nat
  data : List Nat
deriving DecidableEq, Repr

/-- Control firmware as the device shows it. -/
structure Cfw where
  cmd : Option CfwCmd := none
  /-- A command was abandoned when control firmware stopped (R51). -/
  abandoned : Bool := false
  points : SparseMap CfwPoint := []
  msi : SparseMap CfwMsi := []
  groups : SparseMap CfwGroup := []
  /-- 24 bin counts of a computed point (R52 PM_BINS). -/
  bins : SparseMap (List Nat) := []
deriving DecidableEq, Repr

/-! ## Host interface (spec/14_host_pcie.md) -/

/-- The host-interface state of one function: its MSI-X enable and masks, PBA, Bus Master Enable and power
state (R385, R386). -/
structure PfState where
  /-- Vendor, device and revision ID that the function presents on PCI Express (R1, R381). -/
  vendorId : Nat := 0x1CA7
  deviceId : Nat := 0x7256
  revisionId : Nat := 0xB0
  /-- Class code and MSI-X vectors (R381): PF0's, and PF1's in `HostIf`. -/
  classCode : Nat := 0x028000
  vectors : Nat := 2048
  /-- The DWORDs of the MSI-X table but Vector Control, by DWORD (R382, R386); unlisted is zero. -/
  table : SparseMap Nat := []
  msixEn : Bool := false
  bme : Bool := false
  d3hot : Bool := false
  /-- Vectors whose mask bit is clear. -/
  unmasked : List Nat := []
  /-- Vectors whose PBA bit is set. -/
  pba : List Nat := []
deriving DecidableEq, Repr

/-- The transfer a DMA channel has in progress (R390). -/
structure DmaJob where
  d : Descriptor
  done : Nat := 0
deriving DecidableEq, Repr

/-- One DMA copy channel, beside its registers (R390, R392). -/
structure DmaChan where
  job : Option DmaJob := none
  /-- CH_CFG.EN written 1 while draining is held (R49). -/
  heldEn : Bool := false
deriving DecidableEq, Repr

/-- The host interface. -/
structure HostIf where
  pf0 : PfState := {}
  pf1 : PfState := { classCode := 0x118000, vectors := 64 }
  chans : SparseMap DmaChan := []
  /-- Event-ring records not yet announced by a PROD write (R393). -/
  evUnannounced : Nat := 0
deriving DecidableEq, Repr

/-! ## Bus matrix (spec/15_bus_counters.md) -/

/-- A request waiting for its grant (R401). -/
structure Waiting where
  id : Nat
  req : BusReq
  target : Nat
  aged : Bool := false
deriving DecidableEq, Repr

/-- A granted burst of which only some beats have been accepted (R402, R407). -/
structure InProgress where
  req : BusReq
  target : Nat
  beats : Nat
  /-- PROV of the target block at the grant (R414). -/
  prov : Bool := false
deriving DecidableEq, Repr

/-- The transaction whose event made a bus counter overflow (R414). -/
structure SampleTxn where
  master : Nat
  target : Nat
  write : Bool
  prov : Bool
  addr : Nat
  beats : Nat
  resp : Nat
  mode : Nat
deriving DecidableEq, Repr

/-- An overflow that the sampler is to record (R412 to R414): counter, class, event, SF_COUNT and core frame at the
overflow, and the transaction of a bus event. -/
structure SampleDue where
  k : Nat
  cls : Nat
  event : Nat
  sf : Nat
  frame : Nat
  txn : Option SampleTxn
deriving DecidableEq, Repr

/-- The bus matrix, beside the registers of pages 0x270 to 0x273. -/
structure Bus where
  nextId : Nat := 0
  waiting : List Waiting := []
  inProg : List InProgress := []
  /-- Epoch of each master, by ID (R407). -/
  epochs : SparseMap Nat := []
  /-- Master last granted at each (target, priority), as target × 16 + priority (R401). -/
  lastGrant : SparseMap Nat := []
  /-- First pages of the blocks whose reset shield is raised (R405). -/
  shield : List Nat := []
  /-- Sample records that the sampler has not written yet, oldest first (R413). -/
  sampleDue : List SampleDue := []
deriving DecidableEq, Repr

/-! ## Security (spec/16_security.md) -/

/-- The lifecycle states of R421. -/
inductive Lifecycle | development | production | fieldReturn
deriving DecidableEq, Repr

/-- The one-time-programmable fuses that change in the field (R420). -/
structure Fuses where
  lifecycle : Lifecycle := .development
  manMin : Nat := 0
  ctlMin : Nat := 0
deriving DecidableEq, Repr

/-- One entry of the key manifest (R424). -/
structure ManifestKey where
  role : Nat
  pub : List Nat
deriving DecidableEq, Repr

/-- The images now running (R429). -/
structure RunningImages where
  manSha : List Nat := []
  ctlHash : List Nat := []
  manSvn : Nat := 0
  ctlSvn : Nat := 0
  build : Nat := 0
  keys : List ManifestKey := []
  entry : Nat := 0
deriving DecidableEq, Repr

/-- A mailbox command in progress, with the result and output Warden will publish (R430). -/
structure MboxCmd where
  op : Nat
  /-- ID of the issuing master, shown at completion. -/
  master : Nat
  result : Nat
  out : List Nat
  /-- UPDATE with RUN: entry address of the image to start at completion. -/
  start : Option Nat := none
  /-- UPDATE with INSTALL: the flash slot that step 3 writes (R443). -/
  slot : Option Nat := none
deriving DecidableEq, Repr

/-- A sink's multiframe that waits for its tag (R437): its slot, its SEQ, whether it has already counted as a replay,
and the AAD and ciphertext of each slice. -/
structure HeldMf where
  slot : Nat
  seq : Nat
  replay : Bool
  parts : List (List Nat × List Nat)
deriving DecidableEq, Repr

/-- One security association's state outside its context record (R436 to R441). -/
structure SaState where
  /-- Key and salt of slots A and B. -/
  keyA : Option (List Nat × Nat) := none
  keyB : Option (List Nat × Nat) := none
  /-- Last package counter accepted since full reset (R440). -/
  pkg : Option Nat := none
  /-- Words that Warden has written of a slot's key while it holds none: 16 × slot + word, each with bit 32 set (R444). -/
  part : SparseMap Nat := []
  /-- Pending KEY_SWITCH: none, at the next core frame, or at a superframe (R441). -/
  switchSf : Option (Option Nat) := none
  /-- The core-frame or superframe boundary of the pending switch has passed. -/
  switchDue : Bool := false
  /-- Clearing EN waits for the next core-frame boundary (R433). -/
  disabling : Bool := false
  /-- Sink: slot and SEQ that the previous multiframe announced, if its CRC held (R437). -/
  next : Option (Nat × Nat) := none
  /-- Sink: slot and SEQ of the previous multiframe (R437). -/
  last : Nat × Nat := (0, 0)
  /-- Sink: a multiframe has been decrypted since EN rose, so that RX_SLOT names a slot in use (R440). -/
  opened : Bool := false
  /-- Sink: the multiframe whose tag has not arrived. -/
  held : Option HeldMf := none
  /-- Source: tags of the previous multiframe, one for each slice (R435). -/
  prevTags : List (List Nat) := []
  /-- Highest SEQ accepted, by slot and bit 63: index 2 × slot + bit 63 (R437). -/
  high : List Nat := [0, 0, 0, 0]
  badRun : Nat := 0
  goodRun : Nat := 0
deriving DecidableEq, Repr

/-- Warden and the security block, beside the registers of pages 0x280 to 0x29F. -/
structure Sec where
  cmd : Option MboxCmd := none
  run : RunningImages := {}
  sas : SparseMap SaState := []
deriving DecidableEq, Repr

/-! ## Service and debug (spec/17_service_debug.md) -/

/-- The configuration a running test saved and will restore (R459). -/
structure TestRun where
  num : Nat
  req : TestReq
  saved : List (Nat × Nat) := []
  /-- Test 4: slot unit and step (R460). -/
  su : Nat := 0
  step : Nat := 0
  intrusive : Bool := false
  refs : List Nat := []
deriving DecidableEq, Repr

/-- The service engine, in the always-on domain (R447). -/
structure Svc where
  uptimeMs : Nat := 0
  /-- A test has ended, or a FATAL, RAIL_WARN or THERMAL record was written, since the last release (R457). -/
  attnTest : Bool := false
  attnRec : Bool := false
  therm105 : Bool := false
  therm110 : Bool := false
  /-- Code of the last failed test (R452). -/
  lastFail : Nat := 0
  test : Option TestRun := none
  /-- Records queued for the journal (R464). -/
  jq : List JRec := []
  /-- Tokens of the rate limiter (R464). -/
  tokens : Nat := 4096
  /-- Records dropped since the last DROPPED record. -/
  dropped : Nat := 0
  /-- The journal ring, by slot (R461). -/
  mram : SparseMap JRec := []
  /-- EPOCH of each security association, kept in the MRAM (R436). -/
  epochs : SparseMap Nat := []
  /-- A console MBOX command waits for Warden (R456). -/
  conMbox : Option (Nat × List Nat) := none
  /-- The MBOX command has been issued, and its completion is printed. -/
  conMboxRun : Bool := false
  /-- A console EYE waits for test 2. -/
  conEye : Bool := false
  /-- Console notices that wait for the status line of the command in progress, newest first (R455). -/
  notices : List Out := []
  /-- Boot-flash slots marked invalid (R443). -/
  badSlots : List Nat := []
  /-- Verdict of an UPDATE that ended since the last test began: 0 none, 2 pass, 3 fail (R443). -/
  updateVerdict : Nat := 0
deriving DecidableEq, Repr

/-- A breakpoint of a control core (R468). -/
structure BreakPt where
  addr : Nat := 0
  mask : Nat := 0
  ctl : Nat := 0
deriving DecidableEq, Repr

/-- A control core as the debug port sees it (R468, R471). -/
structure CoreState where
  halted : Bool := false
  cause : Nat := 0
  mode : CpuMode := .m
  /-- Changes whenever the core has run, so that its registers take new free values. -/
  tag : Nat := 0
  /-- Registers written or read by the debugger since the core halted. -/
  regs : SparseMap Nat := []
  bps : List BreakPt := [{}, {}, {}, {}]
deriving DecidableEq, Repr

/-- The debug port (R465 to R471). -/
structure Dbg where
  rights : Nat := 0
  tokenBytes : List Nat := []
  /-- UNLOCK_STATUS (R468). -/
  unlockState : Nat := 0
  unlockResult : Nat := 0
  unlockWait : Bool := false
  challengeNo : Nat := 0
  errCode : Nat := 0
  errTag : Nat := 0
  errCheck : Bool := false
  errCount : Nat := 0
  busAddr : Nat := 0
  busData : Nat := 0
  /-- The access in progress: write, AUTOINC, TAG (R467). -/
  busOp : Option (Bool × Bool × Nat) := none
  outcome : Nat := 0
  cpuSel : Nat := 0
  regNum : Nat := 0
  regVal : Nat := 0
  cores : SparseMap CoreState := []
  /-- The TAP instruction in effect (R472). -/
  tap : TapInstr := .idcode
deriving DecidableEq, Repr

/-! ## Twin (spec/12_twin.md) -/

/-- A switchover in progress (R349): the boundary after next is B1, the next one is B1, the next one is B2, or this device
has handed over and its partner does not read ACTIVE yet. -/
inductive SwitchStep | idle | soon | waitB1 | waitB2 | handedOver
deriving DecidableEq, Repr

/-- One Emzal lane's alignment state (R325, R326). -/
structure EzLane where
  amRun : Nat := 0
  missRun : Nat := 0
  /-- Arrival of its codewords in UI, less 2,720 for each count of the codeword counter: what deskewing compares. -/
  lag : Int := 0
  /-- The codeword counter of its last alignment codeword. -/
  ctr : Nat := 0
  /-- Alignment codewords sent on it since the link entered DUPLEX. -/
  sent : Nat := 0
deriving DecidableEq, Repr

/-- A slot unit's signature and tag of a window, and whether its twin's header showed a FAULT bit (R346 to R348). -/
structure SigEntry where
  sig : Nat
  tag : Nat
  fault : Bool
deriving DecidableEq, Repr

/-- The twin block, beside the registers of pages 0x250 to 0x252. -/
structure Twin where
  lanes : SparseMap EzLane := []
  /-- The partner reports alignment on all four lanes (R326). -/
  partnerAligned : Bool := false
  /-- An Emzal signal has been heard since discovery began (R331). -/
  heard : Bool := false
  /-- Discovery runs (R331), and its bound has passed. -/
  discovering : Bool := false
  timedOut : Bool := false
  /-- A claim of activity is being watched, and the mode to return to (R330). -/
  claim : Option Mode := none
  /-- The 100 µs after the link went DOWN have not passed (R351). -/
  grace : Bool := false
  /-- The last header received, and the message waiting for its apply boundary (R333). -/
  lastHdr : Option WaltzHeader := none
  rx : Option WaltzMsg := none
  xOwn : Int := 0
  phi : Int := 0
  alignRun : Nat := 0
  /-- Journal records queued for the partner, oldest first (R340, R344). -/
  urgent : List TwinRec := []
  bulkQ : List TwinRec := []
  recSeq : Nat := 0
  /-- Superframe boundaries since the link came UP (R333). -/
  upAge : Nat := 0
  /-- Records that the twin mirror has still to perform; below, a message whose apply they delay (R340). -/
  mirrorQ : List TwinRec := []
  /-- Records taken while the image is applied (R345 step 3). -/
  kept : List TwinRec := []
  late : Option WaltzMsg := none
  /-- Resynchronisation step, 0 when none, 6 until the retry (R345), and the superframes spent in it. -/
  resync : Nat := 0
  age : Nat := 0
  /-- Consecutive cycles without a mismatch (R345 step 4). -/
  cleanRun : Nat := 0
  /-- Standby: the whole image has been applied (R345 step 3). -/
  imaged : Bool := false
  /-- Active: RESYNC_ACK is due, and the image is owed (R345 steps 1 and 3). -/
  ack : Bool := false
  owed : Bool := false
  /-- TWIN_CFG.COPY_EN written 1 while the copy drains (R49). -/
  heldCopy : Bool := false
  /-- HANDOVER is to be squelched at the next superframe boundary, then announced (R349). -/
  handoverReq : Bool := false
  announce : Bool := false
  sw : SwitchStep := .idle
  /-- FAULT bits of the signature window in progress (R335). -/
  fault : Nat := 0
  /-- Consecutive mismatching windows of a slot unit (R348). -/
  misRun : SparseMap Nat := []
  /-- The entries gathered at the last boundary (R339). -/
  gotPorts : SparseMap PortEntry := []
  gotMaps : SparseMap MapperEntry := []
  /-- The last two windows of each slot unit, this twin's and the partner's not compared yet, newest first, and the
  partner's last WIN (R348). -/
  own : SparseMap (List SigEntry) := []
  theirs : SparseMap (List SigEntry) := []
  seen : SparseMap Nat := []
  /-- Field-journal records of the active, newest first (R337, R340 type 7). -/
  jmirror : List JRec := []
deriving DecidableEq, Repr

/-! ## Framers and the Reel (spec/05_line_code_framing.md R126 to R129, R274, R284) -/

/-- A hypothesis that a framer holds (R128): its REEL_HYP register, its position in the framer's own units, the checks
it has passed, and the MFAS or MFI of its last check. -/
structure Hyp where
  reg : Nat
  pos : Nat
  checks : Nat := 0
  mark : Nat := 0
deriving DecidableEq, Repr

/-- The framer of a port (R127, R128), beside FRM_STATUS: the hypotheses, oldest first; FRM_CFG as taken at the last
entry to OOF; in frame, the position of the next check and what it expects; runs of incorrect FAS by slice, and of
incorrect and correct MFAS. -/
structure Reel where
  hyps : List Hyp := []
  confN : Nat := 2
  reelEn : Bool := true
  pos : Nat := 0
  mark : Nat := 0
  fasRun : SparseMap Nat := []
  mfasBad : Nat := 0
  mfasOk : Nat := 0
  /-- Position of the last check that failed (R128). -/
  failed : Option Nat := none
deriving DecidableEq, Repr

/-! ## Carriers (spec/04_coherent_carrier.md, spec/05_line_code_framing.md) -/

/-- A calibration in progress (R97): the one of an enable, a requested one, or the loop test. -/
inductive CalKind | enable | foreground | loop
deriving DecidableEq, Repr

/-- A converter's background corrections (R96): gain in 0.01 dB and timing in 0.01 ps. -/
structure ConvCorr where
  gain : Int := 0
  time : Int := 0
deriving DecidableEq, Repr

/-- What a capture record's header says of the moment of its trigger, as bytes: superframe count and core frame; the RATE register;
RX_STATUS and the estimates (R102). -/
structure CapSight where
  time : List Nat
  rate : List Nat
  chain : List Nat
deriving DecidableEq, Repr

/-- The capture unit (R101 to R103): CAPTURE_CTRL as armed; the moment of its trigger, once that has occurred; the record header and
data; and the next place in the window's ring. -/
structure Capture where
  ctl : Nat := 0
  lenMs : Nat := 0
  seen : Option CapSight := none
  hdr : List Nat := []
  data : List Nat := []
  ring : Nat := 0
deriving DecidableEq, Repr

/-- A carrier, beside its registers. -/
structure Carrier where
  /-- An enable written while CALC or DRAINING was 1, by master and region (R49, R56, R81). -/
  heldEn : Option (Nat × Nat) := none
  cal : Option CalKind := none
  /-- The transmit chain has been started by the enable (R98 step 4). -/
  chain : Bool := false
  /-- DSP_LOCK was 1 when SIG fell (R92). -/
  frozenDsp : Bool := false
  /-- CD_EST where the dispersion search that follows a freeze begins; none where it begins at the CD_CFG range (R92). -/
  cdFrom : Option Nat := none
  conv : SparseMap ConvCorr := []
  cap : Capture := {}
  /-- A front-end transaction in progress: operation, address, length (R104). -/
  fe : Option (Nat × Nat × Nat) := none
  /-- PILOT_LOCK has been 1 since the present grid window began; bits corrected and decoded in it (R112, R229). -/
  lockWhole : Bool := false
  winCorr : Nat := 0
  winBits : Nat := 0
  /-- Transmit side: FC of the next line frame, and the overhead, D and data units of the present one (R118, R120, R123). -/
  txFc : Nat := 0
  txOh : List Nat := []
  txD : Nat := 0
  txData : List (List Nat) := []
  /-- The OTUCn buffer: units not yet sent, in MODE 1 the bits of a unit sent in part, and the next frame's MFAS (R123, R125, R291). -/
  txUnits : List (List Nat) := []
  txBits : List Bool := []
  txMfas : Nat := 0
  /-- Receive side: the overhead of the present frame as decoded, with zero syndrome and correct composition or not, and
  the payload of its other codewords (R119, R123). -/
  rxOh : Option (Bool × List Nat) := none
  rxPay : SparseMap (List Nat) := []
  /-- Line-marker machine: frames in a row with and without good overhead, last good FC and frames since (R121). -/
  lmGood : Nat := 0
  lmBad : Nat := 0
  lastFc : Option Nat := none
  since : Nat := 0
  /-- BOND_EN, ROLE and BOND_ID of the last good overhead (R131). -/
  rxBond : Option (Bool × Nat × Nat) := none
  /-- Number of the next data unit since LM lock, and the replay buffer of the last 8 OTUCn frames (R126, R129). -/
  unitNo : Nat := 0
  units : SparseMap (List Nat) := []
  /-- MODE 1: bits received that do not yet make a unit (R291). -/
  bits : List Bool := []
deriving DecidableEq, Repr

/-! ## ODU processing and the context engine (spec/06_odu_monitoring.md) -/

/-- A group entry of the tributary tables (R141), SU_COUNT apart, which the device computes. -/
structure GroupEntry where
  kind : Nat := 0
  demux : Bool := false
  monBase : Nat := 0
  monMask : Nat := 0
  mapCtx : Nat := 0
  flex : Nat := 0
deriving DecidableEq, Repr

/-- A port entry of the tributary tables (R141). -/
structure PortTab where
  monBase : Nat := 0
  monMask : Nat := 0
  mapCtx : Nat := 0x3FFFF
deriving DecidableEq, Repr

/-- One copy of the three tables of one direction (R141); unlisted slot units read 0xFFFF_FFFF. -/
structure TribTables where
  su : SparseMap Nat := []
  grp : SparseMap GroupEntry := []
  port : SparseMap PortTab := []
deriving DecidableEq, Repr

/-- The frame tracker of a group (R138) and its dLOF. -/
structure Tracker where
  inFrame : Bool := false
  good : Nat := 0
  bad : Nat := 0
  lof : Bool := false
  mfas : Nat := 0
  /-- ODU frames processed since the tracker went in frame, or as a frame-count record set it (R340 type 5). -/
  count : Nat := 0
  /-- The frame tracker has been in frame, with MFAS advancing by 1, for the whole second so far (R148). -/
  whole : Bool := false
deriving DecidableEq, Repr

/-- Persistence counts of a monitoring point that its context does not hold (R154, R159). -/
structure PointRun where
  aisOn : Nat := 0
  aisOff : Nat := 0
  lckOn : Nat := 0
  lckOff : Nat := 0
  ociOn : Nat := 0
  ociOff : Nat := 0
  bdiOn : Nat := 0
  bdiOff : Nat := 0
  /-- The sink's count of violating bits in its last frame (R156). -/
  lastBip : Nat := 0
  /-- Trail-trace bytes of the multiframe in progress, the last whole multiframe and its run (R159). -/
  tti : List Nat := []
  ttiLast : List Nat := []
  ttiRun : Nat := 0
  /-- The context's configuration, or its state, was found uncorrectable (R150). -/
  ecc : Bool := false
deriving DecidableEq, Repr

/-- What a mapper context gathers within a second (R148). -/
structure MapperRun where
  jc : Nat := 0
  msi : Nat := 0
  /-- The last MSI received; none before the first. -/
  last : Option (List Nat) := none
deriving DecidableEq, Repr

/-- The ODU frame that an egress group with sources sends now (R152): its words, newest first, and the BIP-8 of the last two frames,
newest first. -/
structure TxOdu where
  words : List Nat := []
  count : Nat := 0
  bips : List Nat := [0, 0]
deriving DecidableEq, Repr

/-- An entry of the computed-mode table (R165): counts, and the windows as DWORDs 6 and 7. -/
structure PmEntry where
  counts : List Nat := [0, 0, 0, 0, 0, 0]
  near : Nat := 0
  far : Nat := 0
deriving DecidableEq, Repr

/-- ODU processing, beside its registers. -/
structure Odu where
  /-- Tables: staged and active, ingress and egress (R141). -/
  stagedI : TribTables := {}
  stagedE : TribTables := {}
  activeI : TribTables := {}
  activeE : TribTables := {}
  /-- An APPLY being checked: egress, port, master (R142); accepted, it waits for the boundary. -/
  applying : Option (Bool × Nat × Nat) := none
  accepted : Bool := false
  trackers : SparseMap Tracker := []
  runs : SparseMap PointRun := []
  mappers : SparseMap MapperRun := []
  /-- Cm and ΣC_nD in use, by tributary: of its last justification control field that passed its check (R139). -/
  gmp : SparseMap (Nat × Nat) := []
  pm : SparseMap PmEntry := []
  /-- Ports whose OTUCn framing has been IN_FRAME throughout the current second so far (R148). -/
  wholePorts : List Nat := []
  /-- Egress groups with sources: the ODU frame in progress (R152). -/
  txOdu : SparseMap TxOdu := []
  /-- Core frames since the last tick boundary (R167). -/
  framesSinceTick : Nat := 0
  /-- Records of the second just closed, by context, until they are written (R166). -/
  records : List (Nat × List Nat) := []
  recordsDue : Bool := false
  /-- 1 + N slots of the PM ring were free at the tick boundary, and the second's SHORT and LONG (R394). -/
  recordsFit : Bool := false
  recordsFlag : Nat := 0
  /-- Byte 28 bits SHORT and LONG of the second in progress (R162). -/
  secFlag : Nat := 0
  /-- PPS edges in a row beyond WINDOW, and within it (R162). -/
  ppsOut : Nat := 0
  ppsIn : Nat := 0
  /-- A realignment waits for the next edge. -/
  ppsReload : Bool := false
deriving DecidableEq, Repr

/-! ## The slot core (spec/07_slot_core.md) -/

/-- A page of the connection memory (R179): what an unlisted entry holds, the other entries, and the entries with
an uncorrectable error (R183). -/
structure CmPage where
  fill : Nat := 0x20000
  ents : SparseMap Nat := []
  bad : List Nat := []
deriving DecidableEq, Repr

/-- The generator of an egress group (R181): phase, position in the ODU-AIS frame and its MFAS. -/
structure Gen where
  acc : Nat := 0
  idx : Nat := 0
  mfas : Nat := 0
deriving DecidableEq, Repr

/-- A test-pattern checker (R199): its register, how many bits it has loaded, the run of good words, and the errors
of the last 64 valid words, newest first. -/
structure Checker where
  reg : Nat := 0
  loaded : Nat := 0
  good : Nat := 0
  hist : List Bool := []
deriving DecidableEq, Repr

/-- The egress mapper of a group (R181, R194, R336, R338, R346, R347): index of the next word in its ODU frame, its last
two words, frame count, GMP phase and rate trim, the signature registers of the window in progress, and what happened in
it. -/
structure EgMapper where
  pos : Option Nat := none
  last : List Nat := []
  frame : Nat := 0
  acc : Nat := 0
  trim : Int := 0
  crcs : List Nat := []
  prov : Bool := false
  excl : Bool := false
  /-- Slot units struck by a parity failure without an ingress cause. -/
  par : List Nat := []
  /-- Checkpoints of the signatures, by the selector (protection group) whose provisional words entered them: the copy that
  selector left, and the signatures as they stood (R32). -/
  chk : SparseMap (Bool × List Nat) := []
  /-- Windows for which CHG stays set. -/
  chg : Nat := 0
  /-- The last completed window: its number, and signature and tag of each slot unit. -/
  closed : Option (Nat × List (Nat × Nat)) := none
  /-- A self-check has failed in the current window; and in one that closed since the last message (R336). -/
  failed : Bool := false
  failDue : Bool := false
deriving DecidableEq, Repr

/-- The slot core, beside the registers of pages 0x080 to 0x08F. -/
structure Core where
  pageA : CmPage := {}
  pageB : CmPage := {}
  /-- Operation in progress: 0 none, 1 COPY, 2 FILL, 6 TEST (R187). -/
  op : Nat := 0
  /-- A scheduled swap: at the next core-frame boundary, or at a superframe (R189). -/
  arm : Option (Option Nat) := none
  /-- Words written in the last two core frames, by ingress slot unit (R176). -/
  w1 : SparseMap (List Nat) := []
  w2 : SparseMap (List Nat) := []
  /-- Words read in the last core frame, by egress slot unit (R176, R180). -/
  egress : SparseMap (List Nat) := []
  /-- Generators of egress groups, and PRBS31 registers of slot units in test-pattern mode (R181, R182). -/
  gens : SparseMap Gen := []
  prbs : SparseMap Nat := []
  checkers : SparseMap Checker := []
  /-- Egress groups whose mapper sends ODU-AIS until the first frame of its new words (R194). -/
  mapAis : List Nat := []
  /-- Slot units that fell out of an enabled source at the last boundary (R195). -/
  dark : List Nat := []
  /-- Words that failed parity at the write side in the last two core frames, slot unit and position: with an ingress cause,
  and without one (R8, R347). -/
  b1 : List (Nat × Nat) := []
  b2 : List (Nat × Nat) := []
  n1 : List (Nat × Nat) := []
  n2 : List (Nat × Nat) := []
  /-- Valid words that the mappers of carrier and FlexO ports map in this core frame, by egress group (R194). -/
  sent : SparseMap (List Nat) := []
  /-- Egress groups whose source is enabled again and whose ordinary words have not come (R195). -/
  returning : List Nat := []
  /-- Ingress groups that carry replacement signal in this core frame (R153), those that did in the two core frames whose words
  `w1` and `w2` hold, and ingress slot units of removed groups (R143). -/
  repl : List Nat := []
  repl1 : List Nat := []
  repl2 : List Nat := []
  gone : List Nat := []
  mappers : SparseMap EgMapper := []
  /-- Ports that received an uncorrected FEC codeword in this core frame (R347). -/
  fecBad : List Nat := []
  /-- Those of the core frame before. -/
  fecBad1 : List Nat := []
  /-- Ports whose slot datapath drains: 1 before, 2 after the first core-frame boundary (R47, R48). -/
  closing : SparseMap Nat := []
  /-- CORE_CLK cycles since full reset. -/
  cycles : Nat := 0
deriving DecidableEq, Repr

/-! ## Protection and skew (spec/08_protection_skew.md) -/

/-- A protection group beside its context (R207 to R212, R230). -/
structure PgState where
  hoW : Option Nat := none
  hoP : Option Nat := none
  wtr : Option Nat := none
  /-- The SF request of a copy is in force; its condition was absent at the last update (R209). -/
  raisedW : Bool := false
  raisedP : Bool := false
  absentW : Bool := false
  absentP : Bool := false
  /-- The selector holds P for SF; do-not-revert is in force (R208). -/
  heldSf : Bool := false
  dnr : Bool := false
  /-- WTR has expired and the group waits for ALIGNED (R209). -/
  waitAligned : Bool := false
  /-- A precursor-led switch is in effect; its window has ended (R230, R231). -/
  spec : Bool := false
  specEnd : Bool := false
deriving DecidableEq, Repr

/-- A stored index frame (R218). -/
structure IndexEntry where
  mfas : Nat
  crc : Nat
  time : Nat
  /-- It came under an unconfirmed hypothesis (R223). -/
  prov : Bool := false
deriving DecidableEq, Repr

/-- Where a copy's words stand in their ODU frames (R216): position of the next valid word, the last three words, whether the
last frame began without its FAS, the frame's MFAS, the valid words delivered in the last core frames, newest first, and the
slip buffer, of which the last `prov` words are provisional; counts of provisional words are marked (R25, R223). -/
structure CopyTrack where
  pos : Option Nat := none
  last : List Nat := []
  miss : Bool := false
  frame : Nat := 0
  counts : List (Bool × Nat) := []
  slip : List (Nat × Nat) := []
  prov : Nat := 0
  /-- Position, last words, missing FAS and MFAS before the first provisional words (R25, R32). -/
  saved : Option (Option Nat × List Nat × Bool × Nat) := none
deriving DecidableEq, Repr

/-- The state an aligner saves when it first takes provisional input of a copy (R223, R32), with the copy's index frames and their
last CRC. -/
structure AlignCheckpoint where
  delta : Int
  n : Nat
  matched : Nat
  idx : List IndexEntry := []
  crc : Option Nat := none
  /-- Outcomes taken from provisional frames, oldest first. -/
  outcomes : List (Bool × Int) := []
deriving DecidableEq, Repr

/-- The aligner and skew buffer of an admitted group (R216 to R223). -/
structure Aligner where
  blocks : Nat := 0
  index : Nat := 0
  su : Nat := 0
  /-- Stored index frames of each copy, newest first, and the last CRC seen. -/
  idxW : List IndexEntry := []
  idxP : List IndexEntry := []
  crcW : Option Nat := none
  crcP : Option Nat := none
  /-- Offsets of the matches in a row of the copy whose frames come later (R219). -/
  runW : List Int := []
  runP : List Int := []
  /-- Matches and mismatches in a row at Δ (R220). -/
  hits : Nat := 0
  misses : Nat := 0
  /-- Signed offset of the later over the early copy, in cycles. -/
  delta : Int := 0
  /-- The early copy's frames in the skew buffer, newest first, each with the place of its first word in the group's stream (R215), and
  the copies' slip buffers. -/
  store : List (Nat × List Nat) := []
  /-- The number of its newest frames written under an unconfirmed hypothesis (R223). -/
  extent : Nat := 0
  early : CopyTrack := {}
  late : CopyTrack := {}
  next : Option Nat := none
  /-- Words written to and read from the memory stacks since FILL was entered (R215). -/
  wrote : Nat := 0
  got : Nat := 0
  /-- The unit read last, where it was uncorrectable and holds words of the next frame too (R217). -/
  badUnit : Option Nat := none
  /-- The checkpoints, one for each copy that gives provisional input: 0 is W, 1 is P (R32). -/
  chk : SparseMap AlignCheckpoint := []
  /-- A release waits for the next core-frame boundary (R47, R228), asked for by ADMIT_CMD RELEASE. -/
  releasing : Bool := false
  byCmd : Bool := false
deriving DecidableEq, Repr

/-- Protection and skew, beside its registers. -/
structure Prot where
  groups : SparseMap PgState := []
  aligners : SparseMap Aligner := []
  /-- The carrier bond is admitted, with its blocks per stack (R235). -/
  bondBlocks : Option Nat := none
  /-- Number of the current precursor grid window, the precursors raised in it by port, and those raised since the
  last core-frame boundary with their window (R229, R230). -/
  window : Nat := 0
  now : SparseMap Nat := []
  fresh : List (Nat × Nat) := []
  /-- MTEST in progress, by stack: operation (R237). -/
  mtest : SparseMap Nat := []
  /-- Line-frame timestamps of the carriers for bonding: FC and CORE_CLK cycle of the first unit of each carrier's last line
  frames, newest first (R131, R236). -/
  bondTime : List (List (Nat × Nat)) := [[], []]
  /-- Core frames of words of the bonded carriers that wait to be read, oldest first: whether they are provisional, and the words by slot
  unit (R129, R236). -/
  bondWords : List (Bool × List (Nat × List SlotWord)) := []
  /-- Data units of the bonded carriers that wait in the skew buffer for those of the other carrier's line frame of equal FC, oldest
  first, with their FC; and the pairs of units that reached the ODU processor with the last such frame (R131, R236). -/
  bondUnits : List (List (Nat × List (List Nat))) := [[], []]
  bondPairs : List (List Nat × List Nat) := []
  /-- Slot-lane bonds: measured lateness of each lane in cycles (R234). -/
  late : SparseMap Nat := []
deriving DecidableEq, Repr

/-! ## Lanes (spec/09_lanes.md) -/

/-- A slot-lane frame in the bonding buffer (R234): its frame count, the cycle at which its words are due, whether they are
provisional, and its valid words by slot unit. -/
structure BondFrame where
  fc : Nat
  due : Nat
  prov : Bool
  words : List (Nat × List Nat)
deriving DecidableEq, Repr

/-- The checkpoint that the bonding aligner of a slot-lane bond saves for a member that gives provisional frame counts (R32, R234). -/
structure LateCheck where
  late : List (Nat × Nat)
  wide : Bool
  skew : Nat
  stamps : List (Nat × Nat)
deriving DecidableEq, Repr

/-- A lane beside its registers. -/
structure Lane where
  /-- Calibration is complete since the enable (R46). -/
  calibrated : Bool := false
  /-- The slot datapath, the transmitter drain (R47); an enable of either is held (R49). -/
  dpDrain : Bool := false
  txDrain : Bool := false
  heldDp : Bool := false
  heldTx : Bool := false
  /-- BLK_CTRL.EN written 1 while DRAINING was 1, by master ID and region (R49, R56). -/
  heldEn : Option (Nat × Nat) := none
  /-- TX_MODE as taken at the last core-frame boundary (R264). -/
  txMode : Nat := 0
  /-- DATA has been reached since the last calibration (R264); the next attempt is the first since DATA. -/
  trained : Bool := false
  fresh : Bool := true
  /-- The twin mirror has loaded TX_FIR and PRECODE_TX since the last attempt (R343). -/
  loaded : Bool := false
  /-- The attempt: SIG has risen, frame lock, good and bad frames in a row, lock ever reached (R256, R260). -/
  sigRose : Bool := false
  lock : Bool := false
  good : Nat := 0
  bad : Nat := 0
  /-- The control field sent and the RESULT and ACK bits of the status field (R254, R255). -/
  ctl : Nat := 0
  stat : Nat := 0
  outstanding : Bool := false
  converged : Bool := false
  rxReady : Bool := false
  /-- DATA_IN of the next countdown frame (R258). -/
  countdown : Nat := 7
  /-- Failures in a row (R260). -/
  fails : Nat := 0
  /-- The receiver resumed from a frozen state and waits for a Galop or an in-frame format (R266). -/
  galopWait : Bool := false
  /-- An eye measurement is in progress; SIG has held so far (R268). -/
  eye : Option Bool := none
  /-- SIG has fallen, or the receiver has slept, and IDLE_HOLD has not passed since (R266). -/
  fell : Bool := false
  /-- PRBS13 of the training pattern (R253). -/
  prbs : Nat := 1
  /-- Place of the last good training frame received (R256). -/
  place : Nat := 0
  /-- DATA_IN of the partner's present countdown frame; the receiver takes data (R258). -/
  peerIn : Option Nat := none
  dataIn : Bool := false
  /-- Slot-lane transmit FC; FC and cycle of the last frames received, newest first; the number of words, the last of each slot
  unit's slip buffer, that are provisional (R271, R234, R25). -/
  txFc : Nat := 0
  stamps : List (Nat × Nat) := []
  prov : SparseMap Nat := []
  /-- Frames of a bonded lane that the bonding buffer delays, oldest first (R234). -/
  delay : List BondFrame := []
  /-- Provisional words that found the slip buffer full (R27, R273). -/
  provLost : Nat := 0
  /-- Codewords decoded, symbols corrected and codewords uncorrected, and invalid words of slot-bus blocks, under the lead hypothesis:
  counted where it is confirmed (R27, R280, R285). -/
  provFec : Nat × Nat × Nat := (0, 0, 0)
  provVbad : Nat := 0
  /-- The members' delays, SKEW_OVER and SKEW of the bond, and this lane's frame counts, before its first provisional frame (R32, R234). -/
  lateChk : Option LateCheck := none
  /-- First lane of a bond: FC of the bond's frame in progress, and the members that have sent it (R271). -/
  bondFc : Nat := 0
  bondSent : List Nat := []
  /-- The last precoded symbol sent (R242). -/
  lastSym : Nat := 0
  /-- Frames that near-end loopback feeds to the receiver, oldest first: symbols of a slot lane, the one before the frame first, or
  words of the slot bus (R277). -/
  looped : List (List Nat) := []
deriving DecidableEq, Repr

/-! ## Forerunner slot bus (spec/10_forerunner.md) -/

/-- An egress slot's tracker and slip buffer (R286, R287). -/
structure FrSlot where
  /-- Valid words read for the slot unit and not yet judged, oldest first; while the tracker searches, the last 10,789 of those judged,
  newest first. -/
  seen : List Nat := []
  past : List Nat := []
  /-- In frame: the last header's low byte, incorrect headers in a row, and the block in progress, newest word first. -/
  inFrame : Bool := false
  mfi : Nat := 0
  bad : Nat := 0
  part : List Nat := []
  run : Bool := false
  /-- Complete unread blocks, oldest first, and the block last sent. -/
  blocks : List (List Nat) := []
  last : List Nat := []
deriving DecidableEq, Repr

/-- The forerunner block, beside its registers. -/
structure Fore where
  /-- Egress slots, by 8 × lane + slot. -/
  slots : SparseMap FrSlot := []
  /-- The CORE_CLK cycle at which the last egress frame started (R288). -/
  start : Option Nat := none
  /-- FR_FP_IN edges in a row outside FP_WINDOW; the next frame carries MFI 0 (R288). -/
  out : Nat := 0
  mark : Bool := false
  /-- Edges since FP_PRESENT rose under squelch (R295). -/
  back : Nat := 0
deriving DecidableEq, Repr

/-! ## Timing (spec/11_timing.md) -/

/-- A reference beside its registers: its samples since the window reset, newest first, in 10^-12; whether it has been
valid since full reset (R303, R304). -/
structure RefState where
  samples : List Int := []
  everValid : Bool := false
deriving DecidableEq, Repr

/-- The DPLL beside its registers: the last 1,024 output samples, newest first, each with whether it is usable; the DPLL
has been LOCKED throughout the present second; seconds spent in the current HOLDOVER (R313, R314). -/
structure Timing where
  refs : SparseMap RefState := []
  hist : List (Int × Bool) := []
  lockedWhole : Bool := false
  holdSecs : Nat := 0
  /-- The history that HOLDOVER runs at, as it stood at entry, in 10^-12 (R313). -/
  held : Int := 0
  /-- The timing configuration in force: that of the last evaluation, by `Fl.key`; an unlisted field has its reset value (R319). -/
  cfg : SparseMap Nat := []
deriving DecidableEq, Repr

/-! ## The label channel (spec/13_label_channel.md) -/

/-- A packet on the air (R362, R365): its kind (1 IDENT, 2 USER, 3 GASP), its payload and its spreading factor. -/
structure LblPacket where
  kind : Nat
  payload : List Nat
  sf : Nat
deriving DecidableEq, Repr

/-- A label transmitter (R366): the packet in progress, how it ends at the next symbol boundary if a GASP (true) or an ABORT (false)
cuts it, the USER and IDENT that wait, the GASPs that wait by reason and code. -/
structure LblTx where
  cur : Option LblPacket := none
  cut : Option Bool := none
  user : Option (List Nat) := none
  ident : Bool := false
  gasps : List (Nat × Nat) := []
deriving DecidableEq, Repr

/-- A candidate (R369): its number in the order of qualification, spreading factor, C in 0.1 dB, and the sample time of
its header, counted in symbol boundaries of the receiver. -/
structure LblCand where
  no : Nat
  sf : Nat
  c : Nat
  start : Nat
deriving DecidableEq, Repr

/-- A label receiver (R368 to R373): the packet being decoded with its header once decoded (TYPE, LEN and the corrected
flag), the candidates held, newest first, and the queue of records. -/
structure LblRx where
  cur : Option LblCand := none
  hdr : Option (Nat × Nat × Bool) := none
  held : List LblCand := []
  queue : List (List Nat) := []
  count : Nat := 0
deriving DecidableEq, Repr

/-! ## The machine -/

/-- The state of the block. -/
structure State where
  /-- Every register field written since reset, by `Fl.key`; an unlisted field holds its reset value. -/
  fields : SparseMap Nat := []
  /-- Every counter, by `Ct.key`; unlisted is zero (R65). -/
  ctrs : SparseMap Nat := []
  /-- The holding registers, by the counter's key (R65). -/
  hold : SparseMap Nat := []
  dev : Dev := {}
  cfw : Cfw := {}
  host : HostIf := {}
  bus : Bus := {}
  sec : Sec := {}
  fuses : Fuses := {}
  svc : Svc := {}
  dbg : Dbg := {}
  twin : Twin := {}
  /-- The carriers, and the framers by port (0 to 255 lanes, 256 and 257 carriers). -/
  carriers : SparseMap Carrier := []
  reels : SparseMap Reel := []
  /-- The lanes; the slot-lane slip buffers of ingress slot units and the words that egress slot units hold for their lanes
  (R273). -/
  lanes : SparseMap Lane := []
  slIn : SparseMap (List Nat) := []
  slOut : SparseMap (List Nat) := []
  fore : Fore := {}
  tim : Timing := {}
  /-- Label transmitters by carrier, label receivers by number (R368). -/
  lblTx : SparseMap LblTx := []
  lblRx : SparseMap LblRx := []
  odu : Odu := {}
  core : Core := {}
  prot : Prot := {}
  /-- Memory-stack bytes, by stack × 2^35 + offset; unlisted is zero (R214). -/
  mem : Memory := []
  /-- Context records, by index × 16 + DWORD; unlisted is zero (R145). -/
  ctx : SparseMap Nat := []
  /-- Control SRAM bytes (R398 T2). -/
  sram : Memory := []
  /-- The model's own: what the block has put out, newest first. -/
  out : List Out := []
  /-- The model's own: the index of the next free value. -/
  free : Nat := 0
  /-- The commands that wait, first in, first out. -/
  pending : List Instr := []
deriving DecidableEq, Repr

/-- The machine right after reset: every register at the value its table gives, every queue and buffer empty,
the mode Reset (R50 DEVICE.MODE.STATE = 0x1). -/
def State.reset : State := {}

end Sys2Proof.Machine
end

