-- ==== Sys2Proof/Machine/Ops.lean ====
section
/-! DEFINITION. The named operations over registers, counters, interrupts, the error log and the page map
(spec/03_registers.md), which every command's meaning goes through.

Readings fixed here (notes/assumptions): 2 DESIGN CHOICE, 7 DESIGN CHOICE, 8 DESIGN CHOICE, 96 DEDUCED. -/

namespace Sys2Proof.Machine

/-! ## Fields and counters -/

/-- The value of a field: its reset value until something writes it (R60). -/
def State.fget (s : State) (f : Fl) : Nat := spGet f.rst s.fields f.key

/-- Write a field; a field holds its width's bits. -/
def State.fset (s : State) (f : Fl) (v : Nat) : State :=
  { s with fields := spSet s.fields f.key (v % 2 ^ f.w) }

/-- A one-bit field as a Boolean. -/
def State.flag (s : State) (f : Fl) : Bool := s.fget f != 0

/-- Write a one-bit field. -/
def State.fput (s : State) (f : Fl) (b : Bool) : State := s.fset f (b2n b)

/-- Write several fields in order. -/
def State.fsets (s : State) : List (Fl × Nat) → State
  | [] => s
  | (f, v) :: l => (s.fset f v).fsets l

/-- The value of a counter (R65). -/
def State.cget (s : State) (c : Ct) : Nat := spGet 0 s.ctrs c.key

/-- Add to a counter, which wraps at its width. -/
def State.cadd (s : State) (c : Ct) (n : Nat) : State :=
  { s with ctrs := spPut 0 s.ctrs c.key ((s.cget c + n) % 2 ^ c.w) }

/-- Write a counter. -/
def State.cset (s : State) (c : Ct) (n : Nat) : State :=
  { s with ctrs := spPut 0 s.ctrs c.key (n % 2 ^ c.w) }

/-- Apply a step when a condition holds. -/
def State.onlyIf (s : State) (b : Bool) (f : State → State) : State := if b then f s else s

/-- Put an output on the record of outputs. -/
def State.emit (s : State) (o : Out) : State := { s with out := o :: s.out }

/-- Put outputs on the record, the first of the list earliest. -/
def State.emits (s : State) (l : List Out) : State := l.foldl State.emit s

/-- Take the next free-value index: the model's counter moves on. -/
def State.tick (s : State) : State := { s with free := s.free + 1 }

/-- The CORE_CLK time that a timestamp taken in `cycle` of the present core frame reports: one in the idle cycle of a long frame reports
cycle 1,151 (R174). -/
def State.stampAt (s : State) (cycle : Nat) : Nat := s.core.cycles + min cycle 1151

/-! ## Modes, masters -/

/-- The code of a mode (R33). -/
def Mode.code : Mode → Nat
  | .dormant => 0 | .reset => 1 | .boot => 2 | .bringUp => 3 | .standalone => 4 | .twinActive => 5
  | .twinStandby => 6 | .twinStale => 7 | .forerunner => 8 | .maintenance => 9 | .service => 10 | .quarantine => 11

/-- The mode of a code. -/
def Mode.ofCode : Nat → Mode
  | 0 => .dormant | 1 => .reset | 2 => .boot | 3 => .bringUp | 4 => .standalone | 5 => .twinActive
  | 6 => .twinStandby | 7 => .twinStale | 8 => .forerunner | 9 => .maintenance | 10 => .service | _ => .quarantine

/-- A master's ID (R75). -/
def masterId : Master → Nat
  | .pf0 => 0 | .pf1 => 1 | .warden => 2 | .core k => 3 + k.val | .dma => 0xB | .debug => 0xC
  | .service => 0xD | .twin => 0xE | .ctx => 0xF

/-- The master of an ID. -/
def masterOf (n : Nat) : Master :=
  match n with
  | 0 => .pf0 | 1 => .pf1 | 2 => .warden | 0xB => .dma | 0xC => .debug | 0xD => .service | 0xE => .twin
  | 0xF => .ctx
  | n => .core (Fin.ofNat 8 (n - 3))

/-- Blocks outside the always-on domain run: the device is neither Dormant nor in Reset (R33). -/
def State.live (s : State) : Bool := s.dev.mode != .dormant && s.dev.mode != .reset

/-- Apply the effect of an event in the powered, released device; in Dormant and Reset nothing is there to act. -/
def State.whenLive (s : State) (f : State → State) : State := if s.live then f s else s

/-- Boot is over: the registers of every function accept configuration (R45). -/
def State.booted (s : State) : Bool := s.live && s.dev.mode != .boot

/-- The mode that governs the outputs: Service keeps the outputs of the mode it was entered from (R33, R34). -/
def State.outMode (s : State) : Mode :=
  if s.dev.mode = .service then (if s.dev.datapathOff then .reset else s.dev.prev) else s.dev.mode

/-- The mode Maintenance was entered from. -/
def State.maintFrom (s : State) : Mode :=
  if s.dev.mode = .service then s.dev.maintPrev else s.dev.prev

/-- Traffic may be carried to the pins (R34). -/
def State.mayTransmit (s : State) : Bool :=
  match s.outMode with
  | .standalone | .twinActive | .forerunner => true
  | .maintenance => s.maintFrom == .standalone || s.maintFrom == .forerunner
  | _ => false

/-! ## The page map (R55, R57) -/

/-- The capability list visits page `p` (R57). -/
def pageMapped (p : Nat) : Bool :=
  p ≤ 1 || (0x10 ≤ p && p ≤ 0x19) || p == 0x1C || (0x20 ≤ p && p ≤ 0x29) || p == 0x2C ||
  p == 0x40 || p == 0x41 || p == 0x60 || (0x80 ≤ p && p ≤ 0x8F) || (0x90 ≤ p && p ≤ 0x93) ||
  (0x100 ≤ p && p ≤ 0x225) || p == 0x240 || p == 0x241 || (0x250 ≤ p && p ≤ 0x252) ||
  (0x260 ≤ p && p ≤ 0x262) || (0x270 ≤ p && p ≤ 0x273) || (0x280 ≤ p && p ≤ 0x282) ||
  (0x290 ≤ p && p ≤ 0x29F) || (0x2A0 ≤ p && p ≤ 0x2A2) || (0x2B0 ≤ p && p ≤ 0x2B3) || p == 0x2C0

/-- The register layout of a page. -/
def pageClass (p : Nat) : PageClass :=
  if p == 0 then .devPg else if p == 1 then .cfwPg
  else if 0x10 ≤ p && p ≤ 0x2C then
    match p % 16 with
    | 0 => .carPg | 1 => .fePg | 2 => .convPg | 3 => .dspPg | 4 => .txsPg | 5 => .capPg | 6 => .ldpcPg
    | 7 => .lmPg | 8 => .frmPg | 9 => .slcPg | 12 => .lblPg | _ => .plain
  else if p == 0x40 then .oduPg else if p == 0x41 then .pdefPg else if p == 0x60 then .ctxPg
  else if p == 0x80 then .corePg else if p == 0x81 then .tpcPg
  else if 0x82 ≤ p && p ≤ 0x8D then .cmw else if p == 0x8E then .parcPg else if p == 0x8F then .pmapPg
  else if p == 0x90 then .protPg else if p == 0x91 then .swlPg else if p == 0x92 then .bondPg
  else if p == 0x93 then .precPg
  else if 0x100 ≤ p && p ≤ 0x1FF then .lanePg else if 0x200 ≤ p && p ≤ 0x21F then .octPg
  else if p == 0x220 then .frPg else if p == 0x221 then .frlPg
  else if 0x222 ≤ p && p ≤ 0x225 then .frsPg
  else if p == 0x240 then .timPg else if p == 0x241 then .refPg
  else if p == 0x250 then .twinPg else if p == 0x251 then .cmpPg else if p == 0x252 then .ezPg
  else if p == 0x260 then .pciePg else if p == 0x261 then .dmaPg else if p == 0x262 then .ringPg
  else if p == 0x270 then .mxPg else if p == 0x271 then .prioPg else if p == 0x272 then .perfPg
  else if p == 0x273 then .sampPg
  else if p == 0x280 then .secPg else if p == 0x281 then .identPg else if p == 0x282 then .wwinPg
  else if 0x290 ≤ p && p ≤ 0x29F then .keyPg
  else if p == 0x2A0 then .svcPg else if p == 0x2A1 then .jrPg else if p == 0x2A2 then .dbgPg
  else if 0x2B0 ≤ p && p ≤ 0x2B3 then .memPg else if p == 0x2C0 then .monPg else .plain

/-- The page whose BLK_STATUS and BLK_CTRL a page carries (R55 and each chapter's header meanings). -/
def basePage (p : Nat) : Nat :=
  if p == 1 then 0
  else if 0x11 ≤ p && p ≤ 0x19 then 0x10 else if 0x21 ≤ p && p ≤ 0x29 then 0x20
  else if p == 0x41 then 0x40 else if 0x81 ≤ p && p ≤ 0x8F then 0x80 else if 0x91 ≤ p && p ≤ 0x93 then 0x90
  else if 0x221 ≤ p && p ≤ 0x225 then 0x220 else if p == 0x241 then 0x240
  else if p == 0x251 || p == 0x252 then 0x250 else if p == 0x261 || p == 0x262 then 0x260
  else if 0x271 ≤ p && p ≤ 0x273 then 0x270 else if 0x281 ≤ p && p ≤ 0x29F then 0x280
  else if p == 0x2A1 || p == 0x2A2 then 0x2A0 else p

/-- First page of a block's allocation, capability ID and instance number (R55). -/
def pageIdent (p : Nat) : Nat × Nat × Nat :=
  if p ≤ 0xF then (0, 0x1, 0)
  else if p == 0x1C then (0x1C, 0x3, 0) else if p == 0x2C then (0x2C, 0x3, 1)
  else if p ≤ 0x1F then (0x10, 0x2, 0) else if p ≤ 0x2F then (0x20, 0x2, 1)
  else if p ≤ 0x5F then (0x40, 0x4, 0) else if p ≤ 0x6F then (0x60, 0x5, 0)
  else if p ≤ 0x8F then (0x80, 0x6, 0) else if p ≤ 0x9F then (0x90, 0x7, 0)
  else if p ≤ 0x1FF then (p, 0x8, p - 0x100) else if p ≤ 0x21F then (p, 0x9, p - 0x200)
  else if p ≤ 0x22F then (0x220, 0xA, 0) else if p ≤ 0x247 then (0x240, 0xB, 0)
  else if p ≤ 0x25F then (0x250, 0xC, 0) else if p ≤ 0x26F then (0x260, 0xD, 0)
  else if p ≤ 0x27F then (0x270, 0xE, 0) else if p ≤ 0x29F then (0x280, 0xF, 0)
  else if p ≤ 0x2AF then (0x2A0, 0x10, 0) else if p ≤ 0x2B3 then (p, 0x11, p - 0x2B0)
  else (0x2C0, 0x3, 2)

/-- The first mapped page among the `n` pages after `p`, or 0 (R57). -/
def nextMapped : Nat → Nat → Nat
  | 0, _ => 0
  | n + 1, p => if pageMapped (p + 1) then p + 1 else nextMapped n (p + 1)

/-- NEXT of a page: gaps between mapped pages are at most 0x70 pages (R57). -/
def pageNext (p : Nat) : Nat := nextMapped 0x70 p

/-- The block has an enable (R56: others read EN = 1 and ignore writes). -/
def hasEnable (p : Nat) : Bool :=
  p == 0x10 || p == 0x20 || (0x100 ≤ p && p ≤ 0x21F) || (0x2B0 ≤ p && p ≤ 0x2B3)

/-- The reset value of a block's EN: 0 on carriers and lanes, 1 on octets, stacks and blocks without an enable. -/
def enReset (p : Nat) : Nat := if p == 0x10 || p == 0x20 || (0x100 ≤ p && p ≤ 0x1FF) then 0 else 1

/-- BLK_CTRL.EN of a block, with its own reset value. -/
def enFl (p : Nat) : Fl := ⟨p, 0xC, 0, 1, enReset p⟩

/-- The page's registers are secure-only (R74, R444). -/
def pageSecure (p : Nat) : Bool := p == 0x282 || (0x290 ≤ p && p ≤ 0x29F)

/-- The page lies in the always-on domain (R473). -/
def pageAon (p : Nat) : Bool := p == 0x2A0 || p == 0x2A1

/-- The page's power domain is off (R72): a carrier's engine (R100), a lane's octet (R278), the twin block
outside ROLE = TWIN (R323), and in Dormant everything outside the always-on domain (R33). -/
def State.domainOff (s : State) (p : Nat) : Bool :=
  if s.dev.mode = .dormant then !pageAon p
  else if 0x12 ≤ p && p ≤ 0x19 then !s.flag (F.car_PWR_CTRL_ENGINE_PWR 0)
  else if 0x22 ≤ p && p ≤ 0x29 then !s.flag (F.car_PWR_CTRL_ENGINE_PWR 1)
  else if 0x100 ≤ p && p ≤ 0x1FF then !s.flag (enFl (0x200 + (p - 0x100) / 8))
  else if 0x250 ≤ p && p ≤ 0x252 then s.fget F.dev_ROLE_ROLE != 2
  else false

/-! ## Interrupt status and the error log -/

/-- Set an INT_STATUS bit of a page (R56, R63). -/
def State.raise (s : State) (p bit : Nat) : State :=
  s.fset (F.hdr_INT_STATUS_INT p) (s.fget (F.hdr_INT_STATUS_INT p) ||| 2 ^ bit)

/-- Log an error in a page's ERR_LOG (R75): the first one in full, a further one as OVERFLOW; each sets
INT_STATUS.ERR. -/
def State.logErr (s : State) (p code master al off : Nat) : State :=
  if s.flag (F.hdr_ERR_LOG_VALID p) then (s.fset (F.hdr_ERR_LOG_OVERFLOW p) 1).raise p 30
  else
    (s.fsets [(F.hdr_ERR_LOG_CODE p, code), (F.hdr_ERR_LOG_MASTER p, master), (F.hdr_ERR_LOG_ALIAS p, al),
      (F.hdr_ERR_LOG_OFFSET_DW p, off / 4), (F.hdr_ERR_LOG_VALID p, 1)]).raise p 30

/-- Log an error of a register-region write by `m` (R75). -/
def State.log (s : State) (p code : Nat) (m : Master) (off : Nat) : State := s.logErr p code (masterId m) 0 off

/-- A lock violation on a page (R67): LOCK_VIOL, its count, INT_STATUS.LOCK_VIOL and ERR_LOG. -/
def State.lockViol (s : State) (p master al off : Nat) : State :=
  (((s.fset (F.hdr_LOCK_VIOL_VIOL p) 1).fset (F.hdr_LOCK_VIOL_COUNT p)
    (satAdd 0xFFFF (s.fget (F.hdr_LOCK_VIOL_COUNT p)) 1)).raise p 31).logErr p 1 master al off

/-- READY of a block takes a value; a change sets INT_STATUS.READY_CHG (R56). -/
def State.setReady (s : State) (p : Nat) (b : Bool) : State :=
  if s.flag (F.hdr_BLK_STATUS_READY p) = b then s
  else
    let s := s.onlyIf b fun s => { s with bus := { s.bus with shield := s.bus.shield.filter fun q => q != p } }
    (s.fput (F.hdr_BLK_STATUS_READY p) b).raise p 28

/-- FAULT of a block becomes 1 (R56). -/
def State.setFault (s : State) (p : Nat) : State := (s.fset (F.hdr_BLK_STATUS_FAULT p) 1).raise p 29

/-- The block is enabled. -/
def State.enabled (s : State) (p : Nat) : Bool := s.flag (enFl p)

/-- A block's BLK_STATUS.READY. -/
def State.ready (s : State) (p : Nat) : Bool := s.flag (F.hdr_BLK_STATUS_READY p)

/-- A block's BLK_STATUS.DRAINING. -/
def State.draining (s : State) (p : Nat) : Bool := s.flag (F.hdr_BLK_STATUS_DRAINING p)

/-- An error response of the matrix (R403, R404): logged on page 0x270, its address captured when newly logged,
and counted; in Reset the page is itself in reset (R72). Codes: 0xA DECODE, 0xB SHIELD, 0xC PERM. -/
def State.mxError (s : State) (code master addr : Nat) : State :=
  if s.dev.mode = .reset then s
  else
  let fresh := !s.flag (F.hdr_ERR_LOG_VALID 0x270)
  let s := s.logErr 0x270 code master (addr / 0x4000 % 4) (addr % 0x4000)
  let s := s.onlyIf fresh fun s => s.fsets [(F.mx_MX_ERR_ADDR_LO_ADDR, addr), (F.mx_MX_ERR_ADDR_HI_ADDR, addr / 2 ^ 32)]
  if code = 0xB then (s.cadd F.mx_SHIELD_RSP_C 1).raise 0x270 1 else s.cadd F.mx_ERR_RSP_C 1

/-! ## The field journal (R462, R464) -/

/-- Record types that bypass the rate limiter (R464). -/
def jrnlBypass (typ : Nat) : Bool := typ == 1 || typ == 2 || typ == 3 || typ == 4 || typ == 15 || typ == 16

/-- SF_COUNT as a record carries it: all ones while the core is not running (R462). -/
def State.sfRecord (s : State) : Nat := if s.live then s.cget F.core_SF_COUNT_C else 2 ^ 64 - 1

/-- Bytes of a number, least significant first. -/
def leBytes : Nat → Nat → List Nat
  | 0, _ => []
  | n + 1, x => x % 256 :: leBytes n (x / 256)

/-- The number that bytes spell, least significant first. -/
def leNat : List Nat → Nat
  | [] => 0
  | b :: l => b % 256 + 256 * leNat l

/-- Bytes of a number, most significant first. -/
def beBytes (n x : Nat) : List Nat := (leBytes n x).reverse

/-- The number that bytes spell, most significant first. -/
def beNat (l : List Nat) : Nat := leNat l.reverse

/-- A list cut or padded with zeros to `n` elements. -/
def padTo (n : Nat) (l : List Nat) : List Nat := (l ++ List.replicate n 0).take n

/-- A record as the engine builds it when the event occurs (R462). -/
def State.mkRecord (s : State) (seq typ master page : Nat) (body : List Nat) : JRec :=
  { seq := seq, typ := typ, master := master, page := page, uptime := s.svc.uptimeMs % 2 ^ 48,
    aonCycle := s.fget F.svc_SVC_STATUS_AON_CYCLE, sf := s.sfRecord, tick := s.fget F.odu_TICK_SEQ_SEQ,
    modeRole := s.dev.mode.code + 16 * s.dev.twinRole, body := padTo 28 body }

/-- The sequence number after `n`: 0xFFFF_FFFF is followed by 1 (R462). -/
def nextSeq (n : Nat) : Nat := if n % 2 ^ 32 = 2 ^ 32 - 1 then 1 else n + 1

/-- A record is dropped: counted, and page 0x2A1 raises DROP (R464). -/
def State.jrnlDrop (s : State) : State :=
  ({ s with svc := { s.svc with dropped := s.svc.dropped + 1 } }.cadd F.jr_JRNL_DROPPED_C 1).raise 0x2A1 0

/-- An event writes a journal record: SEQ is assigned now, and the record joins the queue of 256, or is dropped
(R464). A FATAL, RAIL_WARN or THERMAL record also pulls SVC_ATTN_N (R457). -/
def State.jrnl (s : State) (typ master page : Nat) (body : List Nat) : State :=
  let r := s.mkRecord (s.fget F.jr_JRNL_SEQ_SEQ) typ master page body
  let s := s.fset F.jr_JRNL_SEQ_SEQ (nextSeq r.seq)
  let s := s.onlyIf (typ == 4 || typ == 11 || typ == 12) fun s => { s with svc := { s.svc with attnRec := true } }
  if s.svc.jq.length < 256 || jrnlBypass typ then { s with svc := { s.svc with jq := s.svc.jq ++ [r] } }
  else s.jrnlDrop

/-- The master field of a record of a hardware event (R462). -/
def hwMaster : Nat := 0xFF

end Sys2Proof.Machine
end

