-- ==== Sys2Proof/Machine/Codes.lean ====
section
/-! DEFINITION. The check codes the spec names, CRC-16 (R346) and CRC-32 (R119), and the parity of slot words (R6). -/

namespace Sys2Proof.Machine

/-- One bit through a CRC register of width `w` and polynomial `poly` (without its top term), most significant bit
first. -/
def crcBit (w poly reg : Nat) (bit : Bool) : Nat :=
  let out := bitOf reg (w - 1) != bit
  (if out then (reg * 2 % 2 ^ w) ^^^ poly else reg * 2 % 2 ^ w)

/-- The bits of a byte, most significant first. -/
def byteBits (b : Nat) : List Bool := (List.range 8).map fun i => bitOf b (7 - i)

/-- The low `n` bits of a number, most significant first. -/
def bitsMsb (n x : Nat) : List Bool := (List.range n).map fun i => bitOf x (n - 1 - i)

/-- The number that bits spell, most significant first. -/
def msbNat (l : List Bool) : Nat := l.foldl (fun a b => 2 * a + b2n b) 0

/-- The CRC-16 register over bits: x^16 + x^12 + x^5 + 1 (R346). -/
def crc16Bits (reg : Nat) (l : List Bool) : Nat := l.foldl (crcBit 16 0x1021) reg

/-- CRC-16 of R346 over bytes: preset 0xFFFF, not inverted. -/
def crc16 (l : List Nat) : Nat := crc16Bits 0xFFFF (l.map byteBits).flatten

/-- CRC-32 of R119 over bytes: the IEEE 802.3 generator, preset to all ones, each byte most significant bit first,
not inverted. -/
def crc32 (l : List Nat) : Nat := ((l.map byteBits).flatten).foldl (crcBit 32 0x04C11DB7) 0xFFFFFFFF

/-- The FAS of G.709. -/
def otuFas : List Nat := [0xF6, 0xF6, 0xF6, 0x28, 0x28, 0x28]

/-! ## Slot words (R6) -/

/-- The stuff word. -/
def stuffWord : Nat := 0x20000

/-- The number of ones in the low `n` bits. -/
def ones : Nat → Nat → Nat
  | 0, _ => 0
  | n + 1, x => x % 2 + ones n (x / 2)

/-- A slot word of the given V and PAYLOAD bits with odd parity (R6). -/
def parityWord (x : Nat) : Nat := x + (if ones 17 x % 2 = 0 then 2 ^ 17 else 0)

end Sys2Proof.Machine
end

