-- ==== Sys2Proof/Config.lean ====
section
/-! DEFINITION. What one device fixes and what the spec leaves open: opaque constants without a body, so that no
proof can see a value of them (the log entries below).

Readings fixed here (notes/assumptions): 6 DESIGN CHOICE, 7 DESIGN CHOICE, 38 DESIGN CHOICE, 43 DESIGN CHOICE, 63
DEDUCED, 89 DESIGN CHOICE, 99 PRESUMED, 112 DESIGN CHOICE, 113 DESIGN CHOICE, 115 DESIGN CHOICE. -/

namespace Sys2Proof.Config

/-- The fuse encoding of a lifecycle state, by its code of SEC_STATUS; the spec gives none (R420). -/
opaque lifecycleFuse : Nat → BitVec 4
/-- The serial number fused into the device (R420). -/
opaque serial : Nat
/-- SHA-256 of the root public key, as fused (R420): 32 bytes. -/
opaque rootKeyHash : List Nat
/-- The identity certificate programmed at manufacture (R428). -/
opaque certificate : List Nat
/-- The key-agreement public key X ‖ Y derived from the device secret (R428): 64 bytes. -/
opaque agreementPub : List Nat

/-- ECDSA P-256 signature by the identity key over a digest (R429): 64 bytes. -/
opaque identitySign : List Nat → List Nat
/-- The ECDH shared secret of the key-agreement key with a sender's ephemeral public key (R428, R439): 32 bytes. -/
opaque agreementSecret : List Nat → List Nat
/-- What stands for a key and salt when a source encrypts with a slot that holds none (the spec gives none). -/
opaque noKey : List Nat × Nat
/-- PREV_TAG of a source's first multiframe, before which none was sent (the spec gives none). -/
opaque noTag : List Nat
/-- Bytes 192 to 255 of a report in FIELD_RETURN, where the key-agreement key is not derived (R428, R429). -/
opaque agreementReturn : List Nat

/-- The 6-bit form of a message of the LDPC decoder, from its exact value in quarters (R110 gives the width of a message and
not its rounding; `ldpcMsg` keeps the width). -/
opaque ldpcMessage : Int → Int

/-- The form in which the LDPC decoder keeps a bit's sum of messages, from the exact sum (R110 gives it no width). -/
opaque ldpcSum : Int → Int

/-- Bytes of a sample at a capture point (R101 gives points 1, 3 and 4 no format). -/
opaque captureWidth : Nat → Nat

/-- The debug challenge drawn for the n-th time (R469): 32 bytes. -/
opaque challenge : Nat → List Nat

/-- The MSI byte that a parent's tables imply (R139, R52): KIND of the parent (0 for an ODUCn), tributary slot counted
from 0, and 1 + the first slot unit of the tributary that holds the slot, 0 for none; the spec leaves the byte's coding to
G.709. -/
opaque msiByte : Nat → Nat → Nat → Nat

/-- The side taps c(−3), c(−2), c(−1) and c(1) of an IEEE 802.3 preset (R251 leaves them to that standard). -/
opaque ieeePreset : Nat → List Int

/-- The symbols of an IEEE 802.3 training frame that carries a request and a state, from the state of its pattern generator,
with the generator's next state (R251 leaves the frame to that standard). -/
opaque ieeeFrame : Nat → Nat → Nat → List Nat × Nat

/-- A free value: the n-th value that the spec leaves open. -/
opaque freeValue : Nat → Nat

/-- The value of a control core's register after the core has run: core, run tag, register number (R468). -/
opaque coreRegister : Nat → Nat → Nat → Nat

end Sys2Proof.Config
end

