-- ==== Sys2Proof/Machine/Crypto.lean ====
section
/-! DEFINITION. The cryptographic standards that the spec names: AES-256 (FIPS 197), GCM (SP 800-38D), AES key unwrap (SP 800-38F),
SHA-256 (FIPS 180-4) and ECDSA P-256 verification (FIPS 186-4) (spec/00_scope.md R3; spec/16_security.md). -/

namespace Sys2Proof.Machine

/-! ## AES-256 -/

/-- Multiplication by x in GF(2^8), x^8 + x^4 + x^3 + x + 1. -/
def aesDouble (x : Nat) : Nat := if 128 ≤ x then (2 * x % 256) ^^^ 0x1B else 2 * x

/-- Multiplication in GF(2^8). -/
def aesMul (x y : Nat) : Nat :=
  ((List.range 8).foldl (fun (p : Nat × Nat) i => (if bitOf y i then p.1 ^^^ p.2 else p.1, aesDouble p.2)) (0, x)).1

/-- The inverse in GF(2^8), x^254; 0 for 0. -/
def aesInverse (x : Nat) : Nat :=
  let x2 := aesMul x x
  let x3 := aesMul x2 x
  let x6 := aesMul x3 x3
  let x12 := aesMul x6 x6
  let x14 := aesMul x12 x2
  let x15 := aesMul x12 x3
  let sq := fun (k y : Nat) => (List.range k).foldl (fun z _ => aesMul z z) y
  aesMul (sq 4 x15) x14

/-- A byte rotated left. -/
def rotByte (x k : Nat) : Nat := x * 2 ^ k % 256 + x / 2 ^ (8 - k)

/-- The S-box. -/
def aesSbox (x : Nat) : Nat :=
  let b := aesInverse x
  b ^^^ rotByte b 1 ^^^ rotByte b 2 ^^^ rotByte b 3 ^^^ rotByte b 4 ^^^ 0x63

/-- The inverse S-box. -/
def aesInvSbox (x : Nat) : Nat := aesInverse (rotByte x 1 ^^^ rotByte x 3 ^^^ rotByte x 6 ^^^ 5)

/-- Bytes XORed. -/
def xorBytes (a b : List Nat) : List Nat := List.zipWith (· ^^^ ·) a b

/-- Round constant of the key schedule's step `i`. -/
def aesRcon (i : Nat) : Nat := (List.range (i - 1)).foldl (fun x _ => aesDouble x) 1

/-- The word of the key schedule after the last 8 words, oldest first, at index `i`. -/
def aesNextWord (last : List (List Nat)) (i : Nat) : List Nat :=
  let t := last.getLastD []
  let u := if i % 8 = 0 then
      match ((t.drop 1 ++ t.take 1).map aesSbox) with
      | a :: l => (a ^^^ aesRcon (i / 8)) :: l
      | [] => []
    else if i % 8 = 4 then t.map aesSbox else t
  xorBytes (last.headD []) u

/-- The 15 round keys of 16 bytes of a 32-byte key. -/
def aesKeys (key : List Nat) : List (List Nat) :=
  let words := (List.range 52).foldl (fun l k => l ++ [aesNextWord (l.drop k) (k + 8)])
    ((List.range 8).map fun k => (key.drop (4 * k)).take 4)
  (List.range 15).map fun r => ((words.drop (4 * r)).take 4).flatten

/-- Byte `r` of column `c` of a block. -/
def aesAt (b : List Nat) (r c : Nat) : Nat := b.getD (4 * (c % 4) + r % 4) 0

/-- A block from its bytes by row and column. -/
def aesBlock (f : Nat → Nat → Nat) : List Nat := (List.range 16).map fun i => f (i % 4) (i / 4)

/-- The columns of a block times a fixed polynomial, given by the factors of rows r, r + 1, r + 2 and r + 3. -/
def aesMix (k : List Nat) (b : List Nat) : List Nat :=
  aesBlock fun r c => (List.range 4).foldl (fun x j => x ^^^ aesMul (aesAt b (r + j) c) (k.getD j 0)) 0

/-- One block encrypted with round keys. -/
def aesEncrypt (rk : List (List Nat)) (block : List Nat) : List Nat :=
  let sub := fun (b : List Nat) => aesBlock fun r c => aesSbox (aesAt b r (c + r))
  let b := (List.range 13).foldl (fun b i => xorBytes (aesMix [2, 3, 1, 1] (sub b)) (rk.getD (i + 1) []))
    (xorBytes block (rk.getD 0 []))
  xorBytes (sub b) (rk.getD 14 [])

/-- One block decrypted with round keys. -/
def aesDecrypt (rk : List (List Nat)) (block : List Nat) : List Nat :=
  let sub := fun (b : List Nat) => aesBlock fun r c => aesInvSbox (aesAt b r (c + 4 - r))
  let b := (List.range 13).foldl (fun b i => aesMix [14, 11, 13, 9] (xorBytes (sub b) (rk.getD (13 - i) [])))
    (xorBytes block (rk.getD 14 []))
  xorBytes (sub b) (rk.getD 0 [])

/-! ## GCM -/

/-- Multiplication in GF(2^128) with GCM's bit order, most significant bit first. -/
def gcmMul (x y : Nat) : Nat :=
  ((List.range 128).foldl (fun (p : Nat × Nat) i =>
    (if bitOf x (127 - i) then p.1 ^^^ p.2 else p.1, if p.2 % 2 = 1 then p.2 / 2 ^^^ 0xE1 * 2 ^ 120 else p.2 / 2)) (0, y)).1

/-- Bytes cut in blocks of 16, the last padded with zeros. -/
def gcmBlocks (l : List Nat) : List (List Nat) := (List.range ((l.length + 15) / 16)).map fun i => padTo 16 (l.drop (16 * i))

/-- GHASH of AAD and ciphertext with the hash key `h`. -/
def gcmHash (h : Nat) (aad ct : List Nat) : Nat :=
  (gcmBlocks aad ++ gcmBlocks ct ++ [beBytes 8 (8 * aad.length) ++ beBytes 8 (8 * ct.length)]).foldl
    (fun y b => gcmMul (y ^^^ beNat b) h) 0

/-- The counter mode of GCM, from counter 2, with a 96-bit IV: encryption and decryption. -/
def gcmCrypt (key iv text : List Nat) : List Nat :=
  let rk := aesKeys key
  (List.range ((text.length + 15) / 16)).flatMap fun i =>
    xorBytes ((text.drop (16 * i)).take 16) (aesEncrypt rk (iv ++ beBytes 4 (i + 2)))

/-- The 16-byte tag over AAD and ciphertext, with a 96-bit IV. -/
def gcmTag (key iv aad ct : List Nat) : List Nat :=
  let rk := aesKeys key
  xorBytes (beBytes 16 (gcmHash (beNat (aesEncrypt rk (List.replicate 16 0))) aad ct)) (aesEncrypt rk (iv ++ [0, 0, 0, 1]))

/-! ## AES key unwrap -/

/-- One step of unwrapping, with its counter, over A and R_1 to R_n. -/
def unwrapStep (rk : List (List Nat)) (p : List Nat × List (List Nat)) (t : Nat) : List Nat × List (List Nat) :=
  let n := p.2.length
  let i := (t - 1) % n
  let b := aesDecrypt rk (xorBytes p.1 (beBytes 8 t) ++ p.2.getD i [])
  (b.take 8, p.2.set i (b.drop 8))

/-- The key that wrapped bytes hold; none where the integrity check fails. -/
def keyUnwrap (key wrapped : List Nat) : Option (List Nat) :=
  let n := wrapped.length / 8 - 1
  let r := (List.range n).map fun i => (wrapped.drop (8 * (i + 1))).take 8
  let x := (List.range (6 * n)).foldl (fun p k => unwrapStep (aesKeys key) p (6 * n - k)) (wrapped.take 8, r)
  if x.1 = List.replicate 8 0xA6 ∧ wrapped.length % 8 = 0 then some x.2.flatten else none

/-! ## SHA-256 -/

/-- Addition of 32-bit words. -/
def add32 (x y : Nat) : Nat := (x + y) % 2 ^ 32

/-- Rotation right of a 32-bit word. -/
def rotr32 (k x : Nat) : Nat := x / 2 ^ k + x % 2 ^ k * 2 ^ (32 - k)

/-- The largest number whose `k`-th power is at most x, by bits below 2^`n`. -/
def rootFloor (k x : Nat) : Nat → Nat → Nat
  | 0, r => r
  | n + 1, r => rootFloor k x n (if (r + 2 ^ n) ^ k ≤ x then r + 2 ^ n else r)

/-- The first 64 primes. -/
def shaPrimes : List Nat := (List.range 312).filter fun n => decide (2 ≤ n) && (List.range 18).all fun d => d < 2 || n ≤ d || n % d != 0

/-- Initial hash: the first 32 bits of the fractions of the square roots of the first 8 primes. -/
def shaInit : List Nat := (shaPrimes.take 8).map fun p => rootFloor 2 (p * 2 ^ 64) 40 0 % 2 ^ 32

/-- Round constants: the first 32 bits of the fractions of the cube roots of the first 64 primes. -/
def shaK : List Nat := shaPrimes.map fun p => rootFloor 3 (p * 2 ^ 96) 40 0 % 2 ^ 32

/-- The message schedule of a block of 16 words. -/
def shaWords (w : List Nat) : List Nat :=
  (List.range 48).foldl (fun l k =>
    let at_ := fun i => l.getD (k + i) 0
    let s0 := rotr32 7 (at_ 1) ^^^ rotr32 18 (at_ 1) ^^^ at_ 1 / 8
    let s1 := rotr32 17 (at_ 14) ^^^ rotr32 19 (at_ 14) ^^^ at_ 14 / 1024
    l ++ [add32 (add32 (at_ 0) s0) (add32 (at_ 9) s1)]) w

/-- One round, over the working variables a to h, with a round constant and a word of the schedule. -/
def shaRound (v : List Nat) (x : Nat × Nat) : List Nat :=
  match v with
  | [a, b, c, d, e, f, g, h] =>
    let s1 := rotr32 6 e ^^^ rotr32 11 e ^^^ rotr32 25 e
    let t1 := add32 (add32 h s1) (add32 ((e &&& f) ^^^ ((2 ^ 32 - 1 - e) &&& g)) (add32 x.1 x.2))
    let s0 := rotr32 2 a ^^^ rotr32 13 a ^^^ rotr32 22 a
    let t2 := add32 s0 ((a &&& b) ^^^ (a &&& c) ^^^ (b &&& c))
    [add32 t1 t2, a, b, c, add32 d t1, e, f, g]
  | _ => v

/-- SHA-256 of a byte string: 32 bytes. -/
def sha256 (l : List Nat) : List Nat :=
  let pad := l ++ [0x80] ++ List.replicate ((119 - l.length % 64) % 64) 0 ++ beBytes 8 (8 * l.length)
  let blocks := (List.range (pad.length / 64)).map fun i =>
    (List.range 16).map fun j => beNat ((pad.drop (64 * i + 4 * j)).take 4)
  let h := blocks.foldl (fun h b => List.zipWith add32 h ((shaK.zip (shaWords b)).foldl shaRound h)) shaInit
  (h.map (beBytes 4)).flatten

/-! ## ECDSA P-256 -/

/-- The field prime, the group order and b of P-256. -/
def p256P : Nat := 2 ^ 256 - 2 ^ 224 + 2 ^ 192 + 2 ^ 96 - 1
def p256N : Nat := 0xFFFFFFFF00000000FFFFFFFFFFFFFFFFBCE6FAADA7179E84F3B9CAC2FC632551
def p256B : Nat := 0x5AC635D8AA3A93E7B3EBBD55769886BC651D06B0CC53B0F63BCE3C3E27D2604B

/-- The base point. -/
def p256G : Nat × Nat :=
  (0x6B17D1F2E12C4247F8BCE6E563A440F277037D812DEB33A0F4A13945D898C296,
    0x4FE342E2FE1A7F9B8EE7EB4A7C0F9E162BCE33576B315ECECBB6406837BF51F5)

/-- x^e mod m, over the `n` low bits of e. -/
def powMod (m x e : Nat) : Nat → Nat
  | 0 => 1
  | n + 1 =>
    let y := powMod m (x * x % m) (e / 2) n
    if e % 2 = 1 then x * y % m else y

/-- The inverse modulo a prime. -/
def invMod (m x : Nat) : Nat := powMod m (x % m) (m - 2) 256

/-- The sum of two points of the curve; none is the point at infinity. -/
def p256Add (a b : Option (Nat × Nat)) : Option (Nat × Nat) :=
  match a, b with
  | none, q => q
  | p, none => p
  | some p, some q =>
    if p.1 = q.1 ∧ (p.2 + q.2) % p256P = 0 then none
    else
      let l := if p = q then 3 * (p.1 * p.1 + (p256P - 1)) * invMod p256P (2 * p.2)
        else (q.2 + p256P - p.2) * invMod p256P (q.1 + p256P - p.1)
      let x := (l * l + 2 * p256P - p.1 - q.1) % p256P
      some (x, (l * (p.1 + p256P - x) + p256P - p.2) % p256P)

/-- k times a point, over the `n` low bits of k. -/
def p256Times (p : Option (Nat × Nat)) (k : Nat) : Nat → Option (Nat × Nat)
  | 0 => none
  | n + 1 =>
    let q := p256Times (p256Add p p) (k / 2) n
    if k % 2 = 1 then p256Add p q else q

/-- ECDSA P-256 verification: public key X ‖ Y, digest, signature r ‖ s. -/
def ecdsaVerify (pub digest sig : List Nat) : Bool :=
  let x := beNat (pub.take 32)
  let y := beNat ((pub.drop 32).take 32)
  let r := beNat (sig.take 32)
  let s := beNat ((sig.drop 32).take 32)
  let w := invMod p256N s
  let e := beNat (digest.take 32)
  pub.length == 64 && sig.length == 64 && decide (x < p256P) && decide (y < p256P) &&
    decide (y * y % p256P = (x * x * x + (p256P - 3) * x + p256B) % p256P) &&
    decide (0 < r ∧ r < p256N ∧ 0 < s ∧ s < p256N) &&
    (match p256Add (p256Times (some p256G) (e * w % p256N) 256) (p256Times (some (x, y)) (r * w % p256N) 256) with
      | none => false
      | some q => q.1 % p256N == r)

end Sys2Proof.Machine
end

