-- ==== Sys2Proof/Machine/Gate.lean ====
section
/-! DEFINITION. What stands between a master's access and a page: unmapped pages, Reset and Boot, domains that
are off, the reset shield, the monitor function, secure pages (R54, R72, R74, R76, R405); and the twin journal that
records what the access changed (R340).

Readings fixed here (notes/assumptions): 9 DEDUCED, 26 DEDUCED, 32 DEDUCED, 108 DESIGN CHOICE, 113 DESIGN CHOICE. -/

namespace Sys2Proof.Machine

/-- What an access meets before it reaches its page. -/
inductive Gate
  | go | decode | shield | drop | dropLog | secure
deriving DecidableEq, Repr

/-- The gate of an access by `m` to page `p` (R54, R72, R74, R76, R405). DESIGN CHOICE (log 113): the page map comes first, so that an access to an
unmapped page is R54's error during Boot and Reset too, and R72 speaks of the pages that exist. PF1's page 0x3FF is its user counter
page, whose writes are discarded and not logged (R384). -/
def State.gate (s : State) (m : Master) (p : Nat) (write : Bool) : Gate :=
  if s.dev.mode = .dormant then (if pageAon p && m = .service then .go else .drop)
  else if m = .pf1 && p = 0x3FF then .drop
  else if !pageMapped p then .decode
  else if write && m = .pf1 then .drop
  else if m != .warden && p != 0 && !(m = .service && pageAon p) && s.dev.mode = .reset then .drop
  else if m != .warden && p != 0 && !(m = .service && pageAon p) && s.dev.mode = .boot then .dropLog
  else if s.domainOff p then .dropLog
  else if s.bus.shield.contains (basePage p) then .shield
  else if pageSecure p && m != .warden then .secure
  else .go

/-- Pages whose configuration is copied to the partner (R337). -/
def copiedPage (p : Nat) : Bool :=
  (0x10 ≤ p && p ≤ 0x1B) || (0x20 ≤ p && p ≤ 0x2B) || p == 0x40 || p == 0x41 || p == 0x60 ||
  (0x80 ≤ p && p ≤ 0x8D) || (0x90 ≤ p && p ≤ 0x92) || (0x100 ≤ p && p ≤ 0x21F) || p == 0x220 ||
  p == 0x240 || p == 0x241 || (0x2B0 ≤ p && p ≤ 0x2B3)

/-- This device serves as the active twin: Twin-Active, or Service entered from it (R34). -/
def State.twinActive (s : State) : Bool := s.dev.twinRole == 1

/-- The Emzal link is UP (R326). -/
def State.linkUp (s : State) : Bool := s.fget F.twin_TWIN_STATUS_LINK == 5

/-- Queue an urgent twin journal record (R340, types 1 to 5). -/
def State.twinRecord (s : State) (b : TwinBody) : State :=
  let r : TwinRec :=
    { seq := s.twin.recSeq, sf := s.cget F.core_SF_COUNT_C % 2 ^ 27,
      frame := s.fget F.core_CORE_STATUS_FRAME, body := b }
  { s with twin := { s.twin with urgent := s.twin.urgent ++ [r], recSeq := (s.twin.recSeq + 1) % 2 ^ 16 } }

/-- Queue a non-urgent twin journal record (R344). -/
def State.twinRecordLater (s : State) (b : TwinBody) : State :=
  let r : TwinRec :=
    { seq := s.twin.recSeq, sf := s.cget F.core_SF_COUNT_C % 2 ^ 27,
      frame := s.fget F.core_CORE_STATUS_FRAME, body := b }
  { s with twin := { s.twin with bulkQ := s.twin.bulkQ ++ [r], recSeq := (s.twin.recSeq + 1) % 2 ^ 16 } }

/-- A confirmed state of the active is recorded for the partner. -/
def State.twinNote (s : State) (b : TwinBody) : State :=
  if s.twinActive && s.linkUp then s.twinRecord b else s

/-- The register that covers an offset of a page. -/
def findReg (p off : Nat) : Option RegSpec :=
  (if off < 0x40 then regs_hdr else regsOf (pageClass p)).find? fun r =>
    decide (r.off ≤ off) && decide (off < r.off + r.n * r.stride) && (off - r.off) % r.stride == 0

/-- A register-store key is a copied configuration field (R337): read-write, and outside the common header. -/
def cfgKey (k : Nat) : Bool :=
  let p := k / 0x80000
  let off := k / 32 % 0x4000
  copiedPage p && decide (0x40 ≤ off) && (match findReg p off with
    | none => false
    | some r => r.fields.any fun f => f.lo == k % 32 && (f.acc == .rw || f.acc == .rwl))

/-- The copied configuration of a page: its read-write fields and, where the block has one, its enable (R337). -/
def State.copiedOf (s : State) (p : Nat) : List (Nat × Nat) × Nat :=
  (s.fields.filter fun e => e.1 / 0x80000 == p && cfgKey e.1, if hasEnable p then s.fget (enFl p) else 0)

/-- The state without the common header of page `p`: what a refused write leaves as it was. -/
def State.sansHeader (s : State) (p : Nat) : State :=
  { s with fields := spDrop (fun k => decide (p * 0x80000 ≤ k) && decide (k < p * 0x80000 + 0x34 * 32)) s.fields }

/-- The twin journal record of a write (R340): whole connection-memory entries make type 2 records, other copied
fields type 1. -/
def writeBody (m : Master) (p off region be data : Nat) : TwinBody :=
  if 0x82 ≤ p && p ≤ 0x8D && 0x400 ≤ off && region == 0 && be == 15 then
    .cmBurst ((p - 0x82) * 0xF00 + off / 4 - 0x100) [data % 2 ^ 18]
  else .regWrite p region (off / 4) be data (masterId m)

/-- Record a write on the active once it has taken effect; a write without effect is not recorded (R340). Of the
context commands, those that change a context's configuration make type 3 records; each twin holds its own security associations
(R442). A write that logs an error is recorded where it changed copied fields all the same. -/
def State.mirror (s : State) (m : Master) (p off region be data : Nat) (s' : State) : State :=
  if !s.twinActive || !s.linkUp || m = .twin || !copiedPage p then s'
  else if p = 0x60 && off = 0x40 then
    (if s'.ctx != s.ctx && bitsOf data 0 18 < 261120 && (bitsOf data 18 3 = 2 || bitsOf data 18 3 = 4) then
      let x := bitsOf data 0 18
      s'.twinRecord (.ctxConfig x ((List.range 6).map fun d => spGet 0 s'.ctx (x * 16 + d)))
    else s')
  else if s'.sansHeader p != s.sansHeader p || s'.copiedOf p != s.copiedOf p then
    s'.twinRecord (writeBody m p off region be data)
  else s'

/-- The state with no valid entry in the error log of a page. -/
def State.errCleared (s : State) (p : Nat) : State := s.fset (F.hdr_ERR_LOG_VALID p) 0

/-- An effect refuses the access that causes it: it logs an error on the access's page (R75). -/
def State.refuses (s : State) (p : Nat) (f : State → State) : Bool := (f (s.errCleared p)).flag (F.hdr_ERR_LOG_VALID p)

/-- A write by `m` to a page: its effect `f` where the page can be reached, otherwise what R54, R72, R74 (CAP_ID and BLK_INFO are never
secure-only, R59), R76 and R404 state; and the twin journal record. `region` is the alias region of R53. -/
def State.viaPage (s : State) (m : Master) (p off region be data : Nat) (f : State → State) : State :=
  match s.gate m p true with
  | .go =>
    if s.twinActive && s.linkUp && s.refuses p f && (f s).copiedOf p == s.copiedOf p then f s
    else s.mirror m p off region be data (f s)
  | .decode =>
    let s := s.mxError 0xA (masterId m) (p * 0x10000 + region * 0x4000 + off)
    if m = .pf0 || m = .pf1 then s.cadd F.pcie_UR_SENT_C 1 else s
  | .shield => s.mxError 0xB (masterId m) (p * 0x10000 + region * 0x4000 + off)
  | .drop => s
  | .dropLog => s.logErr 0x270 6 (masterId m) region off
  | .secure => if off < 8 then s else s.logErr p 5 (masterId m) region off

/-- A whole-word write by `m` of a command register. -/
def State.viaCmd (s : State) (m : Master) (p off data : Nat) (f : State → State) : State :=
  s.viaPage m p off 0 0xF data f

/-! ## Interrupt messages (R64, R386) -/

/-- The page of a register-store entry that holds an INT_STATUS. -/
def intPage (k : Nat) : Option Nat :=
  if k % 32 == 0 && k / 32 % 0x4000 == 0x10 then some (k / 0x80000) else none

/-- The pages that request an interrupt: INT_STATUS AND INT_ENABLE is non-zero (R64). -/
def requestingPages (s : State) : List Nat :=
  s.fields.filterMap fun e => match intPage e.1 with
    | some p => if e.2 &&& s.fget (F.hdr_INT_ENABLE_EN p) != 0 then some p else none
    | none => none

/-- The vectors of a function whose request Q_v is 1 (R386). -/
def requestedVectors (s : State) (pf : Nat) : List Nat :=
  (requestingPages s).filterMap fun p =>
    if pf == 0 then
      (if s.flag (F.hdr_INT_VECTOR_TO_PF0 p) then some (s.fget (F.hdr_INT_VECTOR_VEC0 p)) else none)
    else (if s.flag (F.hdr_INT_VECTOR_TO_PF1 p) then some (s.fget (F.hdr_INT_VECTOR_VEC1 p)) else none)

/-- The interface state of a function. -/
def State.pf (s : State) (pf : Nat) : PfState := if pf == 0 then s.host.pf0 else s.host.pf1

/-- Replace the interface state of a function. -/
def State.setPf (s : State) (pf : Nat) (v : PfState) : State :=
  if pf == 0 then { s with host := { s.host with pf0 := v } } else { s with host := { s.host with pf1 := v } }

/-- A function can send messages now: MSI-X enabled, Bus Master Enable set, in D0, the link up (R381, R386). -/
def State.msgReady (s : State) (pf : Nat) : Bool :=
  (s.pf pf).msixEn && (s.pf pf).bme && !(s.pf pf).d3hot && s.flag F.pcie_LINK_STATUS_UP

/-- Message address and data of a vector, as its function's MSI-X table holds them (R382). -/
def PfState.message (f : PfState) (v : Nat) : Nat × Nat :=
  (spGet 0 f.table (4 * v) + 2 ^ 32 * spGet 0 f.table (4 * v + 1), spGet 0 f.table (4 * v + 2))

/-- A function sends a vector's message, a posted write of its table entry's data to its address: counted in MSIX_SENT (R397). -/
def State.sendMsix (s : State) (pf v : Nat) : State :=
  (s.emit (.msix pf v ((s.pf pf).message v).1 ((s.pf pf).message v).2)).cadd F.pcie_MSIX_SENT_C 1

/-- A vector's request rises: its message is sent, or its PBA bit is set while it is masked (R386). -/
def State.vectorRise (pf : Nat) (s : State) (v : Nat) : State :=
  if s.msgReady pf && (s.pf pf).unmasked.contains v then s.sendMsix pf v
  else s.setPf pf { s.pf pf with pba := if (s.pf pf).pba.contains v then (s.pf pf).pba else v :: (s.pf pf).pba }

/-- The interrupt messages of one function for the change from `s` to `s'` (R386): a rise of Q_v sends or sets
the PBA bit; a fall clears it. -/
def msixOf (pf : Nat) (s s' : State) : State :=
  let before := requestedVectors s pf
  let now := (requestedVectors s' pf).eraseDups
  let s' := (now.filter fun v => !before.contains v).foldl (State.vectorRise pf) s'
  s'.setPf pf { s'.pf pf with pba := (s'.pf pf).pba.filter fun v => now.contains v }

/-- The interrupt messages of a command's effect. -/
def interrupts (s s' : State) : State := msixOf 1 s (msixOf 0 s s')

end Sys2Proof.Machine
end

