-- ==== Sys2Proof/Machine/RegBase.lean ====
section
/-! DEFINITION. Reading and writing a register by its fields' access codes: regions, byte enables, locks
(spec/03_registers.md, R60 to R70).

Readings fixed here (notes/assumptions): 25 DEDUCED, 113 DESIGN CHOICE. -/

namespace Sys2Proof.Machine

/-- The bit mask of four byte enables (R70). -/
def beMask (be : Nat) : Nat :=
  (if bitOf be 0 then 0xFF else 0) + (if bitOf be 1 then 0xFF00 else 0) +
  (if bitOf be 2 then 0xFF0000 else 0) + (if bitOf be 3 then 0xFF000000 else 0)

/-- The handle of a register's field: BLK_STATUS and BLK_CTRL are those of the block's first page. -/
def fieldAt (p off : Nat) (f : FieldSpec) : Fl :=
  if off == 0xC && f.lo == 0 then enFl (basePage p)
  else if off == 0x8 then ⟨basePage p, off, f.lo, f.w, f.rst⟩
  else ⟨p, off, f.lo, f.w, f.rst⟩

/-- The field is FR_CFG.FP_MASTER in the Forerunner role, which reads 0 and behaves as a locked field (R295). -/
def State.masterFixed (s : State) (p off : Nat) (f : FieldSpec) : Bool :=
  p == 0x220 && off == 0x40 && f.lo == 0 && s.fget F.dev_ROLE_ROLE == 3

/-- What a master reads of a field (R60): WP reads zero, RS and RWS read zero to all but Warden. -/
def State.readField (s : State) (m : Master) (p off : Nat) (f : FieldSpec) : Nat :=
  if s.masterFixed p off f then 0
  else match f.acc with
  | .wp => 0
  | .rs | .rws => if m = .warden then s.fget (fieldAt p off f) * 2 ^ f.lo else 0
  | _ => s.fget (fieldAt p off f) * 2 ^ f.lo

/-- The stored register word as a master reads it. -/
def State.storedReg (s : State) (m : Master) (p off : Nat) : Nat :=
  match findReg p off with
  | none => 0
  | some r => (r.fields.map (s.readField m p off)).foldl (· + ·) 0

/-- The counter that covers an offset of a page, with its own offset, and whether the offset is its high DWORD. -/
def findCtr (p off : Nat) : Option (Ct × Bool) :=
  match (ctrsOf (pageClass p)).find? fun c =>
    decide (c.off ≤ off) && decide (off < c.off + c.n * c.stride) && decide ((off - c.off) % c.stride < c.w / 8) with
  | none => none
  | some c => some (⟨p, c.off + (off - c.off) / c.stride * c.stride, c.w⟩, (off - c.off) % c.stride == 4)

/-- A counter's DWORD at an offset below 0x2000, or its holding register's above (R65). -/
def State.ctrReg (s : State) (p off : Nat) : Option Nat :=
  match findCtr p (off % 0x2000) with
  | none => none
  | some (c, hi) =>
    let v := if off < 0x2000 then s.cget c else spGet 0 s.hold c.key
    some (if hi then v / 2 ^ 32 else v % 2 ^ 32)

/-- A field is locked: its LOCK bit is 1, or it is DEVICE.ROLE.ROLE outside Boot and Bring-up, or once Bring-up has been left
(R67, R68, R38). That ROLE is locked in Service entered from Boot, before Bring-up, is DEDUCED: R38 lets it be written during
Boot and Bring-up only. -/
def State.fieldLocked (s : State) (p off : Nat) (f : FieldSpec) : Bool :=
  (f.acc == .rwl && bitOf (s.fget (F.hdr_LOCK_LOCK p)) f.lock) ||
  (p == 0 && off == 0x48 && f.lo == 0 && (s.dev.broughtUp || !(s.dev.mode == .boot || s.dev.mode == .bringUp)))

/-- The value a write of `d` under mask `k` would give a read-write field in a region (R60, R62). -/
def mergeField (region old d k : Nat) : Nat :=
  match region with
  | 0 => (old - (old &&& k)) ||| (d &&& k)
  | 1 => old ||| (d &&& k)
  | 2 => old - (old &&& (d &&& k))
  | _ => old ^^^ (d &&& k)

/-- The new value of a field, and whether the write violates a lock (R60, R62, R67, R68). -/
def State.writeField (s : State) (m : Master) (p off region be data : Nat) (f : FieldSpec) : Nat × Bool :=
  let old := s.fget (fieldAt p off f)
  let d := bitsOf data f.lo f.w
  let k := bitsOf (beMask be) f.lo f.w
  let new := mergeField region old d k % 2 ^ f.w
  if s.masterFixed p off f then (0, mergeField region 0 d k % 2 ^ f.w != 0)
  else match f.acc with
  | .rw => (new, false)
  | .rwl => if s.fieldLocked p off f then (old, new != old) else (new, false)
  | .rws => if m = .warden then (new, false) else (old, false)
  | .w1c => if region = 0 then (old - (old &&& (d &&& k)), false) else (old, false)
  | .wo1 => if region = 0 then (old ||| (d &&& k), (old &&& k) - (old &&& (d &&& k)) != 0) else (old, false)
  | .ro | .wp | .rs => (old, false)

/-- Apply a write to each field of a register in turn. -/
def State.writeFields (s0 : State) (m : Master) (p off region be data : Nat) : List FieldSpec → State → State
  | [], s => s
  | f :: l, s =>
    let v := (s0.writeField m p off region be data f).1
    let h := fieldAt p off f
    s0.writeFields m p off region be data l (if v = s0.fget h then s else s.fset h v)

/-- A write to a register by its fields' access codes (R60, R62, R70); a violation of a lock is recorded once for
the access (R67). -/
def State.plainWrite (s : State) (m : Master) (p off region be data : Nat) : State :=
  match findReg p off with
  | none => s
  | some r =>
    let viol := r.fields.any fun f => (s.writeField m p off region be data f).2
    let s' := s.writeFields m p off region be data r.fields s
    if viol then s'.lockViol p (masterId m) region off else s'

/-- The word a register would hold after a write to its RW and unlocked RWL fields. -/
def State.mergedWord (s : State) (p off region be data : Nat) : Nat :=
  match findReg p off with
  | none => 0
  | some r => (r.fields.map fun f =>
      (s.writeField .pf0 p off region be data f).1 * 2 ^ f.lo).foldl (· + ·) 0

/-- The register is whole-word (R69): LOCK, SNAP_CTRL, and every register its chapter marks. -/
def wholeWord (p off : Nat) : Bool :=
  match findReg p off with
  | some r => r.whole
  | none => false

end Sys2Proof.Machine
end

