-- ==== Sys2Proof/Machine/CountOps.lean ====
section
/-! DEFINITION. The event counters: what they select, count and do on overflow (spec/15_bus_counters.md, R408 to R412).

Readings fixed here (notes/assumptions): 27 DEDUCED, 30 DEDUCED, 86 DESIGN CHOICE, 107 DESIGN CHOICE. -/

namespace Sys2Proof.Machine

/-- Counter `k` counts: it is enabled and counting is not frozen (R408, R411). -/
def State.cntLive (s : State) (k : Nat) : Bool :=
  s.flag (F.perf_EVT_CFG_EN k) && !s.flag F.perf_FRZ_CTRL_FROZEN

/-- An odd counter counts the overflows of the counter below it (R408). -/
def State.chained (s : State) (k : Nat) : Bool := k % 2 == 1 && s.flag (F.perf_EVT_CFG_CHAIN k)

/-- What an overflow of counter `k` does, its chain apart (R411, R412). -/
def State.overflowed (s : State) (txn : Option SampleTxn) (k : Nat) : State :=
  let s := (s.fset F.perf_OVF_STATUS_OVF (s.fget F.perf_OVF_STATUS_OVF ||| 2 ^ k)).raise 0x272 0
  let s := s.onlyIf (s.flag (F.perf_EVT_CFG_SAMPLE k)) fun s =>
    let d : SampleDue :=
      { k := k, cls := s.fget (F.perf_EVT_CFG_CLASS k), event := s.fget (F.perf_EVT_CFG_EVENT k),
        sf := s.cget F.core_SF_COUNT_C % 2 ^ 32, frame := s.fget F.core_CORE_STATUS_FRAME, txn := txn }
    let s := s.cset (F.perf_CNT_C k) (s.fget (F.perf_RELOAD_RELOAD k))
    { s with bus := { s.bus with sampleDue := s.bus.sampleDue ++ [d] } }
  s.onlyIf (s.flag (F.perf_EVT_CFG_FRZ_OVF k)) fun s => s.fset F.perf_FRZ_CTRL_FROZEN 1

/-- Counter `k` takes the events of one edge, `s0` being the state at the edge; the flag carries the overflow of the
counter before it (R408, R412). -/
def countStep (s0 : State) (txn : Option SampleTxn) (f : Nat → Nat) (p : State × Bool) (k : Nat) : State × Bool :=
  let n := if !s0.cntLive k then 0 else if s0.chained k then b2n p.2 else f k
  let v := p.1.cget (F.perf_CNT_C k) + n
  let s := if n = 0 then p.1 else p.1.cset (F.perf_CNT_C k) v
  if 2 ^ 32 ≤ v then (s.overflowed txn k, true) else (s, false)

/-- Every counter takes the events that `f` finds for it. -/
def State.count (s : State) (txn : Option SampleTxn) (f : Nat → Nat) : State :=
  ((List.range 32).foldl (countStep s txn f) (s, false)).1

/-- Code of a core's mode in a sample record (R414). -/
def cpuCode : CpuMode → Nat
  | .u => 0 | .s => 1 | .m => 3

/-- The master is a control core. -/
def isCore : Master → Bool
  | .core _ => true
  | _ => false

/-- The bit of FILT.PRIV of a mode (R410). -/
def privBit : CpuMode → Nat
  | .u => 0 | .s => 1 | .m => 2

/-- A bus event of counter `k`'s selection passes its filters (R409, R410). -/
def State.busSelects (s : State) (k ev target addr : Nat) (m : Master) (mode : CpuMode) (write : Bool) : Bool :=
  let masters := s.fget (F.perf_FILT_MASTER_LO k) + 8 * s.fget (F.perf_FILT_MASTER_HI k)
  s.fget (F.perf_EVT_CFG_CLASS k) == 0 && s.fget (F.perf_EVT_CFG_EVENT k) == ev && m != .warden &&
  bitOf masters (masterId m) && (!isCore m || bitOf (s.fget (F.perf_FILT_PRIV k)) (privBit mode)) &&
  (if write then s.flag (F.perf_FILT_WR k) else s.flag (F.perf_FILT_RD k)) &&
  bitOf (s.fget (F.perf_FILT_TARGET k)) target &&
  (!s.flag (F.perf_EVT_CFG_ADDR_EN k) || (decide (s.fget (F.perf_ADDR_BASE_BASE k) ≤ addr / 4096) &&
    decide (addr / 4096 ≤ s.fget (F.perf_ADDR_LIMIT_LIMIT k))))

/-- The bus events of a transaction are counted: pairs of an event of class 0 and its number (R409). -/
def State.busEvents (s : State) (r : BusReq) (txn : SampleTxn) (l : List (Nat × Nat)) : State :=
  if r.master = .warden then s
  else s.count (some txn) fun k =>
    ((l.filter fun e => s.busSelects k e.1 txn.target r.addr r.master r.mode txn.write).map Prod.snd).foldl (· + ·) 0

/-- A transaction as the sampler describes it (R414): target, beats done, response, PROV of the target block. -/
def txnOf (r : BusReq) (target beats resp : Nat) (prov : Bool) : SampleTxn :=
  { master := masterId r.master, target := target, write := (match r.op with | .write _ => true | .read _ => false),
    prov := prov, addr := r.addr, beats := beats, resp := resp,
    mode := if isCore r.master then cpuCode r.mode else 0 }

/-- Samples of overflows that a burst's earlier events caused describe it as it completes, PROV as at its grant (R414). -/
def State.sampleTxn (s : State) (t : SampleTxn) : State :=
  { s with bus := { s.bus with sampleDue := s.bus.sampleDue.map fun d => match d.txn with
    | some x => if x.master = t.master ∧ x.target = t.target ∧ x.write = t.write ∧ x.addr = t.addr ∧ x.beats = 0 ∧ x.resp = 0 then
        { d with txn := some t } else d
    | none => d } }

/-- DWORDs of a burst. -/
def reqDwords (r : BusReq) : Nat :=
  match r.op with
  | .read l => l.length
  | .write l => l.length

/-- The burst is a write. -/
def reqWrite (r : BusReq) : Bool :=
  match r.op with
  | .read _ => false
  | .write _ => true

/-- What a master reads at an error response: on PCIe a shielded read completes with ones (R403). -/
def errData (r : BusReq) (resp : Nat) : List Nat :=
  if (r.master = .pf0 || r.master = .pf1) && resp == 3 && !reqWrite r then List.replicate (reqDwords r) 0xFFFFFFFF else []

/-- CORE_CLK time passes: the counters of class 2 (R409). `cycles` CORE_CLK cycles bring `us` whole microseconds. -/
def State.timeEvents (s : State) (cycles us : Nat) : State :=
  if (List.range 32).any fun k => s.flag (F.perf_EVT_CFG_EN k) then
    s.count none fun k =>
      if s.fget (F.perf_EVT_CFG_CLASS k) != 2 then 0
      else if s.fget (F.perf_EVT_CFG_EVENT k) = 0 then cycles
      else if s.fget (F.perf_EVT_CFG_EVENT k) = 1 then us else 0
  else s

/-- Counter `k` passes from 0xFFFF_FFFF to 0 (R412): the overflow, and the chained counter's advance. -/
def State.counterPasses (s : State) (k : Nat) : State :=
  if !s.cntLive k then s
  else
    let s1 := (s.cset (F.perf_CNT_C k) 0).overflowed none k
    if k % 2 == 0 && s.chained (k + 1) then (countStep s none (fun _ => 0) (s1, true) (k + 1)).1 else s1

/-- A control core enters debug halt: counting freezes with FRZ_HALT (R411). -/
def State.freezeOnHalt (s : State) : State :=
  s.onlyIf (s.flag F.perf_FRZ_CTRL_FRZ_HALT) fun s => s.fset F.perf_FRZ_CTRL_FROZEN 1

end Sys2Proof.Machine
end

