-- ==== Sys2Proof/Machine/SysOps.lean ====
section
/-! DEFINITION. Operations over the memory targets, the mailbox's ownership and a master's reset (R398, R399,
R407, R430).

Readings fixed here (notes/assumptions): 5 DESIGN CHOICE, 28 DESIGN CHOICE, 87 DEDUCED. -/

namespace Sys2Proof.Machine

/-! ## Memory targets (R214, R388, R398, R399) -/

/-- The target of an internal address and the offset in it (R398): 0 registers, 1 journal, 2 control SRAM,
3 user counters, 4 + i memory stack i. -/
def targetOf (addr : Nat) : Option (Nat × Nat) :=
  if addr < 0x10000000 then some (0, addr)
  else if 0x10000000 ≤ addr && addr < 0x11000000 then some (1, addr - 0x10000000)
  else if 0x20000000 ≤ addr && addr < 0x20800000 then some (2, addr - 0x20000000)
  else if 0x30000000 ≤ addr && addr < 0x30010000 then some (3, addr - 0x30000000)
  else if 0x8000000000 ≤ addr && addr < 0x8000000000 + 4 * 2 ^ 35 then
    some (4 + (addr - 0x8000000000) / 2 ^ 35, (addr - 0x8000000000) % 2 ^ 35)
  else none

/-- Key of a byte of a memory stack in the memory store. -/
def memKey (stack off : Nat) : Nat := stack * 2 ^ 35 + off

/-- A byte of a memory stack. -/
def State.memByte (s : State) (stack off : Nat) : Nat := (spGet 0 s.mem (memKey stack off) : Byte).toNat

/-- `n` bytes of a memory stack. -/
def State.memRead (s : State) (stack off n : Nat) : List Nat :=
  (List.range n).map fun i => s.memByte stack (off + i)

/-- Bytes placed in a memory store at rising offsets of a stack. -/
def memFill (stack : Nat) (m : Memory) (off : Nat) : List Nat → Memory
  | [] => m
  | b :: l => memFill stack (spPut 0 m (memKey stack off) (BitVec.ofNat 8 b)) (off + 1) l

/-- Bytes that firmware or an engine reads from a stack are counted (R241). -/
def State.memCounted (s : State) (stack n : Nat) : State := s.cadd (F.mem_RD_BYTES_C stack) n

/-- Write bytes to a memory stack at rising offsets; the stack counts them (R239). -/
def State.memWrite (s : State) (stack off : Nat) (l : List Nat) : State :=
  ({ s with mem := memFill stack s.mem off l } : State).cadd (F.mem_WR_BYTES_C stack) l.length

/-- Write the enabled bytes of a DWORD. -/
def State.memWriteBe (s : State) (stack off be data : Nat) : State :=
  (List.range 4).foldl (fun s i => if bitOf be i then s.memWrite stack (off + i) [data / 256 ^ i] else s) s

/-- The bytes of a region are lost: they read as zero again. -/
def State.memClear (s : State) (stack lo hi : Nat) : State :=
  { s with mem := spDrop (fun k => decide (memKey stack lo ≤ k) && decide (k < memKey stack hi)) s.mem }

/-- The regions of a stack (R214): 0 skew buffer, 1 cold store, 2 capture, 3 DMA staging, 4 spare and mirror. -/
def stackRegion (off : Nat) : Nat :=
  if off < 0x780000000 then 0 else if off < 0x7A0000000 then 1 else if off < 0x7E0000000 then 2
  else if off < 0x7F0000000 then 3 else 4

/-- The context whose cold store holds a byte of a stack. -/
def coldContext (stack off : Nat) : Nat := stack * 65536 + (off - 0x780000000) / 8192

/-- TYPE of a context: bits [3:0] of its DWORD 0. -/
def ctxTypeOf (d0 : Nat) : Nat := d0 % 16

/-- A memory access that R399 permits. `typ` is the TYPE of the cold-store context touched. -/
def memPermitted (m : Master) (write : Bool) (typ stack off : Nat) : Bool :=
  match stackRegion off with
  | 0 => false
  | 1 =>
    let x := coldContext stack off
    let b := (off - 0x780000000) % 8192
    if x ≥ 261120 then m == .warden || m == .ctx
    else if !write then true
    else m == .ctx || m == .twin || (typ == 1 && decide (4160 ≤ b) && decide (b < 4224))
  | 2 => !write
  | 3 => true
  | _ => if write then m == .twin else true

/-! ## The mailbox's ownership (R430) -/

/-- The mailbox is released: Warden zeroes MBOX_DATA and OWNED reads 0. -/
def State.mboxRelease (s : State) : State :=
  { s with fields := spDrop (fun k => decide ((0x280 * 0x4000 + 0x1000) * 32 ≤ k) &&
      decide (k < (0x280 * 0x4000 + 0x2000) * 32)) s.fields }.fset F.sec_MBOX_STATUS_OWNED 0

/-- The mailbox is owned by `m`. -/
def State.mboxOwnedBy (s : State) (m : Master) : Bool :=
  s.flag F.sec_MBOX_STATUS_OWNED && s.fget F.sec_MBOX_STATUS_OWNER == masterId m

/-! ## Master reset (R406, R407) -/

/-- A burst in progress that a master's reset cuts short: register bursts commit nothing, the beats of a memory
write stand and are logged as torn (R407). -/
def State.tearBurst (s : State) (b : InProgress) : State :=
  match b.req.op with
  | .read _ => s
  | .write _ =>
    if b.target == 2 || 4 ≤ b.target then
      let page := if b.target == 2 then 0x270 else 0x2B0 + (b.target - 4)
      let s := s.logErr page 7 (masterId b.req.master) 0 (b.req.addr % 0x4000)
      let s := s.fsets [(F.mx_MX_TORN_MASTER, masterId b.req.master), (F.mx_MX_TORN_TARGET, b.target),
        (F.mx_MX_TORN_BEATS, b.beats), (F.mx_MX_TORN_ADDR_LO_ADDR, b.req.addr + 4 * b.beats),
        (F.mx_MX_TORN_ADDR_HI_ADDR, (b.req.addr + 4 * b.beats) / 2 ^ 32)]
      ((s.cadd F.mx_TORN_WRITES_C 1).raise 0x270 0).busEvents b.req (txnOf b.req b.target b.beats 0 false) [(7, 1)]
    else s

/-- A master's reset (R407): its ungranted requests are discarded, its bursts in progress are cut, its epoch
moves on, and a mailbox it owns is released (R430). -/
def State.masterReset (s : State) (m : Master) : State :=
  let cut := s.bus.inProg.filter fun b => b.req.master == m
  let s := cut.foldl State.tearBurst s
  let s := { s with bus := { s.bus with
    waiting := s.bus.waiting.filter fun w => w.req.master != m,
    inProg := s.bus.inProg.filter fun b => b.req.master != m,
    epochs := spModify 0 s.bus.epochs (masterId m) (· + 1) } }
  let s := if m = .debug then { s with dbg := { s.dbg with busOp := none } } else s
  if s.mboxOwnedBy m then s.mboxRelease else s

/-! ## Pages returned to reset -/

/-- Drop every stored field of page `p` at offsets from `lo`, except the locked RWL fields when `keep` is set. -/
def State.dropFields (s : State) (p lo : Nat) (keep : Bool) : State :=
  { s with fields := spDrop (fun k =>
      decide (p * 0x80000 + lo * 32 ≤ k) && decide (k < (p + 1) * 0x80000) &&
      !(keep && (match findReg p (k / 32 % 0x4000) with
        | some r => r.fields.any fun f => f.lo == k % 32 && f.acc == .rwl && s.fieldLocked p (k / 32 % 0x4000) f
        | none => false))) s.fields }

/-- Zero the counters and holding registers of page `p`. -/
def State.dropCounters (s : State) (p : Nat) : State :=
  let inPage := fun k => decide (p * 0x4000 ≤ k) && decide (k < (p + 1) * 0x4000)
  { s with ctrs := spDrop inPage s.ctrs, hold := spDrop inPage s.hold }

end Sys2Proof.Machine
end

