-- ==== Sys2Proof/Machine/SecOps.lean ====
section
/-! DEFINITION. Warden's operations: image verification, security associations, keys and mailbox commands
(spec/16_security.md).

Readings fixed here (notes/assumptions): 91 DEDUCED, 92 PRESUMED, 115 DESIGN CHOICE. -/

namespace Sys2Proof.Machine

/-! ## Images (R423, R424) -/

/-- Bytes `[off, off + n)` of a byte string. -/
def slice (l : List Nat) (off n : Nat) : List Nat := (l.drop off).take n

/-- Little-endian field of a byte string. -/
def leAt (l : List Nat) (off n : Nat) : Nat := leNat (padTo n (slice l off n))

/-- Big-endian field of a byte string. -/
def beAt (l : List Nat) (off n : Nat) : Nat := beNat (padTo n (slice l off n))

/-- Every byte of a range is zero. -/
def zeroAt (l : List Nat) (off n : Nat) : Bool := (slice l off n).all (· == 0)

/-- Code of a lifecycle (R445). -/
def Lifecycle.code : Lifecycle → Nat
  | .development => 0 | .production => 1 | .fieldReturn => 2

/-- The failure codes of a boot slot (R445 BOOT_ERR0), with 0 for none. -/
abbrev SlotErr := Nat

/-- The header of an image has the form of R423: magic, version, type, reserved bytes, lengths. -/
def imageHeaderOk (typ : Nat) (b : List Nat) : Bool :=
  leAt b 0 4 == 0x4B5A494D && leAt b 4 2 == 1 && leAt b 6 1 == typ && leAt b 7 1 < 2 && leAt b 8 4 ≤ 64 &&
  zeroAt b 29 3 && zeroAt b 64 64 && leAt b 16 4 % 64 == 0 && 192 + leAt b 16 4 ≤ b.length &&
  (if typ == 1 then leAt b 16 4 == 640 && leAt b 28 1 == 0 && leAt b 20 4 == 0
   else 64 ≤ leAt b 16 4 && leAt b 16 4 ≤ 6291456 && leAt b 20 4 % 64 == 0 &&
     leAt b 20 4 + leAt b 16 4 ≤ 8388608 && 1 ≤ leAt b 28 1 && leAt b 28 1 ≤ 7)

/-- Body of an image. -/
def imageBody (b : List Nat) : List Nat := slice b 192 (leAt b 16 4)

/-- The keys of a manifest body (R424). -/
def manifestKeys (body : List Nat) : List ManifestKey :=
  (List.range 8).map fun i => { role := leAt body (80 * i) 1, pub := slice body (80 * i + 16) 64 }

/-- A key of the given index and role. -/
def manifestKey? (keys : List ManifestKey) (i role : Nat) : Option ManifestKey :=
  match keys[i]? with
  | some k => if k.role = role then some k else none
  | none => none

/-- The signature of an image's header (R423). -/
def imageSigned (pub b : List Nat) : Bool :=
  ecdsaVerify pub (sha256 (slice b 0 128)) (slice b 128 64)

/-- Why a key manifest is not valid (R424), in the codes of BOOT_ERR. -/
def manifestErr (f : Fuses) (b : List Nat) : SlotErr :=
  let body := imageBody b
  match manifestKey? (manifestKeys body) 0 1 with
  | none => if imageHeaderOk 1 b then 2 else 1
  | some root =>
    if !imageHeaderOk 1 b then 1
    else if sha256 root.pub != Config.rootKeyHash then 2
    else if !imageSigned root.pub b then 3
    else if leAt b 8 4 < f.manMin then 4
    else if sha256 body != slice b 32 32 then 5
    else if bitOf (leAt b 7 1) 0 && f.lifecycle != .development then 6
    else 0

/-- Why a control image is not valid (R424). -/
def controlErr (f : Fuses) (keys : List ManifestKey) (b : List Nat) : SlotErr :=
  if !imageHeaderOk 2 b then 1
  else match manifestKey? keys (leAt b 28 1) 2 with
    | none => 3
    | some k =>
      if !imageSigned k.pub b then 3
      else if leAt b 8 4 < f.ctlMin then 4
      else if sha256 (imageBody b) != slice b 32 32 then 5
      else if bitOf (leAt b 7 1) 0 && f.lifecycle != .development then 6
      else 0

/-- The failure of a boot slot, 0 for a slot that may be used whole (R425, R426). -/
def slotErr (f : Fuses) : Option FlashSlot → SlotErr
  | none => 7
  | some sl =>
    let e := manifestErr f sl.manifest
    if e ≠ 0 then e else controlErr f (manifestKeys (imageBody sl.manifest)) sl.image

/-- The body that Warden copies to control SRAM before its verdict on a control image, whose manifest and header are good
(R426 step 4). -/
def copiedBody (f : Fuses) : Option FlashSlot → Option (Nat × List Nat)
  | none => none
  | some sl =>
    if manifestErr f sl.manifest = 0 ∧ imageHeaderOk 2 sl.image = true then some (leAt sl.image 20 4, imageBody sl.image) else none

/-! ## Fuses (R420) -/

/-- A bit of an item has changed in copy `c`. -/
def fuseWrong (l : List FuseFlip) (i b c : Nat) : Bool := l.any fun f => f.item.val == i && f.bit.val == b && f.copy.val == c

/-- The majority of an item's copies has bit `b` changed. -/
def fuseMajority (l : List FuseFlip) (i b : Nat) : Bool := decide (2 ≤ ((List.range 3).filter (fuseWrong l i b)).length)

/-- An item fails: more than one of its copies differs from the majority at some bit. -/
def fuseDiffers (l : List FuseFlip) (i : Nat) : Bool :=
  decide (2 ≤ ((List.range 3).filter fun c => (List.range 256).any fun b => fuseWrong l i b c != fuseMajority l i b).length)

/-- Some item fails its integrity check (R420). -/
def fusesBad (l : List FuseFlip) : Bool := (List.range 6).any (fuseDiffers l)

/-- The bits of the lifecycle item's majority that have changed. -/
def lifecycleMask (l : List FuseFlip) : Nat := ((List.range 4).map fun b => if fuseMajority l 0 b then 2 ^ b else 0).sum

/-- The majority of the lifecycle's copies encodes one of the three states (R420). -/
def lifecycleValid (l : List FuseFlip) (now : Lifecycle) : Bool :=
  [now, .development, .production, .fieldReturn].any fun x =>
    Config.lifecycleFuse x.code == Config.lifecycleFuse now.code ^^^ BitVec.ofNat 4 (lifecycleMask l)

/-- What Warden runs after booting a slot (R429). -/
def runningOf (sl : FlashSlot) : RunningImages :=
  { manSha := sha256 (imageBody sl.manifest), ctlHash := slice sl.image 32 32,
    manSvn := leAt sl.manifest 8 4, ctlSvn := leAt sl.image 8 4, build := leAt sl.image 12 4,
    keys := manifestKeys (imageBody sl.manifest), entry := leAt sl.image 20 4 + leAt sl.image 24 4 }

/-- Control SRAM with a body loaded at an offset. -/
def State.sramLoad (s : State) (off : Nat) : List Nat → State
  | [] => s
  | b :: l => ({ s with sram := spPut 0 s.sram off (BitVec.ofNat 8 b) } : State).sramLoad (off + 1) l

/-- Control SRAM with the body that is copied to it, if one is. -/
def State.copyImage (s : State) (c : Option (Nat × List Nat)) : State :=
  match c with
  | some x => s.sramLoad x.1 x.2
  | none => s

/-- The fields that show the fuses and the running images (R445). -/
def State.showSec (s : State) : State :=
  s.fsets [(F.sec_SEC_STATUS_LIFECYCLE, s.fuses.lifecycle.code), (F.sec_SEC_SVN_MAN_MIN, s.fuses.manMin),
    (F.sec_SEC_SVN_CTL_MIN, s.fuses.ctlMin), (F.sec_SEC_SVN_MAN_SVN, s.sec.run.manSvn),
    (F.sec_SEC_SVN_CTL_SVN, s.sec.run.ctlSvn)]

/-! ## Security associations (R432 to R441) -/

/-- State of security association `a` outside its record. -/
def State.sa (s : State) (a : Nat) : SaState := spGet {} s.sec.sas a

/-- Replace it. -/
def State.setSa (s : State) (a : Nat) (v : SaState) : State :=
  { s with sec := { s.sec with sas := spPut {} s.sec.sas a v } }

/-- Key of DWORD `d` of context `x` in the context store. -/
def ctxKey (x d : Nat) : Nat := x * 16 + d

/-- DWORD `d` of context `x` (R145). -/
def State.ctxDw (s : State) (x d : Nat) : Nat := spGet 0 s.ctx (ctxKey x d)

/-- Write a DWORD of a context. -/
def State.setCtxDw (s : State) (x d v : Nat) : State := { s with ctx := spPut 0 s.ctx (ctxKey x d) (v % 2 ^ 32) }

/-- Bits of a context's DWORD. -/
def State.ctxBits (s : State) (x d lo w : Nat) : Nat := bitsOf (s.ctxDw x d) lo w

/-- Write bits of a context's DWORD. -/
def State.setCtxBits (s : State) (x d lo w v : Nat) : State := s.setCtxDw x d (setBits (s.ctxDw x d) lo w v)

/-- Context index of security association `a` (R432). -/
def saCtx (a : Nat) : Nat := 261120 + a

/-- SA bits: EN, DIR, SCOPE, AUTH_N, GROUP, EPOCH, TX_SLOT (R432). -/
def State.saEn (s : State) (a : Nat) : Bool := s.ctxBits (saCtx a) 0 4 1 == 1
def State.saSource (s : State) (a : Nat) : Bool := s.ctxBits (saCtx a) 0 5 1 == 1
def State.saScopePort (s : State) (a : Nat) : Bool := s.ctxBits (saCtx a) 0 6 1 == 1
def State.saAuthN (s : State) (a : Nat) : Nat :=
  if s.ctxBits (saCtx a) 0 7 4 = 0 then 3 else s.ctxBits (saCtx a) 0 7 4
def State.saGroup (s : State) (a : Nat) : Nat := s.ctxBits (saCtx a) 1 0 16
def State.saTxSlot (s : State) (a : Nat) : Nat := s.ctxBits (saCtx a) 2 16 1
def State.saRxSlot (s : State) (a : Nat) : Nat := s.ctxBits (saCtx a) 6 1 1
def State.saSeq (s : State) (a : Nat) : Nat := s.ctxDw (saCtx a) 7 + 2 ^ 32 * s.ctxDw (saCtx a) 8
def State.setSaSeq (s : State) (a q : Nat) : State :=
  (s.setCtxDw (saCtx a) 7 q).setCtxDw (saCtx a) 8 (q / 2 ^ 32)

/-- The KEY_A, KEY_B bits and the VALID register follow the key slots (R432, R445). -/
def State.showKeys (s : State) (a : Nat) : State :=
  let v := b2n (s.sa a).keyA.isSome + 2 * b2n (s.sa a).keyB.isSome
  (s.setCtxBits (saCtx a) 6 3 2 v).fset (F.key_VALID_VALID (a / 64) (a % 64)) v

/-- Put a key in a slot, or zero the slot; words that Warden wrote towards another key go. -/
def State.setKey (s : State) (a slot : Nat) (k : Option (List Nat × Nat)) : State :=
  let v := { s.sa a with part := spDrop (fun i => i / 16 == slot) (s.sa a).part }
  (s.setSa a (if slot = 0 then { v with keyA := k } else { v with keyB := k })).showKeys a

/-- The key of a slot. -/
def State.key (s : State) (a slot : Nat) : Option (List Nat × Nat) :=
  if slot = 0 then (s.sa a).keyA else (s.sa a).keyB

/-- Both key slots of an SA are zeroed. -/
def State.clearKeys (s : State) (a : Nat) : State := (s.setKey a 0 none).setKey a 1 none

/-- Words of a key slot as its page numbers them: 0 to 7 the key, most significant word first, 8 the salt (R445). -/
def keyWords (k : List Nat × Nat) : List Nat := ((List.range 8).map fun i => beAt k.1 (4 * i) 4) ++ [k.2]

/-- The key and salt of nine words. -/
def keyOfWords (l : List Nat) : List Nat × Nat := ((l.take 8).flatMap (beBytes 4), l.getD 8 0)

/-- Warden writes word `w` of a key slot (R444). DESIGN CHOICE (log 92): a slot that holds no key takes one with the last of its
nine words. -/
def State.keyWordWrite (s : State) (a slot w be data : Nat) : State :=
  let put := fun (old : Nat) => old % 2 ^ 32 - (old % 2 ^ 32 &&& beMask be) + (data &&& beMask be)
  match s.key a slot with
  | some k => s.setKey a slot (some (keyOfWords ((keyWords k).set w (put ((keyWords k).getD w 0)))))
  | none =>
    let i := slot * 16 + w
    let part := spPut 0 (s.sa a).part i (put (spGet 0 (s.sa a).part i) + 2 ^ 32)
    let ws := (List.range 9).map fun i => spGet 0 part (slot * 16 + i)
    if ws.all (2 ^ 32 ≤ ·) then s.setKey a slot (some (keyOfWords (ws.map (· % 2 ^ 32))))
    else s.setSa a { s.sa a with part := part }

/-- The associations that hold keys or other state. -/
def State.knownSas (s : State) : List Nat := s.sec.sas.map Prod.fst

/-- The enabled associations. -/
def State.enabledSas (s : State) : List Nat :=
  (s.ctx.filter fun e => decide (saCtx 0 * 16 ≤ e.1) && e.1 % 16 == 0 && bitOf e.2 4).map fun e => e.1 / 16 - saCtx 0

/-- A source association encrypts the frames of egress group `h` (R434). -/
def State.sealedGroup (s : State) (h : Nat) : Bool :=
  s.enabledSas.any fun a => s.saSource a && !s.saScopePort a && s.saGroup a == h

/-- Every key slot is zeroed (R422). -/
def State.clearAllKeys (s : State) : State := s.knownSas.foldl State.clearKeys s

/-- SA bit in AUTH_MAP and the record follow AUTH_LOST (R438). -/
def State.setAuthLost (s : State) (a : Nat) (b : Bool) : State :=
  let f := F.sec_AUTH_MAP_MAP (a / 32)
  ((s.setCtxBits (saCtx a) 6 0 1 (b2n b)).fset f (setBits (s.fget f) (a % 32) 1 (b2n b))).raise 0x280 1

/-- The enabled associations whose DWORD 6 has bit `b` set: bit 0 AUTH_LOST, bit 2 EXHAUSTED (R436, R438). -/
def State.saFailed (s : State) (b : Nat) : List Nat :=
  (s.ctx.filter fun e => decide (saCtx 0 * 16 ≤ e.1) && e.1 % 16 == 6 && bitOf e.2 b &&
    s.saEn (e.1 / 16 - saCtx 0)).map fun e => e.1 / 16 - saCtx 0

/-- Association `a` protects group `g` of port `p`, one of its parents `hs`, or the port's ODUCn (R432, R434). -/
def State.saCovers (s : State) (p g : Nat) (hs : List Nat) (a : Nat) : Bool :=
  if s.saScopePort a then s.saGroup a % 4096 == p else (g :: hs).contains (s.saGroup a)

/-- An association is disabled: EN clears, its keys clear, a pending switch is cancelled (R433, R441). -/
def State.saOff (s : State) (a : Nat) : State :=
  let s := (s.setCtxBits (saCtx a) 0 4 1 0).clearKeys a
  let s := s.onlyIf (s.ctxBits (saCtx a) 6 0 1 == 1) fun s => s.setAuthLost a false
  s.setSa a { s.sa a with switchSf := none, switchDue := false, disabling := false, held := none, next := none }

end Sys2Proof.Machine
end

