-- ==== Sys2Proof/Machine/SvcOps.lean ====
section
/-! DEFINITION. The service engine's own operations: the end and abort of a test, SVC_ATTN_N, the device-fed
rings (spec/17_service_debug.md R457, R459; spec/14_host_pcie.md R393). -/

namespace Sys2Proof.Machine

/-- SVC_ATTN_N is low (R457). -/
def State.attn (s : State) : Bool :=
  s.flag F.svc_SVC_CFG_ATTN_EN &&
    (s.fget F.dev_FATAL_CODE != 0 || s.fget F.dev_FATAL_CLASS != 0 || s.svc.attnTest || s.svc.attnRec)

/-- Release the conditions that ACK and ATTN_CLR release (R457). -/
def State.attnRelease (s : State) : State := { s with svc := { s.svc with attnTest := false, attnRec := false } }

/-- Put back every field a test saved (R459). -/
def State.restore (s : State) (l : List (Nat × Nat)) : State :=
  { s with fields := l.foldl (fun m e => spSet m e.1 e.2) s.fields }

/-- A field's key and value, to be restored later. -/
def State.save (s : State) (f : Fl) : Nat × Nat := (f.key, s.fget f)

/-- A test ends with a verdict (R459): configuration restored, TEST_STATUS and TEST_DETAIL, TEST record,
TEST_DONE, notice, attention. -/
def State.endTest (s : State) (t : TestRun) (pass : Bool) (code detail : Nat) : State :=
  let s := s.restore t.saved
  let s := { s with svc := { s.svc with
    test := none, attnTest := true, conEye := false, lastFail := if pass then s.svc.lastFail else code } }
  let st := if pass then 2 else 3
  let code := if pass then 0 else code
  let s := s.fsets [(F.svc_TEST_STATUS_STATE, st), (F.svc_TEST_STATUS_TEST, t.num), (F.svc_TEST_STATUS_CODE, code),
    (F.svc_TEST_DETAIL_DETAIL, detail)]
  let s := (s.cadd F.svc_TESTS_RUN_C 1).onlyIf (!pass) fun s => s.cadd F.svc_TESTS_FAILED_C 1
  let s := s.jrnl 14 hwMaster 0x2A0 ([t.num, st] ++ leBytes 2 code ++ leBytes 4 detail)
  (s.raise 0x2A0 0).emit (.conNotice 2 [t.num, st, code])

/-- The running test is aborted with code 6t99 and a fail verdict (R459). -/
def State.abortTest (s : State) : State :=
  match s.svc.test with
  | none => s
  | some t => s.endTest t false (0x6099 + t.num * 0x100) 0

/-- An intrusive test is aborted when Maintenance is left (R459). -/
def State.abortIntrusive (s : State) : State :=
  match s.svc.test with
  | some t => if t.intrusive then s.abortTest else s
  | none => s

/-- A test whose block is busy ends without a verdict (R459): TEST_STATUS shows again what it showed before. -/
def State.dropTest (s : State) : State :=
  match s.svc.test with
  | none => s
  | some t => { s.restore t.saved with svc := { s.svc with test := none } }

/-! ## The device-fed rings (R393) -/

/-- A size exponent clamped to its limits. -/
def clamp (lo hi x : Nat) : Nat := if x < lo then lo else if hi < x then hi else x

/-- DMA and the rings can reach the host now (R381, R392). -/
def State.dmaReady (s : State) : Bool := s.host.pf0.bme && !s.host.pf0.d3hot && s.flag F.pcie_LINK_STATUS_UP

/-- The event ring announces its records: PROD goes to the writeback address, EVT_DATA is raised (R393). -/
def State.announceEvents (s : State) : State :=
  if s.host.evUnannounced = 0 || !s.dmaReady then s
  else
    let a := s.fget F.ring_EVR_WB_LO_WB + 2 ^ 32 * s.fget F.ring_EVR_WB_HI_WB
    let s := (s.emit (.hostWrite a (leBytes 4 (s.fget F.ring_EVR_PROD_PROD)))).raise 0x262 0
    { s with host := { s.host with evUnannounced := 0 } }

/-- The event ring takes a record (R393). -/
def State.evrFull (s : State) : Bool :=
  !s.flag F.ring_EVR_CFG_EN || !s.dmaReady ||
    (s.fget F.ring_EVR_PROD_PROD + 2 ^ 32 - s.fget F.ring_EVR_CONS_CONS) % 2 ^ 32 ≥ 2 ^ clamp 8 20 (s.fget F.ring_EVR_CFG_LOG2_SIZE)

/-- Post an event record (R167): code 1 to 5, scope 0 context or 1 port, index, DWORD. A disabled class is not
posted; a full queue drops the newest event. -/
def State.postEvent (s : State) (code scope index dw : Nat) : State :=
  if !s.flag F.odu_EVQ_CFG_EN || !bitOf (s.fget F.odu_EVQ_CFG_CLASS) (code - 1) then s
  else if s.evrFull then (s.cadd F.odu_EVQ_DROP_C 1).raise 0x40 4
  else
    let base := 64 * s.fget F.ring_EVR_BASE_LO_BASE + 2 ^ 32 * s.fget F.ring_EVR_BASE_HI_BASE
    let prod := s.fget F.ring_EVR_PROD_PROD
    let size := 2 ^ clamp 8 20 (s.fget F.ring_EVR_CFG_LOG2_SIZE)
    let rec0 := index + scope * 2 ^ 18 + code * 2 ^ 20
    let s := s.emit (.hostWrite (base + 16 * (prod % size)) (leBytes 4 rec0 ++ leBytes 4 dw ++
      leBytes 4 (s.fget F.odu_TICK_SEQ_SEQ) ++ leBytes 4 s.odu.framesSinceTick))
    let s := ((s.fset F.ring_EVR_PROD_PROD (prod + 1)).cadd F.ring_EVR_RECORDS_C 1).cadd F.odu_EVQ_POSTED_C 1
    let s := { s with host := { s.host with evUnannounced := s.host.evUnannounced + 1 } }
    if s.fget F.ring_EVR_CFG_COAL = 0 || 32 ≤ s.host.evUnannounced then s.announceEvents else s

end Sys2Proof.Machine
end

