-- ==== Sys2Proof/Machine/PortOps.lean ====
section
/-! DEFINITION. Ports: the slot units they own and carry, and the raw conditions of their receivers
(spec/01_architecture.md R13, R14; spec/06_odu_monitoring.md R135, R136, R153).

Readings fixed here (notes/assumptions): 103 DEDUCED. -/

namespace Sys2Proof.Machine

/-- Number of slot units of the core (R10). -/
def numSu : Nat := 46080

/-- First slot unit of a port (R13). -/
def portBase (p : Nat) : Nat := if p < 256 then 160 * p else 40960 + 2560 * (p - 256)

/-- The page of a port's block: its lane's or its carrier's. -/
def portPage (p : Nat) : Nat := if p < 256 then 0x100 + p else 0x10 + 0x10 * (p - 256)

/-- FORMAT of a lane (R244). -/
def State.laneFormat (s : State) (n : Nat) : Nat := s.fget (F.lane_LANE_CFG_FORMAT n)

/-- Both carriers are bonded as port 256 (R235). -/
def State.carBonded (s : State) : Bool := s.flag F.bond_CBOND_CTRL_EN

/-- The enabled slot-lane bond that lane `n` belongs to (R233). -/
def State.slBondOf (s : State) (n : Nat) : Option Nat :=
  (List.range 128).find? fun j => s.flag (F.bond_SLB_CFG_EN j) &&
    decide (s.fget (F.bond_SLB_CFG_FIRST j) ≤ n) && decide (n < s.fget (F.bond_SLB_CFG_FIRST j) + s.fget (F.bond_SLB_CFG_COUNT j))

/-- The lanes of a lane port: the members of its bond, or the lane itself. -/
def State.portLanes (s : State) (p : Nat) : List Nat :=
  match s.slBondOf p with
  | some j => (List.range (s.fget (F.bond_SLB_CFG_COUNT j))).map (s.fget (F.bond_SLB_CFG_FIRST j) + ·)
  | none => [p]

/-- The carriers of a carrier port. -/
def State.portCarriers (s : State) (p : Nat) : List Nat := if s.carBonded then [0, 1] else [p - 256]

/-- The port that an ingress or egress slot unit belongs to (R13, R233, R235). -/
def State.portOfSu (s : State) (u : Nat) : Nat :=
  if u < 40960 then (match s.slBondOf (u / 160) with
    | some j => s.fget (F.bond_SLB_CFG_FIRST j)
    | none => u / 160)
  else if u < 43520 || s.carBonded then 256 else 257

/-- Slot units a slot-lane or forerunner lane carries (R270, R283). -/
def laneUnits (format : Nat) : Nat :=
  match format with
  | 3 => 128 | 4 => 64 | 5 => 8 | _ => 0

/-- n of the ODUCn a port carries; none for a lane that carries slot words (R135, R293). -/
def State.oducN (s : State) (p : Nat) : Option Nat :=
  if p < 256 then (match s.laneFormat p with
    | 1 => some 1
    | 2 => some 2
    | _ => none)
  else if s.carBonded then some 64
  else if s.fget (F.car_RATE_MODE (p - 256)) = 1 then some 12
  else some (s.fget (F.car_RATE_SLICES (p - 256)))

/-- A slot unit lies in its port's carried range (R14). -/
def State.carriedSu (s : State) (p u : Nat) : Bool :=
  match s.oducN p with
  | some n => decide (portBase p ≤ u) && decide (u < portBase p + 80 * n)
  | none => (s.portLanes p).any fun n => decide (160 * n ≤ u) && decide (u < 160 * n + laneUnits (s.laneFormat n))

/-- A slot unit lies in its port's ownership range (R13): members of a bond other than its first lane, and carrier 1 of a
bond, own none (R233, R235). -/
def State.ownedSu (s : State) (p u : Nat) : Bool := decide (u < numSu) && s.portOfSu u == p

/-- The port is a lane in the forerunner format (R283). -/
def State.portForerunner (s : State) (p : Nat) : Bool := decide (p < 256) && s.laneFormat p == 5

/-- The port is a lane in raw format (R142). -/
def State.portRaw (s : State) (p : Nat) : Bool := decide (p < 256) && s.laneFormat p == 0

/-- The port carries an ODUCn. -/
def State.portOduc (s : State) (p : Nat) : Bool := (s.oducN p).isSome

/-! ## Raw conditions (R153, R276) -/

/-- The lane is disabled or its receiver is asleep (R267). -/
def State.laneDark (s : State) (n : Nat) : Bool :=
  !s.enabled (0x100 + n) || s.flag (F.lane_RX_STATUS_RX_ASLEEP n)

/-- The port's slot datapath is disabled, or its disable is draining (R158); in a bond only the first lane's DP_EN acts
(R279). -/
def State.portDisabled (s : State) (p : Nat) : Bool :=
  (spGet 0 s.core.closing p != 0) ||
  (if p < 256 then !s.flag (F.lane_LANE_CTRL_DP_EN p) || (s.portLanes p).any s.laneDark
   else (s.portCarriers p).any fun c => !s.enabled (0x10 + 0x10 * c) || s.draining (0x10 + 0x10 * c))

/-- The port's signal is absent (R92, R276). -/
def State.portNoSig (s : State) (p : Nat) : Bool :=
  if p < 256 then (s.portLanes p).any fun n => !s.flag (F.lane_RX_STATUS_SIG n)
  else !s.flag (F.car_RX_STATUS_SIG (p - 256))

/-- The framer's state of a port: 0 IDLE, 1 OOF, 2 IN_FRAME, 3 IN_FRAME_OOM (R133, R279). -/
def State.framer (s : State) (p : Nat) : Nat :=
  if p < 256 then s.fget (F.lane_FRM_STATUS_STATE p) else s.fget (F.frm_FRM_STATUS_STATE (p - 256))

/-- The port's framer is out of frame. -/
def State.portOof (s : State) (p : Nat) : Bool :=
  if p < 256 then (s.portLanes p).any fun n => decide (s.framer n < 2)
  else decide (s.framer p < 2)

/-- The port is in IN_FRAME_OOM. -/
def State.portOom (s : State) (p : Nat) : Bool := s.portOduc p && s.framer p == 3

/-- The port's framer holds a hypothesis (R129, R279). -/
def State.portProv (s : State) (p : Nat) : Bool :=
  if p < 256 then (s.portLanes p).any fun n => s.flag (F.lane_FRM_STATUS_PROV n)
  else (s.portCarriers p).any fun c => s.flag (F.frm_FRM_STATUS_PROV c)

/-- A bonded port whose members are not aligned (R234, R236). -/
def State.bondUnaligned (s : State) (p : Nat) : Bool :=
  if p < 256 then (match s.slBondOf p with
    | some j => !s.flag (F.bond_SLB_STATUS_ALIGNED j)
    | none => false)
  else s.carBonded && !s.flag F.bond_CBOND_STATUS_ALIGNED

/-- Every ingress group of the port carries replacement signal (R153). -/
def State.portRepl (s : State) (p : Nat) : Bool :=
  s.portDisabled p || s.portNoSig p || s.portOof p || s.portOom p || s.bondUnaligned p ||
  (decide (256 ≤ p) && (s.portCarriers p).any fun c => s.portNoSig (256 + c) || decide (s.framer (256 + c) != 2))

/-- The ports that exist: members of a bond other than its first lane, and carrier 1 of a bond, are no ports. -/
def State.ports (s : State) : List Nat :=
  (List.range 258).filter fun p => s.portOfSu (portBase p) == p

/-- The ports that keep defects of their own: those that exist, and carrier 1 of a bond, whose framer and defects stay its
own (R236). -/
def State.defectPorts (s : State) : List Nat := s.ports ++ if s.carBonded then [257] else []

end Sys2Proof.Machine
end

