-- ==== Sys2Proof/Machine/TribOps.lean ====
section
/-! DEFINITION. Tributary tables, slot groups and the checks of APPLY (spec/06_odu_monitoring.md R135 to R146).

Readings fixed here (notes/assumptions): 31 DEDUCED, 42 PRESUMED, 46 DEDUCED, 101 DEDUCED, 102 DEDUCED, 113 DESIGN
CHOICE. -/

namespace Sys2Proof.Machine

/-- Nominal rate of a KIND in bit/s, as numerator and denominator (G.709); an ODUflex has FLEX_RATE. -/
def kindRate (kind flex : Nat) : Nat × Nat :=
  match kind with
  | 1 => (1244160000, 1)
  | 2 => (239 * 2488320000, 238)
  | 3 => (239 * 9953280000, 237)
  | 4 => (239 * 10312500000, 237)
  | 5 => (239 * 99532800000, 227)
  | 6 => (flex * 100000, 1)
  | _ => (0, 1)

/-- S: the slot units of a KIND (R135): of an ODUflex, 1.0001 × FLEX_RATE / 1.42222 Gbit/s rounded up, FLEX_RATE in
100 kbit/s. -/
def suCount (kind flex : Nat) : Nat :=
  match kind with
  | 1 => 1 | 2 => 2 | 3 => 8 | 4 => 8 | 5 => 80
  | 6 => (flex * 10001 + 142222000 - 1) / 142222000
  | _ => 0

/-- The tables of a direction: ingress, or egress. -/
def State.staged (s : State) (eg : Bool) : TribTables := if eg then s.odu.stagedE else s.odu.stagedI

/-- The active tables of a direction. -/
def State.active (s : State) (eg : Bool) : TribTables := if eg then s.odu.activeE else s.odu.activeI

/-- Replace the staged tables. -/
def State.setStaged (s : State) (eg : Bool) (t : TribTables) : State :=
  if eg then { s with odu := { s.odu with stagedE := t } } else { s with odu := { s.odu with stagedI := t } }

/-- Replace the active tables. -/
def State.setActive (s : State) (eg : Bool) (t : TribTables) : State :=
  if eg then { s with odu := { s.odu with activeE := t } } else { s with odu := { s.odu with activeI := t } }

/-- The slot-unit entry of a slot unit (R141). -/
def TribTables.suEntry (t : TribTables) (u : Nat) : Nat := spGet 0xFFFFFFFF t.su u

/-- GROUP of a slot unit; 0xFFFF none. -/
def TribTables.group (t : TribTables) (u : Nat) : Nat := t.suEntry u % 65536

/-- TOP of a slot unit; 0xFFFF none. -/
def TribTables.top (t : TribTables) (u : Nat) : Nat := t.suEntry u / 65536 % 65536

/-- The group entry at a slot unit. -/
def TribTables.entry (t : TribTables) (g : Nat) : GroupEntry := spGet {} t.grp g

/-- The port entry of a port. -/
def TribTables.portEntry (t : TribTables) (p : Nat) : PortTab := spGet {} t.port p

/-- The slot units that name group `g` in GROUP, in ascending order. -/
def TribTables.unitsOf (t : TribTables) (g : Nat) : List Nat :=
  (t.su.filter fun e => e.2 % 65536 == g).map Prod.fst

/-- The slot units that name group `g` in TOP, in ascending order. -/
def TribTables.topUnitsOf (t : TribTables) (g : Nat) : List Nat :=
  (t.su.filter fun e => e.2 / 65536 % 65536 == g).map Prod.fst

/-- S of a group as configured. -/
def TribTables.groupS (t : TribTables) (g : Nat) : Nat := suCount (t.entry g).kind (t.entry g).flex

/-- The slot group of `g`: its first S slot units (R136). A demultiplexed parent's are those of its tributary slots. -/
def TribTables.slotGroup (t : TribTables) (g : Nat) : List Nat :=
  (if (t.entry g).demux then t.topUnitsOf g else t.unitsOf g).take (t.groupS g)

/-- A group exists in a table: some slot unit names it and its KIND is 1 to 6. -/
def TribTables.hasGroup (t : TribTables) (g : Nat) : Bool :=
  1 ≤ (t.entry g).kind && (t.entry g).kind ≤ 6 && (t.su.any fun e => e.2 % 65536 == g || e.2 / 65536 % 65536 == g)

/-- The groups of a table, by their first slot units. -/
def TribTables.groups (t : TribTables) : List Nat :=
  (t.grp.map Prod.fst).filter t.hasGroup

/-- The demultiplexed parent of a group, if it has one (R141). -/
def TribTables.parent (t : TribTables) (g : Nat) : Option Nat :=
  match t.unitsOf g with
  | u :: _ => if t.top u = g then none else some (t.top u)
  | [] => none

/-- The slot group that slot unit `u` belongs to (R136, R180): none for units beyond the first S. -/
def TribTables.memberOf (t : TribTables) (u : Nat) : Option Nat :=
  let g := t.group u
  if g = 0xFFFF || !t.hasGroup g then none
  else if (t.slotGroup g).contains u then some g else none

/-! ## Entries as words (R141) -/

/-- Words 0 to 3 of a group entry, SU_COUNT included. -/
def groupWords (e : GroupEntry) : List Nat :=
  [e.kind + 8 * b2n e.demux + 16 * (suCount e.kind e.flex % 4096), e.monBase + 2 ^ 18 * e.monMask, e.mapCtx, e.flex]

/-- A group entry from its words. -/
def groupOfWords (w0 w1 w2 w3 : Nat) : GroupEntry :=
  { kind := bitsOf w0 0 3, demux := bitOf w0 3, monBase := bitsOf w1 0 18, monMask := bitsOf w1 18 7,
    mapCtx := bitsOf w2 0 18, flex := bitsOf w3 0 25 }

/-- Words 0 to 3 of a port entry. -/
def portWords (e : PortTab) : List Nat := [0, e.monBase + 2 ^ 18 * e.monMask, e.mapCtx, 0]

/-- A port entry from its words. -/
def portOfWords (w1 w2 : Nat) : PortTab :=
  { monBase := bitsOf w1 0 18, monMask := bitsOf w1 18 7, mapCtx := bitsOf w2 0 18 }

/-- An entry of a table as four words. -/
def TribTables.words (t : TribTables) (table i : Nat) : List Nat :=
  match table with
  | 0 => [t.suEntry i, 0, 0, 0]
  | 1 => groupWords (t.entry i)
  | _ => portWords (t.portEntry i)

/-- A table with an entry written. -/
def TribTables.write (t : TribTables) (table i w0 w1 w2 w3 : Nat) : TribTables :=
  match table with
  | 0 => { t with su := spPut 0xFFFFFFFF t.su i w0 }
  | 1 => { t with grp := spPut {} t.grp i (groupOfWords w0 w1 w2 w3) }
  | _ => { t with port := spPut {} t.port i (portOfWords w1 w2) }

/-- Table `dst` with the entries of the port whose slot units satisfy `own` taken from `src`. -/
def copyPort (own : Nat → Bool) (p : Nat) (src dst : TribTables) : TribTables :=
  { su := (src.su.filter fun e => own e.1).foldl (fun m e => spSet m e.1 e.2) (spDrop own dst.su)
    grp := (src.grp.filter fun e => own e.1).foldl (fun m e => spSet m e.1 e.2) (spDrop own dst.grp)
    port := spPut {} dst.port p (src.portEntry p) }

/-! ## Contexts named by tables (R145, R149) -/

/-- The contexts of a monitoring set, with the LAYER each must have. -/
def monSet (base mask : Nat) : List (Nat × Nat) :=
  ((List.range 7).filter (bitOf mask)).mapIdx fun i l => (base + i, l)

/-- TYPE, EN, LAYER, FUNC of a context's DWORD 0 (R147). -/
def State.ctxType (s : State) (x : Nat) : Nat := s.ctxBits x 0 0 4
def State.ctxEn (s : State) (x : Nat) : Bool := s.ctxBits x 0 4 1 == 1
def State.ctxLayer (s : State) (x : Nat) : Nat := s.ctxBits x 0 5 3
def State.ctxFunc (s : State) (x : Nat) : Nat := s.ctxBits x 0 8 2
def State.inGroup (s : State) (x : Nat) : Nat := s.ctxBits x 1 0 16
def State.egGroup (s : State) (x : Nat) : Nat := s.ctxBits x 1 16 16

/-- The group in which a point acts as a sink: direction and group; none for a source (R147). -/
def State.sinkOf (s : State) (x : Nat) : Option (Bool × Nat) :=
  match s.ctxFunc x with
  | 0 | 2 => some (false, s.inGroup x)
  | 1 => some (true, s.egGroup x)
  | _ => none

/-- A monitoring set agrees with its contexts (R145). -/
def State.monSetOk (s : State) (eg : Bool) (base mask g : Nat) : Bool :=
  (monSet base mask).all fun e => decide (e.1 < 261120) && s.ctxType e.1 == 1 && s.ctxLayer e.1 == e.2 &&
    (if eg then s.egGroup e.1 else s.inGroup e.1) == g

/-- A MAP_CTX names an enabled mapper context (R142). -/
def State.mapperOk (s : State) (x : Nat) : Bool := decide (x < 261120) && s.ctxType x == 3 && s.ctxEn x

/-- An active table entry names a context (R149). -/
def TribTables.names (t : TribTables) (x : Nat) : Bool :=
  let set := fun b m => (monSet b m).any fun e => e.1 == x
  (t.groups.any fun g => set (t.entry g).monBase (t.entry g).monMask || ((t.entry g).mapCtx == x && x != 0x3FFFF)) ||
  t.port.any fun e => set e.2.monBase e.2.monMask || (e.2.mapCtx == x && x != 0x3FFFF)

/-! ## Monitoring load (R146) -/

/-- Frame rate of what a sink monitors, times 122,368, as numerator and denominator: of a port's ODUCn, of a group that
exists; a point that names neither monitors no ODU. -/
def State.frameRate (s : State) (t : TribTables) (g : Nat) : Nat × Nat :=
  if 0xF000 ≤ g then (if s.ports.contains (g - 0xF000) && s.portOduc (g - 0xF000) then (860177 * 122368, 1) else (0, 1))
  else if t.hasGroup g then kindRate (t.entry g).kind (t.entry g).flex else (0, 1)

/-- The enabled monitoring points, by context. -/
def State.points (s : State) : List Nat :=
  (s.ctx.filter fun e => e.1 % 16 == 0 && e.2 % 16 == 1 && bitOf e.2 4).map fun e => e.1 / 16

/-- The common denominator of the nominal rates. -/
def rateDen : Nat := 238 * 237 * 227

/-- L over monitoring points with the given tables, in units of 1/(122,368 × 238 × 237 × 227) s⁻¹, so exactly. -/
def State.loadWith (s : State) (ti te : TribTables) (pts : List Nat) : Nat :=
  (pts.map fun x => match s.sinkOf x with
    | none => 0
    | some (eg, g) => let r := s.frameRate (if eg then te else ti) g; r.1 * (rateDen / r.2)).foldl (· + ·) 0

/-- L of the active configuration. -/
def State.monLoad (s : State) : Nat := s.loadWith s.odu.activeI s.odu.activeE s.points

/-- L is within R146's limit of 3.0 × 10⁹ s⁻¹. -/
def loadOk (l : Nat) : Bool := decide (l ≤ 3000000000 * 122368 * rateDen)

/-! ## The checks of APPLY (R142) -/

/-- The slot units of a port whose staged entry names a group or a TOP. -/
def State.namedUnits (s : State) (t : TribTables) (p : Nat) : List Nat :=
  (t.su.map Prod.fst).filter (s.ownedSu p)

/-- Groups that a port's staged entries name, or give a KIND. -/
def State.portGroups (s : State) (t : TribTables) (p : Nat) : List Nat :=
  (((s.namedUnits t p).map t.group ++ (s.namedUnits t p).map t.top ++
    ((t.grp.filter fun e => e.2.kind != 0).map Prod.fst).filter (s.ownedSu p)).filter (· != 0xFFFF)).eraseDups

/-- Tributary slots of a fixed KIND in an ODUCn, in an ODU4 or ODU2, or in a port of slot words (R135). -/
def tsIn (where_ : Nat) (kind : Nat) : Option Nat :=
  match where_, kind with
  | 0, 1 => some 1 | 0, 2 => some 1 | 0, 3 => some 2 | 0, 4 => some 2 | 0, 5 => some 20
  | 4, 1 => some 1 | 4, 2 => some 2 | 4, 3 => some 8 | 4, 4 => some 8
  | 2, 1 => some 1
  | 1, 1 => some 1 | 1, 2 => some 2 | 1, 3 => some 8 | 1, 4 => some 8 | 1, 5 => some 80
  | _, _ => none

/-- Where a group lies: 0 in an ODUCn, 4 in an ODU4, 2 in an ODU2, 1 as slot words, 9 nowhere R135 allows. -/
def State.liesIn (s : State) (t : TribTables) (p g : Nat) : Nat :=
  match t.parent g with
  | none => if s.portOduc p then 0 else 1
  | some h => if (t.entry h).kind = 5 then 4 else if (t.entry h).kind = 3 then 2 else 9

/-- Tributary slots that a group occupies: quads in an ODUCn, slot units elsewhere. -/
def State.tsCount (s : State) (t : TribTables) (p g : Nat) : Nat :=
  let us := if (t.topUnitsOf g).isEmpty then t.unitsOf g else t.topUnitsOf g
  if s.liesIn t p g = 0 then us.length / 4 else us.length

/-- A group's tributary-slot count is wrong (check 6). -/
def State.badCount (s : State) (t : TribTables) (p g : Nat) : Bool :=
  let e := t.entry g
  let us := if (t.topUnitsOf g).isEmpty then t.unitsOf g else t.topUnitsOf g
  if e.kind = 6 then us.isEmpty || decide (us.length < suCount 6 e.flex)
  else match tsIn (s.liesIn t p g) e.kind with
    | some n => s.tsCount t p g != n
    | none => us.isEmpty || e.kind = 0 || e.kind = 7 || (s.liesIn t p g) = 0 || (s.liesIn t p g) = 1

/-- A group's nesting is one that R135 does not allow (check 7). -/
def State.badNesting (s : State) (t : TribTables) (p g : Nat) : Bool :=
  let e := t.entry g
  (e.demux && (!(e.kind == 5 || e.kind == 3) || (t.parent g).isSome || !s.portOduc p)) ||
  (match t.parent g with
    | none => false
    | some h => !(t.entry h).demux || !s.portOduc p || (t.parent h).isSome ||
      !((t.entry h).kind == 5 || (t.entry h).kind == 3) ||
      (e.kind != 6 && (tsIn (s.liesIn t p g) e.kind).isNone))

/-- The least of a list. -/
def least : List Nat → Option Nat
  | [] => none
  | x :: l => match least l with
    | none => some x
    | some y => some (min x y)

/-- The offenders of each check of R142, in the order of its list. -/
def State.offenders (s : State) (eg : Bool) (p : Nat) : List (List Nat) :=
  let t := s.staged eg
  let us := s.namedUnits t p
  let gs := s.portGroups t p
  let pe := t.portEntry p
  let fore := s.portForerunner p
  [ us.filter fun u => fore || !s.carriedSu p u || (t.group u != 0xFFFF && !s.carriedSu p (t.group u)) ||
      (t.top u != 0xFFFF && !s.carriedSu p (t.top u)),
    us.filter fun u => (t.group u == 0xFFFF) != (t.top u == 0xFFFF),
    if s.portRaw p && (!us.isEmpty || pe.monMask != 0) then [us.headD (portBase p)] else [],
    if s.portOduc p then (us.map fun u => portBase p + (u - portBase p) / 4 * 4).filter fun q =>
      (List.range 4).any fun i => t.top (q + i) != t.top q else [],
    gs.filterMap fun g => match least (t.unitsOf g ++ t.topUnitsOf g) with
      | some u => if u = g then none else some u
      | none => none,
    gs.filter (s.badCount t p),
    gs.filter (s.badNesting t p),
    (gs.filter fun g => !s.monSetOk eg (t.entry g).monBase (t.entry g).monMask g) ++
      (if s.monSetOk eg pe.monBase pe.monMask (0xF000 + p) then [] else [portBase p]),
    (gs.filter fun g => (t.entry g).demux && !s.mapperOk (t.entry g).mapCtx) ++
      (if s.portOduc p && !s.mapperOk pe.mapCtx then [portBase p] else []) ]

/-- The lowest slot unit of the first check that fails. -/
def firstOffender : List (List Nat) → Option Nat
  | [] => none
  | l :: ls => match least l with
    | some u => some u
    | none => firstOffender ls

/-- An enabled protection group or security association names an ingress or egress group (R142). -/
def State.groupInUse (s : State) (eg : Bool) (g : Nat) : Bool :=
  (!eg && (s.ctx.any fun e => e.1 % 16 == 0 && e.2 % 16 == 2 && bitOf e.2 4 &&
    ((s.ctxBits (e.1 / 16) 1 0 16) == g || (s.ctxBits (e.1 / 16) 1 16 16) == g))) ||
  (s.ctx.any fun e => e.1 % 16 == 0 && e.2 % 16 == 5 && bitOf e.2 4 && !bitOf e.2 6 && bitOf e.2 5 == eg &&
    s.ctxBits (e.1 / 16) 1 0 16 == g)

/-- A group differs between two tables in KIND, S, FLEX_RATE or slot units (R142): what its use forbids. -/
def groupChanged (a b : TribTables) (g : Nat) : Bool :=
  (a.entry g).kind != (b.entry g).kind || a.groupS g != b.groupS g || (a.entry g).flex != (b.entry g).flex ||
  a.slotGroup g != b.slotGroup g

/-- Groups of a port that two tables hold otherwise, by a test. -/
def State.applyDiffer (s : State) (eg : Bool) (p : Nat) (test : TribTables → TribTables → Nat → Bool) : List Nat :=
  (((s.active eg).groups ++ (s.staged eg).groups).filter (s.ownedSu p)).eraseDups.filter
    (test (s.active eg) (copyPort (s.ownedSu p) p (s.staged eg) (s.active eg)))

/-- Groups of a port that APPLY would add, remove, or change in KIND, S, FLEX_RATE or slot units. -/
def State.applyChanges (s : State) (eg : Bool) (p : Nat) : List Nat := s.applyDiffer eg p groupChanged

/-- What carries a group's words differs between two tables (R143): its KIND, S, FLEX_RATE and slot units, whether it is
demultiplexed, and where it lies (TOP). Its monitoring set and mapper context are no part of the signal. -/
def signalChanged (a b : TribTables) (g : Nat) : Bool :=
  groupChanged a b g || (a.entry g).demux != (b.entry g).demux || (a.unitsOf g).map a.top != (b.unitsOf g).map b.top

/-- The verdict of the check: RESULT and FAIL_SU (R142, R169). -/
def State.applyCheck (s : State) (eg : Bool) (p : Nat) : Nat × Nat :=
  match firstOffender (s.offenders eg p) with
  | some u => (1, u)
  | none =>
    let t' := copyPort (s.ownedSu p) p (s.staged eg) (s.active eg)
    let l := if eg then s.loadWith s.odu.activeI t' s.points else s.loadWith t' s.odu.activeE s.points
    if !loadOk l then (2, portBase p)
    else match least ((s.applyChanges eg p).filter (s.groupInUse eg)) with
      | some g => (4, g)
      | none => (0, 0)

/-! ## TRIB_CMD (R141, R169) -/

/-- TRIB_STATUS at a command's end. -/
def State.tribEnd (s : State) (result fail : Nat) : State :=
  s.fsets [(F.odu_TRIB_STATUS_DONE, 1), (F.odu_TRIB_STATUS_RESULT, result), (F.odu_TRIB_STATUS_FAIL_SU, fail)]

/-- Load an entry's words into TRIB_DATA. -/
def State.tribLoad (s : State) (t : TribTables) (table i : Nat) : State :=
  let w := t.words table i
  s.fsets [(F.odu_TRIB_DATA_DATA 0, w.getD 0 0), (F.odu_TRIB_DATA_DATA 1, w.getD 1 0),
    (F.odu_TRIB_DATA_DATA 2, w.getD 2 0), (F.odu_TRIB_DATA_DATA 3, w.getD 3 0)]

/-- TRIB_CMD is written: BUSY while an APPLY is checked, INDEX beyond its range ends with RESULT 3 (R169). -/
def State.tribCmd (s : State) (m : Master) (index : Nat) (eg : Bool) (table op : Nat) : State :=
  if s.odu.applying.isSome then s.log 0x40 8 m 0x40
  else if op = 0 || 5 < op || (op ≤ 3 && table = 3) then s.log 0x40 9 m 0x40
  else if (if 4 ≤ op || table = 2 then 257 else 46079) < index then s.tribEnd 3 0
  else match op with
    | 1 => (s.tribLoad (s.active eg) table index).tribEnd 0 0
    | 2 =>
      let d := fun i => s.fget (F.odu_TRIB_DATA_DATA i)
      (s.setStaged eg ((s.staged eg).write table index (d 0) (d 1) (d 2) (d 3))).tribEnd 0 0
    | 3 => (s.tribLoad (s.staged eg) table index).tribEnd 0 0
    | 4 =>
      let r := s.applyCheck eg index
      if r.1 = 0 then
        { s.fset F.odu_TRIB_STATUS_DONE 0 with odu := { s.odu with applying := some (eg, index, masterId m) } }
      else ((s.tribEnd r.1 r.2).raise 0x40 3).log 0x40 (if r.1 = 1 then 0xA else if r.1 = 2 then 0xB else 4) m 0x40
    | _ => (s.setStaged eg (copyPort (s.ownedSu index) index (s.active eg) (s.staged eg))).tribEnd 0 0

end Sys2Proof.Machine
end

