-- ==== Sys2Proof/Machine/CtxOps.lean ====
section
/-! DEFINITION. Contexts and their commands (spec/06_odu_monitoring.md R144 to R151, R165; the conditions on
protection groups of spec/08_protection_skew.md R204, R206, R220).

Readings fixed here (notes/assumptions): 31 DEDUCED, 44 DEDUCED. -/

namespace Sys2Proof.Machine

/-! ## Layouts (R147, R205, R220) -/

/-- Hidden counts of a monitoring point. -/
def State.run (s : State) (x : Nat) : PointRun := spGet {} s.odu.runs x
def State.setRun (s : State) (x : Nat) (r : PointRun) : State :=
  { s with odu := { s.odu with runs := spPut {} s.odu.runs x r } }

/-- State of a protection group beside its context. -/
def State.pg (s : State) (g : Nat) : PgState := spGet {} s.prot.groups g
def State.setPg (s : State) (g : Nat) (v : PgState) : State :=
  { s with prot := { s.prot with groups := spPut {} s.prot.groups g v } }

/-- Aligner of an admitted group. -/
def State.aligner (s : State) (g : Nat) : Aligner := spGet {} s.prot.aligners g
def State.setAligner (s : State) (g : Nat) (v : Aligner) : State :=
  { s with prot := { s.prot with aligners := spSet s.prot.aligners g v } }

/-- The group is admitted (R226). -/
def State.admitted (s : State) (g : Nat) : Bool := s.prot.aligners.any fun e => e.1 == g

/-- The enabled protection groups, by context. -/
def State.pgs (s : State) : List Nat :=
  (s.ctx.filter fun e => e.1 % 16 == 0 && e.2 % 16 == 2 && bitOf e.2 4).map fun e => e.1 / 16

/-- Ingress group, SF point of a copy: W (false) or P (true) (R205). -/
def State.copyGroup (s : State) (g : Nat) (p : Bool) : Nat := s.ctxBits g 1 (if p then 16 else 0) 16
def State.sfCtx (s : State) (g : Nat) (p : Bool) : Nat := s.ctxBits g (if p then 3 else 2) 0 18
def State.alignCtx (s : State) (g : Nat) : Nat := s.ctxBits g 4 0 18
def State.sfMode (s : State) (g : Nat) : Nat := s.ctxBits g 0 9 2
def State.extReq (s : State) (g : Nat) : Nat := s.ctxBits g 5 18 4

/-- The owner of a slot-group context is admitted (R220). -/
def State.slotGroupHeld (s : State) (x : Nat) : Bool :=
  s.ctxType x == 4 && s.prot.aligners.any fun e => s.alignCtx e.1 == x

/-! ## Checks of WRITE_CFG -/

/-- A state with DWORDs 0 to 5 of a context replaced (R149). -/
def State.withConfig (s : State) (x : Nat) (d : List Nat) : State :=
  (List.range 6).foldl (fun s i => s.setCtxDw x i (d.getD i 0)) s

/-- The SF points of a copy meet R206. -/
def State.sfPointOk (s : State) (g : Nat) (p : Bool) : Bool :=
  let x := s.sfCtx g p
  s.sfMode g == 0 || (decide (x < 261120) && s.ctxType x == 1 && s.sinkOf x == some (false, s.copyGroup g p) &&
    (s.sfMode g != 2 || 1 ≤ s.ctxLayer x))

/-- A protection group's copies, and its slot-group context, are as R204 wants them. -/
def State.pgPair (s : State) (g : Nat) : Bool :=
  let t := s.odu.activeI
  let w := s.copyGroup g false
  let p := s.copyGroup g true
  t.hasGroup w && t.hasGroup p && w != p && (t.entry w).kind == (t.entry p).kind && t.groupS w == t.groupS p &&
  (t.entry w).flex == (t.entry p).flex &&
  (s.pgs.all fun h => h == g || (s.copyGroup h false != w && s.copyGroup h false != p &&
    s.copyGroup h true != w && s.copyGroup h true != p)) &&
  (s.ctxBits g 0 7 1 == 0 || (s.ctxType (s.alignCtx g) == 4 && s.ctxBits (s.alignCtx g) 2 0 18 == g))

/-- A protection group's signal-fail mode and points are as R206 wants them. -/
def State.pgSf (s : State) (g : Nat) : Bool := s.sfMode g != 3 && s.sfPointOk g false && s.sfPointOk g true

/-- A protection group may be enabled (R204, R206). -/
def State.pgOk (s : State) (g : Nat) : Bool := s.pgPair g && s.pgSf g

/-- A WRITE_CFG that leads to `s'` breaks what R204 and R206 ask of a protection group: all of it where EN is set, its SF points
where an enabled group's W_SF_CTX or P_SF_CTX changes. -/
def State.pgRefused (s s' : State) (x : Nat) : Bool :=
  s'.ctxType x == 2 && s'.ctxEn x &&
  (if s.ctxType x == 2 && s.ctxEn x then
    (s'.sfCtx x false != s.sfCtx x false || s'.sfCtx x true != s.sfCtx x true) && !s'.pgSf x
  else !s'.pgOk x)

/-- The enabled points in computed mode (R165). -/
def State.compPoints (s : State) : List Nat := s.points.filter fun x => s.ctxBits x 0 10 1 == 1

/-- An enabled or held context's fixed fields would change (R149, R205, R220). -/
def State.fixedChange (s s' : State) (x : Nat) : Bool :=
  if s.ctxEn x then
    s'.ctxType x != s.ctxType x ||
    (s.ctxType x == 1 && (s'.ctxLayer x != s.ctxLayer x || s'.ctxFunc x != s.ctxFunc x ||
      s'.ctxDw x 1 != s.ctxDw x 1 || s'.ctxBits x 3 0 13 != s.ctxBits x 3 0 13)) ||
    (s.ctxType x == 2 && (s'.ctxBits x 0 5 1 != s.ctxBits x 0 5 1 || s'.ctxBits x 0 7 1 != s.ctxBits x 0 7 1 ||
      s'.sfMode x != s.sfMode x || s'.ctxDw x 1 != s.ctxDw x 1 || s'.alignCtx x != s.alignCtx x)) ||
    (s.slotGroupHeld x && (s'.ctxBits x 0 0 5 != s.ctxBits x 0 0 5 || s'.ctxBits x 1 0 18 != s.ctxBits x 1 0 18 ||
      s'.ctxBits x 2 0 18 != s.ctxBits x 2 0 18))
  else false

/-- RESULT of a WRITE_CFG that leads to `s'` (R144, R149, R165, R171, R204, R206): 0 when it is accepted. -/
def State.cfgResult (s s' : State) (m : Master) (x : Nat) : Nat :=
  let t := s'.ctxType x
  if 261120 ≤ x && m != .warden then 2
  else if 6 ≤ t || (t == 5 && decide (x < 261120)) || (261120 ≤ x && !(t == 0 || t == 5)) then 5
  else if s.fixedChange s' x || s.pgRefused s' x then 1
  else if t == 1 && s'.ctxEn x && s'.ctxBits x 0 10 1 == 1 &&
      (8192 < s'.compPoints.length || s'.compPoints.any fun y => y != x && s'.ctxBits y 3 0 13 == s'.ctxBits x 3 0 13) then 3
  else if t == 1 && s'.ctxEn x && !s.ctxEn x && !loadOk s'.monLoad then 4
  else 0

/-! ## Commands (R149, R165, R171) -/

/-- A context command ends with a RESULT. -/
def State.ctxEnd (s : State) (r : Nat) : State :=
  (s.fsets [(F.ctx_CTX_STATUS_DONE, 1), (F.ctx_CTX_STATUS_RESULT, r)]).raise 0x60 0

/-- Log a refusal of a context command on page 0x060, by RESULT (R168). -/
def State.ctxRefuse (s : State) (m : Master) (r : Nat) : State :=
  (s.log 0x60 (match r with | 2 => 5 | 3 => 0xB | 4 => 0xC | _ => 0xA) m 0x40).ctxEnd r

/-- Load a list into CTX_DATA0 onwards. -/
def State.ctxLoad (s : State) (l : List Nat) : State :=
  s.fsets (l.mapIdx fun i v => (F.ctx_CTX_DATA_DATA i, v))

/-- READ (R144, R149, R150). -/
def State.ctxRead (s : State) (m : Master) (x : Nat) : State :=
  if 261120 ≤ x && m != .warden then (s.ctxLoad (List.replicate 16 0)).ctxEnd 2
  else (s.ctxLoad ((List.range 16).map (s.ctxDw x))).ctxEnd (if (s.run x).ecc then 6 else 0)

/-- An admitted group begins to be released, at ADMIT_CMD RELEASE or as it is disabled: it drains to the next core-frame boundary, and
page 0x090 shows it (R47, R228). -/
def State.releaseBegins (s : State) (g : Nat) (asked : Bool) : State :=
  let a := s.aligner g
  ((s.setAligner g { a with releasing := true, byCmd := a.byCmd || asked }).fset (F.hdr_BLK_STATUS_DRAINING 0x90) 1).setReady 0x90 false

/-- An enabled context's state beside the record starts afresh when EN rises or COMPUTED is set (R165). -/
def State.ctxStarts (s0 s : State) (x : Nat) : State :=
  let rose := s.ctxEn x && !s0.ctxEn x
  let s := s.onlyIf (rose && s.ctxType x == 1) fun s => s.setRun x {}
  let s := s.onlyIf (s.ctxType x == 1 && s.ctxEn x && s.ctxBits x 0 10 1 == 1 && (rose || s0.ctxBits x 0 10 1 == 0))
    fun s => { s with odu := { s.odu with
      pm := spPut {} s.odu.pm (s.ctxBits x 3 0 13) { near := 2 ^ 24, far := 2 ^ 24 } } }
  let s := s.onlyIf (s.ctxType x == 1) fun s => s.setCtxBits x 15 3 1 1
  let s := s.onlyIf (s.ctxType x == 2 && rose) fun s => s.setPg x {}
  s.onlyIf (s0.ctxType x == 2 && s0.ctxEn x && !(s.ctxType x == 2 && s.ctxEn x) && s.admitted x) fun s =>
    s.releaseBegins x false

/-- WRITE_CFG (R149). -/
def State.ctxWriteCfg (s : State) (m : Master) (x : Nat) : State :=
  let s' := s.withConfig x ((List.range 6).map fun i => s.fget (F.ctx_CTX_DATA_DATA i))
  let r := s.cfgResult s' m x
  if r != 0 then s.ctxRefuse m r
  else ((s.ctxStarts s' x).setRun x { (s.ctxStarts s' x).run x with ecc := false }).ctxEnd 0

/-- CLEAR_COUNTS (R149). -/
def State.ctxClearCounts (s : State) (m : Master) (x : Nat) : State :=
  if 261120 ≤ x && m != .warden then s.ctxRefuse m 2
  else (((List.range 5).foldl (fun s i => s.setCtxDw x (10 + i) 0) s).setCtxBits x 15 3 1 1).ctxEnd 0

/-- A protection group's context names another (R149). -/
def State.pgNames (s : State) (x : Nat) : Bool :=
  s.ctx.any fun e => e.1 % 16 == 0 && e.2 % 16 == 2 &&
    (let g := e.1 / 16
     s.sfCtx g false == x || s.sfCtx g true == x || s.alignCtx g == x || s.ctxBits g 5 0 18 == x)

/-- FREE (R149). -/
def State.ctxFree (s : State) (m : Master) (x : Nat) : State :=
  if 261120 ≤ x && m != .warden then s.ctxRefuse m 2
  else if s.ctxEn x || s.slotGroupHeld x || s.odu.activeI.names x || s.odu.activeE.names x || s.pgNames x then
    s.ctxRefuse m 1
  else (s.setCtxBits x 0 0 4 0).ctxEnd 0

/-- The DWORDs of a computed-mode entry (R165). -/
def pmWords (e : PmEntry) : List Nat := e.counts ++ [e.near, e.far]

/-- CTX_CMD is written (R171). A command is an update that the engine performs (R146, R172). -/
def State.ctxCmd (s : State) (m : Master) (x op : Nat) : State :=
  let s := s.onlyIf (decide (1 ≤ op) && decide (op ≤ 6)) fun s => s.cadd F.ctx_UPDATES_C 1
  match op with
  | 1 => s.ctxRead m x
  | 2 => s.ctxWriteCfg m x
  | 3 => s.ctxClearCounts m x
  | 4 => s.ctxFree m x
  | 5 => if 8192 ≤ x then s.ctxEnd 3 else (s.ctxLoad (pmWords (spGet {} s.odu.pm x))).ctxEnd 0
  | 6 =>
    if 8192 ≤ x then s.ctxEnd 3
    else
      let e : PmEntry := { spGet {} s.odu.pm x with counts := [0, 0, 0, 0, 0, 0] }
      State.ctxEnd { s with odu := { s.odu with pm := spPut {} s.odu.pm x e } } 0
  | _ => s.log 0x60 9 m 0x40

/-- Contexts with TYPE ≠ 0 (R171). -/
def State.ctxUsed (s : State) : Nat := (s.ctx.filter fun e => e.1 % 16 == 0 && e.2 % 16 != 0).length

/-- MON_LOAD.LOAD (R169): L in 10⁶ s⁻¹, rounded up. -/
def State.monLoadField (s : State) : Nat :=
  (s.monLoad + 122368000000 * rateDen - 1) / (122368000000 * rateDen)

end Sys2Proof.Machine
end

