-- ==== Sys2Proof/Machine/ProtOps.lean ====
section
/-! DEFINITION. Protection selectors: signal fail, the request logic, confirmed and precursor-led switches
(spec/08_protection_skew.md R204 to R213, R229 to R232).

Readings fixed here (notes/assumptions): 42 PRESUMED, 54 DEDUCED, 55 PRESUMED, 56 DEDUCED, 61 DEDUCED, 103 DEDUCED. -/

namespace Sys2Proof.Machine

/-! ## Conditions of a copy (R206, R207) -/

/-- The frame tracker of a group of a direction. -/
def State.tracker (s : State) (eg : Bool) (g : Nat) : Tracker := spGet {} s.odu.trackers (65536 * b2n eg + g)

/-- MON_BASE and MON_MASK of a group, or of a port's ODUCn as group 0xF000 + port (R145). -/
def TribTables.monitorSet (t : TribTables) (g : Nat) : Nat × Nat :=
  if 0xF000 ≤ g then ((t.portEntry (g - 0xF000)).monBase, (t.portEntry (g - 0xF000)).monMask)
  else ((t.entry g).monBase, (t.entry g).monMask)

/-- The path point of a demultiplexed parent, a group or a port's ODUCn, if it has one. -/
def State.pathPoint (s : State) (eg : Bool) (h : Nat) : Option Nat :=
  let e := (s.active eg).monitorSet h
  if bitOf e.2 0 then some e.1 else none

/-- Declared port defects: dLOS, dLOF or dLOM (R154); of either carrier where both are bonded as port 256 (R236). -/
def State.portDefect (s : State) (p : Nat) : Bool :=
  s.fget (F.pdef_PORT_DEF_DEF p) % 8 != 0 || (p == 256 && s.carBonded && s.fget (F.pdef_PORT_DEF_DEF 257) % 8 != 0)

/-- A demultiplexed parent makes its children's SSF 1 (R155). -/
def State.parentFail (s : State) (eg : Bool) (h : Nat) : Bool :=
  (s.tracker eg h).lof || (match s.pathPoint eg h with
    | some x => s.ctxBits x 6 0 4 != 0
    | none => false)

/-- The parents of a group, nearest first: at most two stages lie below an ODUCn (R135). -/
def TribTables.parents (t : TribTables) (g : Nat) : List Nat :=
  match t.parent g with
  | none => []
  | some h => match t.parent h with
    | none => [h]
    | some k => [h, k]

/-- The demultiplexed parents whose defects reach a group: those of its tables, and the ODUCn of its port (R144, R155). -/
def State.parentsOf (s : State) (eg : Bool) (g : Nat) : List Nat :=
  (s.active eg).parents g ++ if g < 0xF000 && s.portOduc (s.portOfSu g) then [0xF000 + s.portOfSu g] else []

/-- Signal fail of an ingress group as SNC/I sees it (R206). -/
def State.sncI (s : State) (g : Nat) : Bool :=
  s.portDefect (s.portOfSu g) || (s.tracker false g).lof || ((s.parentsOf false g).any (s.parentFail false))

/-- SF of a copy (R206). -/
def State.sfNow (s : State) (g : Nat) (p : Bool) : Bool :=
  match s.sfMode g with
  | 1 => s.ctxBits (s.sfCtx g p) 6 0 4 != 0
  | 2 => s.ctxBits (s.sfCtx g p) 6 0 1 != 0
  | _ => s.sncI (s.copyGroup g p)

/-- State of the aligner that the group's slot-group context shows; 0 when not admitted (R220). -/
def State.astate (s : State) (g : Nat) : Nat := if s.admitted g then s.ctxBits (s.alignCtx g) 6 0 3 else 0

/-- The port of a copy. -/
def State.copyPort_ (s : State) (g : Nat) (p : Bool) : Nat := s.portOfSu (s.copyGroup g p)

/-- The words of a slip buffer that may be read: the provisional ones are its last (R25). -/
def CopyTrack.readable (t : CopyTrack) : List (Nat × Nat) := t.slip.take (t.slip.length - t.prov)

/-- EARLY_P: P is the delayed copy. -/
def State.earlyP (s : State) (g : Nat) : Bool := s.ctxBits (s.alignCtx g) 6 3 1 == 1

/-- The skew buffer has no readable words for a copy of a group that is read through it (R207, R220): the words of a copy that failed
have run out. In PENDING a switch is made with a hit, whatever the other copy's buffer holds. -/
def State.copyDry (s : State) (g : Nat) (p : Bool) : Bool :=
  let a := s.aligner g
  (s.astate g == 3 || s.astate g == 4) && (if s.earlyP g == p then a.early else a.late).readable.isEmpty

/-- A copy is unavailable (R207). -/
def State.unavNow (s : State) (g : Nat) (p : Bool) : Bool :=
  s.portDisabled (s.copyPort_ g p) || s.portProv (s.copyPort_ g p) || s.copyDry g p

/-- Both copies are confirmed-aligned (R222). -/
def State.alignedNow (s : State) (g : Nat) : Bool :=
  s.astate g == 3 && !s.portProv (s.copyPort_ g false) && !s.portProv (s.copyPort_ g true)

/-! ## The record of a switch (R212, R240) -/

/-- POS and OUT of a group: true is P (R205). -/
def State.pos (s : State) (g : Nat) : Bool := s.ctxBits g 6 0 1 == 1
def State.outCopy (s : State) (g : Nat) : Bool := s.ctxBits g 6 1 1 == 1

/-- HOLDOFF and WTR of a group in ms (R205). -/
def State.holdoffMs (s : State) (g : Nat) : Nat := 100 * min 100 (s.ctxBits g 0 11 7)
def State.wtrMs (s : State) (g : Nat) : Nat := 60000 * max 1 (min 12 (s.ctxBits g 0 18 4))

/-- A switch-log entry's DWORDs (R240). -/
def State.swEntry (s : State) (g : Nat) (led : Bool) : List Nat :=
  [g + 2 ^ 18 * b2n (s.pos g) + 2 ^ 19 * b2n led + 2 ^ 20 * s.ctxBits g 6 3 4 + 2 ^ 24 * s.ctxBits g 6 7 1,
   s.cget F.core_SF_COUNT_C % 2 ^ 32, s.fget F.core_CORE_STATUS_FRAME, s.fget F.odu_TICK_SEQ_SEQ]

/-- A confirmed switch is recorded (R212, R240, R337). -/
def State.recordSwitch (s : State) (g : Nat) (led : Bool) : State :=
  let e := s.swEntry g led
  let s := (s.setCtxDw g 10 (s.ctxDw g 10 + 1)).setCtxDw g 11 (s.cget F.core_SF_COUNT_C)
  let i := 4 * (s.fget F.prot_SWLOG_WR_WR % 256)
  let s := s.fsets (e.mapIdx fun j v => (F.swl_SWLOG_DW (i + j), v))
  let s := s.fset F.prot_SWLOG_WR_WR (s.fget F.prot_SWLOG_WR_WR + 1)
  let s := ((s.cadd F.prot_SWITCHES_C 1).raise 0x90 0).jrnl 7 hwMaster 0x90 ((e.map (leBytes 4)).flatten)
  s.twinNote (.protState g ((List.range 4).map fun d => s.ctxDw g (6 + d)))

/-! ## The request logic (R208 to R210) -/

/-- The hold-off of one copy in an engine update (R209): timer, request in force, absence seen. -/
def holdStep (cond : Bool) (ms : Nat) (timer : Option Nat) (raised absent : Bool) : Option Nat × Bool × Bool :=
  if cond then
    if raised then (none, true, false)
    else if ms = 0 then (none, true, false)
    else (some (timer.getD ms), false, false)
  else if raised then (none, !absent, !absent)
  else (none, false, false)

/-- The highest local request: its G.873.1 code and the position it requires, none for the present one (R208). `sfW` and `sfP` are
the conditions of the copies, in hold-off or not: while both have SF the selector stays, but for a lockout, and a manual switch is
ignored while either has. -/
def localRequest (ext : Nat) (sfW sfP raisedW raisedP wtr dnr revert : Bool) : Nat × Option Bool :=
  let both := (sfW || raisedW) && (sfP || raisedP)
  let move := fun (p : Bool) => if both then none else some p
  if ext = 1 then (0b1111, some false)
  else if raisedP then (0b1110, move false)
  else if ext = 2 then (0b1101, move true)
  else if raisedW then (0b1011, move true)
  else if ext = 6 then (0b1001, move true)
  else if ext = 7 then (0b1001, move false)
  else if ext = 3 && !sfW && !sfP then (0b0111, some true)
  else if ext = 4 && !sfW && !sfP then (0b0111, some false)
  else if wtr then (0b0101, none)
  else if ext = 5 then (0b0100, none)
  else if dnr then (0b0001, none)
  else (0, if revert then move false else none)

/-- Requested signal of a local request (G.873.1): 1 where it asks for protection. -/
def signalOf (code : Nat) (dest : Option Bool) (pos : Bool) : Nat :=
  if code = 0 || code = 0b1110 || code = 0b1111 then 0 else b2n (dest.getD pos)

/-- The position a far-end request requires (R210, G.873.1). -/
def remotePos (code signal : Nat) (pos : Bool) : Bool :=
  if code = 0b1111 || code = 0b1110 then false
  else if code = 0b0100 || code ≤ 0b0010 then pos
  else signal != 0

/-- A far-end request, taken as none where it only answers (R208 RR). -/
def farCode (aps : Nat) : Nat := if bitsOf aps 28 4 = 0b0010 then 0 else bitsOf aps 28 4

/-- APS_TX (R210): request; A = 1, B = 0, D, R; requested signal; bridged signal 1. -/
def apsWord (code : Nat) (bidir revert : Bool) (signal : Nat) : Nat :=
  code * 2 ^ 28 + (8 + 2 * b2n bidir + b2n revert) * 2 ^ 24 + signal * 2 ^ 16 + 2 ^ 8

/-- HOLDOFF_RUN, WTR_RUN and TIMER show the group's timers (R205). -/
def State.showTimers (s : State) (g : Nat) : State :=
  let v := s.pg g
  let s := (s.setCtxBits g 6 12 1 (b2n (v.hoW.isSome || v.hoP.isSome))).setCtxBits g 6 13 1 (b2n v.wtr.isSome)
  s.setCtxDw g 9 (match v.wtr, v.hoW, v.hoP with
    | some t, _, _ => t
    | none, some t, _ => t
    | none, none, some t => t
    | none, none, none => 0)

/-- The request in force becomes `code` and POS becomes `pos`; a speculation ends when the confirmed request state
changes (R31), and a change of position is recorded (R212). -/
def State.setRequest (s : State) (g code : Nat) (remote pos : Bool) : State :=
  let changed := s.ctxBits g 6 3 4 != code || (s.ctxBits g 6 7 1 == 1) != remote || s.pos g != pos
  let moved := s.pos g != pos
  let led := (s.pg g).spec && s.outCopy g == pos
  let s := s.onlyIf changed fun s => s.setPg g { s.pg g with spec := false, specEnd := false }
  let s := ((s.setCtxBits g 6 3 4 code).setCtxBits g 6 7 1 (b2n remote)).setCtxBits g 6 0 1 (b2n pos)
  s.onlyIf moved fun s => s.recordSwitch g led

/-- One engine update of a protection group (R208 to R210). An expired WTR reverts the group once no hold-off of W runs and its
aligner is neither in FILL nor in HELD (R209); a request of higher priority, local or of the far end, cancels WTR. -/
def State.pgEval (s : State) (g : Nat) : State :=
  if !(s.ctxType g == 2 && s.ctxEn g) || (s.run g).ecc then s
  else
    let sfW := s.sfNow g false || s.unavNow g false
    let sfP := s.sfNow g true || s.unavNow g true
    let s := (((s.setCtxBits g 6 8 1 (b2n (s.sfNow g false))).setCtxBits g 6 9 1 (b2n (s.sfNow g true))).setCtxBits
      g 6 10 1 (b2n (s.unavNow g false))).setCtxBits g 6 11 1 (b2n (s.unavNow g true))
    let s := s.cadd F.ctx_UPDATES_C 1
    let v := s.pg g
    let revert := s.ctxBits g 0 6 1 == 1
    let bidir := s.ctxBits g 0 5 1 == 1
    let w := holdStep sfW (s.holdoffMs g) v.hoW v.raisedW v.absentW
    let p := holdStep sfP (s.holdoffMs g) v.hoP v.raisedP v.absentP
    let endsSf := v.raisedW && !w.2.1 && v.heldSf && s.pos g
    let wtr := if endsSf && revert then some (s.wtrMs g)
      else if v.waitAligned && w.1.isNone && s.astate g != 2 && s.astate g != 4 then none else v.wtr
    let dnr := (v.dnr || (endsSf && !revert)) && s.pos g
    let ext := s.extReq g
    let r0 := localRequest ext sfW sfP w.2.1 p.2.1 wtr.isSome dnr revert
    let far := if bidir then farCode (s.ctxDw g 8) else 0
    let wtr := if 0b0101 < max r0.1 far then none else wtr
    let dnr := dnr && r0.1 ≤ 0b0101
    let pos0 := r0.2.getD (s.pos g)
    let remote := decide (r0.1 < far)
    let both := (sfW || w.2.1) && (sfP || p.2.1) && far != 0b1111
    let pos := if !remote then pos0 else if both then s.pos g else remotePos far (bitsOf (s.ctxDw g 8) 16 8) (s.pos g)
    let code := if remote then far else r0.1
    let v' : PgState := { s.pg g with
      hoW := w.1, raisedW := w.2.1, absentW := w.2.2, hoP := p.1, raisedP := p.2.1, absentP := p.2.2
      wtr := wtr, dnr := dnr, waitAligned := v.waitAligned && !endsSf && wtr.isSome
      heldSf := (r0.1 == 0b1011 && pos) || (v.heldSf && w.2.1) }
    let s := s.setPg g v'
    let s := s.setRequest g code remote pos
    let s := s.onlyIf (s.ctxBits g 5 0 18 != 0x3FFFF) fun s =>
      s.setCtxDw g 7 (if remote then apsWord 0b0010 bidir revert (bitsOf (s.ctxDw g 8) 16 8)
        else apsWord r0.1 bidir revert (signalOf r0.1 r0.2 pos))
    s.showTimers g

/-! ## Precursor-led switches (R229 to R231) -/

/-- A precursor is raised on a port (R229): bit 0 power step, 1 pilot burst, 2 surge, 3 CDR unlock; for a lane-group
port it belongs to every member lane. -/
def State.precursor (s : State) (p bit : Nat) : State :=
  let ps := if p < 256 then s.portLanes p else s.portCarriers p |>.map (256 + ·)
  { s with prot := { s.prot with
    now := ps.foldl (fun m q => spModify 0 m q (· ||| 2 ^ bit)) s.prot.now
    fresh := ps.map (fun q => (q, s.prot.window)) ++ s.prot.fresh } }

/-- A precursor grid window ends: PREC_STATUS shows it and the next begins (R229). -/
def State.precWindowEnds (s : State) : State :=
  let changed := (s.prot.now.map Prod.fst ++ (List.range 258).filter fun q => s.fget (F.prec_PREC_STATUS_PREC q) != 0)
  let s := changed.foldl (fun s q => s.fset (F.prec_PREC_STATUS_PREC q) (spGet 0 s.prot.now q)) s
  { s with prot := { s.prot with window := s.prot.window + 1, now := [] } }

/-- A port had a precursor in grid window `w`, the present or the last complete one. -/
def State.precIn (s : State) (q w : Nat) : Bool :=
  if w = s.prot.window then spGet 0 s.prot.now q != 0
  else w + 1 == s.prot.window && s.fget (F.prec_PREC_STATUS_PREC q) != 0

/-- The port on which a copy's precursors are looked up. -/
def State.precPort (s : State) (g : Nat) (p : Bool) : Nat := s.copyPort_ g p

/-- A selector's precursor-led switch at a core-frame boundary (R230, R26). -/
def State.precSwitch (s : State) (g : Nat) : State :=
  let sel := s.pos g
  let req := s.ctxBits g 6 3 4
  let led := s.prot.fresh.any fun e => e.1 == s.precPort g sel && !s.precIn (s.precPort g !sel) e.2
  if led && s.flag F.prot_PROT_CFG_PREC_EN && s.ctxBits g 0 8 1 == 1 && !(s.pg g).spec &&
      s.outCopy g == sel && s.ctxBits g 6 15 1 == 0 && s.alignedNow g && s.holdoffMs g == 0 &&
      (req == 0 || req == 1 || req == 5) && !s.sfNow g (!sel) && !s.unavNow g (!sel) &&
      !s.portDisabled (s.copyPort_ g sel) && !(s.run g).ecc then
    ((s.setPg g { s.pg g with spec := true, specEnd := false }).setCtxBits g 6 1 1 (b2n !sel)).setCtxBits g 6 2 1 1
  else s

/-- The speculation is confirmed: SF of the copy it left has risen (R231, R212). A group whose configuration is held by a hot-state
error keeps its confirmed position (R150). -/
def State.confirmSpec (s : State) (g : Nat) : State :=
  let left := s.pos g
  if (s.pg g).spec && s.sfNow g left && !(s.run g).ecc then
    let v := s.pg g
    let v' : PgState := { v with
      spec := false, specEnd := false
      raisedW := v.raisedW || !left, raisedP := v.raisedP || left
      heldSf := v.heldSf || !left
      wtr := none, dnr := false }
    let s := s.setPg g v'
    let s := (s.setCtxBits g 6 (if left then 9 else 8) 1 1).setCtxBits g 6 3 4 (if left then 0b1110 else 0b1011)
    let s := ((s.setCtxBits g 6 7 1 0).setCtxBits g 6 0 1 (b2n !left)).setCtxBits g 6 2 1 0
    s.recordSwitch g true
  else s

/-- Confirm every speculation whose left copy has failed: done whenever a defect changes (R231). -/
def State.confirmSpecs (s : State) : State := s.pgs.foldl State.confirmSpec s

/-- The selector at a core-frame boundary (R12, R31, R48, R211, R231): a speculation that has ended returns, any
other selector takes its confirmed position. -/
def State.selectorBoundary (s : State) (g : Nat) : State :=
  let v := s.pg g
  let lost := v.spec && (!s.alignedNow g || s.portDisabled (s.copyPort_ g false) || s.portDisabled (s.copyPort_ g true) ||
    (s.run g).ecc)
  let s := s.onlyIf (v.spec && (v.specEnd || lost)) fun s => s.setPg g { s.pg g with spec := false, specEnd := false }
  if (s.pg g).spec then s
  else
    let returns := s.ctxBits g 6 2 1 == 1 && s.outCopy g != s.pos g
    let s := (s.setCtxBits g 6 1 1 (b2n (s.pos g))).setCtxBits g 6 2 1 0
    s.onlyIf returns fun s => s.setCtxBits g 6 15 1 1

/-- Timers of a group move on by `n` ms (R209). -/
def State.pgMs (n : Nat) (s : State) (g : Nat) : State :=
  let v := s.pg g
  (s.setPg g { v with hoW := v.hoW.map (· - n), hoP := v.hoP.map (· - n), wtr := v.wtr.map (· - n) }).showTimers g

/-- Hold-off expires: with the condition still present the request is raised (R209). -/
def State.holdoffExpires (s : State) (g : Nat) (p : Bool) : State :=
  let v := s.pg g
  let cond := s.sfNow g p || s.unavNow g p
  if (s.run g).ecc then s
  else if p then
    (if v.hoP.isSome then (s.setPg g { v with hoP := none, raisedP := cond }).pgEval g else s)
  else
    (if v.hoW.isSome then (s.setPg g { v with hoW := none, raisedW := cond }).pgEval g else s)

/-- Wait-to-restore expires (R209): the group reverts, or WTR stays in force while it waits for ALIGNED or for the hold-off of a
condition that has returned. -/
def State.wtrExpires (s : State) (g : Nat) : State :=
  let v := s.pg g
  if v.wtr.isNone || (s.run g).ecc then s else (s.setPg g { v with wtr := some 0, waitAligned := true }).pgEval g

/-- An admitted group holds provisional state: an estimator's checkpoint, words in the skew buffer or in a slip buffer (R223). -/
def Aligner.holdsProv (a : Aligner) : Bool :=
  !a.chk.isEmpty || decide (0 < a.extent) || decide (0 < a.early.prov) || decide (0 < a.late.prov)

/-- Provisional state exists in the protection block (R28, R232): a precursor-led switch, an aligner's, or a bond's. -/
def State.protProv (s : State) : Bool :=
  s.pgs.any (fun g => s.ctxBits g 6 2 1 == 1) || (s.prot.aligners.any fun e => e.2.holdsProv) ||
  s.prot.bondWords.any Prod.fst || (List.range 128).any fun j => s.flag (F.bond_SLB_STATUS_PROV j)

end Sys2Proof.Machine
end

