-- ==== Sys2Proof/Machine/AlignOps.lean ====
section
/-! DEFINITION. Alignment of buffered groups, their skew buffer and admission (spec/08_protection_skew.md R214 to
R228, R235).

Readings fixed here (notes/assumptions): 53 DEDUCED, 57 DESIGN CHOICE, 58 DEDUCED, 59 DEDUCED, 61 DEDUCED. -/

namespace Sys2Proof.Machine

/-! ## Admission (R224 to R228) -/

/-- The number of stacks in SKEW_CFG.STACKS. -/
def State.numStacks (s : State) : Nat := ((List.range 4).filter (bitOf (s.fget F.prot_SKEW_CFG_STACKS))).length

/-- SKEW_CFG.STACKS is non-zero and every stack in it is READY (R226). -/
def State.stacksReady (s : State) : Bool :=
  s.fget F.prot_SKEW_CFG_STACKS != 0 &&
  (List.range 4).all fun i => !bitOf (s.fget F.prot_SKEW_CFG_STACKS) i || s.ready (0x2B0 + i)

/-- `x / y`, rounded up. -/
def ceilDiv (x y : Nat) : Nat := (x + y - 1) / y

/-- Fr of R225: core frames of depth. -/
def skewFrames (d : Nat) : Nat := ceilDiv (25 * d) 18 + 4

/-- U of R225: 256-bit units. -/
def skewUnits (su d : Nat) : Nat := ceilDiv (64 * su * skewFrames d) 15

/-- b of R225: 2 MiB blocks in every one of `m` stacks. -/
def skewBlocks (su d m : Nat) : Nat := ceilDiv (ceilDiv (skewUnits su d) m) 65536

/-- E of R225: index entries; the rate is given in bit/s as numerator and denominator. -/
def indexEntries (d : Nat) (rate : Nat × Nat) : Nat := ceilDiv (d * rate.1) (1957888000 * 1000 * rate.2) + 8

/-- Slot units, blocks and index entries in use (R226, R239). -/
def State.loadSu (s : State) : Nat :=
  (s.prot.aligners.map fun e => e.2.su).foldl (· + ·) 0 + (if s.prot.bondBlocks.isSome then 2560 else 0)
def State.blocksUsed (s : State) : Nat :=
  (s.prot.aligners.map fun e => e.2.blocks).foldl (· + ·) 0 + s.prot.bondBlocks.getD 0
def State.indexUsed (s : State) : Nat := (s.prot.aligners.map fun e => e.2.index).foldl (· + ·) 0

/-- Checks 2 and 3 of R226 for a load of `su` slot units, delay `d` and `e` index entries: RESULT and b. -/
def State.admission (s : State) (su d e : Nat) : Nat × Nat :=
  if !s.stacksReady then (5, 0)
  else
    let m := s.numStacks
    let b := skewBlocks su d m
    if 4500 * m < s.loadSu + su then (1, b)
    else if 15360 < s.blocksUsed + b then (2, b)
    else if 1048576 < s.indexUsed + e then (3, b)
    else if d < 100 || 250000 < d then (4, b)
    else (0, b)

/-- MAX_DELAY of a slot-group context. -/
def State.maxDelay (s : State) (g : Nat) : Nat := s.ctxBits (s.alignCtx g) 1 0 18

/-- Slot units and index entries of a protection group (R225). -/
def State.groupLoad (s : State) (g : Nat) : Nat × Nat :=
  let e := s.odu.activeI.entry (s.copyGroup g false)
  (suCount e.kind e.flex, indexEntries (s.maxDelay g) (kindRate e.kind e.flex))

/-- The checks of ADMIT and QUERY (R226): RESULT and NEED. -/
def State.admitCheck (s : State) (g : Nat) : Nat × Nat :=
  if !(s.ctxType g == 2 && s.ctxEn g && s.ctxBits g 0 7 1 == 1) || s.admitted g ||
      !(s.ctxType (s.alignCtx g) == 4 && s.ctxEn (s.alignCtx g) && s.ctxBits (s.alignCtx g) 2 0 18 == g) then (6, 0)
  else s.admission (s.groupLoad g).1 (s.maxDelay g) (s.groupLoad g).2

/-- ADMIT_STATUS at a command's end, and ADMIT_DONE. -/
def State.admitEnd (s : State) (result need : Nat) : State :=
  (s.fsets [(F.prot_ADMIT_STATUS_DONE, 1), (F.prot_ADMIT_STATUS_RESULT, result), (F.prot_ADMIT_STATUS_NEED, need)]).raise 0x90 2

/-! ## The aligner machine (R220) -/

/-- An update of a context, which the engine skips while a configuration word of it is bad (R150). -/
def State.ctxUpdate (s : State) (x : Nat) (f : State → State) : State := s.onlyIf (!(s.run x).ecc) f

/-- A field, or a DWORD, of the slot-group context of a protection group is updated (R220, R150). -/
def State.setAlignBits (s : State) (g i lo n v : Nat) : State :=
  s.ctxUpdate (s.alignCtx g) fun s => s.setCtxBits (s.alignCtx g) i lo n v
def State.setAlignDw (s : State) (g i v : Nat) : State :=
  s.ctxUpdate (s.alignCtx g) fun s => s.setCtxDw (s.alignCtx g) i v

/-- Show an aligner in its slot-group context (R220). -/
def State.showAligner (s : State) (g : Nat) : State :=
  let a := s.aligner g
  let s := (s.setAlignBits g 6 4 1 (b2n (!a.chk.isEmpty))).setAlignDw g 7 a.delta.natAbs
  s.ctxUpdate g fun s => s.setCtxBits g 6 14 1 (b2n (s.alignedNow g))

/-- Provisional index frames and the outcomes taken from them are discarded (R223). -/
def Aligner.dropProv (a : Aligner) : Aligner :=
  let a := match a.chk.find? (·.1 == 0) with | some e => { a with idxW := e.2.idx, crcW := e.2.crc } | none => a
  let a := match a.chk.find? (·.1 == 1) with | some e => { a with idxP := e.2.idx, crcP := e.2.crc } | none => a
  { a with chk := [] }

/-- The aligner enters a state: 0 UNADMITTED, 1 SEARCH, 2 FILL, 3 ALIGNED, 4 HELD, 5 PENDING, 6 OVER (R220). It stays where it
is while a configuration word of its slot-group context is bad (R150). -/
def State.setAstate (s : State) (g new : Nat) : State :=
  if (s.run (s.alignCtx g)).ecc then s else
  let old := s.ctxBits (s.alignCtx g) 6 0 3
  let s := s.setAlignBits g 6 0 3 new
  let s := s.onlyIf ((old == 3) != (new == 3)) fun s => s.raise 0x90 1
  let s := s.onlyIf (old == 3 && new != 3) fun s => s.cadd F.prot_ALIGN_LOSS_C 1
  let a := s.aligner g
  let a : Aligner := { a.dropProv with hits := 0, misses := 0, badUnit := none }
  let a : Aligner := if new = 2 then { a with wrote := 0, got := 0 } else a
  let a : Aligner := if new = 1 || new = 6 then { a with runW := [], runP := [] } else a
  let a : Aligner := if new = 3 || new = 4 || new = 5 || new = 2 then a
    else { a with store := [], extent := 0, early := {}, late := {}, next := none }
  let s := s.setAligner g a
  let s := s.onlyIf (new ≤ 2 || new == 6) fun s => s.setAlignDw g 9 0
  let s := s.onlyIf (new == 3 && old == 2) fun s => s.setAlignDw g 9 0
  s.showAligner g

/-- A copy fails, in the sense of R220. -/
def State.copyFails (s : State) (g : Nat) (p : Bool) : Bool :=
  s.sfNow g p || s.portDisabled (s.copyPort_ g p) || s.portProv (s.copyPort_ g p) ||
  !(s.tracker false (s.copyGroup g p)).inFrame

/-- The selected copy is the delayed one. -/
def State.delayedSelected (s : State) (g : Nat) : Bool := s.outCopy g == s.earlyP g

/-- A group whose alignment is lost leaves to PENDING if the delayed copy is selected, otherwise to SEARCH (R220). -/
def State.alignLost (s : State) (g : Nat) : State :=
  s.setAstate g (if s.delayedSelected g then 5 else 1)

/-- What an aligner does when the copies or the stacks change (R217, R220). -/
def State.alignerCheck (s : State) (g : Nat) : State :=
  if !s.admitted g then s
  else
    let st := s.astate g
    let fw := s.copyFails g false
    let fp := s.copyFails g true
    if !s.stacksReady then s.setAstate g 1
    else if st = 2 && (fw || fp) then s.setAstate g 1
    else if st = 3 && (fw || fp) then s.setAstate g 4
    else if st = 4 && 4 ≤ (s.aligner g).hits && (s.aligner g).chk.isEmpty && !fw && !fp then s.setAstate g 3
    else if st = 5 && s.outCopy g == s.pos g && !s.delayedSelected g then s.setAstate g 1
    else s.showAligner g

/-- Every aligner looks at its copies. -/
def State.alignerChecks (s : State) : State := (s.prot.aligners.map Prod.fst).foldl State.alignerCheck s

/-- N of a group (R219). -/
def State.nframes (s : State) (g : Nat) : Nat := s.ctxDw (s.alignCtx g) 8 % 2 ^ 19

/-- The residual at a core-frame boundary (R221): N follows Δ while the undelayed copy is selected; beyond the limit
the delayed copy's selection leads to PENDING; a change of sign of Δ ends alignment. -/
def State.residual (s : State) (g : Nat) : State :=
  if s.astate g != 3 then s
  else
    let r : Int := (s.aligner g).delta - 1152 * (s.nframes g : Int)
    if (s.aligner g).delta < 0 then s.alignLost g
    else if s.delayedSelected g then (if r < -1152 ∨ 2303 < r then s.setAstate g 5 else s)
    else if r < -576 then s.setAlignDw g 8 (s.nframes g - 1)
    else if 1727 < r then s.setAlignDw g 8 (s.nframes g + 1)
    else s

/-! ## Index frames (R218, R219, R221, R223) -/

/-- The offset of later over early copy that a frame of copy `p` at `time` measures to an entry of the other copy. -/
def signedOffset (earlyP p : Bool) (time entry : Nat) : Int :=
  if earlyP == p then (entry : Int) - time else (time : Int) - entry

/-- Offsets agree to within 720 ns (R219). -/
def agree (l : List Int) : Bool := l.all fun x => l.all fun y => decide (x - y ≤ 1152) && decide (y - x ≤ 1152)

/-- Confirmation of an offset: FILL, or OVER beyond MAX_DELAY (R219). -/
def State.alignConfirm (s : State) (g : Nat) (p : Bool) (off : Nat) : State :=
  let s := (s.setAlignBits g 6 3 1 (b2n !p)).setAlignDw g 8 (off / 1152)
  let s := s.setAstate g (if 1600 * s.maxDelay g < off then 6 else 2)
  (s.setAligner g { s.aligner g with delta := off, runW := [], runP := [] }).showAligner g

/-- A usable index frame in SEARCH or OVER (R219). `ms` are the other copy's entries with its MFAS and CRC. The last four offsets of
a copy whose frames matched without a break confirm when they agree. -/
def State.searchFrame (s : State) (g : Nat) (p : Bool) (time : Nat) (ms : List IndexEntry) : State :=
  let a := s.aligner g
  let put := fun (s : State) (l : List Int) => s.setAligner g (if p then { s.aligner g with runP := l } else { s.aligner g with runW := l })
  let s := s.setAlignBits g 6 5 1 (b2n (decide (2 ≤ ms.length)))
  match ms with
  | [e] =>
    let off : Int := (time : Int) - e.time
    let run := (off :: (if p then a.runP else a.runW)).take 4
    if run.length = 4 && agree run && 0 ≤ off then s.alignConfirm g p off.natAbs else put s run
  | _ => put s []

/-- A match or a mismatch at Δ changes the machine (R220, R221). -/
def State.alignOutcome (s : State) (g : Nat) (hit : Bool) (off : Int) : State :=
  let a := s.aligner g
  if hit then
    let s := (s.setAligner g { a with delta := off, hits := a.hits + 1, misses := 0 }).setAlignDw g 9
      (s.ctxDw (s.alignCtx g) 9 + 1)
    if s.astate g = 4 && 4 ≤ (s.aligner g).hits && !s.copyFails g false && !s.copyFails g true then s.setAstate g 3
    else s.showAligner g
  else
    let s := s.setAligner g { a with hits := 0, misses := a.misses + 1 }
    if 4 ≤ (s.aligner g).misses then s.alignLost g else s

/-- The aligner first takes a provisional index frame of a copy: it saves a checkpoint (R223, R32). -/
def State.alignCheckpoint (s : State) (g : Nat) (p : Bool) : State :=
  let a := s.aligner g
  if a.chk.any (·.1 == b2n p) then s
  else
    let c : AlignCheckpoint := { delta := a.delta, n := s.nframes g, matched := s.ctxDw (s.alignCtx g) 9,
                                 idx := if p then a.idxP else a.idxW, crc := if p then a.crcP else a.crcW }
    (s.setAligner g { a with chk := spSet a.chk (b2n p) c }).showAligner g

/-- A usable index frame in ALIGNED or HELD (R221): only a frame of the later copy, or one that shows the early copy
has become later, is judged. An outcome that a provisional frame takes part in is kept aside with that copy's checkpoint
(R223). -/
def State.heldFrame (s : State) (g : Nat) (p : Bool) (time : Nat) (prov : Bool) (ms : List IndexEntry) : State :=
  let a := s.aligner g
  let judged := s.earlyP g != p || !ms.isEmpty
  if !judged then s
  else
    let off : Int := match ms with
      | [e] => signedOffset (s.earlyP g) p time e.time
      | _ => 0
    let hit := ms.length == 1 && decide (off - a.delta ≤ 1152) && decide (a.delta - off ≤ 1152)
    if prov || ms.any (·.prov) then
      let k := b2n (if prov then p else !p)
      s.setAligner g { a with chk := a.chk.map fun e =>
        if e.1 = k then (k, { e.2 with outcomes := e.2.outcomes ++ [(hit, off)] }) else e }
    else s.alignOutcome g hit off

/-- Core-clock cycles in one index period of a group: 16 ODU frames (R218). -/
def State.indexPeriod (s : State) (g : Nat) : Nat :=
  let e := s.odu.activeI.entry (s.copyGroup g false)
  let r := kindRate e.kind e.flex
  if r.1 = 0 then 0 else 16 * 122368 * 1600000000 * r.2 / r.1

/-- An index frame of a copy arrives (R218): stored, and judged if it is usable. Frames of an unconfirmed hypothesis are taken
only in HELD (R223). Index frames of either copy are kept for MAX_DELAY and 8 index periods. -/
def State.indexFrame (s : State) (g : Nat) (p : Bool) (mfas crc time : Nat) : State :=
  let prov := s.portProv (s.copyPort_ g p)
  if !s.admitted g || mfas % 16 != 0 || (prov && s.astate g != 4) then s
  else
    let s := s.onlyIf prov fun s => s.alignCheckpoint g p
    let a := s.aligner g
    let usable := (if p then a.crcP else a.crcW) != some crc
    let keep := fun (l : List IndexEntry) =>
      l.filter fun e => decide (time ≤ e.time + 1600 * s.maxDelay g + 8 * s.indexPeriod g)
    let e : IndexEntry := { mfas := mfas, crc := crc, time := time, prov := prov }
    let other := keep (if p then a.idxW else a.idxP)
    let ms := other.filter fun e => e.mfas == mfas && e.crc == crc
    let s := s.setAligner g (if p then { a with idxP := e :: keep a.idxP, idxW := other, crcP := some crc }
      else { a with idxW := e :: keep a.idxW, idxP := other, crcW := some crc })
    if !usable || !s.stacksReady then s
    else if s.astate g = 1 || s.astate g = 6 then s.searchFrame g p time ms
    else if s.astate g = 3 || s.astate g = 4 then s.heldFrame g p time prov ms
    else s

/-- A copy's hypothesis is confirmed: its index frames are ordinary, and the outcomes kept aside are taken in order (R223). -/
def State.alignerTakes (s : State) (g : Nat) (p : Bool) : State :=
  match (s.aligner g).chk.find? (·.1 == b2n p) with
  | none => s
  | some c =>
    let a := s.aligner g
    let plain := fun (l : List IndexEntry) => l.map fun e => { e with prov := false }
    let a : Aligner := { a with chk := spErase (b2n p) a.chk }
    let s := s.setAligner g (if p then { a with idxP := plain a.idxP } else { a with idxW := plain a.idxW })
    (c.2.outcomes.foldl (fun s o => if s.astate g = 3 || s.astate g = 4 then s.alignOutcome g o.1 o.2 else s) s).showAligner g

/-- A copy's hypothesis is cancelled: its checkpoint returns, and its index frames since are gone (R223, R32). -/
def State.alignerReturns (s : State) (g : Nat) (p : Bool) : State :=
  match (s.aligner g).chk.find? (·.1 == b2n p) with
  | none => s
  | some c =>
    let s := (s.setAlignDw g 8 c.2.n).setAlignDw g 9 c.2.matched
    let a : Aligner := { s.aligner g with chk := spErase (b2n p) (s.aligner g).chk, delta := c.2.delta }
    (s.setAligner g (if p then { a with idxP := c.2.idx, crcP := c.2.crc } else { a with idxW := c.2.idx, crcW := c.2.crc })).showAligner g

/-- The admitted groups with a copy on port `p`. -/
def State.alignersOn (s : State) (p : Nat) : List Nat :=
  (s.prot.aligners.map Prod.fst).filter fun g => s.copyPort_ g false == p || s.copyPort_ g true == p

/-- FILL is complete (R220). -/
def State.fillComplete (s : State) (g : Nat) : State :=
  if s.admitted g && s.astate g == 2 then s.setAstate g 3 else s

/-- RELEASE takes effect at a core-frame boundary (R228): the allocation is freed. -/
def State.releaseNow (s : State) (g : Nat) : State :=
  let hit := 3 ≤ s.astate g && s.astate g ≤ 5 && s.pos g == s.earlyP g
  let asked := (s.aligner g).byCmd
  let s := s.setAstate g 0
  let s := { s with prot := { s.prot with aligners := spErase g s.prot.aligners } }
  let s := (s.ctxUpdate g fun s => s.setCtxBits g 6 14 1 0).setAlignDw g 7 0
  let s := (s.setAlignDw g 8 0).setAlignBits g 6 3 2 0
  let v := s.pg g
  let s := s.onlyIf v.spec fun s => s.setPg g { v with spec := false, specEnd := false }
  let s := s.onlyIf asked fun s => s.admitEnd (if hit then 7 else 0) (s.fget F.prot_ADMIT_STATUS_NEED)
  if s.prot.aligners.any fun e => e.2.releasing then s
  else (s.fset (F.hdr_BLK_STATUS_DRAINING 0x90) 0).setReady 0x90 true

/-- ADMIT_CMD is written (R226, R228, R239). While an earlier command has not ended it has no effect and logs BUSY (R73). -/
def State.admitCmd (s : State) (m : Master) (g op : Nat) : State :=
  if !s.flag F.prot_ADMIT_STATUS_DONE then s.log 0x90 8 m 0x54
  else match op with
  | 1 =>
    let r := s.admitCheck g
    if r.1 = 0 then
      let a : Aligner := { blocks := r.2, su := (s.groupLoad g).1, index := (s.groupLoad g).2 }
      let s := { s with prot := { s.prot with aligners := spSet s.prot.aligners g a } }
      (s.setAstate g 1).admitEnd 0 r.2
    else (((s.cadd F.prot_ADMIT_REFUSED_C 1).raise 0x90 3).log 0x90 0xA m 0x54).admitEnd r.1 r.2
  | 2 =>
    if s.ctxType g != 2 then s.admitEnd 6 (s.fget F.prot_ADMIT_STATUS_NEED)
    else if !s.admitted g then s.admitEnd 0 (s.fget F.prot_ADMIT_STATUS_NEED)
    else (s.releaseBegins g true).fset F.prot_ADMIT_STATUS_DONE 0
  | 3 => let r := s.admitCheck g; s.admitEnd r.1 r.2
  | _ => s.log 0x90 9 m 0x54

/-- The stored words of every admitted group are lost (R217): a stack of STACKS lost READY. -/
def State.skewLost (s : State) : State :=
  (s.prot.aligners.map Prod.fst).foldl (fun s g => s.setAstate g 1) s

/-! ## The buffered path (R216) -/

/-- Sequence numbers repeat after 256 ODU frames; `a` lies before `b` in that circle. -/
def seqBefore (a b : Nat) : Bool := decide ((b + 256 * 7648 - a) % (256 * 7648) < 128 * 7648) && a != b

/-- The last three words are the FAS of an ODU frame (R138). -/
def fasSeen (last : List Nat) : Bool := last.map (· % 65536) == [0x2828, 0xF628, 0xF6F6]

/-- Number the valid words of one core frame of a copy: each ODU frame begins at its FAS, is 7,648 words long and is counted by
its MFAS, which word 3 carries; the three words before it wait for it (R138, R216). -/
def CopyTrack.take (cap : Nat) (t : CopyTrack) (w : Nat) : CopyTrack :=
  let last := (w :: t.last).take 3
  let found := fasSeen last
  match t.pos with
  | none => { t with pos := if found then some 3 else none, last := last }
  | some i =>
    let f := if i = 3 then w % 65536 / 256 else t.frame
    let new := if i < 3 then [] else if i = 3 then
        (t.last.reverse.mapIdx fun k x => (f * 7648 + k, x)) ++ [(f * 7648 + 3, w)]
      else [(f * 7648 + i, w)]
    { t with
      pos := if found && t.miss then some 3 else some ((i + 1) % 7648), last := last
      miss := if i = 2 then !found else t.miss && !found
      frame := f, slip := (t.slip ++ new).take cap }

/-- A copy delivers one core frame of words, in sequence order, to its slip buffer of 256S words; a core frame in which the
copy has none leaves its place to be found again. Words of an unconfirmed hypothesis are provisional (R25, R223). -/
def CopyTrack.deliver (t : CopyTrack) (su : Nat) (prov : Bool) (ws : List Nat) : CopyTrack :=
  let valid := ws.filter fun w => bitOf w 16
  let counts := ((prov, valid.length) :: t.counts).take 3
  let t := if prov && t.saved.isNone then { t with saved := some (t.pos, t.last, t.miss, t.frame) } else t
  if ws.isEmpty then { t with pos := none, last := [], miss := false, counts := counts }
  else
    let t' := valid.foldl (CopyTrack.take (256 * su)) t
    { t' with counts := counts, prov := if prov then t.prov + (t'.slip.length - t.slip.length) else t.prov }

/-- Words before a sequence number leave the slip buffer. -/
def CopyTrack.trim (t : CopyTrack) (next : Nat) : CopyTrack :=
  let keep := fun (l : List (Nat × Nat)) => l.filter fun e => !seqBefore e.1 next
  let late := keep (t.slip.drop (t.slip.length - t.prov))
  { t with slip := keep t.readable ++ late, prov := late.length }

/-- Provisional words become ordinary, or are voided as if never written, with their counts (R25, R32, R129). -/
def CopyTrack.resolve (t : CopyTrack) (taken : Bool) : CopyTrack :=
  let t := { t with counts := t.counts.map fun (e : Bool × Nat) => (false, if e.1 && !taken then 0 else e.2) }
  if taken then { t with prov := 0, saved := none }
  else match t.saved with
    | none => { t with slip := t.readable, prov := 0 }
    | some x => { t with slip := t.readable, prov := 0, pos := x.1, last := x.2.1, miss := x.2.2.1, frame := x.2.2.2, saved := none }

/-- The words of a copy that the selector read two core frames after they came leave a slip buffer that nothing reads: in FILL (R216). -/
def CopyTrack.fills (t : CopyTrack) : CopyTrack :=
  { t with slip := t.slip.drop (t.slip.length - ((t.counts.getD 0 (false, 0)).2 + (t.counts.getD 1 (false, 0)).2)) }

/-- Frames of the store beyond the depth N, oldest first, and the store that remains (R216). -/
def readStore (n : Nat) (store : List (Nat × List Nat)) : List (Nat × List Nat) × List (Nat × List Nat) :=
  ((store.drop n).reverse, store.take n)

/-- Bytes read from or written to stack `i` when a group's word count passes from `a` to `b`: units of 15 words go to
the stacks of STACKS in turn (R215). -/
def State.unitBytes (s : State) (a b i : Nat) : Nat :=
  let sts := (List.range 4).filter (bitOf (s.fget F.prot_SKEW_CFG_STACKS))
  let m := sts.length
  let upto := fun n => (n / 15 + m - 1 - sts.idxOf i) / m
  if sts.contains i then 32 * (upto b - upto a) else 0

/-- The memory traffic of a group's frame (R241). -/
def State.skewTraffic (s : State) (wrote wrote' got got' : Nat) : State :=
  (List.range 4).foldl (fun s i =>
    (s.cadd (F.mem_WR_BYTES_C i) (s.unitBytes wrote wrote' i)).cadd (F.mem_RD_BYTES_C i) (s.unitBytes got got' i)) s

/-- What words `first` on give a 256-bit unit of the skew buffer (R215): bits [17j + 16:17j] hold bits [16:0] of word j, for j = 0 to 14,
and bit 255 is 0. A unit that two frames share is the sum of what either gives it. -/
def skewUnit (first : Nat) (ws : List Nat) : Nat :=
  ((ws.take (15 - first)).mapIdx fun j w => w % 2 ^ 17 * 2 ^ (17 * (first + j))).foldl (· + ·) 0

/-- Words `first` on of a unit, `n` of them, as read: P regenerated, and inverted where the unit is uncorrectable (R215, R217). -/
def unitWords15 (unit first n : Nat) (bad : Bool) : List Nat :=
  (List.range n).map fun j => parityWord (bitsOf unit (17 * (first + j)) 17) ^^^ (if bad then 2 ^ 17 else 0)

/-- Words cut where units end; the first unit already holds `used` words of an earlier frame (R215). -/
def unitRuns (used : Nat) (ws : List Nat) : List (List Nat) :=
  (List.range ((used + ws.length + 14) / 15)).map fun k =>
    if k = 0 then ws.take (15 - used) else (ws.drop (15 * k - used)).take 15

/-- A frame's words as read back from the skew buffer (R215, R217): packed in units without padding between frames, the first word being
word `pos` of the group's stream; `bad` says which units of the stream are uncorrectable. -/
def skewWords (bad : Nat → Bool) (pos : Nat) (ws : List Nat) : List Nat :=
  ((unitRuns (pos % 15) ws).mapIdx fun k l =>
    let first := if k = 0 then pos % 15 else 0
    unitWords15 (skewUnit first l) first l.length (bad (pos / 15 + k))).flatten

/-- The uncorrectable units of a core frame's reading that begins with word `pos` (R217): `bad` numbers those read first in it, and
`last` is one read in the frame before. -/
def badUnits (pos : Nat) (bad : List Nat) (last : Option Nat) (unit : Nat) : Bool :=
  last == some unit || (decide ((pos + 14) / 15 ≤ unit) && bad.contains (unit - (pos + 14) / 15))

/-- One core frame of a buffered group: its copies' words in sequence order in, the selected words out, as many as the
selected copy delivered two core frames earlier (R216). `bad` numbers the uncorrectable units that the core frame is the first to read;
each copy comes with whether its words are provisional, and a copy that carries replacement signal has none (R223). In FILL
nothing is read out, and either slip buffer keeps what it would still hold. -/
def State.bufferedFrame (s : State) (g : Nat) (w p : Bool × List Nat) (bad : List Nat) : State × List Nat :=
  let a := s.aligner g
  let eP := s.earlyP g
  let e := if eP then p else w
  let l := if eP then w else p
  let n := s.nframes g
  let extent := if e.1 then a.extent + 1 else 0
  let r := readStore n ((a.wrote, e.2) :: a.store)
  let from_ := (r.1.head?.map Prod.fst).getD a.got
  let uncorr := badUnits from_ bad a.badUnit
  let early := (r.1.mapIdx fun j f => (decide (n + (r.1.length - 1 - j) < extent), skewWords uncorr f.1 f.2)).foldl
    (fun t f => t.deliver a.su f.1 f.2) a.early
  let late := a.late.deliver a.su l.1 l.2
  let fill := s.astate g == 2
  let sel := if s.delayedSelected g then early else late
  let n' := (sel.counts.getD 2 (false, 0)).2
  let next := a.next.getD (match sel.readable with | (q, _) :: _ => q | [] => 0)
  let ready := sel.readable.filter fun e => !seqBefore e.1 next
  let out := ready.take n'
  let next' := match out.getLast? with | some e => (e.1 + 1) % (256 * 7648) | none => next
  let wrote' := a.wrote + 64 * a.su
  let got' := if r.1.isEmpty then a.got else from_ + 64 * a.su * r.1.length
  let a' : Aligner := { a with
    store := r.2, extent := min extent n, wrote := wrote', got := got'
    early := if fill then early.fills else early.trim next', late := if fill then late.fills else late.trim next'
    badUnit := if r.1.isEmpty then a.badUnit else if got' % 15 != 0 && uncorr (got' / 15) then some (got' / 15) else none
    next := if fill || sel.readable.isEmpty then a.next else some next' }
  ((s.setAligner g a').skewTraffic a.wrote wrote' a.got got', if fill then [] else out.map Prod.snd)

/-- The lead hypothesis of a port's framer ends: its words in the copies' slip buffers and in the skew buffer become
ordinary, or are voided (R25, R129, R223). -/
def State.copyResolve (s : State) (g : Nat) (p taken : Bool) : State :=
  let a := s.aligner g
  if s.earlyP g == p then
    s.setAligner g { a with
      store := if taken then a.store else a.store.mapIdx fun i f => if i < a.extent then (f.1, []) else f
      extent := 0, early := a.early.resolve taken }
  else s.setAligner g { a with late := a.late.resolve taken }

/-- The lead hypothesis of a bonded carrier ends (R129, R236): the ODUC64's words become ordinary once neither carrier's framer is
provisional, or are voided. -/
def State.bondResolve (s : State) (taken : Bool) : State :=
  if taken && s.portProv 256 then s
  else { s with prot := { s.prot with bondWords :=
    if taken then s.prot.bondWords.map fun e => (false, e.2) else s.prot.bondWords.filter fun e => !e.1 } }

/-- The lead hypothesis on port `p` is confirmed, or is cancelled or dropped: the bonded carriers' words, the buffered copies of the
port and their aligners act on it (R129, R223). -/
def State.leadEnds (s : State) (p : Nat) (taken : Bool) : State :=
  let s := s.onlyIf (decide (p = 256) && s.carBonded) fun s => s.bondResolve taken
  (s.alignersOn p).foldl (fun s g => [false, true].foldl (fun s c => s.onlyIf (s.copyPort_ g c == p) fun s =>
    if taken then (s.copyResolve g c taken).alignerTakes g c else (s.copyResolve g c taken).alignerReturns g c) s) s

end Sys2Proof.Machine
end

