-- ==== Sys2Proof/Machine/Snap.lean ====
section
/-! DEFINITION. Snapshots of the counters (spec/03_registers.md R65, R66). -/

namespace Sys2Proof.Machine

/-- Page of a counter-store key. -/
def ctrPage (k : Nat) : Nat := k / 0x4000

/-- Copy the counters of the pages that satisfy `p` into their holding registers (R66). -/
def State.holdPages (s : State) (p : Nat → Bool) : State :=
  let kept := spDrop (fun k => p (ctrPage k)) s.hold
  { s with hold := (s.ctrs.filter fun e => p (ctrPage e.1)).foldl (fun m e => spSet m e.1 e.2) kept }

/-- SNAP_SEQ of a page advances. -/
def State.bumpSnap (s : State) (p : Nat) : State :=
  s.fset (F.hdr_SNAP_SEQ_SEQ p) (s.fget (F.hdr_SNAP_SEQ_SEQ p) + 1)

/-- A snapshot of one page. -/
def State.snapPage (s : State) (p : Nat) : State := (s.holdPages (· == p)).bumpSnap p

/-- Every mapped page (R57). -/
def mappedPages : List Nat := (List.range 0x2C1).filter pageMapped

/-- A device-wide snapshot; a page whose domain is powered down is skipped (R66). -/
def State.snapAll (s : State) : State :=
  (mappedPages.filter fun p => !s.domainOff p).foldl State.bumpSnap
    (s.holdPages fun p => pageMapped p && !s.domainOff p)

/-- SNAP_CTRL.TAKE on a page. -/
def State.snapshot (s : State) (p : Nat) : State := if p = 0 then s.snapAll else s.snapPage p

end Sys2Proof.Machine
end

