-- ==== Sys2Proof/Machine/OduOps.lean ====
section
/-! DEFINITION. The context engine: defects, overhead of received ODU frames, events, the one-second tick and
performance data (spec/06_odu_monitoring.md R138, R139, R147 to R172; the load of spec/16_security.md R433).

Readings fixed here (notes/assumptions): 42 PRESUMED, 43 DESIGN CHOICE, 44 DEDUCED, 45 DEDUCED, 103 DEDUCED, 110
PRESUMED, 113 DESIGN CHOICE. -/

namespace Sys2Proof.Machine

/-! ## Loads of security associations (R433) -/

/-- Load of an ODU in the units of R433: of a port's ODUCn, or of an active group that is no forerunner slot. -/
def State.secUnits (s : State) (source scopePort : Bool) (g : Nat) : Option Nat :=
  if scopePort then
    (if 0xF000 ≤ g && s.ports.contains (g - 0xF000) then (s.oducN (g - 0xF000)).map (80 * ·) else none)
  else
    let t := s.active source
    if !t.hasGroup g || s.portForerunner (s.portOfSu g) then none
    else match (t.entry g).kind with
      | 1 => some 1 | 2 => some 2 | 3 => some 8 | 4 => some 8 | 5 => some 80
      | _ => some (ceilDiv (t.entry g).flex 12500)

/-- The engine that serves an association of GROUP `g`: 0 carrier, 1 lane (R432, R433). -/
def saEngine (scopePort : Bool) (g : Nat) : Nat :=
  if scopePort then (if 0xF000 + 256 ≤ g then 0 else 1) else if 40960 ≤ g then 0 else 1

/-! ## Groups and their points -/

/-- The port of a group, or of a port's ODUCn. -/
def State.groupPort (s : State) (g : Nat) : Nat := if 0xF000 ≤ g then g - 0xF000 else s.portOfSu g

/-- The monitoring set of a group or of a port's ODUCn. -/
def TribTables.setOf (t : TribTables) (g : Nat) : List (Nat × Nat) :=
  monSet (t.monitorSet g).1 (t.monitorSet g).2

/-- The enabled points that sink on a group, with their layers. -/
def State.sinksOn (s : State) (eg : Bool) (g : Nat) : List (Nat × Nat) :=
  ((s.active eg).setOf g).filter fun e =>
    s.ctxType e.1 == 1 && s.ctxEn e.1 && s.ctxLayer e.1 == e.2 && s.sinkOf e.1 == some (eg, g)

/-- The group is one whose frames the processor handles. -/
def State.monitored (s : State) (eg : Bool) (g : Nat) : Bool :=
  if 0xF000 ≤ g then s.ports.contains (g - 0xF000) && s.portOduc (g - 0xF000) else (s.active eg).hasGroup g

/-- The sink of a group receives no frames (R153, R154, R158). -/
def State.sinkStopped (s : State) (eg : Bool) (g : Nat) : Bool :=
  (!eg && s.portRepl (s.groupPort g)) ||
  (decide (g < 0xF000) && (!(s.tracker eg g).inFrame ||
    ((s.active eg).parents g).any fun h => !(s.tracker eg h).inFrame))

/-! ## Defects (R154 to R156) -/

/-- SSF of a point (R155). The port's defects are those of its receiver, so they bear on ingress sinks. -/
def State.ssfNow (s : State) (x : Nat) : Bool :=
  match s.sinkOf x with
  | none => false
  | some (eg, g) =>
    (!eg && s.portDefect (s.groupPort g)) ||
    (decide (g < 0xF000) && ((s.tracker eg g).lof || (s.parentsOf eg g).any (s.parentFail eg)))

/-- The port of an ingress point is disabled (R158). -/
def State.pointDark (s : State) (x : Nat) : Bool :=
  match s.sinkOf x with
  | some (false, g) => s.portDisabled (s.groupPort g)
  | _ => false

/-- What the source of a terminating point sends (R156), in BDI_TX and BEI_TX. -/
def State.showTx (s : State) (x : Nat) : State :=
  if s.ctxFunc x = 2 then
    (s.setCtxBits x 6 11 1 (b2n (s.ctxBits x 6 0 4 != 0 || s.ctxBits x 0 16 1 == 1))).setCtxBits x 6 12 4
      (if s.ctxBits x 6 0 1 = 1 then 0 else (s.run x).lastBip)
  else s

/-- The flags of the second in progress take in what is declared now (R147 DWORD 15, R164). -/
def State.noteFlags (s : State) (x : Nat) : State :=
  let d := s.ctxBits x 6 0 6
  let now := b2n (d % 16 != 0) + 2 * b2n (bitOf d 4) + 4 * b2n (s.pointDark x || (s.run x).ecc) + 256 * d
  s.setCtxDw x 15 (s.ctxDw x 15 ||| now)

/-- The defects of a point become `d` (SSF, AIS, LCK, OCI, BDI); a change posts an event (R167). While SSF, dAIS, LCK or
OCI is declared the run of the APS/PCC bytes is held at 0 (R160). -/
def State.setDefects (s : State) (x d : Nat) : State :=
  let was := s.ctxBits x 6 0 5
  let s := (((s.setCtxBits x 6 0 5 d).onlyIf (d % 16 != 0) fun s => s.setCtxBits x 9 0 3 0).showTx x).noteFlags x
  if d % 32 = was || s.pointDark x then s else s.postEvent 1 0 x (s.ctxDw x 6)

/-- Every persistence count of a point restarts (R154, R159, R160). -/
def State.restartRuns (s : State) (x : Nat) : State :=
  (s.setRun x { s.run x with
    aisOn := 0, aisOff := 0, lckOn := 0, lckOff := 0, ociOn := 0, ociOff := 0, bdiOn := 0, bdiOff := 0
    tti := [], ttiLast := [], ttiRun := 0 }).setCtxBits x 9 0 3 0

/-- A point's SSF follows its causes, and suppression clears what it suppresses (R154, R155, R158). -/
def State.settlePoint (s : State) (x : Nat) : State :=
  if (s.run x).ecc then s.noteFlags x
  else match s.sinkOf x with
    | none => s
    | some (eg, g) =>
      let s := s.setCtxBits x 6 5 1 (b2n (decide (g < 0xF000) && (s.tracker eg g).lof))
      let s := s.onlyIf (s.sinkStopped eg g) fun s => s.restartRuns x
      if s.pointDark x then ((s.setCtxBits x 6 5 1 0).setDefects x 0).restartRuns x
      else if s.ssfNow x then (s.setDefects x 1).restartRuns x
      else s.setDefects x (s.ctxBits x 6 1 4 * 2)

/-- The word PORT_DEF reads as (R170, R158). -/
def State.portDefWord (s : State) (p : Nat) : Nat :=
  if s.portDisabled p then 256
  else s.fget (F.pdef_PORT_DEF_DEF p) % 8 + 8 * b2n (s.portNoSig p) + 16 * b2n (s.portOof p) +
    32 * b2n (s.portOom p) + 64 * b2n (s.portRepl p) + 128 * b2n (s.portProv p)

/-- dLOS follows the signal, and suppresses dLOF and dLOM; dLOF suppresses dLOM (R154). -/
def State.settlePort (s : State) (p : Nat) : State :=
  let was := s.fget (F.pdef_PORT_DEF_DEF p) % 8
  let los := !s.portDisabled p && s.portNoSig p
  let lof := bitOf was 1 && !los && !s.portDisabled p
  let lom := bitOf was 2 && !los && !lof && !s.portDisabled p
  let new := b2n los + 2 * b2n lof + 4 * b2n lom
  if new = was then s
  else (s.fset (F.pdef_PORT_DEF_DEF p) new).onlyIf (!s.portDisabled p) fun s =>
    s.postEvent 5 1 p (s.portDefWord p)

/-- Suppression of a group's dLOF: SSF from the port or a parent (R154). -/
def State.settleGroup (eg : Bool) (s : State) (g : Nat) : State :=
  let t := s.tracker eg g
  if t.lof && ((!eg && (s.portDefect (s.groupPort g) || s.portDisabled (s.groupPort g))) ||
      (s.parentsOf eg g).any (s.parentFail eg)) then
    { s with odu := { s.odu with trackers := spPut {} s.odu.trackers (65536 * b2n eg + g) { t with lof := false } } }
  else s

/-- The order in which points are settled: the points of parents before those of their children. -/
def State.pointOrder (s : State) : List Nat :=
  let depth := fun x => match s.sinkOf x with
    | some (eg, g) => (s.parentsOf eg g).length
    | none => 0
  let ps := s.points
  ps.filter (depth · == 0) ++ ps.filter (depth · == 1) ++ ps.filter (depth · == 2) ++ ps.filter (fun x => 3 ≤ depth x)

/-- Every dependent defect after a change of a raw condition or a defect (R154, R155), the speculations it confirms
(R231) and the aligners it fails (R220). -/
def State.defects (s : State) : State :=
  let s := s.defectPorts.foldl State.settlePort s
  let s := (s.odu.activeI.groups).foldl (State.settleGroup false) s
  let s := (s.odu.activeE.groups).foldl (State.settleGroup true) s
  (s.pointOrder.foldl State.settlePoint s).confirmSpecs.alignerChecks

/-! ## Hot-state errors (R150) -/

/-- The engine reads a hot-state word with an error (R150, R335). -/
def State.eccHit (s : State) (h : EccHit) : State :=
  let x := h.ctx.val
  if !h.uncorr then s.cadd F.ctx_CTX_ECC_CORR_C 1
  else
    let s := (s.cadd F.ctx_CTX_ECC_UNCORR_C 1).raise 0x60 1
    let s := { s with twin := { s.twin with fault := s.twin.fault ||| 2 } }
    if h.word.val < 3 then
      ((s.setRun x { s.run x with ecc := true }).onlyIf (s.ctxType x == 1) fun s => s.noteFlags x).onlyIf
        (s.ctxType x == 2 && (s.pg x).spec) fun s => s.setPg x { s.pg x with specEnd := true }
    else
      let s := (s.setCtxDw x (2 * h.word.val) 0).setCtxDw x (2 * h.word.val + 1) 0
      s.onlyIf (s.ctxType x == 1) fun s => s.setCtxBits x 15 3 1 1

/-! ## A received ODU frame (R138, R152 to R160) -/

/-- A frame passes a group's tracker (R138). -/
def Tracker.frame (t : Tracker) (fas : Bool) (mfas : Nat) : Tracker :=
  let t := if fas then { t with good := min 2 (t.good + 1), bad := 0 } else { t with good := 0, bad := min 5 (t.bad + 1) }
  let step := decide ((t.mfas + 1) % 256 = mfas)
  if t.inFrame then
    if 5 ≤ t.bad then { t with inFrame := false, whole := false, mfas := mfas }
    else { t with mfas := mfas, count := (t.count + 1) % 2 ^ 19, whole := t.whole && step }
  else if 2 ≤ t.good then { t with inFrame := true, whole := false, mfas := mfas, count := 0 }
  else { t with mfas := mfas }

/-- Replace a tracker. -/
def State.setTracker (s : State) (eg : Bool) (g : Nat) (t : Tracker) : State :=
  { s with odu := { s.odu with trackers := spPut {} s.odu.trackers (65536 * b2n eg + g) t } }

/-- A persistence count: frames in a row with, and without, the condition. -/
def runStep (cond : Bool) (on off : Nat) : Nat × Nat := if cond then (min 5 (on + 1), 0) else (0, min 5 (off + 1))

/-- A defect with persistence `n` in both directions (R154). -/
def declares (n : Nat) (was : Bool) (r : Nat × Nat) : Bool := if was then decide (r.2 < n) else decide (n ≤ r.1)

/-- STAT and BDI of a frame (R154). -/
def State.pointStat (s : State) (x : Nat) (o : LayerOh) : State :=
  let s := s.setCtxBits x 6 7 3 o.stat.val
  if s.ctxBits x 6 0 1 = 1 then s
  else
    let r := s.run x
    let a := runStep (o.stat.val == 7) r.aisOn r.aisOff
    let l := runStep (o.stat.val == 5) r.lckOn r.lckOff
    let c := runStep (o.stat.val == 6) r.ociOn r.ociOff
    let b := runStep o.bdi r.bdiOn r.bdiOff
    let d := s.ctxBits x 6 0 5
    let s := s.setRun x { r with
      aisOn := a.1, aisOff := a.2, lckOn := l.1, lckOff := l.2, ociOn := c.1, ociOff := c.2, bdiOn := b.1, bdiOff := b.2 }
    s.setDefects x (2 * b2n (declares 3 (bitOf d 1) a) + 4 * b2n (declares 3 (bitOf d 2) l) +
      8 * b2n (declares 3 (bitOf d 3) c) + 16 * b2n (declares 5 (bitOf d 4) b))

/-- BIP-8 and BEI of a frame (R147, R152). -/
def State.pointCounts (s : State) (x : Nat) (o : LayerOh) : State :=
  let add := fun (s : State) d n => s.setCtxDw x d (s.ctxDw x d + n)
  let s := (s.cadd F.ctx_UPDATES_C 1).setRun x { s.run x with lastBip := o.bip.val }
  let s := add s 10 1
  let s := add (add s 11 (b2n (o.bip.val != 0))) 12 o.bip.val
  let far := decide (1 ≤ o.bei.val) && decide (o.bei.val ≤ 8)
  add (add s 13 (b2n far)) 14 (if far then o.bei.val else 0)

/-- The APS/PCC bytes of a frame (R160). -/
def State.pointAps (s : State) (x mfas aps : Nat) : State :=
  if !(s.ctxBits x 0 12 1 == 1 && mfas % 8 == s.ctxLayer x) then s
  else
    let was := s.ctxDw x 8
    let s := s.setCtxDw x 8 aps
    if s.ctxBits x 6 0 4 != 0 then s.setCtxBits x 9 0 3 0
    else
      let n := s.ctxBits x 9 0 3
      let run := if was = aps && n != 0 then min 7 (n + 1) else 1
      let s := s.setCtxBits x 9 0 3 run
      if max 2 (s.ctxBits x 0 13 3) ≤ run && aps != s.ctxDw x 7 then
        let s := s.setCtxDw x 7 aps
        let g := s.ctxBits x 2 0 18
        let s := s.onlyIf (g != 0x3FFFF && s.ctxType g == 2 && !(s.run g).ecc) fun s => s.setCtxDw g 8 aps
        s.postEvent 2 0 x (s.ctxDw x 6)
      else s

/-- Cold store of a context (R151, R214): stack and offset. -/
def coldStore (x : Nat) : Nat × Nat := (x / 65536, 0x780000000 + 8192 * (x % 65536))

/-- The cold store of a context can be written (R151). -/
def State.coldOk (s : State) (x : Nat) : Bool := s.ready (0x2B0 + x / 65536)

/-- The trail-trace byte of a frame (R159); a multiframe that is not whole breaks the run of identical ones. -/
def State.pointTti (s : State) (x mfas : Nat) (b : Byte) : State :=
  let i := mfas % 64
  let r := s.run x
  let r := if r.tti.length = i then r else { r with tti := [], ttiLast := [], ttiRun := 0 }
  let tti := if i = 0 then [b.toNat] else if r.tti.length = i then r.tti ++ [b.toNat] else []
  if tti.length < 64 then s.setRun x { r with tti := tti }
  else
    let n := if tti = r.ttiLast then min 3 (r.ttiRun + 1) else 1
    let s := s.setRun x { r with tti := [], ttiLast := tti, ttiRun := n }
    let c := coldStore x
    let s := s.onlyIf (n = 3 && s.coldOk x) fun s => s.memCounted c.1 64
    if n = 3 && s.coldOk x && s.memRead c.1 (c.2 + 4096) 64 != tti then
      let s := (s.memWrite c.1 (c.2 + 4096) tti).setCtxBits x 6 10 1 1
      s.postEvent 3 0 x (s.ctxDw x 6)
    else s

/-- One sink processes a frame (R152). -/
def pointFrame (f : OduFrame) (s : State) (e : Nat × Nat) : State :=
  match f.layers[e.2]? with
  | none => s
  | some o =>
    if (s.run e.1).ecc then s.noteFlags e.1
    else
      let s := ((s.pointCounts e.1 o).pointStat e.1 o).showTx e.1
      (s.pointAps e.1 f.mfas.toNat f.aps.toNat).pointTti e.1 f.mfas.toNat o.tti

/-- The mapper context of a demultiplexed parent (R139, R142). -/
def State.mapCtxOf (s : State) (g : Nat) : Option Nat :=
  let t := s.odu.activeI
  if 0xF000 ≤ g then
    (if s.mapperOk (t.portEntry (g - 0xF000)).mapCtx then some (t.portEntry (g - 0xF000)).mapCtx else none)
  else if (t.entry g).demux && s.mapperOk (t.entry g).mapCtx then some (t.entry g).mapCtx else none

/-- A justification control field that passes its check gives its tributary's Cm and ΣC_nD; a failed one leaves those in use (R139). -/
def State.takeJc (s : State) (jc : Fin 46080 × Option (Nat × Nat)) : State :=
  match jc.2 with
  | none => s
  | some v => { s with odu := { s.odu with gmp := spPut (0, 0) s.odu.gmp jc.1.val v } }

/-- Justification control and MSI of a demultiplexed parent's frame (R139, R148, R151). A change of the received MSI counts whether or
not the cold store can take the capture. -/
def State.parentFrame (s : State) (g : Nat) (f : OduFrame) : State :=
  match s.mapCtxOf g with
  | none => s
  | some x =>
    let bad := (f.jc.filter fun j => j.2.isNone).length
    let s := (f.jc.foldl State.takeJc s).cadd F.odu_JC_ERR_C bad
    let r := spGet {} s.odu.mappers x
    let put := fun (s : State) (r : MapperRun) => { s with odu := { s.odu with mappers := spPut {} s.odu.mappers x r } }
    let s := put s { r with jc := r.jc + bad }
    match f.msi with
    | none => s
    | some l =>
      let c := coldStore x
      let msi := padTo 1280 (l.map (·.toNat))
      let held := s.coldOk x && s.memRead c.1 (c.2 + 4096) 1280 == msi
      let differs := match r.last with
        | some old => old != msi
        | none => !held
      let s := s.onlyIf (s.coldOk x) fun s => s.memCounted c.1 1280
      let s := s.onlyIf (s.coldOk x && !held) fun s => s.memWrite c.1 (c.2 + 4096) msi
      let r := spGet {} s.odu.mappers x
      let s := put s { r with msi := r.msi + b2n differs, last := some msi }
      s.onlyIf differs fun s => s.postEvent 4 0 x (s.ctxDw x 6)

/-- The tributary that holds each tributary slot of a parent of a direction, as 1 + its first slot unit; 0 for none (R136). -/
def State.parentSlots (s : State) (eg : Bool) (g : Nat) : List Nat :=
  let t := s.active eg
  let name := fun (x : Nat) => if x = 0xFFFF then 0 else x + 1
  if 0xF000 ≤ g then
    let p := g - 0xF000
    (List.range (20 * (s.oducN p).getD 0)).map fun i => name (t.top (portBase p + 4 * i))
  else (t.topUnitsOf g).map fun u => if t.group u = g then 0 else name (t.group u)

/-- KIND of a parent, 0 for an ODUCn. -/
def State.parentKind (s : State) (eg : Bool) (g : Nat) : Nat := if 0xF000 ≤ g then 0 else ((s.active eg).entry g).kind

/-- The MSI that the active tables of a direction imply for a parent: received (R52), or transmitted (R139). -/
def State.impliedMsi (s : State) (eg : Bool) (g : Nat) : List Nat :=
  let l := s.parentSlots eg g
  (List.range l.length).map fun i => Config.msiByte (s.parentKind eg g) i (l.getD i 0) % 256

/-- A port's egress parents carry the MSI of the egress tables (R139). -/
def State.sendMsi (s : State) (p : Nat) : State :=
  if !s.portOduc p then s
  else
    let own := (s.odu.activeE.grp.filter fun e => e.2.demux && s.portOfSu e.1 == p).map Prod.fst
    ((0xF000 + p) :: own).foldl (fun s g => s.emit (.msi g (s.impliedMsi true g))) s

/-- A frame of a group reaches the processor. -/
def State.oduFrame (s : State) (eg : Bool) (g : Nat) (f : OduFrame) : State :=
  if !s.monitored eg g || (!eg && s.portRepl (s.groupPort g)) then s
  else
    let t := s.tracker eg g
    let t' := t.frame f.fas f.mfas.toNat
    let s := s.onlyIf (g < 0xF000) fun s => s.setTracker eg g t'
    let s := s.onlyIf (g < 0xF000 && !eg && !t.inFrame && t'.inFrame) fun s => s.twinNote (.frameCount g t'.count)
    let s := s.onlyIf (g < 0xF000 && t.inFrame != t'.inFrame) State.defects
    if s.sinkStopped eg g then s
    else
      let s := (s.sinksOn eg g).foldl (pointFrame f) s
      (s.onlyIf (!eg) fun s => s.parentFrame g f).defects

/-! ## 3 ms persistence (R154) -/

/-- A group's dLOF is suppressed. -/
def State.groupSuppressed (s : State) (eg : Bool) (g : Nat) : Bool :=
  (!eg && (s.portDefect (s.groupPort g) || s.portDisabled (s.groupPort g))) ||
    (s.parentsOf eg g).any (s.parentFail eg)

/-- PORT_DEF's declared defects change. -/
def State.setPortDef (s : State) (p d : Nat) : State :=
  let was := s.fget (F.pdef_PORT_DEF_DEF p) % 8
  if d = was then s else ((s.fset (F.pdef_PORT_DEF_DEF p) d).postEvent 5 1 p
    ((s.fset (F.pdef_PORT_DEF_DEF p) d).portDefWord p)).defects

/-- A condition has held for 3 ms without suppression (R154). -/
def State.persists (s : State) (c : PersistCond) : State :=
  match c with
  | .portLof p =>
    let d := s.fget (F.pdef_PORT_DEF_DEF p.val) % 8
    if s.portDisabled p.val || bitOf d 0 then s
    else s.setPortDef p.val (setBits d 1 1 (b2n (s.portOof p.val)))
  | .portLom p =>
    let d := s.fget (F.pdef_PORT_DEF_DEF p.val) % 8
    if s.portDisabled p.val || bitOf d 0 || bitOf d 1 then s
    else s.setPortDef p.val (setBits d 2 1 (b2n (s.portOom p.val)))
  | .groupLof eg u =>
    let t := s.tracker eg u.val
    if !(s.active eg).hasGroup u.val || s.groupSuppressed eg u.val || t.lof == !t.inFrame then s
    else (s.setTracker eg u.val { t with lof := !t.inFrame }).defects

/-! ## The tick and performance data (R161 to R166) -/

/-- A window of R165 takes a second: its DWORD, and the increments of ES, SES, UAS. -/
def pmWindow (w : Nat) (es ses : Bool) : Nat × Nat × Nat × Nat :=
  let fill := bitsOf w 20 4
  let sb := bitsOf w 0 10 ||| (b2n ses * 2 ^ fill)
  let eb := bitsOf w 10 10 ||| (b2n es * 2 ^ fill)
  let av := bitOf w 24
  if fill + 1 < 10 then (sb + 2 ^ 10 * eb + 2 ^ 20 * (fill + 1) + 2 ^ 24 * b2n av, 0, 0, 0)
  else
    let av' := if av then sb != 1023 else sb == 0
    let w' := sb / 2 + 2 ^ 10 * (eb / 2) + 2 ^ 20 * 9 + 2 ^ 24 * b2n av'
    if av' then (w', eb % 2, sb % 2, 0) else (w', 0, 0, 1)

/-- The computed-mode entry after a second (R163, R165). -/
def PmEntry.second (e : PmEntry) (nds fds : Bool) (f eb feEb : Nat) : PmEntry :=
  let n := pmWindow e.near (nds || decide (1 ≤ eb)) (nds || (decide (0 < f) && decide (3 * f ≤ 20 * eb)))
  let r := pmWindow e.far (!nds && (fds || decide (1 ≤ feEb)))
    (!nds && (fds || (decide (0 < f) && decide (3 * f ≤ 20 * feEb))))
  let add := fun i k => (e.counts.getD i 0 + k) % 2 ^ 32
  { counts := [add 0 n.2.1, add 1 n.2.2.1, add 2 n.2.2.2, add 3 r.2.1, add 4 r.2.2.1, add 5 r.2.2.2]
    near := n.1, far := r.1 }

/-- The record of a point for the second just closed (R164). -/
def State.pmRecord (s : State) (x seq flags : Nat) : List Nat :=
  leBytes 4 (x + 2 ^ 18 * s.ctxLayer x + 2 ^ 21 * s.ctxFunc x) ++ leBytes 4 seq ++ leBytes 4 (s.ctxDw x 10) ++
  leBytes 4 (s.ctxDw x 11) ++ leBytes 4 (s.ctxDw x 12) ++ leBytes 4 (s.ctxDw x 13) ++ leBytes 4 (s.ctxDw x 14) ++
  [flags % 64, flags / 256 % 64, 0, 0]

/-- A point's second closes (R163 to R165). -/
def closePoint (seq : Nat) (s : State) (x : Nat) : State :=
  let s := (s.cadd F.ctx_UPDATES_C (b2n (!(s.run x).ecc))).noteFlags x
  let flags := s.ctxDw x 15 ||| (16 * s.odu.secFlag)
  let s := s.onlyIf (s.ctxBits x 0 11 1 == 1 && s.flag F.odu_PM_CFG_LATCH_EN) fun s =>
    { s with odu := { s.odu with records := s.odu.records ++ [(x, s.pmRecord x seq flags)] } }
  let s := s.onlyIf (s.ctxBits x 0 10 1 == 1) fun s =>
    let k := s.ctxBits x 3 0 13
    let e := (spGet {} s.odu.pm k).second (bitOf flags 0) (bitOf flags 1) (s.ctxDw x 10) (s.ctxDw x 11) (s.ctxDw x 13)
    { s with odu := { s.odu with pm := spPut {} s.odu.pm k e } }
  ([10, 11, 12, 13, 14, 15].foldl (fun s d => s.setCtxDw x d 0) s).noteFlags x

/-- The group of a mapper context's parent was in frame, with its multiframe known, for the whole second (R148). -/
def State.parentWhole (s : State) (g : Nat) : Bool :=
  if 0xF000 ≤ g then
    (if g = 0xF100 && s.carBonded then [256, 257] else [g - 0xF000]).all fun p =>
      s.framer p == 2 && s.odu.wholePorts.contains p
  else (s.tracker false g).whole

/-- A mapper context is updated at the tick (R148), unless its configuration is in error (R150). -/
def closeMapper (s : State) (x : Nat) : State :=
  let r := spGet {} s.odu.mappers x
  let s := { s with odu := { s.odu with mappers := spPut {} s.odu.mappers x { last := r.last } } }
  if (s.run x).ecc then s
  else
    let s := (s.cadd F.ctx_UPDATES_C 1).setCtxBits x 6 0 1 (b2n (s.parentWhole (s.ctxBits x 1 0 16)))
    (s.setCtxDw x 10 r.jc).setCtxDw x 11 (s.ctxDw x 11 + r.msi)

/-- SW_SEC of a protection group begins again with the second (R205). -/
def closeGroup (s : State) (g : Nat) : State := if (s.run g).ecc then s else (s.cadd F.ctx_UPDATES_C 1).setCtxDw g 10 0

/-- The security associations with a count in the second that ends (R432). -/
def State.saCounted (s : State) : List Nat :=
  ((s.ctx.filter fun e => decide (saCtx 0 * 16 ≤ e.1) && decide (10 ≤ e.1 % 16)).map fun e => e.1 / 16).eraseDups

/-- The counts of an association's current second begin again (R432). -/
def closeSa (s : State) (x : Nat) : State :=
  if (s.run x).ecc then s else [10, 11, 12, 13].foldl (fun s d => s.setCtxDw x d 0) s

/-- The enabled mapper contexts. -/
def State.mapperCtxs (s : State) : List Nat :=
  (s.ctx.filter fun e => e.1 % 16 == 0 && e.2 % 16 == 3 && bitOf e.2 4).map fun e => e.1 / 16

/-- A tracker at the start of a second. -/
def Tracker.second (t : Tracker) : Tracker := { t with whole := t.inFrame }

/-- The PM ring's free slots (R393). -/
def State.pmrFree (s : State) : Nat :=
  2 ^ clamp 12 22 (s.fget F.ring_PMR_CFG_LOG2_SIZE) -
    (s.fget F.ring_PMR_PROD_PROD + 2 ^ 32 - s.fget F.ring_PMR_CONS_CONS) % 2 ^ 32

/-- Ports whose OTUCn framing is IN_FRAME now. -/
def State.wholeNow (s : State) : List Nat := [256, 257].filter (fun p => s.framer p == 2) ++
  (List.range 256).filter fun p => s.portOduc p && s.framer p == 2

/-- The tick boundary (R161 to R165, R344). -/
def State.tickBoundary (s : State) : State :=
  let seq := (s.fget F.odu_TICK_SEQ_SEQ + 1) % 2 ^ 32
  let s := s.fset F.odu_TICK_SEQ_SEQ seq
  let s := s.onlyIf (s.flag (F.hdr_SNAP_CTRL_ON_TICK 0)) State.snapAll
  let s := { s with odu := { s.odu with records := [], recordsDue := true, recordsFlag := s.odu.secFlag } }
  let s := s.points.foldl (closePoint seq) s
  let s := s.pgs.foldl closeGroup (s.mapperCtxs.foldl closeMapper s)
  let s := s.saCounted.foldl closeSa s
  let fits := s.flag F.ring_PMR_CFG_EN && s.dmaReady && decide (1 + s.odu.records.length ≤ s.pmrFree)
  let s := { s with odu := { s.odu with
    recordsFit := fits, secFlag := 0, framesSinceTick := 0, wholePorts := s.wholeNow
    trackers := s.odu.trackers.map fun (e : Nat × Tracker) => (e.1, e.2.second) } }
  let s := { s with twin := { s.twin with bulkQ := s.twin.bulkQ.filter fun r => match r.body with
    | .pmRecords _ _ => false
    | _ => true } }
  let s := s.onlyIf (s.twinActive && s.linkUp) fun s =>
    s.odu.records.foldl (fun (s : State) e => s.twinRecordLater (.pmRecords seq [e])) s
  s.raise 0x40 0

/-- Write a point's record into its cold store (R151, R166). -/
def coldRecord (seq : Nat) (s : State) (e : Nat × List Nat) : State :=
  if s.coldOk e.1 then
    let c := coldStore e.1
    s.memWrite c.1 (c.2 + 32 * (seq % 128)) e.2
  else s

/-- Write slots of the PM ring (R394). -/
def pmSlots (base size prod : Nat) (s : State) (e : Nat × List Nat) : State :=
  s.emit (.hostWrite (base + 32 * ((prod + e.1) % size)) e.2)

/-- The second is exported, or skipped (R166, R394); a disabled ring counts as full (R392). -/
def State.pmExport (s : State) : State :=
  if !s.flag F.odu_PM_CFG_EXPORT_EN then s
  else if !s.flag F.ring_PMR_CFG_EN || !s.odu.recordsFit || !s.dmaReady then (s.cadd F.odu_PM_EXPORT_SKIP_C 1).raise 0x40 6
  else
    let n := s.odu.records.length
    let base := 64 * s.fget F.ring_PMR_BASE_LO_BASE + 2 ^ 32 * s.fget F.ring_PMR_BASE_HI_BASE
    let prod := s.fget F.ring_PMR_PROD_PROD
    let header := leBytes 4 0x50534543 ++ leBytes 4 (s.fget F.odu_TICK_SEQ_SEQ) ++ leBytes 4 n ++
      padTo 20 [s.odu.recordsFlag % 4]
    let slots := (header :: s.odu.records.map Prod.snd).mapIdx fun i b => (i, b)
    let s := slots.foldl (pmSlots base (2 ^ clamp 12 22 (s.fget F.ring_PMR_CFG_LOG2_SIZE)) prod) s
    let s := (s.fset F.ring_PMR_PROD_PROD (prod + n + 1)).cadd F.ring_PM_SECONDS_C 1
    let wb := s.fget F.ring_PMR_WB_LO_WB + 2 ^ 32 * s.fget F.ring_PMR_WB_HI_WB
    (s.emit (.hostWrite wb (leBytes 4 (s.fget F.ring_PMR_PROD_PROD)))).raise 0x40 1

/-- The records of the second are written and exported (R166). -/
def State.pmWrite (s : State) : State :=
  if !s.odu.recordsDue then s
  else
    let seq := s.fget F.odu_TICK_SEQ_SEQ
    let s := (s.odu.records.foldl (coldRecord seq) s).pmExport
    { s with odu := { s.odu with recordsDue := false, records := [] } }

/-- A rising edge of PPS_IN, `offset` CORE_CLK periods after the tick instant (R162). -/
def State.ppsEdge (s : State) (offset : Int) : State :=
  let s := s.fset F.odu_TICK_STATUS_PPS_PRESENT 1
  if !s.flag F.odu_TICK_CFG_PPS_ALIGN then s
  else
    let s := s.fset F.odu_TICK_STATUS_OFFSET (ofSigned 16 (max (-32768) (min 32767 (offset / 16))))
    let away := decide (offset.natAbs > 160 * s.fget F.odu_TICK_CFG_WINDOW)
    let ns := 720 * s.odu.framesSinceTick
    if s.odu.ppsReload && 500000000 ≤ ns then
      { s with odu := { s.odu with
        ppsReload := false, ppsOut := 0, ppsIn := 0, secFlag := if ns < 1000000000 then 1 else 2 } }
    else
      let out := if away then min 3 (s.odu.ppsOut + 1) else 0
      let inn := if away then 0 else min 3 (s.odu.ppsIn + 1)
      let s := { s with odu := { s.odu with ppsOut := out, ppsIn := inn, ppsReload := s.odu.ppsReload || out == 3 } }
      s.fput F.odu_TICK_STATUS_PPS_ALIGNED (inn == 3)

/-- No PPS_IN edge for 1.1 s (R162). -/
def State.ppsLoss (s : State) : State :=
  if !s.flag F.odu_TICK_STATUS_PPS_PRESENT then s
  else
    let s := { s with odu := { s.odu with ppsReload := false, ppsOut := 0, ppsIn := 0 } }
    ((s.fset F.odu_TICK_STATUS_PPS_PRESENT 0).fset F.odu_TICK_STATUS_PPS_ALIGNED 0).raise 0x40 5

end Sys2Proof.Machine
end

