-- ==== Sys2Proof/Machine/ReelOps.lean ====
section
/-! DEFINITION. The Reel: hypotheses of the framers of carriers and lanes, and the states they lead to
(spec/05_line_code_framing.md R126 to R130; R269, R274, R276, R284). Ports 0 to 255 are lanes, 256 and 257 carriers.

Readings fixed here (notes/assumptions): 61 DEDUCED, 68 DEDUCED. -/

namespace Sys2Proof.Machine

/-! ## Lanes beside their registers -/

/-- Lane `n` beside its registers. -/
def State.lane (s : State) (n : Nat) : Lane := spGet {} s.lanes n

/-- Replace it. -/
def State.setLane (s : State) (n : Nat) (v : Lane) : State := { s with lanes := spPut {} s.lanes n v }

/-- The lane is enabled and calibrated (R46). -/
def State.laneUp (s : State) (n : Nat) : Bool := s.enabled (0x100 + n) && (s.lane n).calibrated

/-- A lane counter counts, while the lane is READY (R280). -/
def State.lcadd (s : State) (n : Nat) (c : Ct) (k : Nat) : State := if s.ready (0x100 + n) then s.cadd c k else s

/-- SLB_STATUS.PROV of the bond a lane belongs to: some member's frame counts are those of an unconfirmed hypothesis (R234). -/
def State.showBondProv (s : State) (n : Nat) : State :=
  match s.slBondOf n with
  | none => s
  | some j => s.fput (F.bond_SLB_STATUS_PROV j) ((s.portLanes n).any fun q => (s.lane q).lateChk.isSome)

/-- Members of a slot-lane bond take delays (R234). -/
def State.setLates (s : State) (l : List (Nat × Nat)) : State :=
  { s with prot := { s.prot with late := l.foldl (fun m e => spPut 0 m e.1 e.2) s.prot.late } }

/-- The bonding aligner matches the members by the newest FC that all of them have shown (R234): lateness behind the earliest, SKEW,
ALIGNED. Members whose last 8 frames share no FC lie further apart than SKEW can show. -/
def State.slbAlign (s : State) (n : Nat) : State :=
  match s.slBondOf n with
  | none => s
  | some j =>
    let ls := s.portLanes n
    let hist := ls.map fun q => (s.lane q).stamps
    let common := (hist.headD []).find? fun e => hist.all fun h => h.any fun x => x.1 == e.1
    let times := match common with
      | some e => hist.map fun h => ((h.find? fun x => x.1 == e.1).map Prod.snd).getD 0
      | none => []
    if common.isNone && !hist.all fun h => decide (8 ≤ h.length) then s
    else
      let first := times.foldl min (times.headD 0)
      let skew := if common.isNone then 1023 else times.foldl max 0 - first
      let max_ := min 800 (s.fget (F.bond_SLB_CFG_SKEW_MAX j))
      let ok := decide (skew ≤ max_) && ls.all fun q => s.framer q == 2
      let was := s.flag (F.bond_SLB_STATUS_ALIGNED j)
      let s := s.setLates ((ls.zip times).map fun e => (e.1, e.2 - first))
      let s := s.fsets [(F.bond_SLB_STATUS_ALIGNED j, b2n ok), (F.bond_SLB_STATUS_SKEW_OVER j, b2n (decide (max_ < skew))),
        (F.bond_SLB_STATUS_SKEW j, min skew 1023)]
      if was = ok then s else (s.raise 0x90 4).defects

/-- The bonding aligner returns to the checkpoint that it saved for a lane, and matches what frame counts it has (R32, R234). -/
def State.lateBack (s : State) (n : Nat) (c : LateCheck) : State :=
  match s.slBondOf n with
  | none => s
  | some j => ((s.setLates c.late).fsets [(F.bond_SLB_STATUS_SKEW_OVER j, b2n c.wide), (F.bond_SLB_STATUS_SKEW j, c.skew)]).slbAlign n

/-- What was decoded under the lead hypothesis counts once it is confirmed (R27, R273, R280, R285). -/
def State.provCounts (s : State) (n : Nat) (v : Lane) : State :=
  let s := s.onlyIf (v.provLost != 0) fun s => s.lcadd n (F.lane_SL_OVF_C n) v.provLost
  let s := s.onlyIf (v.provVbad != 0) fun s => s.cadd (F.frs_VBAD_C (n / 64) (n % 64)) v.provVbad
  let s := (s.lcadd n (F.lane_FEC_CW_C n) v.provFec.1).lcadd n (F.lane_FEC_CORR_SYM_C n) v.provFec.2.1
  s.onlyIf (v.provFec.2.2 != 0) fun s => (s.lcadd n (F.lane_FEC_UNCORR_C n) v.provFec.2.2).raise (0x100 + n) 4

/-- A lane after its lead hypothesis has ended: its provisional words are ordinary, or voided as if never written, with its frame
counts as before the first of them (R25, R32, R129, R234). -/
def Lane.resolve (v : Lane) (taken : Bool) : Lane :=
  { v with
    prov := [], provLost := 0, provFec := (0, 0, 0), provVbad := 0, lateChk := none
    delay := if taken then v.delay.map fun f => { f with prov := false } else v.delay.filter fun f => !f.prov
    stamps := match v.lateChk with
      | some c => if taken then v.stamps else c.stamps
      | none => v.stamps }

/-- The lead hypothesis of a lane ends: its provisional words, at the ends of the lane's slip buffers, become ordinary, or are voided;
what was counted under it counts only where it is confirmed (R25, R27, R129); the bond's delays are kept, or restored (R32, R234). -/
def State.laneResolve (s : State) (n : Nat) (taken : Bool) : State :=
  let v := s.lane n
  let s := s.setLane n (v.resolve taken)
  let s := if taken then s.provCounts n v
    else
      let s := { s with slIn := v.prov.foldl (fun m e => spModify [] m e.1 fun l => l.take (l.length - e.2)) s.slIn }
      match v.lateChk with
      | some c => s.lateBack n c
      | none => s
  s.showBondProv n

/-! ## The Reel -/

/-- The framer of a port. -/
def State.reel (s : State) (p : Nat) : Reel := spGet {} s.reels p

/-- Number of OTUC slices a port's framer checks (R126, R269, R293). -/
def State.otucSlices (s : State) (p : Nat) : Nat :=
  if p < 256 then (if s.laneFormat p = 2 then 2 else 1)
  else if s.fget (F.car_RATE_MODE (p - 256)) = 1 then 12 else s.fget (F.car_RATE_SLICES (p - 256))

/-- The port's framer checks OTUC frames: carriers, and lanes in FlexO. -/
def State.otucFramer (s : State) (p : Nat) : Bool :=
  decide (256 ≤ p) || s.laneFormat p == 1 || s.laneFormat p == 2

/-- Frame length in the framer's units: data units of a carrier (R125); bits of a slot-lane frame (R270); UI of a slot-bus
frame (R281). FlexO positions are given as places within the FlexO frame. -/
def State.framePeriod (s : State) (p : Nat) : Nat :=
  if 256 ≤ p then 956 * s.otucSlices p
  else match s.laneFormat p with
    | 3 => 152320 | 4 => 76160 | 5 => 1555200 | _ => 0

/-- FRM_STATUS.STATE of a port. -/
def frmStateFl (p : Nat) : Fl := if p < 256 then F.lane_FRM_STATUS_STATE p else F.frm_FRM_STATUS_STATE (p - 256)

/-- The hypothesis in a REEL_HYP register. -/
def Reel.at (r : Reel) (k : Nat) : Option Hyp := r.hyps.find? fun h => h.reg == k

/-- The status registers show the framer (R129, R133, R279). -/
def State.showReel (s : State) (p : Nat) : State :=
  let r := s.reel p
  let held := b2n (r.hyps != [])
  if p < 256 then
    s.fsets [(F.lane_FRM_STATUS_HYP_CNT p, r.hyps.length), (F.lane_FRM_STATUS_PROV p, held),
      (F.hdr_BLK_STATUS_PROV (0x100 + p), held)]
  else
    let c := p - 256
    let s := s.fsets [(F.frm_FRM_STATUS_HYP_CNT c, r.hyps.length), (F.frm_FRM_STATUS_PROV c, held),
      (F.frm_FRM_STATUS_LEAD c, (r.hyps.head?.map (·.reg)).getD 0),
      (F.frm_FRM_STATUS_MFAS c, if 2 ≤ s.framer p then r.mark else 0),
      (F.hdr_BLK_STATUS_PROV (0x10 + 0x10 * c), held)]
    (List.range 4).foldl (fun s k =>
      match r.at k with
      | none => s.fsets [(F.frm_REEL_HYP_VALID c k, 0), (F.frm_REEL_HYP_LEAD c k, 0), (F.frm_REEL_HYP_CHECKS c k, 0),
          (F.frm_REEL_HYP_POS c k, 0), (F.frm_REEL_HYP_PROV c k, 0)]
      | some h => s.fsets [(F.frm_REEL_HYP_VALID c k, 1), (F.frm_REEL_HYP_LEAD c k, b2n (r.hyps.head? == some h)),
          (F.frm_REEL_HYP_CHECKS c k, h.checks), (F.frm_REEL_HYP_POS c k, h.pos % s.framePeriod p),
          (F.frm_REEL_HYP_PROV c k, 1)]) s

/-- Replace the framer of a port; where its lead hypothesis ends, the copies that buffer its words act on it, `taken`
where that hypothesis is confirmed (R129, R223). -/
def State.setReelAs (s : State) (p : Nat) (r : Reel) (taken : Bool) : State :=
  let lead := (s.reel p).hyps.head?.map (·.reg)
  let s := { s with reels := spPut {} s.reels p r }.showReel p
  let port := if p < 256 then s.portOfSu (160 * p) else if s.carBonded then 256 else p
  s.onlyIf (lead.isSome && lead != r.hyps.head?.map (·.reg)) fun s =>
    (s.onlyIf (decide (p < 256)) fun s => s.laneResolve p taken).leadEnds port taken

/-- Replace the framer of a port; no hypothesis is confirmed. -/
def State.setReel (s : State) (p : Nat) (r : Reel) : State := s.setReelAs p r false

/-- The port's framer enters a state (R127): its events and counters, and what a framer that leaves the in-frame states
means for the second in progress (R148): it is not one of IN_FRAME throughout. A carrier's OOF_CNT counts
entries to OOF from either in-frame state (R134), a lane's those from IN_FRAME (R280). -/
def State.setFramer (s : State) (p new : Nat) : State :=
  let old := s.framer p
  if old = new then s
  else
    let s := s.fset (frmStateFl p) new
    let lost := decide (2 ≤ old) && decide (new < 2)
    let s := s.onlyIf (old == 2 && s.otucFramer p) fun s =>
      { s with odu := { s.odu with wholePorts := s.odu.wholePorts.filter (· != p) } }
    if p < 256 then
      let s := s.onlyIf (old == 2 || new == 2) fun s => s.raise (0x100 + p) 3
      s.onlyIf (old == 2 && new == 1 && s.ready (0x100 + p)) fun s => s.cadd (F.lane_OOF_CNT_C p) 1
    else
      let c := p - 256
      let pg := 0x18 + 0x10 * c
      let s := s.onlyIf (new == 2 && old == 1) fun s => s.raise pg 0
      let s := s.onlyIf (lost && new == 1) fun s => (s.raise pg 1).cadd (F.frm_OOF_CNT_C c) 1
      let s := s.onlyIf ((old == 3) != (new == 3)) fun s => s.raise pg 2
      s.onlyIf (new == 3) fun s => s.cadd (F.frm_OOM_CNT_C c) 1

/-- FRM_CFG of a port: CONF_N (0 acts as 1) and REEL_EN. -/
def State.frmCfg (s : State) (p : Nat) : Nat × Bool :=
  if p < 256 then (max 1 (s.fget (F.lane_FRM_CFG_CONF_N p)), s.flag (F.lane_FRM_CFG_REEL_EN p))
  else (max 1 (s.fget (F.frm_FRM_CFG_CONF_N (p - 256))), s.flag (F.frm_FRM_CFG_REEL_EN (p - 256)))

/-- Entry to OOF: FRM_CFG takes effect; from an in-frame state the previous position is held as a hypothesis with no
checks passed (R128). -/
def State.enterOof (s : State) (p : Nat) : State :=
  let r := s.reel p
  let kept : List Hyp := if 2 ≤ s.framer p then [{ reg := 0, pos := r.pos, mark := r.mark }] else []
  let r' : Reel := { hyps := kept, confN := (s.frmCfg p).1, reelEn := (s.frmCfg p).2 }
  ((s.setFramer p 1).setReel p r').defects

/-- The framer goes IDLE and every hypothesis is cancelled (R127, R128). -/
def State.frmIdle (s : State) (p : Nat) : State :=
  if s.framer p = 0 && s.reel p = {} then s else ((s.setFramer p 0).setReel p {}).defects

/-- Two positions are the same place in the frame. -/
def State.samePlace (s : State) (p a b : Nat) : Bool :=
  if s.framePeriod p = 0 then a == b else a % s.framePeriod p == b % s.framePeriod p

/-- The lowest REEL_HYP register that is free. -/
def Reel.freeReg (r : Reel) : Nat := ((List.range 4).find? fun k => (r.at k).isNone).getD 0

/-- A candidate at a position (R128): a new hypothesis, dropping the oldest of four; or none. -/
def State.candidate (s : State) (p pos mark : Nat) : State :=
  let r := s.reel p
  if s.framer p != 1 || (r.hyps.any fun h => s.samePlace p h.pos pos) ||
      (s.framePeriod p != 0 && r.failed == some pos) then s
  else if !r.reelEn && r.hyps != [] then s
  else
    let r := if 4 ≤ r.hyps.length then { r with hyps := r.hyps.drop 1 } else r
    s.setReel p { r with hyps := r.hyps ++ [{ reg := r.freeReg, pos := pos, mark := mark }] }

/-- The number after a frame's MFAS or MFI, or after a slot-lane frame's FC (R126, R271, R281). -/
def State.nextMark (s : State) (p mark : Nat) : Nat :=
  (mark + 1) % (if p < 256 && (s.laneFormat p == 3 || s.laneFormat p == 4) then 2 ^ 32 else 256)

/-- A hypothesis is confirmed (R128, R129): the framer is in frame at its position and every other one is cancelled. -/
def State.confirmHyp (s : State) (p : Nat) (h : Hyp) : State :=
  let r := s.reel p
  let r' : Reel := { confN := r.confN, reelEn := r.reelEn, pos := h.pos + s.framePeriod p, mark := s.nextMark p h.mark }
  ((s.setFramer p 2).setReelAs p r' (r.hyps.head?.map (·.reg) == some h.reg)).defects

/-- The check of the hypothesis in register `k` falls due (R128): `next` is the position checked and `mark` what it
shows. Failed, it is cancelled. -/
def State.hypCheck (s : State) (p k next mark : Nat) (ok : Bool) : State :=
  let r := s.reel p
  match r.at k with
  | none => s
  | some h =>
    if s.framer p != 1 then s
    else if !ok then
      s.setReel p { r with hyps := r.hyps.filter fun x => x.reg != k, failed := some next }
    else
      let h' := { h with checks := h.checks + 1, pos := next, mark := mark }
      if r.confN ≤ h'.checks then s.confirmHyp p h'
      else s.setReel p { r with hyps := r.hyps.map fun x => if x.reg = k then h' else x }

/-! ## OTUC frames (R126, R127) -/

/-- What the framer sees of a slice's unit: whether bytes 1 to 6 are the FAS, whether bytes 3 and 4 are right, and
byte 7. -/
structure SliceSight where
  fas : Bool
  mid : Bool
  mfas : Nat
deriving DecidableEq, Repr

/-- What a unit shows. -/
def sightOf (u : List Nat) : SliceSight :=
  { fas := u.take 6 == otuFas, mid := (u.drop 2).take 2 == [0xF6, 0x28], mfas := u.getD 6 0 }

/-- A candidate: FAS units throughout, with equal MFAS. -/
def isCandidate (l : List SliceSight) : Bool :=
  l != [] && l.all fun x => x.fas && x.mfas == (l.headD ⟨false, false, 0⟩).mfas

/-- A hypothesis check: FAS units throughout, and every MFAS the previous one plus 1. -/
def checkOk (l : List SliceSight) (mark : Nat) : Bool := l != [] && l.all fun x => x.fas && x.mfas == (mark + 1) % 256

/-- Bit s − 1 of each slice that fails `ok`. -/
def badBits (ok : SliceSight → Bool) : Nat → List SliceSight → Nat
  | _, [] => 0
  | k, x :: l => (if ok x then 0 else 2 ^ k) + badBits ok (k + 1) l

/-- Count what a carrier's slices fail, and show it (R133, R134). -/
def State.sliceErrors (s : State) (c fasBad mfasBad n : Nat) : State :=
  let s := s.fsets [(F.slc_SLICE_FAS_BAD c, fasBad), (F.slc_SLICE_MFAS_BAD c, mfasBad)]
  (List.range n).foldl (fun s k =>
    let s := s.onlyIf (bitOf fasBad k) fun s => s.cadd (F.slc_FAS_ERR_C c k) 1
    s.onlyIf (bitOf mfasBad k) fun s => s.cadd (F.slc_MFAS_ERR_C c k) 1) s

/-- An in-frame OTUC frame is checked (R126, R127): `l` is what each slice's first unit shows. -/
def State.otucCheck (s : State) (p : Nat) (l : List SliceSight) : State :=
  if s.framer p < 2 then s
  else
    let r := s.reel p
    let fasBad := badBits (·.mid) 0 l
    let mfasBad := badBits (fun x => x.mfas == r.mark) 0 l
    let s := s.onlyIf (decide (256 ≤ p)) fun s => s.sliceErrors (p - 256) fasBad mfasBad l.length
    let runs := (List.range l.length).foldl (fun m k =>
      spPut 0 m k (if bitOf fasBad k then spGet 0 r.fasRun k + 1 else 0)) r.fasRun
    let bad := if mfasBad = 0 then 0 else r.mfasBad + 1
    let good := if mfasBad = 0 then r.mfasOk + 1 else 0
    let back := s.framer p == 3 && decide (2 ≤ good)
    let mark := if back then (l.headD ⟨true, true, r.mark⟩).mfas else r.mark
    let here : Reel := { r with fasRun := runs, mfasBad := bad, mfasOk := good, mark := mark }
    if runs.any fun e => decide (5 ≤ e.2) then (s.setReel p here).enterOof p
    else
      let new := if s.framer p = 2 && 5 ≤ bad then 3 else if back then 2 else s.framer p
      let next : Reel := { here with
        pos := r.pos + s.framePeriod p, mark := (mark + 1) % 256
        mfasBad := if new = s.framer p then bad else 0, mfasOk := if new = s.framer p then good else 0 }
      ((s.setFramer p new).setReel p next).defects

end Sys2Proof.Machine
end

