-- ==== Sys2Proof/Machine/CmOps.lean ====
section
/-! DEFINITION. The connection memory and the Quadrille (spec/07_slot_core.md R179 to R192, R200; the twin's rule
for ARM, spec/12_twin.md R341), and the activation of an APPLY (R143).

Readings fixed here (notes/assumptions): 31 DEDUCED, 46 DEDUCED, 47 DEDUCED, 50 DEDUCED, 104 DEDUCED, 105 DEDUCED, 113
DESIGN CHOICE. -/

namespace Sys2Proof.Machine

/-! ## Pages and entries (R179, R184, R185) -/

/-- Page B is the active one. -/
def State.activeB (s : State) : Bool := s.flag F.core_CORE_STATUS_ACTIVE

/-- A page of the connection memory: A or B. -/
def State.cmPage (s : State) (b : Bool) : CmPage := if b then s.core.pageB else s.core.pageA

/-- Replace a page. -/
def State.setCmPage (s : State) (b : Bool) (p : CmPage) : State :=
  if b then { s with core := { s.core with pageB := p } } else { s with core := { s.core with pageA := p } }

/-- The active page and the standby page. -/
def State.cmActive (s : State) : CmPage := s.cmPage s.activeB
def State.cmStandby (s : State) : CmPage := s.cmPage !s.activeB

/-- An entry of a page (R179). -/
def CmPage.entry (p : CmPage) (u : Nat) : Nat := spGet p.fill p.ents u

/-- MODE and SRC of an entry. -/
def CmPage.mode (p : CmPage) (u : Nat) : Nat := bitsOf (p.entry u) 16 2
def CmPage.src (p : CmPage) (u : Nat) : Nat := bitsOf (p.entry u) 0 16

/-- A page with one entry written: its code is sound again. -/
def CmPage.put (p : CmPage) (u v : Nat) : CmPage :=
  { fill := p.fill, ents := spPut p.fill p.ents u (v % 2 ^ 18), bad := p.bad.filter (· != u) }

/-- State of the Quadrille: 0 STAGED, 1 BUSY, 2 VERIFYING, 3 VERIFIED, 4 ARMED (R186). -/
def State.cmState (s : State) : Nat := s.fget F.core_CM_STATUS_STATE

/-- The Quadrille enters a state. -/
def State.setCmState (s : State) (n : Nat) : State := s.fset F.core_CM_STATUS_STATE n

/-- A write or an APPLY ends VERIFYING, VERIFIED or ARMED (R186). A VERIFY in progress ends as every command does, by setting
RESULT and raising VERIFY_DONE (R187); what RESULT then reads the spec does not state: a free value. -/
def State.cmInvalidate (s : State) : State :=
  let s := s.onlyIf (s.cmState == 2) fun s =>
    ((s.fset F.core_CM_STATUS_RESULT (Config.freeValue s.free)).tick).raise 0x80 1
  let s := { s with core := { s.core with arm := none } }
  ((s.setCmState 0).fset F.core_CM_STATUS_INVALIDATED 1).raise 0x80 3

/-- The page that the window shows: B or not, and whether it is the active one (R185). -/
def State.cmView (s : State) : Bool × Bool :=
  match s.fget F.core_CM_CTRL_VIEW with
  | 0 => (!s.activeB, false)
  | 1 => (s.activeB, true)
  | 2 => (false, !s.activeB)
  | _ => (true, s.activeB)

/-- The entry of a window address. -/
def cmEntryOf (p off : Nat) : Nat := (p - 0x82) * 3840 + (off - 0x400) / 4

/-- A write through the window (R184, R185, R62). -/
def State.cmWrite (s : State) (m : Master) (p off region be data : Nat) : State :=
  let v := s.cmView
  let st := s.cmState
  if v.2 then s.logErr p 0xA (masterId m) region off
  else if st = 1 then s.logErr p 8 (masterId m) region off
  else if st = 4 then s.logErr p 0xB (masterId m) region off
  else
    let u := cmEntryOf p off
    let pg := s.cmPage v.1
    let new := mergeField region (pg.entry u) (bitsOf data 0 18) (bitsOf (beMask be) 0 18)
    let s := s.setCmPage v.1 (pg.put u new)
    if st = 2 || st = 3 then s.cmInvalidate else s

/-- A connection-memory ECC event, in FAULT bit 0 of the window (R183, R335). -/
def State.cmEccEvent (s : State) : State := { s with twin := { s.twin with fault := s.twin.fault ||| 1 } }

/-- A read through the window: an uncorrectable standby entry reads 0 and raises ECC_ERR (R183, R185); what such an entry
of the active page reads is not stated. -/
def State.cmRead (s : State) (p off : Nat) : State × Nat :=
  let v := s.cmView
  let u := cmEntryOf p off
  if (s.cmPage v.1).bad.contains u then
    (if v.2 then (s.tick, Config.freeValue s.free % 2 ^ 18) else (s.cmEccEvent.raise 0x80 6, 0))
  else (s, (s.cmPage v.1).entry u)

/-! ## Verify (R188) -/

/-- The transmitter of a port is enabled. -/
def State.portTxEn (s : State) (p : Nat) : Bool :=
  if p < 256 then (s.portLanes p).any fun n => s.flag (F.lane_LANE_CTRL_TX_EN n)
  else (s.portCarriers p).any fun c => s.flag (F.car_TX_CTRL_TX_EN c)

/-- Class 3 at the first entry of an egress group. -/
def State.badPairing (s : State) (pg : CmPage) (h e1 : Nat) : Bool :=
  let ti := s.odu.activeI
  let te := s.odu.activeE
  let g := pg.src e1
  !ti.hasGroup g || (ti.slotGroup g).headD 0xFFFF != g || (ti.entry g).demux || (ti.entry g).kind != (te.entry h).kind ||
  ti.groupS g != te.groupS h || (ti.entry g).flex != (te.entry h).flex

/-- The class of the error of an entry; 0 none (R188 classes 1 to 6). The units of a demultiplexed parent that no child
has carry stuff words (R136), and make up no group of their own. -/
def State.cmError (s : State) (pg : CmPage) (u : Nat) : Nat :=
  if pg.bad.contains u then 6
  else if pg.mode u = 0 && numSu ≤ pg.src u then 1
  else match s.odu.activeE.memberOf u with
    | none => 0
    | some h =>
      let es := s.odu.activeE.slotGroup h
      let e1 := es.headD u
      if (s.odu.activeE.entry h).demux then 0
      else if pg.mode u != pg.mode e1 then 2
      else if pg.mode u = 0 then
        if u = e1 then (if s.badPairing pg h e1 then 3 else 0)
        else match s.odu.activeI.memberOf (pg.src e1) with
          | none => 0
          | some g => if (s.odu.activeI.slotGroup g)[es.idxOf u]? == some (pg.src u) then 0 else 4
      else if pg.mode u = 3 && s.portTxEn (s.portOfSu u) && s.dev.mode != .maintenance then 5
      else 0

/-- The ingress group that feeds an egress group, from the entry of its first slot unit. -/
def State.cmFeed (s : State) (pg : CmPage) (h : Nat) : Option Nat :=
  let e1 := (s.odu.activeE.slotGroup h).headD h
  if pg.mode e1 = 0 && !(s.odu.activeE.entry h).demux then s.odu.activeI.memberOf (pg.src e1) else none

/-- An entry has a notice (R188 classes 8 to 10); a forerunner slot is no empty source (R283). Every entry of a group fed
by a shared ingress group has one. -/
def State.cmNotice (s : State) (pg : CmPage) (shared : List Nat) (u : Nat) : Bool :=
  let member := s.odu.activeE.memberOf u
  let src := pg.src u
  let fore := s.portForerunner (s.portOfSu src) && decide (src % 160 < 8)
  (match member.bind (s.cmFeed pg) with
    | some g => shared.contains g
    | none => false) ||
  (pg.mode u == 0 && decide (src < numSu) &&
    ((member.isNone && (s.odu.activeI.memberOf src).isNone && !fore) || s.portDisabled (s.portOfSu src)))

/-- Verification ends (R186, R188). -/
def State.verifyEnds (s : State) : State :=
  let pg := s.cmStandby
  let feeds := s.odu.activeE.groups.filterMap (s.cmFeed pg)
  let shared := feeds.filter fun g => decide (2 ≤ (feeds.filter (· == g)).length)
  let units := List.range numSu
  let errs := units.filter fun u => s.cmError pg u != 0
  let notes := units.filter (s.cmNotice pg shared)
  let s := s.fsets [(F.core_CM_VERIFY_FIRST_SU, errs.headD 0),
    (F.core_CM_VERIFY_FIRST_ERR, match errs with
      | u :: _ => s.cmError pg u
      | [] => 0),
    (F.core_CM_VERIFY_CNT_ERRORS, min 0xFFFF errs.length), (F.core_CM_VERIFY_CNT_NOTICES, min 0xFFFF notes.length)]
  let s := (s.setCmState (if errs.isEmpty then 3 else 0)).fset F.core_CM_STATUS_RESULT (if errs.isEmpty then 0 else 1)
  s.raise 0x80 1

/-- VERIFY's check completes, having found these standby entries uncorrectable (R183, R188). -/
def State.verifyDone (s : State) (bad : List Nat) : State :=
  if s.cmState != 2 then s
  else
    let pg := s.cmStandby
    (s.setCmPage (!s.activeB) { pg with bad := (pg.bad ++ bad.filter (· < numSu)).eraseDups }).verifyEnds

/-! ## Commands (R187, R189, R191, R341) -/

/-- A command other than VERIFY ends with a RESULT. -/
def State.cmEnd (s : State) (r : Nat) : State := (s.fset F.core_CM_STATUS_RESULT r).raise 0x80 2

/-- COPY, FILL, VERIFY or TEST may start. -/
def State.cmIdle (s : State) : Bool := s.cmState == 0 || s.cmState == 3

/-- Modes in which shadow tests are permitted (R34). -/
def State.shadowOk (s : State) : Bool :=
  match s.dev.mode with
  | .standalone | .twinActive | .twinStandby | .twinStale | .forerunner | .maintenance => true
  | _ => false

/-- COPY, FILL or TEST (R187, R200). -/
def State.cmStart (s : State) (m : Master) (op : Nat) : State :=
  if !s.cmIdle then (s.log 0x80 8 m 0x48).cmEnd 2
  else if op = 6 && !s.shadowOk then (s.log 0x80 3 m 0x48).cmEnd 2
  else
    let s := { s with core := { s.core with op := op } }
    s.setCmState 1

/-- VERIFY (R187, R188). -/
def State.cmVerify (s : State) (m : Master) : State :=
  if !s.cmIdle then ((s.log 0x80 8 m 0x48).fset F.core_CM_STATUS_RESULT 2).raise 0x80 1
  else (s.setCmState 2).fset F.core_CM_STATUS_INVALIDATED 0

/-- ARM (R189, R341). -/
def State.cmArm (s : State) (m : Master) (atSf : Bool) : State :=
  let sf := s.fget F.core_SWAP_SF_SF
  let ahead := (sf + 2 ^ 32 - s.cget F.core_SF_COUNT_C % 2 ^ 32) % 2 ^ 32
  let paired := s.dev.mode == .twinActive && s.linkUp
  if s.cmState != 3 then (s.log 0x80 0xC m 0x48).cmEnd 2
  else if (atSf && (ahead < 2 || 1048576 < ahead)) || (paired && (!atSf || ahead < 8)) then (s.log 0x80 0xD m 0x48).cmEnd 3
  else
    let s := { s with core := { s.core with arm := some (if atSf then some sf else none) } }
    (s.setCmState 4).cmEnd 0

/-- DISARM (R191). -/
def State.cmDisarm (s : State) (m : Master) : State :=
  if s.cmState != 4 then (s.log 0x80 8 m 0x48).cmEnd 2
  else
    let s := { s with core := { s.core with arm := none } }
    (s.setCmState 3).cmEnd 0

/-- CM_CMD is written (R202). -/
def State.cmCmd (s : State) (m : Master) (op : Nat) (atSf : Bool) : State :=
  match op with
  | 1 => s.cmStart m 1
  | 2 => s.cmStart m 2
  | 3 => s.cmVerify m
  | 4 => s.cmArm m atSf
  | 5 => s.cmDisarm m
  | 6 => s.cmStart m 6
  | _ => s.log 0x80 9 m 0x48

/-- COPY, FILL or TEST completes; `fail` is the first entry that TEST found failing (R187, R200). -/
def State.cmOpDone (s : State) (fail : Option Nat) : State :=
  if s.cmState != 1 then s
  else
    let sb := !s.activeB
    let s := match s.core.op with
      | 1 => (s.setCmPage sb s.cmActive).fset F.core_CM_STATUS_RESULT 0
      | 2 => (s.setCmPage sb { fill := s.fget F.core_CM_FILL_ENTRY }).fset F.core_CM_STATUS_RESULT 0
      | _ =>
        let s := s.setCmPage sb {}
        match fail with
        | none => s.fset F.core_CM_STATUS_RESULT 4
        | some u => s.fsets [(F.core_CM_STATUS_RESULT, 5), (F.core_CM_VERIFY_FIRST_SU, u), (F.core_CM_VERIFY_FIRST_ERR, 6)]
    let s := { s with core := { s.core with op := 0 } }
    (s.setCmState 0).raise 0x80 2

/-! ## Swap (R190, R194) -/

/-- The egress groups of which an entry differs between the two pages (R193, R194). -/
def State.changedGroups (s : State) : List Nat :=
  s.odu.activeE.groups.filter fun h => !(s.odu.activeE.entry h).demux &&
    (s.odu.activeE.slotGroup h).any fun u => s.core.pageA.entry u != s.core.pageB.entry u

/-- The egress mapper of a group on a carrier or FlexO port starts afresh (R194, R195): its buffered words are discarded, and it
sends ODU-AIS until the first frame of its new words begins. In unequipped or test-pattern mode the generator's first frame,
which has no FAS, begins at once. On other ports nothing is discarded. -/
def State.restartMapper (s : State) (h : Nat) : State :=
  if !s.portOduc (s.portOfSu h) then s
  else
    let m := spGet {} s.core.mappers h
    let mode := s.cmActive.mode ((s.odu.activeE.slotGroup h).headD h)
    if mode != 0 then
      { s with core := { s.core with
        gens := spErase h s.core.gens, mappers := spPut {} s.core.mappers h { m with pos := some 0, last := [] } } }
    else
      { s with core := { s.core with
        mapAis := (h :: s.core.mapAis).eraseDups, mappers := spPut {} s.core.mappers h { m with pos := none, last := [] } } }

/-- The standby page becomes active at the boundary at which superframe `sf` or core frame `frame` of it begins (R190). -/
def State.swapNow (s : State) (sf frame : Nat) : State :=
  let changed := s.changedGroups
  let s := s.fput F.core_CORE_STATUS_ACTIVE (!s.activeB)
  let s := changed.foldl State.restartMapper s
  let s := s.fsets [(F.core_SWAP_SEQ_SEQ, s.fget F.core_SWAP_SEQ_SEQ + 1), (F.core_SWAP_LAST_SF_SF, sf),
    (F.core_SWAP_LAST_FRAME_FRAME, frame)]
  let s := { s with core := { s.core with arm := none } }
  (s.setCmState 0).raise 0x80 0

/-- The scheduled swap, where it falls on the boundary at which core frame `frame` of superframe `sf` begins (R189). -/
def State.swapDue (s : State) (sf frame : Nat) : State :=
  match s.core.arm with
  | none => s
  | some none => s.swapNow sf frame
  | some (some t) => if frame = 0 && t = sf % 2 ^ 32 then s.swapNow sf frame else s

/-! ## Activation of an APPLY (R141, R143, R186) -/

/-- A group that an APPLY adds, changes or removes loses its tracker (R143). -/
def dropTracker (eg : Bool) (s : State) (g : Nat) : State :=
  { s with odu := { s.odu with trackers := spErase (65536 * b2n eg + g) s.odu.trackers } }

/-- The accepted APPLY activates (R141, R143, R169). -/
def State.applyNow (s : State) : State :=
  match s.odu.applying with
  | none => s
  | some (eg, p, _) =>
    let old := s.active eg
    let new := copyPort (s.ownedSu p) p (s.staged eg) old
    let changed := s.applyDiffer eg p signalChanged
    let oldUnits := (changed.filter old.hasGroup).flatMap old.slotGroup
    let s := s.setActive eg new
    let newUnits := (changed.filter new.hasGroup).flatMap new.slotGroup
    let s := changed.foldl (dropTracker eg) s
    let s := if eg then (changed.filter new.hasGroup).foldl State.restartMapper
        { s with core := { s.core with mappers := spDrop (fun h => changed.contains h) s.core.mappers
                                       gens := spDrop (fun h => changed.contains h) s.core.gens } }
      else { s with core := { s.core with
        repl := (s.core.repl.filter fun g => !changed.contains g) ++ changed.filter new.hasGroup
        gone := ((s.core.gone ++ oldUnits).filter fun u => !newUnits.contains u).eraseDups
        gens := spDrop (fun k => decide (65536 ≤ k) && changed.contains (k - 65536)) s.core.gens } }
    let s := { s with odu := { s.odu with applying := none } }
    let s := (s.tribEnd 0 0).raise 0x40 2
    let s := (s.onlyIf eg fun s => s.sendMsi p).onlyIf (decide (2 ≤ s.cmState)) State.cmInvalidate
    s.defects

end Sys2Proof.Machine
end

