-- ==== Sys2Proof/Machine/LineCode.lean ====
section
/-! DEFINITION. The line code: distribution matcher, LDPC parity, scrambler, interleaver and overhead layout
(spec/04_coherent_carrier.md R80 to R87; spec/05_line_code_framing.md R107 to R119, R123).

Readings fixed here (notes/assumptions): 38 DESIGN CHOICE, 40 DEDUCED, 41 DEDUCED, 112 DESIGN CHOICE. -/

namespace Sys2Proof.Machine

/-- Sum of a list. -/
def sumOf (l : List Nat) : Nat := l.foldl (· + ·) 0

/-! ## Distribution matcher (R84 to R87) -/

/-- T of R84: ((2j + 1)² − 1) / 8. -/
def shapeT : List Nat := [0, 1, 3, 6, 10, 15, 21, 28]

/-- Matcher input bits per codeword. -/
def matcherBits (h : Nat) : Nat := 1536 + 64 * h

/-- The composition n[0..7] of parameter m (R84). -/
def composition (m : Nat) : List Nat :=
  let w := shapeT.map fun t => m ^ t * 1024 ^ (28 - t)
  let total := sumOf w
  let n := w.map fun x => 3072 * x / total
  let q := w.map fun x => 3072 * x % total
  let r := 3072 - sumOf n
  (List.range 8).map fun j =>
    let rank := ((List.range 8).filter fun k =>
      decide (q.getD j 0 < q.getD k 0) || (q.getD k 0 == q.getD j 0 && decide (k < j))).length
    n.getD j 0 + b2n (decide (rank < r))

/-- n factorial. -/
def factorial : Nat → Nat
  | 0 => 1
  | n + 1 => (n + 1) * factorial n

/-- M of a composition. -/
def matcherSize (n : List Nat) : Nat := factorial (sumOf n) / (n.map factorial).foldl (· * ·) 1

/-- The search of R84: the first m, from `m` on, whose matcher size reaches 2^k. -/
def shapeSearch (k : Nat) : Nat → Nat → Nat
  | 0, m => m
  | fuel + 1, m => if 2 ^ k ≤ matcherSize (composition m) then m else shapeSearch k fuel (m + 1)

/-- SHAPE_M of an H_CODE (R84). -/
def shapeM (h : Nat) : Nat := shapeSearch (matcherBits h) 1023 1

/-- The amplitude index that x selects among the counts that remain (R85): index, x and t afterwards. -/
def pickAmp (t rem : Nat) : Nat → Nat → List Nat → Nat × Nat × Nat
  | j, x, [] => (j, x, t)
  | j, x, c :: cs =>
    if c = 0 then pickAmp t rem (j + 1) x cs
    else if x < t * c / rem then (j, x, t * c / rem)
    else pickAmp t rem (j + 1) (x - t * c / rem) cs

/-- The amplitude indices of x (R85). -/
def amplitudes : Nat → Nat → Nat → List Nat → List Nat
  | 0, _, _, _ => []
  | rem + 1, x, t, c =>
    let r := pickAmp t (rem + 1) 0 x c
    r.1 :: amplitudes rem r.2.1 r.2.2 (c.modify r.1 (· - 1))

/-- The rank x of amplitude indices (R87). -/
def rankAmps : Nat → List Nat → List Nat → Nat
  | _, _, [] => 0
  | t, c, a :: l =>
    let rem := l.length + 1
    sumOf ((List.range a).map fun j => if c.getD j 0 = 0 then 0 else t * c.getD j 0 / rem) +
      rankAmps (t * c.getD a 0 / rem) (c.modify a (· - 1)) l

/-- How often each amplitude index occurs. -/
def countsOf (l : List Nat) : List Nat := (List.range 8).map fun j => (l.filter (· == j)).length

/-- The Gray label of an amplitude index, most significant bit first (R86). -/
def grayBits (j : Nat) : List Bool := bitsMsb 3 (j ^^^ (j / 2))

/-- The amplitude index of a Gray label. -/
def ofGray (l : List Bool) : Nat :=
  let g := msbNat l
  g ^^^ (g / 2) ^^^ (g / 4)

/-- A list cut into pieces of `k`. -/
def pieces {α : Type} (k : Nat) : Nat → List α → List (List α)
  | 0, _ => []
  | n + 1, l => l.take k :: pieces k n (l.drop k)

/-- The energy of a composition: the sum of (2j + 1)² over its 3,072 amplitudes, 3,072 E (R87). -/
def shapeEnergy (n : List Nat) : Nat := sumOf (n.mapIdx fun j k => k * (2 * j + 1) ^ 2)

/-! ## Pilots (R88) -/

/-- Bits of the PRBS15 x^15 + x^14 + 1 from a register, its output after loading first. -/
def prbs15 : Nat → Nat → List Bool
  | 0, _ => []
  | n + 1, r => bitOf r 14 :: prbs15 n ((2 * r) % 2 ^ 15 + b2n (bitOf r 14 != bitOf r 13))

/-- The signs (1 − 2a) and (1 − 2b) of `n` pilots of one polarisation, on its two dimensions. -/
def pilotSigns (n seed dim : Nat) : List (Nat × Nat × Int) :=
  (prbs15 (2 * n) seed).mapIdx fun k b => (64 * (k / 2), dim + k % 2, if b then -1 else 1)

/-- The pilots of a line frame (R88): symbol period, dimension and sign. -/
def pilots (n : Nat) : List (Nat × Nat × Int) := pilotSigns n 0x7FFF 0 ++ pilotSigns n 0x00FF 2

/-! ## LDPC (R107 to R109) -/

/-- The row-1 shifts b_j of the information columns (R108). -/
def ldpcB : List Nat := [2, 5, 9, 14, 20, 27, 33, 38, 46, 51, 59, 64, 71, 79, 86, 93, 101, 108, 117, 125]

/-- s(i, j) of an information column: a_i × b_j mod 512. -/
def ldpcShift (i j : Nat) : Nat := [0, 1, 3, 7].getD i 0 * ldpcB.getD j 0 % 512

/-- rot(v, s)[r] = v[(r + s) mod 512]. -/
def rot {α : Type} (v : List α) (s : Nat) : List α := v.drop s ++ v.take s

/-- Sum of two bit vectors. -/
def xorBits (a b : List Bool) : List Bool := List.zipWith (· != ·) a b

/-- λ[i] over the information columns. -/
def ldpcLambda (u : List (List Bool)) (i : Nat) : List Bool :=
  (List.range 20).foldl (fun acc j => xorBits acc (rot (u.getD j []) (ldpcShift i j))) (List.replicate 512 false)

/-- The 2,048 parity bits of 10,240 information bits (R109). -/
def ldpcParity (info : List Bool) : List Bool :=
  let u := pieces 512 20 info
  let p0 := ldpcLambda u 0
  let p1 := xorBits (ldpcLambda u 1) (rot p0 1)
  let p2 := xorBits (ldpcLambda u 2) (rot p1 1)
  let p3 := xorBits (ldpcLambda u 3) (rot p2 1)
  p0 ++ p1 ++ p2 ++ p3

/-- Every check of R107 holds. -/
def isCodeword (c : List Bool) : Bool := c.drop 10240 == ldpcParity (c.take 10240)

/-! ## The decoder (R110) -/

/-- The block columns in which block row `i` has a circulant, each with its shift (R108). -/
def ldpcRow (i : Nat) : List (Nat × Nat) :=
  (List.range 20).map (fun j => (j, ldpcShift i j)) ++ (if i = 0 then [] else [(19 + i, 1)]) ++ [(20 + i, 0)]

/-- A message of six bits, from its exact value in quarters. -/
def ldpcMsg (x : Int) : Int := max (-32) (min 31 (Config.ldpcMessage x))

/-- The messages that one check sends, from those it receives: the product of the others' signs and 0.75 times the least
of their magnitudes. -/
def checkMsgs (t : List Int) : List Int :=
  (List.range t.length).map fun k =>
    let rest := t.eraseIdx k
    let least : Int := (rest.foldl (fun a x => min a x.natAbs) 32 : Nat)
    ldpcMsg (if rest.foldl (fun a x => a != decide (x < 0)) false then -3 * least else 3 * least)

/-- One block row: the sums of the 24 block columns and the row's last messages, before and after. -/
def ldpcLayer (i : Nat) (sums last : List (List Int)) : List (List Int) × List (List Int) :=
  let row := ldpcRow i
  let seen := List.zipWith (fun e r => List.zipWith (· - ·) (rot (sums.getD e.1 []) e.2) r) row last
  let checks := (List.range 512).map fun r => checkMsgs (seen.map fun l => ldpcMsg (4 * l.getD r 0))
  let sent := (List.range row.length).map fun k => checks.map fun c => c.getD k 0
  let next := List.zipWith (List.zipWith fun a b => Config.ldpcSum (a + b)) seen sent
  ((row.zip next).foldl (fun l e => l.set e.1.1 (rot e.2 (512 - e.1.2))) sums, sent)

/-- One iteration: block rows 0 to 3 in order, over the sums and each row's last messages. -/
def ldpcIteration (x : List (List Int) × List (List (List Int))) : List (List Int) × List (List (List Int)) :=
  (List.range 4).foldl (fun x i =>
    let y := ldpcLayer i x.1 (x.2.getD i [])
    (y.1, x.2.set i y.2)) x

/-- Hard decisions: a negative sum is a bit 1. -/
def ldpcHard (x : List (List Int) × List (List (List Int))) : List Bool := x.1.flatten.map fun v => decide (v < 0)

/-- Up to `n` further iterations after `k`; with `early`, no more after one whose decisions satisfy every check. -/
def ldpcRun (early : Bool) : Nat → Nat → List (List Int) × List (List (List Int)) → Nat × List Bool
  | 0, k, x => (k, ldpcHard x)
  | n + 1, k, x =>
    let y := ldpcIteration x
    if early && isCodeword (ldpcHard y) then (k + 1, ldpcHard y) else ldpcRun early n (k + 1) y

/-- The decoder: iterations performed and hard decisions, from the 12,288 LLRs of five bits, two's complement. -/
def ldpcDecode (llr : List Nat) (maxIt : Nat) (early : Bool) : Nat × List Bool :=
  let start := pieces 512 24 (llr.map fun (v : Nat) => if 16 ≤ v then (v : Int) - 32 else v)
  ldpcRun early maxIt 0 (start, (List.range 4).map fun i => (ldpcRow i).map fun _ => List.replicate 512 0)

/-! ## Scrambler (R117, R272, R282) -/

/-- One step of the PRBS31 x^31 + x^28 + 1: the bit it gives and the register after it. -/
def prbs31Step (r : Nat) : Bool × Nat := (bitOf r 30, (2 * r) % 2 ^ 31 + b2n (bitOf r 30 != bitOf r 27))

/-- The register after `n` further bits. -/
def prbs31Skip : Nat → Nat → Nat
  | 0, r => r
  | n + 1, r => prbs31Skip n (prbs31Step r).2

/-- Bits XORed with the PRBS31 from a register. -/
def prbs31Xor : Nat → List Bool → List Bool
  | _, [] => []
  | r, b :: l => (b != (prbs31Step r).1) :: prbs31Xor (prbs31Step r).2 l

/-- Bits XORed with the PRBS31 from its `off`-th bit after loading with all ones. -/
def scramble (off : Nat) (l : List Bool) : List Bool := prbs31Xor (prbs31Skip off (2 ^ 31 - 1)) l

/-- Place of a codeword's first scrambled bit in its line frame (R117). -/
def scrambleAt (h n : Nat) : Nat := if n = 0 then 0 else 2560 + (n - 1) * (2560 + 64 * h)

/-! ## Codewords (R85, R86, R113 to R116) -/

/-- H_CODE that shapes codeword `n`: the overhead codeword always takes 0 (R116). -/
def codewordH (h n : Nat) : Nat := if n = 0 then 0 else h

/-- Symbol period of the line frame that carries real dimension `i` of codeword `n` (R113, R114). -/
def periodOf (n i : Nat) : Nat :=
  let td := 6144 * (n / 8) + 8 * (i / 4) + (n % 8 + 16 - 2 * (i % 4)) % 8
  td + td / 63 + 1

/-- Amplitudes of a codeword from its scrambled payload bits (R85). -/
def encodeAmps (h : Nat) (bits : List Bool) : List Nat :=
  let c := composition (shapeM h)
  amplitudes 3072 (msbNat (bits.take (matcherBits h))) (matcherSize c) c

/-- Sign bit of each real dimension (R115). -/
def signBits (signs parity : List Bool) : List Bool :=
  (List.range 3072).map fun i =>
    if i % 3 = 0 then signs.getD (i / 3) false else parity.getD (2 * (i / 3) + i % 3 - 1) false

/-- The levels of a codeword, with symbol period and dimension, from its payload bits (R109 to R117). -/
def encodeCodeword (h n : Nat) (payload : List Bool) : List (Nat × Nat × Int) :=
  let hc := codewordH h n
  let bits := scramble (scrambleAt h n) payload
  let amps := encodeAmps hc bits
  let signs := (bits.drop (matcherBits hc)).take 1024
  let parity := ldpcParity ((amps.map grayBits).flatten ++ signs)
  (List.range 3072).map fun i =>
    let lvl : Int := 2 * (amps.getD i 0 : Nat) + 1
    (periodOf n i, i % 4, if (signBits signs parity).getD i false then -lvl else lvl)

/-- The payload bits of 10,240 decoded information bits, and whether the composition and rank are right (R87). -/
def dematch (h n : Nat) (info : List Bool) : List Bool × Bool :=
  let hc := codewordH h n
  let amps := (pieces 3 3072 info).map ofGray
  let c := composition (shapeM hc)
  let x := rankAmps (matcherSize c) c amps
  let ok := countsOf amps == c && decide (x < 2 ^ matcherBits hc)
  let head := if ok then bitsMsb (matcherBits hc) x else List.replicate (matcherBits hc) false
  (scramble (scrambleAt h n) (head ++ (info.drop 9216).take 1024), ok)

/-! ## Bits and bytes -/

/-- Bytes of a bit string, first bit most significant. -/
def bytesOfBits (l : List Bool) : List Nat := (pieces 8 (l.length / 8) l).map msbNat

/-- Bits of bytes, first bit most significant. -/
def bitsOfBytes (l : List Nat) : List Bool := (l.map byteBits).flatten

/-! ## The overhead codeword (R118, R119) -/

/-- MARKER of the overhead. -/
def lineMarker : List Nat := [0x7A, 0x3C, 0x91, 0xE4, 0xD0, 0x5B, 0x26, 0xF8]

/-- The 320 overhead bytes. -/
def overhead (fc rate d bond bondId back : Nat) : List Nat :=
  let body := lineMarker ++ beBytes 4 fc ++ beBytes 4 rate ++ beBytes 3 d ++ beBytes 3 d ++ beBytes 3 d ++
    [bond, bondId, back] ++ List.replicate 288 0
  body ++ beBytes 4 (crc32 body)

/-- A big-endian field of received bytes. -/
def ohField (l : List Nat) (off n : Nat) : Nat := beNat ((l.drop off).take n)

/-- MARKER exact and CRC matching (R119). -/
def overheadOk (l : List Nat) : Bool := l.take 8 == lineMarker && ohField l 316 4 == crc32 (l.take 316)

/-- Blocks of a line frame: B = 503 × (40 + H_CODE) (R123). -/
def lineBlocks (h : Nat) : Nat := 503 * (40 + h)

/-- Block `b` carries data (R123). -/
def isDataBlock (h d b : Nat) : Bool := decide (b * d % lineBlocks h < d)

/-- D is usable: even and at most B. -/
def dOk (h d : Nat) : Bool := d % 2 == 0 && decide (d ≤ lineBlocks h)

/-- The D that a frame uses (R124): `good` overhead, its bytes, and the previous D. -/
def chooseD (h : Nat) (good : Bool) (oh : List Nat) (prev : Nat) : Nat :=
  let d1 := ohField oh 16 3
  let d2 := ohField oh 19 3
  let d3 := ohField oh 22 3
  if good && dOk h d1 then d1
  else if d1 = d2 && dOk h d1 then d1
  else if d1 = d3 && dOk h d1 then d1
  else if d2 = d3 && dOk h d2 then d2
  else prev

/-- The 16-byte data units of a frame's payload (R123): `pay b` is block b. -/
def dataUnits (h d : Nat) (pay : Nat → List Nat) : List (List Nat) :=
  let blocks := ((List.range (lineBlocks h)).filter (isDataBlock h d)).map pay
  (pieces 2 (blocks.length / 2) blocks).map List.flatten

/-- Block `b` of a frame sent (R123): half a data unit, or fill. -/
def sentBlock (h d : Nat) (units : List (List Nat)) (b : Nat) : List Nat :=
  let k := b * d / lineBlocks h
  if isDataBlock h d b then padTo 8 (((units.getD (k / 2) []).drop (8 * (k % 2))).take 8) else List.replicate 8 0

/-- The payload bytes of codeword `n` of a frame sent, from its data units (R117, R123). -/
def sentPayload (h d : Nat) (units : List (List Nat)) (n : Nat) : List Nat :=
  (List.range (40 + h)).flatMap fun i => sentBlock h d units ((n - 1) * (40 + h) + i)

/-! ## OTUCn on the data units (R125) -/

/-- Unit `k` of a slice's frame; its first holds the FAS and MFAS. -/
def sliceUnit (mfas : Nat) (slice : List Nat) (k : Nat) : List Nat :=
  let u := padTo 16 ((slice.drop (16 * k)).take 16)
  if k = 0 then otuFas ++ [mfas] ++ u.drop 7 else u

/-- The units of an OTUCn frame: one of each of the `n` slices in turn, with one MFAS in all. -/
def otucUnits (n mfas : Nat) (slices : List (List Nat)) : List (List Nat) :=
  (List.range 956).flatMap fun k => (List.range n).map fun i => sliceUnit mfas (slices.getD i []) k
end Sys2Proof.Machine
end

