-- ==== Sys2Proof/Machine/OduTx.lean ====
section
/-! DEFINITION. What the sources of an egress group insert in the ODU frames it sends (spec/06_odu_monitoring.md R147, R152, R156,
R160; spec/08_protection_skew.md R210).

Readings fixed here (notes/assumptions): 110 PRESUMED. -/

namespace Sys2Proof.Machine

/-- An ODU frame as its 7,648 words grow, newest first: the frames completed by one more word. The search for a frame's FAS shifts
word by word (R138). -/
def TxOdu.take (p : TxOdu × List (List Nat)) (w : Nat) : TxOdu × List (List Nat) :=
  let ws := w % 65536 :: p.1.words
  if p.1.count = 2 ∧ !fasSeen ws then ({ p.1 with words := ws.take 2 }, p.2)
  else if p.1.count = 7647 then ({ p.1 with words := [], count := 0 }, p.2 ++ [ws.reverse])
  else ({ p.1 with words := ws, count := p.1.count + 1 }, p.2)

/-- Bytes of a frame's words. -/
def oduBytes (ws : List Nat) : List Nat := ws.flatMap (beBytes 2)

/-- The place in a frame of row `r`, column `c`, both from 1. -/
def oduAt (r c : Nat) : Nat := 3824 * (r - 1) + (c - 1)

/-- BIP-8 over the OPU of a frame: columns 15 to 3,824 (R152). -/
def oduBip (frame : List Nat) : Nat :=
  ((pieces 3824 4 frame).map fun r => (r.drop 14).foldl (fun a b => a ^^^ b) 0).foldl (fun a b => a ^^^ b) 0

/-- The first of a layer's three bytes, in G.709: 0 path, 1 to 6 TCM1 to TCM6. -/
def layerAt (layer : Nat) : Nat :=
  match layer with
  | 0 => oduAt 3 10 | 1 => oduAt 3 7 | 2 => oduAt 3 4 | 3 => oduAt 3 1 | 4 => oduAt 2 11 | 5 => oduAt 2 8 | _ => oduAt 2 5

/-- The enabled points that are sources on an egress group, with their layers. -/
def State.sourcesOn (s : State) (h : Nat) : List (Nat × Nat) :=
  (s.odu.activeE.setOf h).filter fun e =>
    s.ctxType e.1 == 1 && s.ctxEn e.1 && s.ctxLayer e.1 == e.2 && decide (2 ≤ s.ctxFunc e.1) && s.ctxBits e.1 1 16 16 == h &&
    !(s.run e.1).ecc

/-- The APS/PCC bytes that a source sends: those of the protection group whose APS_CTX names it (R210). -/
def State.apsOf (s : State) (x : Nat) : Option Nat := (s.pgs.find? fun g => s.ctxBits g 5 0 18 == x).map fun g => s.ctxDw g 7

/-- The byte of BEI, BDI and STAT that a source sends (R152, R156): the sink of a terminating point gives BEI and BDI; a source-only
point has no sink, and its BDI is FORCE_BDI. -/
def State.sourceStat (s : State) (x : Nat) : Nat :=
  if s.ctxFunc x = 2 then 16 * s.ctxBits x 6 12 4 + 8 * s.ctxBits x 6 11 1 + 1 else 8 * s.ctxBits x 0 16 1 + 1

/-- A source writes its layer's overhead in a frame whose MFAS is given (R152, R160, R210). -/
def State.insertOverhead (s : State) (bip mfas : Nat) (frame : List Nat) (e : Nat × Nat) : List Nat :=
  let at_ := layerAt e.2
  let frame := (frame.set (at_ + 1) bip).set (at_ + 2) (s.sourceStat e.1)
  let frame := if s.ctxBits e.1 0 17 1 = 1 then
      frame.set at_ (s.memByte (coldStore e.1).1 ((coldStore e.1).2 + 4160 + mfas % 64))
    else frame
  match s.apsOf e.1 with
  | some w => if mfas % 8 = e.2 then (beBytes 4 w).zipIdx.foldl (fun l b => l.set (oduAt 4 5 + b.2) b.1) frame else frame
  | none => frame

/-- One ODU frame of an egress group leaves (R152): the BIP-8 inserted is that of the frame before the last. -/
def State.oduLeaves (s : State) (h : Nat) (frame : List Nat) : State :=
  let s := ((s.sourcesOn h).filter fun e => s.ctxBits e.1 0 17 1 = 1).foldl
    (fun s e => s.memCounted (coldStore e.1).1 1) s
  let v := spGet {} s.odu.txOdu h
  let sent := (s.sourcesOn h).foldl (s.insertOverhead (v.bips.getD 1 0) (frame.getD 6 0)) frame
  let s := { s with odu := { s.odu with txOdu := spPut {} s.odu.txOdu h { v with bips := [oduBip frame, v.bips.getD 0 0] } } }
  s.emit (.oduFrame h sent)

/-- An egress group with sources sends words; `fresh`: they begin anew (R194). A group without sources passes its frames on unchanged;
the frames of one that an association encrypts leave it as SECURED_MULTIFRAME, sources after the cipher (R434). -/
def State.oduSends (s : State) (h : Nat) (fresh : Bool) (ws : List Nat) : State :=
  if (s.sourcesOn h).isEmpty || s.sealedGroup h then { s with odu := { s.odu with txOdu := spErase h s.odu.txOdu } }
  else
    let v := spGet {} s.odu.txOdu h
    let r := ws.foldl TxOdu.take (if fresh then { v with words := [], count := 0 } else v, [])
    let s := { s with odu := { s.odu with txOdu := spPut {} s.odu.txOdu h r.1 } }
    r.2.foldl (fun s f => s.oduLeaves h (oduBytes f)) s

end Sys2Proof.Machine
end

