-- ==== Sys2Proof/Machine/SlotOps.lean ====
section
/-! DEFINITION. The interchange: words written and read in a core frame, generated signals, parity, checkers and the
egress mappers (spec/07_slot_core.md R173 to R183, R193 to R199; spec/06_odu_monitoring.md R136 to R140, R153;
spec/12_twin.md R336, R346, R347).

Readings fixed here (notes/assumptions): 7 DESIGN CHOICE, 41 DEDUCED, 49 DEDUCED, 50 DEDUCED, 61 DEDUCED, 91 DEDUCED,
113 DESIGN CHOICE. -/

namespace Sys2Proof.Machine

/-! ## Words (R6, R7, R137, R140, R182) -/

/-- A word fails its parity check (R8). -/
def parityFails (w : Nat) : Bool := ones 18 w % 2 == 0

/-- Sequence position `j` of `P` holds a valid word when `c` of them do (R137). -/
def validAt (p c j : Nat) : Bool := (j + 1) * c / p - j * c / p == 1

/-- Words placed in sequence order (R137): the valid words in turn, stuff words elsewhere. -/
def placeWords (p c : Nat) : List Nat → List Nat → List Nat
  | [], _ => []
  | j :: js, ws => if validAt p c j then ws.headD stuffWord :: placeWords p c js ws.tail
    else stuffWord :: placeWords p c js ws

/-- A group's 64S words in sequence order as 64 words of each of its S slot units. -/
def perUnit (su : Nat) (seq : List Nat) : List (List Nat) :=
  let v := seq.toArray
  (List.range su).map fun i => (List.range 64).map fun q => v.getD (q * su + i) stuffWord

/-- The words of slot units in sequence order. -/
def inSequence (us : List (List Nat)) : List Nat :=
  let a := (us.map List.toArray).toArray
  (List.range 64).flatMap fun q => (List.range us.length).map fun i => (a.getD i #[]).getD q stuffWord

/-- A word of an ODU-AIS frame (R138, R140): FAS, MFAS, and ones. -/
def aisWord (idx mfas : Nat) : Nat :=
  parityWord (65536 + (match idx with
    | 0 => 0xF6F6 | 1 => 0xF628 | 2 => 0x2828 | 3 => mfas % 256 * 256 + 255 | _ => 0xFFFF))

/-- The next `n` words of a group's ODU-AIS and its generator after them. -/
def aisWords : Nat → Gen → List Nat × Gen
  | 0, g => ([], g)
  | n + 1, g =>
    let g' : Gen := if g.idx = 7647 then { g with idx := 0, mfas := (g.mfas + 1) % 256 } else { g with idx := g.idx + 1 }
    let r := aisWords n g'
    (aisWord g.idx g.mfas :: r.1, r.2)

/-- Valid words of a core frame at a group's nominal rate (R181): the count, and the phase accumulator. -/
def genCount (kind flex acc : Nat) : Nat × Nat :=
  let r := kindRate kind flex
  let d := r.2 * 1000000000
  ((acc + 45 * r.1) / d, (acc + 45 * r.1) % d)

/-- One bit of PRBS31: the register's last stage, and the register after a shift (R182). -/
def prbsBit (r : Nat) : Bool × Nat := (bitOf r 30, (2 * r) % 2 ^ 31 + b2n (bitOf r 30 != bitOf r 27))

/-- The next 16 bits of PRBS31, the first in bit 15. -/
def prbsWord (r : Nat) : Nat × Nat :=
  (List.range 16).foldl (fun p _ => let b := prbsBit p.2; (2 * p.1 + b2n b.1, b.2)) (0, r)

/-- A slot unit's words with test pattern at the valid positions, and its generator after them (R182). -/
def prbsWords : List Bool → Nat → List Nat × Nat
  | [], r => ([], r)
  | false :: l, r => let p := prbsWords l r; (stuffWord :: p.1, p.2)
  | true :: l, r =>
    let w := prbsWord r
    let p := prbsWords l w.2
    (parityWord (65536 + w.1) :: p.1, p.2)

/-! ## Ingress (R14, R138, R153, R16) -/

/-- A sink association of an ingress group, of a parent or of its port's ODUCn has lost authentication (R438). -/
def State.authLost (s : State) (g : Nat) : Bool :=
  (s.saFailed 0).any fun a => !s.saSource a && s.saCovers (s.portOfSu g) g (s.odu.activeI.parents g) a

/-- A source association of an egress group, of a parent or of its port's ODUCn has run out of SEQ (R436). -/
def State.seqExhausted (s : State) (h : Nat) : Bool :=
  (s.saFailed 2).any fun a => s.saSource a && s.saCovers (s.portOfSu h) h (s.odu.activeE.parents h) a

/-- An ingress group carries replacement signal from the coming core frame (R138, R143, R153, R438). -/
def State.replNow (s : State) (g : Nat) : Bool :=
  s.portRepl (s.portOfSu g) || s.sinkStopped false g || s.authLost g

/-- The ingress groups that carry words through the core. -/
def State.ingressGroups (s : State) : List Nat :=
  s.odu.activeI.groups.filter fun g => !(s.odu.activeI.entry g).demux

/-- The 64 words as written at a slot unit. -/
def writtenWords (f : CoreFrame) (u : Nat) : List Nat :=
  match f.words.find? (·.1 == u) with
  | some e => ((e.2.map (·.toNat)) ++ List.replicate 64 stuffWord).take 64
  | none => List.replicate 64 stuffWord

/-- A stored map with the words of several slot units; stuff words are not listed. -/
def putUnits (m : SparseMap (List Nat)) (l : List (Nat × List Nat)) : SparseMap (List Nat) :=
  l.foldl (fun m e => spPut (List.replicate 64 stuffWord) m e.1 e.2) m

/-- The words of a slot unit in a stored map. -/
def unitWords (m : SparseMap (List Nat)) (u : Nat) : List Nat := spGet (List.replicate 64 stuffWord) m u

/-- A group's generator; a new one starts at the beginning of an ODU-AIS frame whose MFAS is left open (R140). -/
def State.gen (s : State) (k : Nat) : State × Gen :=
  match s.core.gens.find? (·.1 == k) with
  | some e => (s, e.2)
  | none => (s.tick, { mfas := Config.freeValue s.free % 256 })

/-- Replace a generator. -/
def State.setGen (s : State) (k : Nat) (g : Gen) : State :=
  { s with core := { s.core with gens := spSet s.core.gens k g } }

/-- A core frame of a group's ODU-AIS, by slot unit (R140). -/
def State.aisFrame (s : State) (k kind flex su : Nat) : State × List (List Nat) :=
  let r := s.gen k
  let c := genCount kind flex r.2.acc
  let w := aisWords c.1 r.2
  (r.1.setGen k { w.2 with acc := c.2 }, perUnit su (placeWords (64 * su) c.1 (List.range (64 * su)) w.1))

/-- The words of a demapped group in the places that the ingress mapper gives them (R137): the valid words in sequence order, as many
as there are. A slot-lane or forerunner port has no ingress mapper: its words stand where its receiver wrote them. -/
def State.demapped (s : State) (g : Nat) (us : List (List Nat)) : List (List Nat) :=
  if !s.portOduc (s.portOfSu g) then us
  else
    let valid := (inSequence us).filter fun w => bitOf w 16
    let p := 64 * us.length
    perUnit us.length (placeWords p valid.length (List.range p) valid)

/-- The words of one ingress group in the core frame that ends (R14, R137, R153). -/
def ingressGroup (f : CoreFrame) (p : State × SparseMap (List Nat)) (g : Nat) : State × SparseMap (List Nat) :=
  let s := p.1
  let us := s.odu.activeI.slotGroup g
  if s.core.repl.contains g then
    let e := s.odu.activeI.entry g
    let r := s.aisFrame (65536 + g) e.kind e.flex us.length
    (r.1, putUnits p.2 (us.zip r.2))
  else
    ({ s with core := { s.core with gens := spErase (65536 + g) s.core.gens } },
      putUnits p.2 (us.zip (s.demapped g (us.map (writtenWords f)))))

/-- The words of forerunner slots, which need no tributary group (R283). Every other slot unit in no group presents stuff words
only (R14, R136). -/
def State.looseIn (s : State) (f : CoreFrame) : List (Nat × List Nat) :=
  (f.words.filter fun e => decide (e.1 < 40960) && decide (e.1 % 160 < 8) && s.laneFormat (e.1 / 160) == 5 &&
    !s.portRepl (s.portOfSu e.1)).map fun e => (e.1, writtenWords f e.1)

/-- The words a buffered copy delivers in the core frame that ends, and whether they are provisional: those of an
unconfirmed lead hypothesis come though the group carries replacement signal, those of the ODUC64 while either carrier's framer
is provisional; a bond's wait in its bonding buffer (R129, R223, R234, R236). -/
def State.copyWords (s : State) (f : CoreFrame) (m : SparseMap (List Nat)) (g : Nat) (p : Bool) : Bool × List Nat :=
  let us := s.odu.activeI.slotGroup (s.copyGroup g p)
  let q := s.copyPort_ g p
  let bonded := if q < 256 then (s.slBondOf q).isSome else s.carBonded
  if !s.core.repl.contains (s.copyGroup g p) then (false, inSequence (us.map (unitWords m)))
  else if s.portProv q && !bonded && !s.portDisabled q && !s.authLost (s.copyGroup g p) then (true, inSequence (us.map (writtenWords f)))
  else (false, [])

/-- What a group that is read through the skew buffer passes on (R207, R216): its selected copy's words, or replacement signal where that
copy is unavailable. -/
def State.bufferedOut (s : State) (g su : Nat) (direct : List (List Nat)) (words : List Nat) : State × List (List Nat) :=
  let x := s.copyGroup g (s.outCopy g)
  let e := s.odu.activeI.entry x
  if !s.unavNow g (s.outCopy g) then
    ({ s with core := { s.core with gens := spErase (196608 + g) s.core.gens } },
      perUnit su (placeWords (64 * su) words.length (List.range (64 * su)) words))
  else if s.core.repl.contains x then (s, direct)
  else s.aisFrame (196608 + g) e.kind e.flex su

/-- A protection group's selected words stand at the slot units of both copies (R16, R216). -/
def selectGroup (f : CoreFrame) (p : State × SparseMap (List Nat)) (g : Nat) : State × SparseMap (List Nat) :=
  let s := p.1
  let ti := s.odu.activeI
  let w := ti.slotGroup (s.copyGroup g false)
  let pr := ti.slotGroup (s.copyGroup g true)
  let su := w.length
  let wordsOf := fun l => l.map (unitWords p.2)
  let direct := wordsOf (if s.outCopy g then pr else w)
  let r : State × List (List Nat) :=
    if 2 ≤ s.astate g && s.astate g ≤ 5 then
      let bad := (f.skewUncorr.filter (·.1 == g)).map fun e => e.2.1
      let b := s.bufferedFrame g (s.copyWords f p.2 g false) (s.copyWords f p.2 g true) bad
      if s.astate g = 2 then (b.1, direct) else b.1.bufferedOut g su direct b.2
    else (s, direct)
  (r.1, putUnits (putUnits p.2 (w.zip r.2)) (pr.zip r.2))

/-- The slot units at which write-side checks are made: those of an unselected copy write nothing (R16). -/
def State.unselected (s : State) : List Nat :=
  s.pgs.flatMap fun g => s.odu.activeI.slotGroup (s.copyGroup g (!s.outCopy g))

/-- Positions of a slot unit's words that fail parity. -/
def failsAt (e : Nat × List Nat) : List (Nat × Nat) :=
  ((List.range 64).filter fun q => parityFails (e.2.getD q stuffWord)).map fun q => (e.1, q)

/-- Set a slot unit's bit in a parity map. -/
def setMapBit (f : Nat → Fl) (s : State) (u : Nat) : State :=
  s.fset (f (u / 32)) (s.fget (f (u / 32)) ||| 2 ^ (u % 32))

/-- Parity failures at the write side are counted and mapped (R198). -/
def writeParity (s : State) (b : Nat × Nat) : State :=
  setMapBit F.pmap_PMAP_IN_MAP ((s.cadd (F.parc_PAR_IN_C (s.portOfSu b.1)) 1).cadd F.core_PAR_IN_TOTAL_C 1) b.1

/-- Parity failures at the read side are counted and mapped (R198). -/
def readParity (s : State) (b : Nat × Nat) : State :=
  setMapBit F.pmap_PMAP_OUT_MAP ((s.cadd (F.parc_PAR_OUT_C (s.portOfSu b.1)) 1).cadd F.core_PAR_OUT_TOTAL_C 1) b.1

/-- Words change between write and read. -/
def flipWord (m : SparseMap (List Nat)) (x : Nat × Nat × SlotWord) : SparseMap (List Nat) :=
  putUnits m [(x.1, (unitWords m x.1).mapIdx fun q w => if q = x.2.1 then x.2.2.toNat else w)]

/-! ## Test-pattern checkers (R199) -/

/-- Errored bits of a valid word against a checker's register, and the checker after it. -/
def Checker.word (c : Checker) (payload : Nat) : Checker × Nat :=
  (bitsMsb 16 payload).foldl (fun p b =>
    if p.1.loaded < 31 then
      ({ p.1 with reg := (2 * p.1.reg) % 2 ^ 31 + b2n b, loaded := p.1.loaded + 1 }, p.2)
    else
      let next := bitOf p.1.reg 30 != bitOf p.1.reg 27
      ({ p.1 with reg := (2 * p.1.reg) % 2 ^ 31 + b2n next }, p.2 + b2n (next != b))) (c, 0)

/-- A checker sees a word. -/
def checkWord (k : Nat) (s : State) (w : Nat) : State :=
  if !bitOf w 16 then s
  else
    let c : Checker := spGet {} s.core.checkers k
    let put := fun (s : State) (c : Checker) => { s with core := { s.core with checkers := spPut {} s.core.checkers k c } }
    let started := decide (31 ≤ c.loaded)
    let r := c.word (w % 65536)
    if !started then put s r.1
    else
      let bad := r.2 != 0
      if s.flag (F.tpc_TPC_STATUS_SYNC k) then
        let hist := (bad :: c.hist).take 64
        let s := (s.cadd (F.tpc_WORDS_C k) 1).cadd (F.tpc_BIT_ERR_C k) r.2
        if 8 ≤ (hist.filter id).length then
          put ((s.fset (F.tpc_TPC_STATUS_SYNC k) 0).raise 0x80 5) {}
        else put s { r.1 with hist := hist }
      else if bad then put s {}
      else if 63 ≤ r.1.good then put (s.fset (F.tpc_TPC_STATUS_SYNC k) 1) { r.1 with good := 0, hist := [] }
      else put s { r.1 with good := r.1.good + 1 }

/-- The checkers of one side look at a frame's words (R199). -/
def State.runCheckers (s : State) (side : Bool) (m : SparseMap (List Nat)) : State :=
  (List.range 16).foldl (fun s k =>
    let u := s.fget (F.tpc_TPC_CFG_SU k)
    if s.flag (F.tpc_TPC_CFG_EN k) && u < numSu && s.flag (F.tpc_TPC_CFG_SIDE k) == side then
      (unitWords m u).foldl (checkWord k) s
    else s) s

/-! ## The write side of a core frame -/

/-- The protection group whose selected words stand at an ingress slot unit (R16). -/
def State.selectorAt (s : State) (u : Nat) : Option Nat :=
  match s.odu.activeI.memberOf u with
  | none => none
  | some g => s.pgs.find? fun x => s.copyGroup x false == g || s.copyGroup x true == g

/-- A parity failure at an ingress slot unit has an ingress cause (R347): the word comes from the receiver of a port that had an
uncorrected codeword, or from a slot lane, whose receiver regenerates P and inverts it for no other reason (R273, R275). A
word from the skew buffer has none: P is regenerated there. -/
def State.ingressCause (s : State) (u : Nat) : Bool :=
  let fed := fun (p : Nat) => s.core.fecBad.contains p || (decide (p < 256) && (s.laneFormat p == 3 || s.laneFormat p == 4))
  match s.selectorAt u with
  | none => fed (s.portOfSu u)
  | some x => fed (s.copyPort_ x (s.outCopy x)) && !(decide (2 < s.astate x) && decide (s.astate x ≤ 5) && s.delayedSelected x)

/-- The words of the core frame that ends are written (R14, R16, R138, R153, R176, R198). -/
def State.writeSide (s : State) (f : CoreFrame) : State :=
  let fore := s.looseIn f
  let r := s.ingressGroups.foldl (ingressGroup f) (s, putUnits [] fore)
  let r := r.1.pgs.foldl (selectGroup f) r
  let s := r.1
  let skip := s.unselected
  let bad := r.2.flatMap failsAt
  let own := bad.filter fun b => !skip.contains b.1
  let s := (own.foldl writeParity s).onlyIf (!own.isEmpty) fun s => s.raise 0x80 4
  let s := s.runCheckers false r.2
  { s with core := { s.core with
    w2 := s.core.w1, w1 := f.flips.foldl flipWord r.2, repl2 := s.core.repl1, repl1 := s.core.repl
    b2 := s.core.b1, b1 := bad.filter fun b => s.ingressCause b.1
    n2 := s.core.n1, n1 := bad.filter fun b => !s.ingressCause b.1 } }

/-! ## The read side of a core frame (R178, R180 to R183, R195, R196) -/

/-- A protected group feeds a source slot unit (R196). -/
def State.protectedUnit (s : State) (u : Nat) : Bool := (s.selectorAt u).isSome

/-- A connect entry's source is disabled or removed (R143, R196). -/
def State.sourceDark (s : State) (u : Nat) : Bool :=
  s.core.gone.contains u || (s.portDisabled (s.portOfSu u) && !s.protectedUnit u)

/-- An egress slot unit is treated as being in replacement-signal mode by itself (R183, R196). -/
def State.forcedRepl (s : State) (u : Nat) : Bool :=
  s.cmActive.bad.contains u || (s.cmActive.mode u == 0 && s.sourceDark (s.cmActive.src u))

/-- A monitored egress group carries replacement signal while its frame tracker is out of frame (R138). -/
def State.trackerRepl (s : State) (h : Nat) : Bool :=
  (s.odu.activeE.entry h).monMask != 0 && !(s.tracker true h).inFrame &&
  (s.odu.activeE.slotGroup h).all fun u => s.cmActive.mode u == 0

/-- Every slot unit of an egress group carries replacement signal (R138, R183, R196). -/
def State.egressDark (s : State) (h : Nat) : Bool :=
  (s.odu.activeE.slotGroup h).any s.forcedRepl || s.trackerRepl h

/-- The words that an entry in connect mode gives (R176). -/
def State.connected (s : State) (u : Nat) : List Nat := unitWords s.core.w2 (s.cmActive.src u)

/-- A test-pattern unit's words where `valid` says (R182). -/
def State.testWords (s : State) (u : Nat) (valid : List Bool) : State × List Nat :=
  let r := prbsWords valid (spGet (2 ^ 31 - 1) s.core.prbs u)
  ({ s with core := { s.core with prbs := spSet s.core.prbs u r.2 } }, r.1)

/-- A unit leaves test-pattern mode: its generator is loaded again when it next enters it (R182). -/
def State.endTestMode (s : State) (u : Nat) : State :=
  { s with core := { s.core with prbs := spErase u s.core.prbs } }

/-- The words of one slot unit of an egress group; `ais` are its words of the group's ODU-AIS (R180). -/
def groupUnit (forced : Bool) (p : State × SparseMap (List Nat)) (x : Nat × List Nat) : State × SparseMap (List Nat) :=
  let s := p.1
  let mode := if forced then 2 else s.cmActive.mode x.1
  match mode with
  | 0 => (s.endTestMode x.1, putUnits p.2 [(x.1, s.connected x.1)])
  | 1 => (s.endTestMode x.1, putUnits p.2 [(x.1, x.2.map fun w => if bitOf w 16 then 0x10000 else w)])
  | 2 => (s.endTestMode x.1, putUnits p.2 [x])
  | _ =>
    let r := s.testWords x.1 (x.2.map fun w => bitOf w 16)
    (r.1, putUnits p.2 [(x.1, r.2)])

/-- The words of one egress group (R180, R181, R183, R196); from B1 to B2 every one carries replacement signal (R349). -/
def egressGroup (p : State × SparseMap (List Nat)) (h : Nat) : State × SparseMap (List Nat) :=
  let s := p.1
  let us := s.odu.activeE.slotGroup h
  let forced := s.egressDark h || s.twin.sw == .waitB2 || s.seqExhausted h
  if forced || us.any (fun u => s.cmActive.mode u != 0) then
    let e := s.odu.activeE.entry h
    let r := s.aisFrame h e.kind e.flex us.length
    (us.zip r.2).foldl (groupUnit forced) (r.1, p.2)
  else
    let s := { s with core := { s.core with gens := spErase h s.core.gens } }
    us.foldl (fun q u => groupUnit false q (u, [])) (s, p.2)

/-- The words of a slot unit in no egress group (R180); a surplus unit of a group's tributary slots carries stuff. -/
def looseUnit (p : State × SparseMap (List Nat)) (u : Nat) : State × SparseMap (List Nat) :=
  let s := p.1
  if s.odu.activeE.group u != 0xFFFF || s.forcedRepl u then (s.endTestMode u, putUnits p.2 [(u, List.replicate 64 stuffWord)])
  else match s.cmActive.mode u with
    | 0 => (s.endTestMode u, putUnits p.2 [(u, s.connected u)])
    | 1 => (s.endTestMode u, putUnits p.2 [(u, List.replicate 64 0x10000)])
    | 2 => (s.endTestMode u, putUnits p.2 [(u, List.replicate 64 stuffWord)])
    | _ =>
      let r := s.testWords u (List.replicate 64 true)
      (r.1, putUnits p.2 [(u, r.2)])

/-- Egress slot units in no egress group whose entry could give other than stuff words. -/
def State.looseUnits (s : State) : List Nat :=
  let listed := (s.cmActive.ents.map Prod.fst) ++ s.core.prbs.map Prod.fst
  let all := if bitsOf s.cmActive.fill 16 2 = 2 then listed else List.range numSu
  all.eraseDups.filter fun u => (s.odu.activeE.memberOf u).isNone

/-- The egress groups that carry words (R136). -/
def State.egressGroups (s : State) : List Nat :=
  s.odu.activeE.groups.filter fun h => !(s.odu.activeE.entry h).demux

/-! ## Egress mappers (R194, R195, R346, R347) -/

/-- m of R346 for a rate in bit/s given as a fraction: 2^m frames last at least 23.04 µs. -/
def windowLog (rate : Nat × Nat) : Nat :=
  ((List.range 12).find? fun m => decide (2304 * rate.1 ≤ 2 ^ m * 122368 * 100000000 * rate.2)).getD 11

/-- What a window's closing gives each slot unit: signature and tag (R346, R347). -/
def EgMapper.close (m : EgMapper) (us : List Nat) (win : Nat) : EgMapper :=
  let tag := fun u => win % 4 + 4 * b2n m.prov + 8 * b2n m.excl + 16 * b2n (m.par.contains u) + 32 * b2n (m.chg != 0)
  { m with
    closed := some (win, us.mapIdx fun i u => (m.crcs.getD i 0xFFFF, tag u))
    crcs := us.map fun _ => 0xFFFF, prov := false, excl := false, par := [], chg := m.chg - 1
    failed := false, failDue := m.failDue || m.failed }

/-- A word enters the signature of its slot unit (R346). -/
def EgMapper.sign (m : EgMapper) (su i w : Nat) : EgMapper :=
  { m with crcs := m.crcs.mapIdx fun k c => if k = i % su then crc16Bits c (bitsMsb 16 w) else c }

/-- The egress mapper takes a valid word: it maps from the first FAS it finds (R138, R194). -/
def EgMapper.take (us : List Nat) (wl : Nat) (m : EgMapper) (w : Nat) : EgMapper :=
  let su := us.length
  let pay := w % 65536
  match m.pos with
  | none =>
    if m.last = [0xF628, 0xF6F6] && pay = 0x2828 then
      let m := if m.frame % 2 ^ wl = 0 then { m with crcs := us.map fun _ => 0xFFFF } else m
      let m := ((m.sign su 0 0xF6F6).sign su 1 0xF628).sign su 2 0x2828
      { m with pos := some 3, last := [] }
    else { m with last := (pay :: m.last).take 2 }
  | some i =>
    let m := if i = 0 && m.frame % 2 ^ wl = 0 then { m with crcs := us.map fun _ => 0xFFFF } else m
    let m := m.sign su i pay
    if i = 7647 then
      let m := if (m.frame + 1) % 2 ^ wl = 0 then m.close us (m.frame / 2 ^ wl) else m
      { m with pos := some 0, frame := (m.frame + 1) % 2 ^ 19 }
    else { m with pos := some (i + 1) }

/-- The source group of an egress group in connect mode. -/
def State.feedOf (s : State) (h : Nat) : Option Nat :=
  let e1 := (s.odu.activeE.slotGroup h).headD h
  if s.cmActive.mode e1 = 0 then s.odu.activeI.memberOf (s.cmActive.src e1) else none

/-- The selector of a source group is in a precursor-led switch (R29, R157). -/
def State.feedProv (s : State) (g : Nat) : Bool :=
  s.pgs.any fun x => (s.copyGroup x false == g || s.copyGroup x true == g) && s.ctxBits x 6 2 1 == 1

/-- The precursor-led selectors of a source group, each with the copy it left (R29). -/
def State.ledSelectors (s : State) (g : Nat) : List (Nat × Bool) :=
  (s.pgs.filter fun x => (s.copyGroup x false == g || s.copyGroup x true == g) && s.ctxBits x 6 2 1 == 1).map fun x => (x, s.pos x)

/-- The signature builder's checkpoints at a core frame (R32): one is saved when a selector's words first come provisionally; it
is discarded when the switch is confirmed, and the signatures return to it when the selector has gone back. -/
def EgMapper.checkpoint (m : EgMapper) (led : List (Nat × Bool)) (back : Nat → Bool) : EgMapper :=
  let ended := m.chk.filter fun e => !led.any fun x => x.1 == e.1
  let crcs := match ended.find? fun e => back e.1 == e.2.1 with
    | some e => e.2.2
    | none => m.crcs
  let kept := m.chk.filter fun e => led.any fun x => x.1 == e.1
  { m with crcs := crcs, chk := led.foldl (fun c x => if c.any fun e => e.1 == x.1 then c else spSet c x.1 (x.2, crcs)) kept }

/-- The present signature window has begun: some of its words are taken. -/
def EgMapper.windowOpen (m : EgMapper) (wl : Nat) : Bool := m.pos.isSome && !(m.pos == some 0 && m.frame % 2 ^ wl == 0)

/-- A parity failure without an ingress cause struck the word that an egress slot unit reads at a position, or its source (R8,
R347). -/
def State.struck (s : State) (bad : List (Nat × Nat)) (u q : Nat) : Bool :=
  let src := (s.cmActive.src u, q)
  let fed := s.cmActive.mode u == 0
  (bad.contains (u, q) && !(fed && s.core.b2.contains src)) || (fed && s.core.n2.contains src)

/-- An egress mapper takes the word at a place of the sequence order; one that is struck marks its slot unit. -/
def EgMapper.takeAt (us : List Nat) (wl : Nat) (m : EgMapper) (x : Nat × Nat × Bool) : EgMapper :=
  let m := if x.2.2 && !m.par.contains x.1 then { m with par := x.1 :: m.par } else m
  if bitOf x.2.1 16 then m.take us wl x.2.1 else m

/-- The words of an egress group in sequence order, each with its slot unit and whether it is struck. -/
def State.mapperWords (s : State) (m : SparseMap (List Nat)) (bad : List (Nat × Nat)) (us : List Nat) : List (Nat × Nat × Bool) :=
  let a := (us.map fun u => (unitWords m u).toArray).toArray
  (List.range 64).flatMap fun q => us.mapIdx fun i u => (u, (a.getD i #[]).getD q stuffWord, s.struck bad u q)

/-- What the mapper of a carrier or FlexO port maps in a core frame (R194): from the first frame of its new words on those words,
before it the group's ODU-AIS in place of the words it discards. The words of its FAS that ended the core frame before stand in the
mapper's buffer, and are mapped first. -/
def State.mapperSends (s : State) (h : Nat) (was : EgMapper) (v : EgMapper) (valid : List Nat) : State :=
  let e := s.odu.activeE.entry h
  let put := fun (s : State) (l : List Nat) => { s with core := { s.core with sent := spPut [] s.core.sent h l } }
  let go := fun (s : State) (l : List Nat) => (put s l).oduSends h false l
  if !s.core.mapAis.contains h then go s valid
  else
    let c := s.gen (131072 + h)
    let n := genCount e.kind e.flex c.2.acc
    let w := aisWords n.1 c.2
    let s := c.1.setGen (131072 + h) { w.2 with acc := n.2 }
    match was.pos, v.pos with
    | none, some i =>
      let mapped := if v.frame = was.frame then i else i + 7648
      let kept := min valid.length mapped
      let new := (was.last.take (mapped - kept)).reverse.map (fun x => parityWord (65536 + x)) ++ valid.drop (valid.length - kept)
      (put s (w.1.take (valid.length - kept) ++ new)).oduSends h true new
    | _, _ => go s (if v.pos.isSome then valid else w.1)

/-- An egress mapper takes the words of a core frame (R29, R32, R194, R336 to R347). -/
def mapperFrame (m : SparseMap (List Nat)) (bad : List (Nat × Nat)) (s : State) (h : Nat) : State :=
  let us := s.odu.activeE.slotGroup h
  let e := s.odu.activeE.entry h
  let rate := kindRate e.kind e.flex
  let wl := windowLog rate
  let g := s.feedOf h
  let was : EgMapper := spGet {} s.core.mappers h
  let excl := match g with
    | some g => s.core.repl.contains g || s.core.fecBad1.contains (s.portOfSu g) || !(s.tracker false g).inFrame
    | none => false
  let led := match g with | some g => s.ledSelectors g | none => []
  let v := was.checkpoint led s.outCopy
  let v := { v with prov := v.prov || !led.isEmpty, excl := v.excl || excl }
  let ws := s.mapperWords m bad us
  let v := ws.foldl (EgMapper.takeAt us wl) v
  let v := { v with prov := v.prov || (!led.isEmpty && v.windowOpen wl), excl := v.excl || (excl && v.windowOpen wl) }
  let d := rate.2 * 10 ^ 17
  let v := { v with acc := (v.acc + 45 * rate.1 * ((10 ^ 8 : Int) + v.trim).toNat) % d }
  let s := s.onlyIf (s.portOduc (s.portOfSu h)) fun s =>
    s.mapperSends h was v ((ws.map fun x => x.2.1).filter fun w => bitOf w 16)
  { s with core := { s.core with
    mappers := spPut {} s.core.mappers h v
    gens := if v.pos.isSome then spErase (131072 + h) s.core.gens else s.core.gens
    mapAis := if v.pos.isSome then s.core.mapAis.filter (· != h) else s.core.mapAis } }

/-- PROV of the egress monitors on groups that a selector feeds (R157). -/
def monitorProv (s : State) (x : Nat) : State :=
  match s.sinkOf x with
  | some (true, h) =>
    let p := match s.feedOf h with | some g => s.feedProv g | none => false
    if h < 0xF000 && s.ctxBits x 6 6 1 != b2n p && !(s.run x).ecc then s.setCtxBits x 6 6 1 (b2n p) else s
  | _ => s

/-- The words of the core frame that begins are read (R176 to R183, R194 to R199). -/
def State.readSide (s : State) : State :=
  let dark := s.egressGroups.filter s.egressDark
  let ended := s.core.dark.filter fun h => !dark.contains h && (s.odu.activeE.hasGroup h)
  let s := ended.foldl State.restartMapper s
  let awaits := fun (h : Nat) => !dark.contains h && (s.odu.activeE.hasGroup h) &&
    (match s.feedOf h with | some g => s.core.repl2.contains g | none => false)
  let due := (s.core.returning ++ ended).eraseDups
  let s := (s.core.returning.filter fun h => !dark.contains h && s.odu.activeE.hasGroup h && !awaits h).foldl State.restartMapper s
  let r := s.egressGroups.foldl egressGroup (s, [])
  let r := s.looseUnits.foldl looseUnit r
  let s := r.1
  let bad := r.2.flatMap failsAt
  let s := (bad.foldl readParity s).onlyIf (!bad.isEmpty) fun s => s.raise 0x80 4
  let s := s.runCheckers true r.2
  let s := { s with core := { s.core with egress := r.2, dark := dark, returning := due.filter awaits, sent := [] } }
  let s := s.egressGroups.foldl (mapperFrame r.2 bad) s
  s.points.foldl monitorProv s

/-! ## Errors of the core frame (R183, R217, R336) -/

/-- Entries of the active page found corrected or uncorrectable (R183, R335). -/
def State.cmErrors (s : State) (f : CoreFrame) : State :=
  let s := (s.cadd F.core_CM_ECC_CORR_C f.cmCorr).onlyIf (f.cmCorr != 0) State.cmEccEvent
  let pg := s.cmActive
  let s := s.setCmPage s.activeB { pg with bad := (pg.bad ++ f.cmBad.filter (· < numSu)).eraseDups }
  if s.cmActive.bad.isEmpty then s
  else ((s.cadd F.core_CM_ECC_UNCORR_C 1).raise 0x80 6).cmEccEvent

/-- Mapper self-checks: each failing group counts, and its current window is marked (R336). -/
def State.selfChecks (s : State) (f : CoreFrame) : State :=
  f.selfCheck.foldl (fun s h =>
    let s := s.cadd F.odu_MAP_SELFCHK_C 1
    { s with core := { s.core with mappers := spModify {} s.core.mappers h fun m => { m with failed := true } } }) s

/-- FAULT bit 2 goes into the message that closes the window in which a self-check failed (R336). -/
def State.failsDue (s : State) : State :=
  if s.core.mappers.any fun e => e.2.failDue then
    { s with core := { s.core with mappers := s.core.mappers.map fun e => (e.1, { e.2 with failDue := false }) }
             twin := { s.twin with fault := s.twin.fault ||| 4 } }
  else s

/-- Errors of skew-buffer reads (R217, R241, R335). -/
def State.skewErrors (s : State) (f : CoreFrame) : State :=
  let s := f.skewCorr.foldl (fun s i => (s.cadd F.prot_SKEW_ECC_CORR_C 1).cadd (F.mem_ECC_CORR_C i.val) 1) s
  f.skewUncorr.foldl (fun s e =>
    let s := ((s.cadd F.prot_SKEW_ECC_UNCORR_C 1).cadd (F.mem_ECC_UNCORR_C e.2.2.val) 1).raise 0x90 5
    let s := s.raise (0x2B0 + e.2.2.val) 0
    { s with twin := { s.twin with fault := s.twin.fault ||| 2 } }) s

/-! ## Draining of slot datapaths (R47, R48) -/

/-- A port's slot datapath begins to drain. -/
def State.drainPort (s : State) (p : Nat) : State :=
  { s with core := { s.core with closing := spPut 0 s.core.closing p 1 } }

/-- The contents of a lane port's slip and bonding buffers are voided (R47). -/
def State.voidLanes (s : State) (p : Nat) : State :=
  let ls := s.portLanes p
  { s with
    slIn := s.slIn.filter fun e => !ls.contains (e.1 / 160)
    lanes := ls.foldl (fun m n => spModify {} m n fun v => { v with delay := [], prov := [], provLost := 0, provVbad := 0 }) s.lanes }

/-- The contents of a port's copies in the skew buffer, and of its slip and bonding buffers, are voided (R47): a group whose early copy
it was loses its stored words. -/
def State.voidPort (s : State) (p : Nat) : State :=
  let s := if p < 256 then s.voidLanes p else s
  (s.alignersOn p).foldl (fun s g =>
    let a := s.aligner g
    let early := s.copyPort_ g (s.earlyP g) == p
    s.setAligner g (if early then { a with store := [], extent := 0, early := {} } else { a with late := {} })) s

/-- The draining ports at a core-frame boundary: after the second, the datapath has stopped (R48). -/
def State.drainStep (s : State) : State :=
  let done := (s.core.closing.filter fun e => e.2 == 2).map Prod.fst
  let s := { s with core := { s.core with
    closing := (s.core.closing.filter fun e => e.2 != 2).map fun e => (e.1, 2) } }
  done.foldl State.voidPort s

/-- Milliseconds that pass as the core's cycle count grows by `n`. -/
def State.msPassed (s : State) (n : Nat) : Nat := (s.core.cycles + n) / 1600000 - s.core.cycles / 1600000

end Sys2Proof.Machine
end

