-- ==== Sys2Proof/Machine/BondOps.lean ====
section
/-! DEFINITION. Bonds and memory-stack tests (spec/08_protection_skew.md R233, R235, R237; R295 of
spec/10_forerunner.md).

Readings fixed here (notes/assumptions): 5 DESIGN CHOICE, 7 DESIGN CHOICE, 31 DEDUCED, 59 DEDUCED, 60 DEDUCED, 61
DEDUCED, 112 DESIGN CHOICE. -/

namespace Sys2Proof.Machine

/-! ## Carriers -/

/-- Carrier `c` beside its registers. -/
def State.car (s : State) (c : Nat) : Carrier := spGet {} s.carriers c

/-- Replace it. -/
def State.setCar (s : State) (c : Nat) (v : Carrier) : State := { s with carriers := spPut {} s.carriers c v }

/-- Page B of a carrier (R104). -/
def carPage (c : Nat) : Nat := 0x10 + 0x10 * c

/-- BOND_MISMATCH of a bonded carrier, by its last good overhead (R131). The model's reading (log 112): a carrier is bonded while
CBOND_CTRL.EN joins it, and "the other carrier's" BOND_ID is the one of the other carrier's last good overhead. -/
def State.bondMismatch (s : State) (c : Nat) : Bool :=
  s.carBonded && match (s.car c).rxBond with
    | none => false
    | some (en, role, id) => !en || role != c || (match (s.car (1 - c)).rxBond with
      | some x => x.2.2 != id
      | none => false)

/-- BOND_MISMATCH follows its condition; its rise is an event. -/
def State.showBondMismatch (s : State) (c : Nat) : State :=
  let b := s.bondMismatch c
  let s := s.onlyIf (b && !s.flag (F.lm_LM_STATUS_BOND_MISMATCH c)) fun s => s.raise (carPage c + 7) 2
  s.fput (F.lm_LM_STATUS_BOND_MISMATCH c) b

/-! ## The carrier bond (R235) -/

/-- What refuses the carrier bond: nothing (0), or the error code. A carrier in MODE 1 cannot be bonded (R294). -/
def State.bondRefusal (s : State) : Nat :=
  let same := s.storedReg .warden 0x10 0x40 == s.storedReg .warden 0x20 0x40
  if !same || s.fget (F.car_RATE_SLICES 0) != 32 || s.fget (F.car_RATE_MODE 0) == 1 || !s.flag (F.lm_LM_CFG_BOND_EN 0) || !s.flag (F.lm_LM_CFG_BOND_EN 1) ||
      s.fget (F.lm_LM_CFG_BOND_ID 0) != s.fget (F.lm_LM_CFG_BOND_ID 1) || s.fget F.dev_ROLE_ROLE == 3 then 0xB
  else if (s.admission 2560 1000 0).1 != 0 then 0xA
  else 0

/-- CBOND_CTRL.EN is written (R235, R224). -/
def State.carrierBond (s : State) (m : Master) (en : Bool) : State :=
  if s.enabled 0x10 || s.enabled 0x20 then s.log 0x92 4 m 0x40
  else if en && !s.carBonded then
    let r := s.bondRefusal
    if r = 0 then
      let s := { s with prot := { s.prot with bondBlocks := some (s.admission 2560 1000 0).2, bondTime := [[], []], bondUnits := [[], []], bondPairs := [] } }
      (((s.fset F.bond_CBOND_CTRL_EN 1).showBondMismatch 0).showBondMismatch 1).defects
    else (s.log 0x92 r m 0x40).onlyIf (r == 0xA) fun s => s.raise 0x90 3
  else if !en && s.carBonded then
    let s := { s with prot := { s.prot with bondBlocks := none, bondTime := [[], []], bondUnits := [[], []], bondPairs := [] } }
    let s := s.onlyIf (s.flag F.bond_CBOND_STATUS_ALIGNED) fun s => (s.fset F.bond_CBOND_STATUS_ALIGNED 0).raise 0x90 4
    (((s.fset F.bond_CBOND_CTRL_EN 0).showBondMismatch 0).showBondMismatch 1).defects
  else s

/-- What waits of the bonded carriers' words after a core frame, and the words that it delivers of those that arrive (R129, R236): while
either framer holds a hypothesis they wait provisionally, and from the confirmation on the oldest are read first, so that reading
begins with the first word of the first candidate frame. Nothing waits once the port carries replacement signal for another
cause. -/
def State.bondNext (s : State) (arrive : List (Nat × List SlotWord)) :
    List (Bool × List (Nat × List SlotWord)) × List (Nat × List SlotWord) :=
  let wait := s.prot.bondWords
  if s.portDisabled 256 then ([], [])
  else if s.portProv 256 then (wait.filter Prod.fst ++ [(true, arrive)], [])
  else if s.portRepl 256 then ([], [])
  else if s.ingressGroups.all fun g => s.core.repl.contains g || s.portOfSu g != 256 then
    (if wait = [] then [] else wait ++ [(false, arrive)], [])
  else match wait with
    | [] => ([], arrive)
    | e :: l => (l ++ [(false, arrive)], e.2)

/-- The core frame's words with the bonded carriers' as they come out of their buffer. -/
def State.withBond (s : State) (f : CoreFrame) : CoreFrame :=
  if !s.carBonded then f
  else
    let mine := fun (e : Nat × List SlotWord) => s.portOfSu e.1 == 256
    { f with words := (s.bondNext (f.words.filter mine)).2 ++ f.words.filter fun e => !mine e }

/-- The bonded carriers' buffer after a core frame. -/
def State.bondTakes (s : State) (f : CoreFrame) : State :=
  { s with prot := { s.prot with bondWords :=
    if s.carBonded then (s.bondNext (f.words.filter fun e => s.portOfSu e.1 == 256)).1 else [] } }

/-! ## Slot-lane bonds (R233) -/

/-- A lane is enabled in a slot-lane format. -/
def State.slotLane (s : State) (n : Nat) : Bool :=
  s.enabled (0x100 + n) && (s.laneFormat n == 3 || s.laneFormat n == 4)

/-- The lanes of two bonds overlap. -/
def overlap (a n b k : Nat) : Bool := decide (a < b + k) && decide (b < a + n)

/-- A bond of `count` lanes from `first` is a legal bond `j`. -/
def State.bondValid (s : State) (j first count : Nat) : Bool :=
  decide (2 ≤ count) && decide (count ≤ 16) && decide (first + count ≤ 256) &&
  ((List.range count).all fun i => s.slotLane (first + i) && s.laneFormat (first + i) == s.laneFormat first) &&
  (List.range 128).all fun k => k == j || !s.flag (F.bond_SLB_CFG_EN k) ||
    !overlap first count (s.fget (F.bond_SLB_CFG_FIRST k)) (s.fget (F.bond_SLB_CFG_COUNT k))

/-- A bond's aligner starts afresh. -/
def State.bondAfresh (s : State) (j : Nat) : State :=
  let s := s.onlyIf (s.flag (F.bond_SLB_STATUS_ALIGNED j)) fun s => s.raise 0x90 4
  s.fsets [(F.bond_SLB_STATUS_ALIGNED j, 0), (F.bond_SLB_STATUS_PROV j, 0), (F.bond_SLB_STATUS_SKEW_OVER j, 0),
    (F.bond_SLB_STATUS_SKEW j, 0), (F.bond_SLB_STATUS_IN_FRAME j, 0)]

/-- The lanes that a bond joins. -/
def State.bondLanes (s : State) (j : Nat) : List Nat :=
  if s.flag (F.bond_SLB_CFG_EN j) then (List.range (s.fget (F.bond_SLB_CFG_COUNT j))).map (s.fget (F.bond_SLB_CFG_FIRST j) + ·)
  else []

/-- A lane that enters or leaves a bond: its bonding buffer is empty, it has shown no frame count, and a bond's frame counts go on
from its own (R271). -/
def laneAfresh (s : State) (n : Nat) : State :=
  let v := s.lane n
  s.setLane n { v with delay := [], stamps := [], lateChk := none, bondFc := v.txFc, bondSent := [] }

/-- SLB_CFG is written (R233). -/
def State.slotBond (s : State) (m : Master) (j region be data : Nat) : State :=
  let d := s.mergedWord 0x92 (0x100 + 8 * j) region be data
  if bitOf d 13 && !s.bondValid j (bitsOf d 0 8) (bitsOf d 8 5) then s.logErr 0x92 0xB (masterId m) region (0x100 + 8 * j)
  else
    let moved := bitOf d 13 != s.flag (F.bond_SLB_CFG_EN j) || bitsOf d 0 13 != s.mergedWord 0x92 (0x100 + 8 * j) 0 0 0 % 2 ^ 13
    let before := s.bondLanes j
    let s := s.plainWrite m 0x92 (0x100 + 8 * j) region be data
    if moved then ((before ++ s.bondLanes j).foldl laneAfresh (s.bondAfresh j)).defects else s

/-! ## Memory stacks (R49, R217, R237) -/

/-- MTEST_CMD is written (R34, R237, R239). -/
def State.mtest (s : State) (m : Master) (i op : Nat) : State :=
  let p := 0x2B0 + i
  let held := bitOf (s.fget F.prot_SKEW_CFG_STACKS) i && (!s.prot.aligners.isEmpty || s.prot.bondBlocks.isSome)
  if op = 0 || 3 ≤ op then s.log p 9 m 0x48
  else if (op = 1 && !s.shadowOk) || (op = 2 && s.dev.mode != .maintenance) then s.log p 3 m 0x48
  else if s.fget (F.mem_MTEST_STATUS_STATE i) = 1 || !s.ready p then s.log p 8 m 0x48
  else if op = 2 && held then s.log p 4 m 0x48
  else
    let s := { s with prot := { s.prot with mtest := spPut 0 s.prot.mtest i op } }
    s.fsets [(F.mem_MTEST_STATUS_STATE i, 1), (F.mem_MTEST_STATUS_FAIL_BLK i, 0)]

/-- A memory test ends (R237, R239); the test of the whole stack leaves nothing of its contents. -/
def State.mtestDone (s : State) (i : Nat) (fail : Option Nat) : State :=
  if s.fget (F.mem_MTEST_STATUS_STATE i) != 1 then s
  else
    let s := s.onlyIf (spGet 0 s.prot.mtest i == 2) fun s => s.memClear i 0 (2 ^ 35)
    let s := { s with prot := { s.prot with mtest := spErase i s.prot.mtest } }
    let s := (((s.memCounted i (Config.freeValue s.free)).cadd (F.mem_WR_BYTES_C i) (Config.freeValue (s.free + 1))).tick).tick
    let s := s.fsets [(F.mem_MTEST_STATUS_STATE i, if fail.isNone then 2 else 3),
      (F.mem_MTEST_STATUS_FAIL_BLK i, fail.getD 0)]
    s.raise (0x2B0 + i) 1

/-- A scrub pass completes (R237, R241): the whole stack of 32 GiB has been read. -/
def State.scrubPass (s : State) (i corr uncorr : Nat) : State :=
  if !s.ready (0x2B0 + i) || !s.flag (F.mem_SCRUB_CFG_SCRUB_EN i) then s
  else
    let s := ((s.cadd (F.mem_SCRUB_PASSES_C i) 1).cadd (F.mem_ECC_CORR_C i) corr).cadd (F.mem_ECC_UNCORR_C i) uncorr
    let s := s.cadd (F.mem_RD_BYTES_C i) (2 ^ 35)
    s.onlyIf (uncorr != 0) fun s => s.raise (0x2B0 + i) 0

/-- A stack loses READY (R217). -/
def State.stackLost (s : State) (i : Nat) : State :=
  if !s.ready (0x2B0 + i) then s
  else
    let s := s.setReady (0x2B0 + i) false
    let s := s.fsets [(F.mem_MEM_STATUS_TRAINED i, 0), (F.mem_MEM_STATUS_ECC_INIT i, 0)]
    if bitOf (s.fget F.prot_SKEW_CFG_STACKS) i then
      let s := s.skewLost
      (s.onlyIf (s.flag F.bond_CBOND_STATUS_ALIGNED) fun s => (s.fset F.bond_CBOND_STATUS_ALIGNED 0).raise 0x90 4).defects
    else s

end Sys2Proof.Machine
end

