-- ==== Sys2Proof/Machine/CarOps.lean ====
section
/-! DEFINITION. The coherent carriers: rate modes, enable and disable, calibration, receive chain, capture and
front-end bus (spec/04_coherent_carrier.md), and line-marker lock (spec/05_line_code_framing.md R121).

Readings fixed here (notes/assumptions): 21 DEDUCED, 22 DEDUCED, 35 DEDUCED, 36 DESIGN CHOICE, 37 DEDUCED, 111 DESIGN
CHOICE, 112 DESIGN CHOICE. -/

namespace Sys2Proof.Machine

/-! ## Access -/

/-- The engine domain is powered (R98). -/
def State.engine (s : State) (c : Nat) : Bool := s.flag (F.car_PWR_CTRL_ENGINE_PWR c)

/-- RATE.MODE = 1: the forerunner line mode (R83). -/
def State.foreMode (s : State) (c : Nat) : Bool := s.fget (F.car_RATE_MODE c) == 1

/-- The port a carrier serves: the bond's, or its own. -/
def State.carPort (s : State) (c : Nat) : Nat := if s.carBonded then 256 else 256 + c

/-! ## Rate modes (R80 to R84, R90, R289) -/

/-- Rs in MBd of an RS_CODE. -/
def rsMBd (code : Nat) : Nat := 96000 + 1500 * code

/-- C in Mbit/s, rounded down (R80). -/
def capacityOf (rs h : Nat) : Nat := 316890 * rs * (200 + 5 * h) / 19353600

/-- C is at least n OTUC slices of 105,258.138 Mbit/s (R81). -/
def carries (rs h n : Nat) : Bool := decide (n * 105258138 * 19353600 ≤ 316890 * rs * (200 + 5 * h) * 1000)

/-- The mode fits its slot (R90): the symbol rate is num / den MBd. -/
def fitsSlot (num den ro width acc : Nat) : Bool :=
  width == 0 || decide ((101 + ro) * num + 20000 * acc * den ≤ 1250000 * width * den)

/-- The symbol rate of the forerunner line mode, in MBd (R289). -/
def foreRs : Nat × Nat := (34816 * 12 * 239 * 995328, 242865 * 226 * 10)

/-- The failing conditions of a mode other than H and capacity, as REASON codes (R81, R105). -/
def rateFaults (rs n ro width acc mode : Nat) : List Nat :=
  let slot := if mode = 1 then fitsSlot foreRs.1 foreRs.2 ro width acc else fitsSlot (rsMBd rs) 1 ro width acc
  (if mode != 1 && rs > 128 then [1] else []) ++ (if mode != 1 && (n < 8 || n > 32) then [3] else []) ++
  (if slot then [] else [5]) ++ (if ro > 9 then [6] else []) ++ (if mode > 1 then [7] else [])

/-- The lowest REASON code, or 0 (R81). -/
def rateReason (rs h n ro width acc mode : Nat) : Nat :=
  let l := rateFaults rs n ro width acc mode ++
    (if mode != 1 && h > 104 then [2] else []) ++ (if mode != 1 && !carries (rsMBd rs) h n then [4] else [])
  if l = [] then 0 else l.foldl min 15

/-- H_MIN (R81, R289). -/
def rateHMin (rs n ro width acc mode : Nat) : Nat :=
  if mode = 1 then 0
  else if rateFaults rs n ro width acc mode != [] then 0x7F
  else ((List.range 105).find? fun h => carries (rsMBd rs) h n).getD 0x7F

/-- The results of a rate-mode evaluation are set (R81, R84). -/
def State.rateEvaluate (s : State) (c : Nat) : State :=
  let rs := s.fget (F.car_RATE_RS_CODE c)
  let h := s.fget (F.car_RATE_H_CODE c)
  let n := s.fget (F.car_RATE_SLICES c)
  let ro := s.fget (F.car_RATE_ROLLOFF c)
  let mode := s.fget (F.car_RATE_MODE c)
  let w := s.fget (F.car_SLOT_WIDTH c)
  let a := s.fget (F.car_SLOT_FE_ACC c)
  let reason := rateReason rs h n ro w a mode
  let s := s.fsets [(F.car_CFG_STATUS_CALC c, 0), (F.car_CFG_STATUS_VALID c, b2n (reason == 0)),
    (F.car_CFG_STATUS_REASON c, reason), (F.car_CFG_STATUS_H_MIN c, rateHMin rs n ro w a mode),
    (F.car_CAPACITY_MBPS c, if mode = 1 then 1263097 else capacityOf (rsMBd rs) h)]
  if mode = 1 then s.fset (F.car_CFG_STATUS_SHAPE_M c) 0
  else if h > 104 then s
  else
    let s := (s.fset (F.car_CFG_STATUS_SHAPE_M c) (shapeM h)).fset (F.txs_SHAPE_K_K c) (matcherBits h)
    (List.range 8).foldl (fun s j => s.fset (F.txs_COMP_N c j) ((composition (shapeM h)).getD j 0)) s

/-- RATE or SLOT is written (R81, R82): the evaluation starts, or starts again. -/
def State.rateWrite (s : State) (m : Master) (c off region be data : Nat) : State :=
  if s.enabled (carPage c) || s.draining (carPage c) then s.logErr (carPage c) 0xA (masterId m) region off
  else (s.plainWrite m (carPage c) off region be data).fset (F.car_CFG_STATUS_CALC c) 1

/-! ## Calibration (R96, R97) -/

/-- A capture in progress is abandoned without a record (R97, R105). -/
def State.capAbort (s : State) (c : Nat) : State :=
  if s.fget (F.cap_CAPTURE_STATUS_STATE c) = 0 || s.fget (F.cap_CAPTURE_STATUS_STATE c) = 4 then s
  else
    let v := s.car c
    (s.setCar c { v with cap := { v.cap with seen := none, hdr := [], data := [] } }).fset (F.cap_CAPTURE_STATUS_STATE c) 0

/-- A calibration or loop test starts: MAINT reads 1, a capture in progress is aborted (R97). -/
def State.calStart (s : State) (c : Nat) (k : CalKind) : State :=
  let s := s.capAbort c
  let s := s.setCar c { s.car c with cal := some k }
  s.fsets [(F.hdr_BLK_STATUS_MAINT (carPage c), 1), (F.conv_CAL_STATUS_STATE c, 1)]

/-- CAL_CTRL is written (R97, R34). -/
def State.calCmd (s : State) (m : Master) (c op : Nat) : State :=
  let p := carPage c + 2
  if op = 0 then s
  else if op = 3 then s.log p 9 m 0x40
  else if (s.car c).cal.isSome then s.log p 8 m 0x40
  else if (if s.enabled (carPage c) then s.dev.mode != .maintenance else !s.shadowOk) then s.log p 3 m 0x40
  else s.calStart c (if op = 1 then .foreground else .loop)

/-- A calibration ends (R97): `fail` marks the failing converters; `sndr` and `skew` are the results by converter, in
0.01 dB and 0.01 ps. The one of an enable, passed, starts the transmit chain (R98 step 4). -/
def State.calEnd (s : State) (c fail ms : Nat) (res : List (Nat × Int)) : State :=
  match (s.car c).cal with
  | none => s
  | some k =>
    let v := s.car c
    let loopBad := ((List.range res.length).filter fun i =>
      let r := res.getD i (0, 0); decide (r.1 < 3100) || decide (r.2 > 200) || decide (r.2 < -200)).foldl (fun a i => a ||| 2 ^ i) 0
    let fail := if k = .loop then loopBad % 256 else fail % 256
    let ok := fail == 0
    let s := s.setCar c { v with cal := none, chain := v.chain || (ok && k == .enable) }
    let s := (List.range (min 8 res.length)).foldl (fun s i =>
      s.fsets [(F.conv_SNDR_SNDR c i, (res.getD i (0, 0)).1), (F.conv_SNDR_SKEW c i, ofSigned 16 (res.getD i (0, 0)).2)]) s
    let s := s.fsets [(F.hdr_BLK_STATUS_MAINT (carPage c), 0), (F.conv_CAL_STATUS_STATE c, if ok then 2 else 3),
      (F.conv_CAL_STATUS_FAIL c, fail), (F.conv_CAL_STATUS_TIME c, min ms 0xFFFF)]
    s.raise (carPage c) (if ok then 3 else 4)

/-- A background correction step of a converter, at most 0.05 dB and 0.05 ps (R96). -/
def State.bgCal (s : State) (c k : Nat) (gain time : Int) : State :=
  if !s.engine c then s
  else
    let v := s.car c
    let o := spGet {} v.conv k
    let lim := fun (x : Int) => max (-5) (min 5 x)
    s.setCar c { v with conv := spPut {} v.conv k { gain := o.gain + lim gain, time := o.time + lim time } }

/-! ## The trigger of a capture (R101, R102) -/

/-- What a record's header says of the moment of the trigger (R102): superframe count and core frame; RATE, and RX_STATUS with the
estimates. Two widths are the model's own: SF_COUNT and the core frame take 8 and 2 bytes, and each of the five values from byte 32 on
takes 4, in the form of its register. -/
def State.capSight (s : State) (c : Nat) : CapSight :=
  { time := leBytes 8 (s.cget F.core_SF_COUNT_C) ++ leBytes 2 (s.fget F.core_CORE_STATUS_FRAME)
    rate := leBytes 4 (s.storedReg .warden (carPage c) 0x40)
    chain := leBytes 4 (s.storedReg .warden (carPage c) 0x54) ++ leBytes 4 (s.fget (F.dsp_CD_EST_CD c)) ++
      leBytes 4 (s.fget (F.dsp_FO_EST_FO c)) ++ leBytes 4 (s.fget (F.dsp_SNR_X_SNR c)) ++ leBytes 4 (s.fget (F.dsp_SNR_Y_SNR c)) }

/-- The 64-byte record header (R102). A cycle in the idle cycle of a long core frame reports 1,151 (R174); that it takes 2 bytes is the
model's own reading. -/
def capHeader (c ctl : Nat) (at_ : CapSight) (samples bytes cycle : Nat) : List Nat :=
  padTo 64 (leBytes 4 0x43415054 ++ leBytes 2 c ++ leBytes 2 ctl ++ at_.time ++ leBytes 2 (min cycle 1151) ++ at_.rate ++
    leBytes 4 samples ++ leBytes 4 bytes ++ at_.chain)

/-- An event that CAPTURE_CTRL.TRIG may name: where an armed capture waits for it, this is its trigger (R101, R105). -/
def State.capEvent (s : State) (c trig : Nat) : State :=
  let v := s.car c
  if s.fget (F.cap_CAPTURE_STATUS_STATE c) != 1 || v.cap.seen.isSome || bitsOf v.cap.ctl 5 3 != trig then s
  else s.setCar c { v with cap := { v.cap with seen := some (s.capSight c) } }

/-! ## Line marker (R121, R122) -/

/-- The carrier's line-marker machine leaves LM_LOCK (R121): REM_ fields read 0, the framer goes IDLE, and a carrier
bond is no longer aligned (R236). -/
def State.lmLost (s : State) (c : Nat) : State :=
  let v := s.car c
  let s := s.setCar c { v with lmGood := 0, lmBad := 0, lastFc := none, since := 0, unitNo := 0, units := [], bits := [] }
  let s := { s with prot := { s.prot with bondUnits := s.prot.bondUnits.set c [] } }
  let was := s.flag (F.lm_LM_STATUS_LOCK c)
  let s := s.fsets [(F.lm_LM_STATUS_LOCK c, 0), (F.lm_LM_STATUS_RATE_MISMATCH c, 0),
    (F.lm_LM_STATUS_REM_LM_LOCK c, 0), (F.lm_LM_STATUS_REM_IN_FRAME c, 0), (F.lm_LM_STATUS_REM_DSP_LOCK c, 0),
    (F.lm_LM_STATUS_REM_BOND_EN c, 0), (F.lm_LM_STATUS_REM_ROLE c, 0), (F.lm_LM_STATUS_REM_BOND_ID c, 0)]
  let s := s.onlyIf was fun s => (s.raise (carPage c + 7) 0).cadd (F.lm_LM_LOSS_C c) 1
  let s := s.onlyIf (s.carBonded && s.flag F.bond_CBOND_STATUS_ALIGNED) fun s =>
    (s.fset F.bond_CBOND_STATUS_ALIGNED 0).raise 0x90 4
  (s.onlyIf (decide (2 ≤ s.framer (256 + c))) fun s => s.capEvent c 5).frmIdle (256 + c)

/-! ## Receive chain (R91, R92, R98) -/

/-- PILOT_LOCK and DSP_LOCK take values; a change of DSP_LOCK raises LOCK_CHG; a fall of PILOT_LOCK loses the line marker
at once (R121). -/
def State.setLocks (s : State) (c : Nat) (pilot dsp : Bool) : State :=
  let wasP := s.flag (F.car_RX_STATUS_PILOT_LOCK c)
  let wasD := s.flag (F.car_RX_STATUS_DSP_LOCK c)
  let s := (s.fput (F.car_RX_STATUS_PILOT_LOCK c) pilot).fput (F.car_RX_STATUS_DSP_LOCK c) dsp
  let s := s.onlyIf (wasD != dsp) fun s => s.raise (carPage c) 2
  let s := s.onlyIf (wasD && !dsp) fun s => s.capEvent c 4
  let s := s.onlyIf (!pilot) fun s => s.setCar c { s.car c with lockWhole := false }
  s.onlyIf (wasP && !pilot) fun s => s.lmLost c

/-- The receive chain starts: it waits for a signal, or searches at once (R98 step 6, R105 STAGE). -/
def State.rxStart (s : State) (c : Nat) : State :=
  s.fset (F.car_RX_STATUS_STAGE c) (if s.flag (F.car_RX_STATUS_SIG c) then 2 else 1)

/-- The receive chain stops: STAGE reads 0 and every lock bit falls (R105). -/
def State.rxStop (s : State) (c : Nat) : State :=
  let s := s.setLocks c false false
  let s := s.setCar c { s.car c with frozenDsp := false, cdFrom := none }
  (s.fsets [(F.car_RX_STATUS_STAGE c, 0), (F.car_RX_STATUS_FROZEN c, 0), (F.car_RX_STATUS_CD_LOCK c, 0),
    (F.car_RX_STATUS_TIM_LOCK c, 0), (F.car_RX_STATUS_EQ_CONV c, 0), (F.car_RX_STATUS_FO_LOCK c, 0)]).lmLost c

/-- SIG falls (R92): a capture that it triggers sees the chain frozen and unlocked, as it is from that moment. -/
def State.carSigFall (s : State) (c : Nat) : State :=
  if !s.flag (F.car_RX_STATUS_SIG c) then s
  else
    let s := ((s.fset (F.car_RX_STATUS_SIG c) 0).raise (carPage c) 0).cadd (F.car_SIG_LOSS_CNT_C c) 1
    let s := s.onlyIf (decide (2 ≤ s.fget (F.car_RX_STATUS_STAGE c))) fun s =>
      let s := s.setCar c { s.car c with frozenDsp := s.flag (F.car_RX_STATUS_DSP_LOCK c) }
      (s.fset (F.car_RX_STATUS_FROZEN c) 1).setLocks c false false
    (s.capEvent c 1).defects

/-- SIG rises (R92): frozen stages resume; a chain that waited begins its search. -/
def State.carSigRise (s : State) (c : Nat) : State :=
  if s.flag (F.car_RX_STATUS_SIG c) || !s.engine c then s
  else
    let s := (s.fset (F.car_RX_STATUS_SIG c) 1).raise (carPage c) 1
    let s := s.fset (F.car_RX_STATUS_FROZEN c) 0
    let s := s.onlyIf (s.fget (F.car_RX_STATUS_STAGE c) == 1) fun s => s.fset (F.car_RX_STATUS_STAGE c) 2
    s.defects

/-- FREEZE expires (R92): the kept lock bits fall and acquisition restarts, waiting for a signal while there is none (R98, R105); with
CD_KEEP the dispersion search begins at the last estimate. -/
def State.freezeExpires (s : State) (c : Nat) : State :=
  if !s.flag (F.car_RX_STATUS_FROZEN c) then s
  else
    let from_ := if s.flag (F.car_RX_CFG_CD_KEEP c) then some (s.fget (F.dsp_CD_EST_CD c)) else none
    let s := s.setCar c { s.car c with frozenDsp := false, cdFrom := from_ }
    (s.fsets [(F.car_RX_STATUS_FROZEN c, 0), (F.car_RX_STATUS_CD_LOCK c, 0), (F.car_RX_STATUS_TIM_LOCK c, 0),
      (F.car_RX_STATUS_EQ_CONV c, 0), (F.car_RX_STATUS_FO_LOCK c, 0)]).rxStart c

/-- The dispersion, in 0.01 ns/nm, that a search finds where the fibre shows `cd` (R91): within the CD_CFG range, a fixed value where its
ends are equal, and within 100 ns/nm either way. -/
def State.cdFound (s : State) (c : Nat) (cd : Int) : Int :=
  let lo := max (-10000) (min 10000 (signedOf 16 (s.fget (F.dsp_CD_CFG_LO c))))
  let hi := max lo (min 10000 (signedOf 16 (s.fget (F.dsp_CD_CFG_HI c))))
  max lo (min hi cd)

/-- The estimates of page B + 3 are refreshed (R104): the dispersion is held once its search has ended, and frequency recovery reaches
3.2 GHz either way (R91). -/
def State.setEstimates (s : State) (c : Nat) (e : DspEst) : State :=
  let s := s.onlyIf (!s.flag (F.car_RX_STATUS_CD_LOCK c)) fun s => s.fset (F.dsp_CD_EST_CD c) (ofSigned 32 (s.cdFound c e.cd))
  s.fsets [(F.dsp_DGD_EST_DGD c, e.dgd), (F.dsp_SOP_RATE_SOP c, e.sop),
    (F.dsp_FO_EST_FO c, ofSigned 32 (max (-3200) (min 3200 e.fo))), (F.dsp_SNR_X_SNR c, e.snrX), (F.dsp_SNR_Y_SNR c, e.snrY)]

/-- In MODE 1 the pilots alone locate the frame (R290): the framer follows PILOT_LOCK. -/
def State.foreLock (s : State) (c : Nat) : State :=
  if s.foreMode c && s.flag (F.car_RX_STATUS_PILOT_LOCK c) && s.framer (256 + c) = 0 then s.enterOof (256 + c) else s

/-- An acquisition stage completes (R91, R98). After a freeze a chain that had DSP_LOCK regains both locks (R92). -/
def State.stageDone (s : State) (c : Nat) : State :=
  if !s.flag (F.car_RX_STATUS_SIG c) || s.flag (F.car_RX_STATUS_FROZEN c) then s
  else if (s.car c).frozenDsp then
    let s := s.setCar c { s.car c with frozenDsp := false }
    (s.setLocks c true true).foreLock c
  else match s.fget (F.car_RX_STATUS_STAGE c) with
    | 2 => s.fsets [(F.car_RX_STATUS_CD_LOCK c, 1), (F.car_RX_STATUS_STAGE c, 3)]
    | 3 => s.fsets [(F.car_RX_STATUS_TIM_LOCK c, 1), (F.car_RX_STATUS_EQ_CONV c, 1), (F.car_RX_STATUS_STAGE c, 4)]
    | 4 => s.fsets [(F.car_RX_STATUS_FO_LOCK c, 1), (F.car_RX_STATUS_STAGE c, 5)]
    | 5 => ((s.setLocks c true false).fset (F.car_RX_STATUS_STAGE c) 6).foreLock c
    | 6 =>
      if s.flag (F.car_RX_STATUS_PILOT_LOCK c) then s.setLocks c true true
      else (s.setLocks c true false).foreLock c
    | _ => s

/-- An acquisition stage completes with its estimates; frozen stages adapt nothing (R91, R92). -/
def State.stageAdvance (s : State) (c : Nat) (est : DspEst) : State :=
  if s.flag (F.car_RX_STATUS_FROZEN c) then s else (s.setEstimates c est).stageDone c

/-! ## Enable, disable, engine power (R47, R81, R97, R98, R100) -/

/-- An enable by a write through region `al` acts: refused without the engine or with an inadmissible mode, held while CALC or DRAINING is 1 (R49,
R81); otherwise the calibration of the enable starts (R97). -/
def State.carEnable (s : State) (c m : Nat) (al : Nat := 0) : State :=
  let p := carPage c
  if s.enabled p then s
  else if !s.engine c then s.logErr p 0xD m al 0xC
  else if s.flag (F.car_CFG_STATUS_CALC c) || s.draining p then s.setCar c { s.car c with heldEn := some (m, al) }
  else if !s.flag (F.car_CFG_STATUS_VALID c) then s.logErr p 0xB m al 0xC
  else if (s.car c).cal.isSome then s.logErr p 8 m al 0xC
  else ((s.fset (enFl p) 1).calStart c .enable).defects

/-- A held enable takes effect (R49, R81). -/
def State.carHeld (s : State) (c : Nat) : State :=
  match (s.car c).heldEn with
  | none => s
  | some (m, al) => (s.setCar c { s.car c with heldEn := none }).carEnable c m al

/-- A carrier is disabled (R47, R97): it drains to a codeword boundary; a calibration of its enable is abandoned; the
slot datapath of its port drains too (R48). -/
def State.carDisable (s : State) (c : Nat) : State :=
  let p := carPage c
  let s := s.setCar c { s.car c with heldEn := none }
  if !s.enabled p then s
  else
    let s := s.onlyIf ((s.car c).cal == some .enable) fun s =>
      (s.setCar c { s.car c with cal := none }).fsets [(F.conv_CAL_STATUS_STATE c, 0), (F.hdr_BLK_STATUS_MAINT p, 0)]
    let s := ((s.fset (enFl p) 0).setReady p false).fset (F.hdr_BLK_STATUS_DRAINING p) 1
    (s.drainPort (s.carPort c)).defects

/-- The disable of a carrier takes effect (R47): it is dark; a held enable then acts (R49). -/
def State.carDrained (s : State) (c : Nat) : State :=
  let p := carPage c
  if !s.draining p then s
  else
    let s := s.fset (F.hdr_BLK_STATUS_DRAINING p) 0
    let v := s.car c
    let s := s.setCar c { v with
      chain := false, txFc := 0, txOh := [], txD := 0, txData := [], txUnits := [], txBits := [], txMfas := 0, rxOh := none, rxPay := [], rxBond := none }
    ((s.rxStop c).defects).carHeld c

/-- The rate-mode evaluation ends (R81). -/
def State.rateDone (s : State) (c : Nat) : State :=
  if !s.flag (F.car_CFG_STATUS_CALC c) then s
  else ((s.rateEvaluate c).raise (carPage c) 8).carHeld c

/-- PWR_CTRL.ENGINE_ON is written (R98, R100). Once the domain is off its pages lose their state and SIG reads 0. -/
def State.engineWrite (s : State) (m : Master) (c : Nat) (on : Bool) : State :=
  let p := carPage c
  if on then s.fset (F.car_PWR_CTRL_ENGINE_ON c) 1
  else if s.enabled p || s.draining p || (s.car c).cal.isSome then s.log p 4 m 0x58
  else
    let s := s.fsets [(F.car_PWR_CTRL_ENGINE_ON c, 0), (F.car_PWR_CTRL_ENGINE_PWR c, 0), (F.car_RX_STATUS_SIG c, 0)]
    let s := ((List.range 8).map fun k => p + 2 + k).foldl (fun s q => (s.dropFields q 0x40 false).dropCounters q) s
    let v := s.car c
    let s := s.setCar c { v with conv := [], cap := {}, units := [], bits := [], rxPay := [], rxOh := none, rxBond := none }
    s.defects

/-- The engine domain finishes powering up (R98 step 2). -/
def State.enginePowered (s : State) (c : Nat) : State :=
  if s.flag (F.car_PWR_CTRL_ENGINE_ON c) then s.fset (F.car_PWR_CTRL_ENGINE_PWR c) 1 else s

/-- A carrier becomes READY (R46): converters calibrated and the transmit chain running, after its enable. -/
def State.carReady (s : State) (c : Nat) : State :=
  let p := carPage c
  if s.enabled p && (s.car c).chain && (s.car c).cal.isNone && !s.ready p then
    ((s.setReady p true).rxStart c).defects
  else s

/-! ## Light (R99) -/

/-- No switchover holds this device's lasers: at a takeover they rise at B1, at a handover they fall with it (R349). -/
def State.lightAllowed (s : State) : Bool :=
  s.mayTransmit && s.twin.sw != .soon && s.twin.sw != .waitB1 && s.twin.sw != .handedOver

/-- The level of C{c}_LASER_EN (R99). -/
def State.laser (s : State) (c : Nat) : Bool :=
  let p := carPage c
  s.ready p && s.enabled p && s.flag (F.car_TX_CTRL_TX_EN c) && (s.car c).cal.isNone && s.lightAllowed

/-- The transmit chain runs: started by the enable, with TX_EN set (R98, R105). -/
def State.txRuns (s : State) (c : Nat) : Bool := (s.car c).chain && s.flag (F.car_TX_CTRL_TX_EN c)

/-- DARK: the transmit chain runs with light withheld (R99). -/
def State.dark (s : State) (c : Nat) : Bool := s.txRuns c && !s.laser c

/-- The line frames that a carrier sends begin again: FC at 0, and an empty OTUCn buffer (R120). -/
def State.txAfresh (s : State) (c : Nat) : State :=
  s.setCar c { s.car c with txFc := 0, txUnits := [], txBits := [], txMfas := 0 }

/-- TX_CTRL is written (R99): FC restarts when the chain starts (R120). -/
def State.txWrite (s : State) (m : Master) (c region be data : Nat) : State :=
  let ran := s.txRuns c
  let s := s.plainWrite m (carPage c) 0x50 region be data
  s.onlyIf (!ran && s.txRuns c) fun s => s.txAfresh c

/-! ## Precursors and the 1 ms checks (R93, R105, R112, R229) -/

/-- STEP_DB: 0 acts as 1, above 10 as 10. -/
def State.stepDb (s : State) (c : Nat) : Nat := max 1 (min 10 (s.fget (F.prot_PREC_CFG_STEP_DB c)))

/-- A 128 ns power window differs from the mean of the previous eight by `db` (R229). -/
def State.powerStep (s : State) (c : Nat) (db : Nat) : State :=
  if s.flag (F.prot_PREC_CFG_STEP_EN c) && decide (1 ≤ s.fget (F.car_RX_STATUS_STAGE c)) && decide (s.stepDb c ≤ db) then
    (s.precursor (256 + c) 0).capEvent c 2
  else s

/-- Judge a carrier's pilot errors and corrected bits over a grid window (R229, R112, R293). -/
def State.judgeWindow (s : State) (c pilots wrong : Nat) : State :=
  let v := s.car c
  let whole := v.lockWhole && s.flag (F.car_RX_STATUS_PILOT_LOCK c)
  let pct := max 1 (s.fget (F.prot_PREC_CFG_PILOT_PCT c))
  let thr := max 1 (s.fget (F.prot_PREC_CFG_SURGE_THR c))
  let s := s.onlyIf (whole && s.flag (F.prot_PREC_CFG_PILOT_EN c) && decide (pct * pilots < 100 * wrong)) fun s =>
    (s.precursor (256 + c) 1).capEvent c 3
  let s := s.onlyIf (whole && s.flag (F.prot_PREC_CFG_SURGE_EN c) && decide (thr * v.winBits < 1024 * v.winCorr)) fun s =>
    s.precursor (256 + c) 2
  s.setCar c { s.car c with lockWhole := s.flag (F.car_RX_STATUS_PILOT_LOCK c), winCorr := 0, winBits := 0 }

/-- A 1 ms window ends: estimates are refreshed (R104), and more than 1 in 10^4 samples at full scale raise ADC_CLIP
(R105). -/
def State.msWindow (s : State) (c : Nat) (est : DspEst) (clipped samples : Nat) : State :=
  if !s.engine c then s
  else
    let s := s.onlyIf (decide (2 ≤ s.fget (F.car_RX_STATUS_STAGE c)) && !s.flag (F.car_RX_STATUS_FROZEN c)) fun s => s.setEstimates c est
    s.onlyIf (decide (samples < 10000 * clipped)) fun s => s.raise (carPage c) 9

/-! ## Capture (R101 to R103, R105) -/

/-- A capture, its copy or a histogram is in progress. -/
def State.capBusy (s : State) (c : Nat) : Bool :=
  let st := s.fget (F.cap_CAPTURE_STATUS_STATE c)
  st != 0 && st != 4

/-- CAPTURE_CTRL is written (R101, R105). That a CAPTURE_LEN out of 1 to 1,000 acts as the nearest bound is the model's own (DESIGN
CHOICE, log 111). -/
def State.capCmd (s : State) (m : Master) (c data : Nat) : State :=
  let p := carPage c + 5
  let arm := bitOf data 0
  if 5 ≤ bitsOf data 2 3 || 6 ≤ bitsOf data 5 3 then s.log p 9 m 0x40
  else if arm && s.capBusy c then s.log p 8 m 0x40
  else if arm && !s.ready (0x2B0 + c) then s.log p 0xC m 0x40
  else
    let s := s.fsets [(F.cap_CAPTURE_CTRL_POINT c, bitsOf data 2 3), (F.cap_CAPTURE_CTRL_TRIG c, bitsOf data 5 3),
      (F.cap_CAPTURE_CTRL_PRE c, bitsOf data 8 3), (F.cap_CAPTURE_CTRL_HIST c, bitsOf data 11 1)]
    let s := s.onlyIf (bitOf data 1) fun s => s.capAbort c
    if arm && !bitOf data 1 then
      let v := s.car c
      let s := s.setCar c { v with cap := { v.cap with
        ctl := data % 65536, lenMs := max 1 (min 1000 (s.fget (F.cap_CAPTURE_LEN_MS c))),
        seen := if bitsOf data 5 3 = 0 || bitOf data 11 then some (s.capSight c) else none, hdr := [], data := [] } }
      s.fset (F.cap_CAPTURE_STATUS_STATE c) (if bitOf data 11 then 3 else 1)
    else s

/-- Bytes of one sample of all four streams, or of one symbol period of both (R101): four 8-bit streams of ADC samples, two of 16 + 16
bits after phase recovery. The spec gives the other points no format: that width is a free value. -/
def capWidth (point : Nat) : Nat :=
  if point = 0 then 4 else if point = 2 then 8 else max 1 (min 8388608 (Config.captureWidth point))

/-- What a capture keeps of the samples before and after its trigger, oldest first (R101): the SRAM's 8 MiB of them, PRE eighths from
before it, or as many of these as there are. -/
def capSamples (ctl : Nat) (before after : List Nat) : List Nat :=
  let w := capWidth (bitsOf ctl 2 3)
  let n := 8388608 / w
  let pre := min (n * bitsOf ctl 8 3 / 8) (before.length / w)
  before.drop (before.length - pre * w) ++ after.take (min (n - n * bitsOf ctl 8 3 / 8) (after.length / w) * w)

/-- The SRAM is filled after the trigger of an armed capture has occurred (R101). -/
def State.capTrigger (s : State) (c cycle : Nat) (before after : List Nat) : State :=
  let v := s.car c
  match v.cap.seen with
  | none => s
  | some at_ =>
    if s.fget (F.cap_CAPTURE_STATUS_STATE c) != 1 then s
    else
      let data := capSamples v.cap.ctl before after
      let n := data.length / capWidth (bitsOf v.cap.ctl 2 3)
      let s := s.setCar c { v with cap := { v.cap with
        seen := none, hdr := capHeader c v.cap.ctl at_ n data.length cycle, data := data } }
      s.fset (F.cap_CAPTURE_STATUS_STATE c) 2

/-- Bytes written to the carrier's window, which is a ring of 1 GiB (R101, R214). -/
def State.ringWrite (s : State) (c off : Nat) : List Nat → State
  | [] => s
  | b :: l => (s.memWrite c (0x7A0000000 + off % 0x40000000) [b]).ringWrite c (off + 1) l

/-- A record is stored and CAPTURE_DONE raised (R101): OFFSET names it, in units of 64 bytes. -/
def State.capStore (s : State) (c : Nat) (record : List Nat) : State :=
  let v := s.car c
  let at_ := v.cap.ring
  let s := s.ringWrite c at_ record
  let s := s.setCar c { v with cap := { v.cap with
    seen := none, hdr := [], data := [], ring := (at_ + (record.length + 63) / 64 * 64) % 0x40000000 } }
  (s.fsets [(F.cap_CAPTURE_STATUS_STATE c, 4), (F.cap_CAPTURE_STATUS_OFFSET c, at_ / 64)]).raise (carPage c) 5

/-- The copy to the window completes (R101). -/
def State.capCopied (s : State) (c : Nat) : State :=
  if s.fget (F.cap_CAPTURE_STATUS_STATE c) != 2 then s
  else s.capStore c ((s.car c).cap.hdr ++ (s.car c).cap.data)

/-- Bins of one polarisation, as 32-bit counts that saturate (R103). -/
def histBytes (bins : List Nat) : List Nat :=
  ((List.range 4096).map fun i => leBytes 4 (min (2 ^ 32 - 1) (bins.getD i 0))).flatten

/-- A histogram completes (R103): a record with trigger field 0 and 32,768 data bytes; what its header shows is of the arm, the
immediate trigger. What the header's count of samples holds is the model's own: the 4,096 bins of a polarisation. -/
def State.histDone (s : State) (c cycle : Nat) (x y : List Nat) : State :=
  let v := s.car c
  match v.cap.seen with
  | none => s
  | some at_ =>
    if s.fget (F.cap_CAPTURE_STATUS_STATE c) != 3 then s
    else s.capStore c (capHeader c (v.cap.ctl - bitsOf v.cap.ctl 5 3 * 32) at_ 4096 32768 cycle ++ histBytes x ++ histBytes y)

/-! ## Front-end bus (R104, R105) -/

/-- FE_CMD is written: 1 writes, 2 reads. -/
def State.feCmd (s : State) (m : Master) (c data : Nat) : State :=
  let p := carPage c + 1
  let op := bitsOf data 0 2
  let len := bitsOf data 16 6
  if op = 0 || op = 3 || len = 0 || 32 < len then s.log p 9 m 0x40
  else if s.flag (F.fe_FE_STATUS_BUSY c) then s.log p 8 m 0x40
  else
    let s := s.setCar c { s.car c with fe := some (op, bitsOf data 8 7, len) }
    let buf := ((List.range 8).map fun i => leBytes 4 (s.fget (F.fe_FE_BUF_DATA c i))).flatten
    (s.fset (F.fe_FE_STATUS_BUSY c) 1).emit (.frontEnd c op (bitsOf data 8 7) len (if op = 1 then buf.take len else []))

/-- The transaction completes (R105): a read's bytes are in the buffer; or it was not acknowledged. -/
def State.feDone (s : State) (c : Nat) (ack : Bool) (bytes : List Nat) : State :=
  match (s.car c).fe with
  | none => s
  | some (op, _, len) =>
    let s := s.setCar c { s.car c with fe := none }
    let s := s.fsets [(F.fe_FE_STATUS_BUSY c, 0), (F.fe_FE_STATUS_NACK c, b2n (!ack))]
    let old := ((List.range 8).map fun i => leBytes 4 (s.fget (F.fe_FE_BUF_DATA c i))).flatten
    let new := padTo len bytes ++ old.drop len
    let s := s.onlyIf (ack && op == 2) fun s =>
      (List.range 8).foldl (fun s i => s.fset (F.fe_FE_BUF_DATA c i) (leNat ((new.drop (4 * i)).take 4))) s
    s.raise (carPage c) (if ack then 6 else 7)

end Sys2Proof.Machine
end

