-- ==== Sys2Proof/Machine/LabelOps.lean ====
section
/-! DEFINITION. The label channel: packets and their symbols, the transmitters and the receivers
(spec/13_label_channel.md).

Readings fixed here (notes/assumptions): 41 DEDUCED, 82 DEDUCED, 83 PRESUMED, 84 DEDUCED. -/

namespace Sys2Proof.Machine

/-! ## Packets (R362 to R365) -/

/-- CRC-8 of R253 over the 16 bits [23:8] of a label header (R363). -/
def lblCrc8 (x : Nat) : Nat := (bitsMsb 16 x).foldl (crcBit 8 0x07) 0

/-- The header of a packet (R363). -/
def lblHeader (len typ : Nat) : Nat :=
  let x := len * 256 + typ * 16
  x * 256 + lblCrc8 x

/-- `n` bits of the PRBS11 x^11 + x^9 + 1 from a register state, its output being stage 11 (R364). -/
def prbs11 : Nat → Nat → List Bool
  | 0, _ => []
  | n + 1, r => bitOf r 10 :: prbs11 n (r * 2 % 2048 + b2n (bitOf r 10 != bitOf r 8))

/-- Scramble or descramble a payload field (R364). -/
def lblScramble (l : List Bool) : List Bool :=
  (l.zip (prbs11 l.length 2047)).map fun e => e.1 != e.2

/-- Pad with zeros to a multiple of `n`. -/
def padField (n : Nat) (l : List Bool) : List Bool := l ++ List.replicate ((n - l.length % n) % n) false

/-- The parity of the taps of a register of 7 bits, the present bit first (R364). -/
def tapParity (taps : List Bool) (l : List Bool) : Bool :=
  (taps.zip l).foldl (fun a e => a != (e.1 && e.2)) false

/-- Generators 171 and 133 in octal, the present bit first. -/
def gen171 : List Bool := [true, true, true, true, false, false, true]
def gen133 : List Bool := [true, false, true, true, false, true, true]

/-- The coded bits of information bits, by a register whose first entry is the previous bit; of each group of 4, x0, y0,
y1, x2 and y3 are kept (R364). -/
def convolve : Nat → List Bool → List Bool → List Bool
  | _, _, [] => []
  | i, reg, u :: l =>
    let w := u :: reg
    let x := tapParity gen171 w
    let y := tapParity gen133 w
    (match i % 4 with | 0 => [x, y] | 2 => [x] | _ => [y]) ++ convolve (i + 1) (w.take 6) l

/-- The tail-biting punctured code of a field (R364). -/
def lblCode (l : List Bool) : List Bool := convolve 0 (l.reverse.take 6) l

/-- The value whose Gray code is `w` (R364). -/
def unGray (sf w : Nat) : Nat := msbNat ((bitsMsb sf w).foldl (fun a b => a ++ [a.getLastD false != b]) [])

/-- The 5 symbol values of a block of 5 × SF coded bits (R364). -/
def blockSymbols (sf : Nat) (b : List Bool) : List Nat :=
  (List.range 5).map fun j =>
    unGray sf (msbNat ((List.range sf).map fun q => b.getD (5 * q + j) false))

/-- The symbol values of a field's bits (R364). -/
def fieldSymbols (sf : Nat) (l : List Bool) : List Nat :=
  let bits := lblCode (padField (4 * sf) l)
  (List.range (bits.length / (5 * sf))).flatMap fun i => blockSymbols sf ((bits.drop (i * 5 * sf)).take (5 * sf))

/-- Data symbols alternate, the first rising (R362). -/
def alternate : Bool → List Nat → List (Bool × Nat)
  | _, [] => []
  | b, v :: l => (b, v) :: alternate (!b) l

/-- The symbols of a packet (R362). -/
def lblSymbols (sf netid typ : Nat) (payload : List Nat) : List (Bool × Nat) :=
  let crc := crc16 payload
  let bits := ((payload ++ [crc / 256, crc % 256]).map byteBits).flatten
  List.replicate 9 (false, 0) ++ List.replicate 2 (true, 0) ++
    alternate true (netid * 2 ^ (sf - 7) :: fieldSymbols sf (bitsMsb 24 (lblHeader payload.length typ)) ++
      fieldSymbols sf (lblScramble bits))

/-! ## The transmitter (R365 to R367) -/

/-- The label page of a carrier. -/
def lblPage (c : Nat) : Nat := 0x1C + 0x10 * c

/-- The transmitter of a carrier. -/
def State.ltx (s : State) (c : Nat) : LblTx := spGet {} s.lblTx c

/-- Replace it; USER_PEND and STATE follow. -/
def State.setLtx (s : State) (c : Nat) (v : LblTx) : State :=
  ({ s with lblTx := spPut {} s.lblTx c v } : State).fsets
    [(F.lbl_LBL_TX_STATUS_USER_PEND c, b2n v.user.isSome),
     (F.lbl_LBL_TX_STATUS_STATE c, (v.cur.map (·.kind)).getD 0)]

/-- The transmitter can send (R367). -/
def State.lblCanSend (s : State) (c : Nat) : Bool := s.laser c && s.txRuns c

/-- Bytes 0 to 8 of IDENT and GASP: serial number and carrier (R365). -/
def lblSource (c : Nat) : List Nat := beBytes 8 Config.serial ++ [c]

/-- The payload of an IDENT (R365). -/
def State.identPayload (s : State) (c : Nat) : List Nat :=
  lblSource c ++ [s.dev.twinRole + 4 * s.fget F.bond_CBOND_CTRL_EN] ++
    beBytes 4 (s.storedReg .warden (carPage c) 0x40) ++ beBytes 2 (s.fget (F.lbl_LBL_TX_ID_FREQ c)) ++
    beBytes 4 (s.fget (F.lbl_LBL_TX_TAG0_TAG c)) ++ beBytes 4 (s.fget (F.lbl_LBL_TX_TAG1_TAG c))

/-- The payload of a GASP for a reason (R365). -/
def State.gaspPayload (s : State) (c : Nat) (g : Nat × Nat) : List Nat :=
  lblSource c ++ [g.1, if g.1 = 1 then g.2 else 0, s.dev.mode.code]

/-- SF of a field that holds SF − 7; 6 and 7 act as 5 (R376). -/
def lblSf (x : Nat) : Nat := 7 + min 5 x

/-- The message type of what LBL_TX_STATUS.STATE shows as 1 IDENT, 2 USER, 3 GASP (R365, R376). -/
def lblType (kind : Nat) : Nat := if kind = 2 then 3 else if kind = 3 then 2 else kind

/-- A packet goes on the air. -/
def State.lblOnAir (s : State) (c : Nat) (p : LblPacket) : State :=
  let depth := max 5 (min 40 (s.fget (F.lbl_LBL_TX_CFG_DEPTH c)))
  (s.setLtx c { s.ltx c with cur := some p }).emit
    (.label c p.kind p.payload p.sf depth
      (lblSymbols p.sf (s.fget (F.lbl_LBL_TX_CFG_NETID c)) (lblType p.kind) p.payload))

/-- An idle transmitter that can send starts what waits: a GASP first, then a USER, then an IDENT (R366). -/
def State.lblNext (s : State) (c : Nat) : State :=
  let t := s.ltx c
  if t.cur.isSome || !s.lblCanSend c || !s.flag (F.lbl_LBL_TX_CFG_EN c) then s
  else
    let sf := lblSf (s.fget (F.lbl_LBL_TX_CFG_SF c))
    match t.gasps, t.user, t.ident with
    | g :: l, _, _ =>
      ((s.setLtx c { t with gasps := l }).fset (F.lbl_LBL_TX_STATUS_GASP_DONE c) 0).lblOnAir c
        ⟨3, s.gaspPayload c g, lblSf (s.fget (F.lbl_LBL_TX_CFG_GASP_SF c))⟩
    | [], some u, _ => (s.setLtx c { t with user := none }).lblOnAir c ⟨2, u, sf⟩
    | [], none, true => (s.setLtx c { t with ident := false }).lblOnAir c ⟨1, s.identPayload c, sf⟩
    | [], none, false => s

/-- The packet in progress is no more; the ramp-out has ended it (R358). -/
def State.lblStops (s : State) (c : Nat) : State :=
  (s.setLtx c { s.ltx c with cur := none, cut := none }).emit (.labelStop c)

/-- A packet is cut (R366, R367). -/
def State.lblCut (s : State) (c : Nat) : State :=
  let s := s.lblStops c
  ((s.cadd (F.lbl_TX_CUT_C c) 1).raise (lblPage c) 2).fset (F.lbl_LBL_TX_STATUS_RESULT c) 2

/-- A packet in progress is cut when the light or the chain has gone; an idle transmitter starts what waits (R367). -/
def State.lblFollow (s : State) (c : Nat) : State :=
  let s := s.onlyIf ((s.ltx c).cur.isSome && !s.lblCanSend c) fun s => s.lblCut c
  s.lblNext c

/-- A command finds the transmitter unable to send (R367). -/
def State.lblDark (s : State) (m : Master) (c : Nat) : State :=
  (s.fset (F.lbl_LBL_TX_STATUS_RESULT c) 1).log (lblPage c) 0xA m 0x50

/-- LBL_CMD SEND_USER (R366, R367, R375). -/
def State.lblSendUser (s : State) (m : Master) (c data : Nat) : State :=
  let len := bitsOf data 8 8
  if len = 0 || 64 < len then s.log (lblPage c) 0xB m 0x50
  else if !s.lblCanSend c || !s.flag (F.lbl_LBL_TX_CFG_EN c) then s.lblDark m c
  else if (s.ltx c).user.isSome then s.log (lblPage c) 8 m 0x50
  else
    let buf := (List.range 16).flatMap fun i => leBytes 4 (s.fget (F.lbl_LBL_TXBUF_DATA c i))
    (s.setLtx c { s.ltx c with user := some (buf.take len) }).lblNext c

/-- A GASP is due for a reason: an IDENT or USER in progress ends at its next symbol boundary, the next LABEL_PACKET_SENT, and the
GASP waits for it, as it does for another GASP, one for each reason (R366). -/
def State.gaspDue (s : State) (c reason code : Nat) : State :=
  let t := s.ltx c
  let s := if t.gasps.any (fun g => g.1 == reason) then s else s.setLtx c { t with gasps := t.gasps ++ [(reason, code)] }
  let s := s.onlyIf (match (s.ltx c).cur with | some p => p.kind != 3 | none => false) fun s =>
    s.setLtx c { s.ltx c with cut := some true }
  s.lblNext c

/-- LBL_CMD GASP (R366, R367). -/
def State.lblGaspCmd (s : State) (m : Master) (c data : Nat) : State :=
  if !s.lblCanSend c || !s.flag (F.lbl_LBL_TX_CFG_EN c) then s.lblDark m c
  else s.gaspDue c 1 (bitsOf data 16 8)

/-- An event sends a GASP where its bit of LBL_GASP_CFG is set and the transmitter can send (R366): reason 2 SIG lost, 3
thermal, 4 rail. -/
def State.gaspEvent (s : State) (c reason : Nat) : State :=
  if bitOf (s.fget (F.lbl_LBL_GASP_CFG_EN c)) (reason - 2) && s.lblCanSend c && s.flag (F.lbl_LBL_TX_CFG_EN c)
  then s.gaspDue c reason 0 else s

/-- LBL_CMD ABORT ends an IDENT or USER in progress at the next symbol boundary, the next LABEL_PACKET_SENT (R376); a GASP that cuts
it already goes on doing so. -/
def State.lblAbort (s : State) (c : Nat) : State :=
  match (s.ltx c).cur with
  | some p =>
    if p.kind = 3 || (s.ltx c).cut.isSome then s else s.setLtx c { s.ltx c with cut := some false }
  | none => s

/-- A write of LBL_CMD (R376). -/
def State.lblCmd (s : State) (m : Master) (c data : Nat) : State :=
  match bitsOf data 0 2 with
  | 1 => s.lblSendUser m c data
  | 2 => s.lblGaspCmd m c data
  | 3 => s.lblAbort c
  | _ => s.log (lblPage c) 9 m 0x50

/-- The IDENT period elapses (R366); PERIOD 0 sends none. -/
def State.identDue (s : State) (c : Nat) : State :=
  if s.fget (F.lbl_LBL_TX_CFG_PERIOD c) = 0 || !s.lblCanSend c || !s.flag (F.lbl_LBL_TX_CFG_EN c) then s
  else (s.setLtx c { s.ltx c with ident := true }).lblNext c

/-- A packet ends: it is complete, or it has reached the symbol boundary at which it is cut (R366, R376, R377). -/
def State.lblSent (s : State) (c : Nat) : State :=
  match (s.ltx c).cur, (s.ltx c).cut with
  | none, _ => s
  | some _, some true => (s.lblCut c).lblNext c
  | some _, some false => (s.lblStops c).lblNext c
  | some p, none =>
    let s := ((s.setLtx c { s.ltx c with cur := none }).cadd (F.lbl_TX_PKTS_C c) 1).fset (F.lbl_LBL_TX_STATUS_RESULT c) 0
    let s := s.onlyIf (p.kind == 2) fun s => s.raise (lblPage c) 0
    let s := s.onlyIf (p.kind == 3) fun s =>
      ((s.cadd (F.lbl_GASP_SENT_C c) 1).raise (lblPage c) 1).fset (F.lbl_LBL_TX_STATUS_GASP_DONE c) 1
    s.lblNext c

/-! ## Receivers (R368 to R373) -/

/-- Page and base of a receiver: 0 and 1 the carriers', 2 and 3 the monitors' (R368, R375). -/
def rxPage (x : Nat) : Nat := if x < 2 then lblPage x else 0x2C0
def rxBase (x : Nat) : Nat := if x = 3 then 0x800 else 0x400

/-- A field of RX_CFG. -/
def rxCfg (x lo w rst : Nat) : Fl := ⟨rxPage x, rxBase x, lo, w, rst⟩

/-- RX_CFG.EN: 1 at reset on carrier pages, 0 on page 0x2C0 (R376). -/
def rxEnFl (x : Nat) : Fl := rxCfg x 0 1 (if x < 2 then 1 else 0)

/-- A counter of a receiver, by its place from R + 0x100 (R377): 0 RX_OK, 1 HDR_BAD, 2 PAY_BAD, 3 PREEMPTED, 4 RESTARTS,
5 NETID_MISMATCH, 6 RXQ_DROP, 7 CANDIDATES. -/
def rxCt (x k : Nat) : Ct := ⟨rxPage x, rxBase x + 0x100 + 8 * k, 64⟩

/-- INT_STATUS bit of a receiver's event: 0 RX_PKT, 1 GASP_RX, 2 RXQ_OVF (R376). -/
def rxBit (x k : Nat) : Nat := (if x = 3 then 6 else 3) + k

/-- A receiver. -/
def State.lrx (s : State) (x : Nat) : LblRx := spGet {} s.lblRx x

/-- Replace it. -/
def State.setLrx (s : State) (x : Nat) (v : LblRx) : State := { s with lblRx := spPut {} s.lblRx x v }

/-- A receiver runs (R368). -/
def State.lrxRuns (s : State) (x : Nat) : Bool :=
  s.booted && s.flag (rxEnFl x) && (decide (2 ≤ x) || s.ready (carPage x))

/-- RX_STATUS of a receiver (R376). -/
def State.rxStatusWord (s : State) (x : Nat) : Nat :=
  if !s.lrxRuns x then 0
  else
    let r := s.lrx x
    match r.cur with
    | none => 1 + 32 * r.held.length
    | some k => (if r.hdr.isSome then 3 else 2) + 4 * (k.sf - 7) + 32 * r.held.length + 65536 * (k.c % 65536)

/-- A DWORD of RXQ_HEAD (R376). -/
def State.rxqHead (s : State) (x i : Nat) : Nat :=
  match (s.lrx x).queue with
  | [] => 0
  | q :: _ => leNat ((q.drop (4 * i)).take 4)

/-- A receiver that has stopped drops what it was decoding. -/
def State.lrxFollow (s : State) (x : Nat) : State :=
  if s.lrxRuns x || ((s.lrx x).cur.isNone && (s.lrx x).held.isEmpty) then s
  else s.setLrx x { s.lrx x with cur := none, hdr := none, held := [] }

/-- Held candidates, newest first: by qualification time, then by C (R372). -/
def newerCand (a b : LblCand) : Bool := decide (b.start < a.start) || (a.start == b.start && decide (b.c ≤ a.c))

/-- Insert a candidate among those held, newest first. -/
def holdCand (k : LblCand) : List LblCand → List LblCand
  | [] => [k]
  | h :: l => if newerCand k h then k :: h :: l else h :: holdCand k l

/-- A candidate while a packet is decoded: the two best are held; a new one displaces the weaker only if its C is higher
(R370). -/
def holdBest (k : LblCand) (l : List LblCand) : List LblCand :=
  if l.length < 2 then holdCand k l
  else
    let weak := l.foldl (fun m h => if h.c < m.c then h else m) (l.headD k)
    if weak.c < k.c then holdCand k (l.erase weak) else l

/-- A candidate qualifies at a sample time with its SF, C in 0.1 dB and NETID (R369). -/
def State.lblCandidate (s : State) (x sf c netid time : Nat) : State :=
  let thr := s.fget (rxCfg x 21 7 0xC)
  if !s.lrxRuns x || !bitOf (s.fget (rxCfg x 1 6 0x3F)) (sf - 7) || decide (c < thr * 5) then s
  else
    let s := s.cadd (rxCt x 7) 1
    if s.flag (rxCfg x 7 1 0) && s.fget (rxCfg x 8 7 0x2D) != netid then s.cadd (rxCt x 5) 1
    else
      let r := s.lrx x
      let k : LblCand := ⟨r.count, sf, c, time⟩
      match r.cur with
      | none => s.setLrx x { r with cur := some k, hdr := none, count := r.count + 1 }
      | some _ => s.setLrx x { r with held := holdBest k r.held, count := r.count + 1 }

/-- Decoding goes on from the newest held candidate, or the receiver searches (R370, R372). -/
def State.lrxNext (s : State) (x : Nat) : State :=
  let r := s.lrx x
  s.setLrx x { r with cur := r.held.head?, hdr := none, held := r.held.drop 1 }

/-- A header's 24 bits have been decoded (R363, R370). -/
def State.lblHeaderDecoded (s : State) (x hdr : Nat) (corrected : Bool) : State :=
  let r := s.lrx x
  if r.cur.isNone || r.hdr.isSome then s
  else
    let len := bitsOf hdr 16 8
    if lblCrc8 (hdr / 256) != hdr % 256 || len = 0 || 64 < len then
      ((s.cadd (rxCt x 1) 1).cadd (rxCt x 4) 1).lrxNext x
    else s.setLrx x { r with hdr := some (bitsOf hdr 12 4, len, corrected) }

/-- CAPTURE_DB in 0.1 dB; outside 3 to 12 it acts as the nearer limit (R371). -/
def State.captureTenths (s : State) (x : Nat) : Nat := 10 * max 3 (min 12 (s.fget (rxCfg x 16 4 6)))

/-- A symbol boundary: a held candidate that exceeds the packet by CAPTURE_DB pre-empts it; of two, the one with the higher C
(R371). -/
def State.lblBoundary (s : State) (x : Nat) : State :=
  let r := s.lrx x
  match r.cur with
  | none => s
  | some p =>
    let strong := r.held.filter fun h => decide (p.c + s.captureTenths x ≤ h.c)
    match strong with
    | [] => s
    | h :: l =>
      let best := l.foldl (fun b k => if b.c < k.c then k else b) h
      (s.setLrx x { r with cur := some best, hdr := none, held := r.held.filter (· != best) }).cadd (rxCt x 3) 1

/-- The record of a delivered packet (R373). -/
def State.lblRecord (s : State) (sf typ len : Nat) (ok corrected : Bool) (c : Nat) (rate snr : Int) (depth : Nat)
    (payload : List Nat) : List Nat :=
  leBytes 4 (sf + 16 * typ + 256 * len + 65536 * b2n ok + 131072 * b2n corrected) ++
  leBytes 4 (c % 65536 + 65536 * ofSigned 16 rate) ++ leBytes 4 (ofSigned 16 snr + 65536 * (depth % 65536)) ++
  leBytes 4 (s.cget F.core_SF_COUNT_C) ++ leBytes 4 (s.fget F.odu_TICK_SEQ_SEQ) ++ leBytes 4 0 ++
  padTo 64 payload ++ List.replicate 8 0

/-- A record enters the queue of 16, or is dropped; a GASP raises GASP_RX and is journalled (R373). -/
def State.lblDeliver (s : State) (x typ : Nat) (rec : List Nat) : State :=
  let r := s.lrx x
  let s := if r.queue.length < 16 then (s.setLrx x { r with queue := r.queue ++ [rec] }).raise (rxPage x) (rxBit x 0)
    else (s.cadd (rxCt x 6) 1).raise (rxPage x) (rxBit x 2)
  s.onlyIf (typ == 2) fun s =>
    (s.raise (rxPage x) (rxBit x 1)).jrnl 10 hwMaster (rxPage x) (x :: rec.take 4 ++ (rec.drop 24).take 12)

/-- What the estimators report of a packet beside its bits (R373): RATE_ERR in 0.01 %, label SNR in 0.1 dB, depth in 0.01 %. -/
def State.lblPacketEnd (s : State) (x now : Nat) (bytes : List Nat) (corrected : Bool) (rate snr : Int) (depth : Nat) : State :=
  let r := s.lrx x
  match r.cur, r.hdr with
  | some p, some (typ, len, hc) =>
    let clear := (lblScramble ((bytes.take (len + 2)).map byteBits).flatten)
    let plain := bytesOfBits clear
    let payload := plain.take len
    let ok := plain.length == len + 2 && beNat (plain.drop len) == crc16 payload
    let rec_ := s.lblRecord p.sf typ len ok (hc || corrected) p.c rate snr depth payload
    let s := if ok then
        ((s.cadd (rxCt x 0) 1).lblDeliver x typ rec_)
      else (s.cadd (rxCt x 2) 1).onlyIf (s.flag (rxCfg x 20 1 0)) fun s => s.lblDeliver x typ rec_
    let r := s.lrx x
    let held := r.held.filter fun h => (!ok || decide (now ≤ h.start)) && decide (now ≤ h.start + 640000)
    (s.setLrx x { r with held := held }).lrxNext x
  | _, _ => s

/-- RXQ_CMD is written: 1 POP, 2 FLUSH (R376). -/
def State.rxqCmd (s : State) (m : Master) (x op : Nat) : State :=
  match op with
  | 1 => s.setLrx x { s.lrx x with queue := (s.lrx x).queue.drop 1 }
  | 2 => s.setLrx x { s.lrx x with queue := [] }
  | _ => s.log (rxPage x) 9 m (rxBase x + 8)

end Sys2Proof.Machine
end

