-- ==== Sys2Proof/Machine/LaneCode.lean ====
section
/-! DEFINITION. The codes of an electrical lane: symbols and precoding, the Reed-Solomon code, training frames, slot-lane frames
(spec/09_lanes.md R242, R243, R253 to R256, R265, R270 to R275).

Readings fixed here (notes/assumptions): 67 PRESUMED, 114 DESIGN CHOICE. -/

namespace Sys2Proof.Machine

/-! ## Line symbols (R242, R243) -/

/-- The Gray symbols of bit pairs (R242). -/
def graySyms : List Bool → List Nat
  | a :: b :: l => (if a then (if b then 2 else 3) else b2n b) :: graySyms l
  | _ => []

/-- The bit pairs of Gray symbols. -/
def grayPairs (l : List Nat) : List Bool := l.flatMap fun g => [decide (2 ≤ g), g == 1 || g == 2]

/-- Precoded symbols (R242): P(k) = (G(k) − P(k − 1)) mod 4. -/
def precodeSyms : Nat → List Nat → List Nat
  | _, [] => []
  | last, g :: l => (g + 4 - last) % 4 :: precodeSyms ((g + 4 - last) % 4) l

/-- What a precoding receiver recovers (R242): G(k) = (P(k) + P(k − 1)) mod 4. -/
def unprecodeSyms : Nat → List Nat → List Nat
  | _, [] => []
  | last, p :: l => (p + last) % 4 :: unprecodeSyms p l

/-- Symbols with the polarity inverted (R243): of PAM4, or of NRZ. -/
def invertSyms (pam on : Bool) (l : List Nat) : List Nat := if on then l.map fun x => (if pam then 3 else 1) - x else l

/-! ## RS(544,514) (R272, IEEE 802.3 Clause 91) -/

/-- Multiplication by α in GF(2^10), primitive polynomial x^10 + x^3 + 1. -/
def gfTimesA (x : Nat) : Nat := if bitOf x 9 then (2 * x % 1024) ^^^ 9 else 2 * x

/-- Multiplication in GF(2^10). -/
def gfMul (x y : Nat) : Nat :=
  ((List.range 10).foldl (fun (p : Nat × Nat) i => (if bitOf y i then p.1 ^^^ p.2 else p.1, gfTimesA p.2)) (0, x)).1

/-- The generator polynomial's coefficients below its leading 1, highest first: the product of (x − α^j), j = 0 to 29. -/
def rsGenerator : List Nat :=
  ((List.range 30).foldl (fun (p : List Nat × Nat) _ =>
    let shifted := p.1 ++ [0]
    let scaled := 0 :: p.1.map (gfMul p.2)
    (List.zipWith (· ^^^ ·) shifted scaled, gfTimesA p.2)) ([1], 1)).1.drop 1

/-- The 30 parity symbols of 514 information symbols. -/
def rsParity (info : List Nat) : List Nat :=
  info.foldl (fun reg x =>
    let fb := x ^^^ reg.headD 0
    List.zipWith (· ^^^ ·) (reg.drop 1 ++ [0]) (rsGenerator.map (gfMul fb))) (List.replicate 30 0)

/-- The symbols of each codeword of information bits, parity after them (R272). -/
def rsCodewords (bits : List Bool) : List (List Nat) :=
  let syms := (pieces 10 (bits.length / 10) bits).map msbNat
  (pieces 514 (syms.length / 514) syms).map fun cw => cw ++ rsParity cw

/-- The bits of symbols of ten bits. -/
def symBits (l : List Nat) : List Bool := (l.map (bitsMsb 10)).flatten

/-- The bits of a frame with its codewords' parity (R272). -/
def rsEncode (bits : List Bool) : List Bool := symBits (rsCodewords bits).flatten

/-- The received bits of `n` codewords with the decoder's corrections, each a symbol's index and the bits to invert, and the
codewords that are not corrected: those that need more than 15 corrections or do not satisfy the code after them (R272, R275). -/
def rsCorrect (n : Nat) (fixes : List (Nat × Nat)) (bits : List Bool) : List Bool × List Nat :=
  let cws := (pieces 544 n ((pieces 10 (544 * n) bits).map msbNat)).mapIdx fun i cw =>
    let mine := fixes.filter fun e => e.1 / 544 == i
    let cw' := mine.foldl (fun l e => l.modify (e.1 % 544) (· ^^^ e.2)) cw
    (cw', decide (mine.length ≤ 15) && cw'.drop 514 == rsParity (cw'.take 514))
  (symBits (cws.map fun e => e.1.take 514).flatten, (List.range n).filter fun i => !(cws.getD i ([], true)).2)

/-! ## Training frames (R253 to R256, R265) -/

/-- CRC-8 of bits, polynomial x^8 + x^2 + x + 1, preset zero (R253). -/
def crc8 (l : List Bool) : Nat :=
  l.foldl (crcBit 8 7) 0

/-- The CRC-8 of a training frame's fields, most significant bit first. -/
def fieldsCrc (control status : Nat) : Nat := crc8 (bitsMsb 16 control ++ bitsMsb 16 status)

/-- Bits of the PRBS13 x^13 + x^12 + x^2 + x + 1 from a register, and the register after them (R253): its output is taken as that of
the PRBS31 is, the first bit after loading. -/
def prbs13 : Nat → Nat → List Bool × Nat
  | 0, r => ([], r)
  | n + 1, r =>
    let fb := bitOf r 12 != (bitOf r 11 != (bitOf r 1 != bitOf r 0))
    let x := prbs13 n ((2 * r) % 2 ^ 13 + b2n fb)
    (bitOf r 12 :: x.1, x.2)

/-- A training frame's 4,096 symbols, with the marker inverted in a Galop, and the PRBS13 register after it (R253, R265). -/
def trainingFrame (pam galop : Bool) (control status seed : Nat) : List Nat × Nat :=
  let hi := if pam then 3 else 1
  let lvl := fun (b : Bool) => if b then hi else 0
  let fields := bitsMsb 16 control ++ bitsMsb 16 status ++ bitsMsb 8 (fieldsCrc control status)
  let pattern := prbs13 ((4096 - 224) * (if pam then 2 else 1)) seed
  (List.replicate 32 (lvl !galop) ++ List.replicate 32 (lvl galop) ++
      fields.flatMap (fun b => [lvl b, lvl b, lvl !b, lvl !b]) ++ (if pam then graySyms pattern.1 else pattern.1.map lvl),
    pattern.2)

/-- The symbols of `n` frames in a row. -/
def trainingFrames (pam galop : Bool) (control status : Nat) : Nat → Nat → List Nat
  | 0, _ => []
  | n + 1, seed =>
    let x := trainingFrame pam galop control status seed
    x.1 ++ trainingFrames pam galop control status n x.2

/-- UI of a 64-UI window whose signs agree with the marker (R256). -/
def markerAgreement (signs : Nat) : Nat :=
  ((List.range 64).filter fun i => bitOf signs i == decide (32 ≤ i)).length

/-! ## Slot-lane frames (R270 to R274) -/

/-- MARKER of a slot-lane frame (R271). -/
def slMarker : List Nat := [0x9E, 0x4C, 0x71, 0xB2, 0xA5, 0x0D, 0x38, 0xE6, 0xF1, 0xD7]

/-- W of a slot-lane format. -/
def slW (format : Nat) : Nat := if format = 3 then 128 else 64

/-- Header bytes of a slot-lane frame. -/
def slHb (format : Nat) : Nat := if format = 3 then 582 else 291

/-- RS codewords of a slot-lane frame. -/
def slCodewords (format : Nat) : Nat := if format = 3 then 28 else 14

/-- An 80-bit window differs from MARKER in at most 4 bits (R274). -/
def slMarkerOk (l : List Bool) : Bool :=
  l.length == 80 && decide (((List.zipWith (· != ·) l (bitsOfBytes slMarker)).filter id).length ≤ 4)

/-- The bits on the line of a frame with a header and each unit's 64 words (R270, R272). -/
def slFrameBits (header : List Nat) (units : List (List Nat)) : List Bool :=
  let words := (List.range 64).flatMap fun q => units.map fun l => bitsMsb 17 (l.getD q stuffWord % 2 ^ 17)
  let bits := bitsOfBytes header ++ words.flatten
  rsEncode (bits.take 80 ++ scramble 0 (bits.drop 80))

/-- A received frame's information bits, descrambled: header bytes and the bits of its words (R272). -/
def slFrame (format : Nat) (bits : List Bool) : List Nat × List Bool :=
  let plain := bits.take 80 ++ scramble 0 (bits.drop 80)
  (bytesOfBits (plain.take (8 * slHb format)), plain.drop (8 * slHb format))

/-- The header's CRC holds (R271). -/
def slHeaderOk (format : Nat) (h : List Nat) : Bool :=
  h.length == slHb format && ohField h (slHb format - 4) 4 == crc32 (h.take (slHb format - 4))

/-- FC of a frame, if its header is good; otherwise the number given. -/
def slFc (format : Nat) (h : List Nat) (other : Nat) : Nat := if slHeaderOk format h then ohField h 10 4 else other

/-- The words of a frame, as slot words: P regenerated, and inverted where an uncorrected codeword contributes (R273,
R275). -/
def slWords (format : Nat) (bits : List Bool) (bad : List Nat) : List Nat :=
  (pieces 17 (64 * slW format) bits).mapIdx fun i l =>
    let at_ := 8 * slHb format + 17 * i
    let w := parityWord (msbNat l)
    if bad.any fun k => decide (k * 5140 < at_ + 17) && decide (at_ < k * 5140 + 5140) then w ^^^ 2 ^ 17 else w

/-- The valid words of a frame, by slot-lane unit. -/
def slUnitWords (format : Nat) (ws : List Nat) (j : Nat) : List Nat :=
  ((List.range 64).map fun q => ws.getD (q * slW format + j) stuffWord).filter fun w => bitOf w 16

end Sys2Proof.Machine
end

