-- ==== Sys2Proof/Machine/LaneOps.lean ====
section
/-! DEFINITION. The electrical lanes: rates, taps, training, idle and sleep, eye scan, loopback (spec/09_lanes.md R242 to
R268, R276 to R280).

Readings fixed here (notes/assumptions): 7 DESIGN CHOICE, 20 DEDUCED, 21 DEDUCED, 22 DEDUCED, 35 DEDUCED, 62 DEDUCED,
63 DEDUCED, 64 DESIGN CHOICE, 65 DEDUCED, 66 DEDUCED, 79 DEDUCED, 114 DESIGN CHOICE. -/

namespace Sys2Proof.Machine


/-! ## Rates (R244, R245) -/

/-- The symbol rate of a PLL in kBd, or 0 (R245): the FlexO rate is "about" 111.81 GBd. -/
def pllKbd (sel custom : Nat) : Nat :=
  match sel with
  | 1 => 106250000
  | 2 => 111810000
  | 3 => 49766400
  | 4 => if 24000000 ≤ custom ∧ custom ≤ 116000000 then custom else 0
  | _ => 0

/-- RATE_SEL of a PLL of octet `k`: 5 to 7 act as 0. -/
def State.pllSel (s : State) (k : Nat) (b : Bool) : Nat :=
  let x := if b then s.fget (F.oct_PLL_B_RATE_SEL k) else s.fget (F.oct_PLL_A_RATE_SEL k)
  if x > 4 then 0 else x

/-- A PLL's LOCK. -/
def State.pllLock (s : State) (k : Nat) (b : Bool) : Bool :=
  if b then s.flag (F.oct_PLL_B_LOCK k) else s.flag (F.oct_PLL_A_LOCK k)

/-- A PLL's rate in kBd. -/
def State.pllRate (s : State) (k : Nat) (b : Bool) : Nat :=
  pllKbd (s.pllSel k b) (if b then s.fget (F.oct_PLL_B_CUSTOM_KBD k) else s.fget (F.oct_PLL_A_CUSTOM_KBD k))

/-- DIV of a lane; 0 where it is refused. -/
def State.laneDiv (s : State) (n : Nat) : Nat := [1, 2, 4, 0].getD (s.fget (F.lane_LANE_CFG_DIV n)) 0

/-- The rate of the PLL a lane selects, in kBd; the lane's symbol rate is this divided by `laneDiv`. -/
def State.lanePll (s : State) (n : Nat) : Nat := s.pllRate (n / 8) (s.flag (F.lane_LANE_CFG_PLL_SEL n))

/-- The lane's symbol rate lies above a rate in kBd. -/
def State.laneOver (s : State) (n kbd : Nat) : Bool := decide (kbd * s.laneDiv n < s.lanePll n)

/-- The lane's symbol rate lies from one rate in kBd to another. -/
def State.laneWithin (s : State) (n lo hi : Nat) : Bool :=
  decide (lo * s.laneDiv n ≤ s.lanePll n) && decide (s.lanePll n ≤ hi * s.laneDiv n)

/-- The lane's symbols are PAM4 (R244). -/
def State.lanePam4 (s : State) (n : Nat) : Bool :=
  match s.laneFormat n with
  | 0 => s.flag (F.lane_LANE_CFG_MOD n)
  | 5 => false
  | _ => true

/-- The lane's format, PLL and division agree, and the PLL is locked (R244, R245). -/
def State.laneRateOk (s : State) (n : Nat) : Bool :=
  let b := s.flag (F.lane_LANE_CFG_PLL_SEL n)
  let sel := s.pllSel (n / 8) b
  let div := s.laneDiv n
  s.pllLock (n / 8) b && div != 0 &&
  (match s.laneFormat n with
    | 0 => if s.lanePam4 n then s.laneWithin n 24000000 116000000 else s.laneWithin n 10000000 56000000
    | 1 => sel == 2 && div == 2
    | 2 => sel == 2 && div == 1
    | 3 => sel == 1 && div == 1
    | 4 => sel == 1 && div == 2
    | 5 => sel == 3 && div == 4
    | _ => false)

/-! ## Octets (R245, R278) -/

/-- READY of an octet page: every PLL that is on is locked. -/
def State.octShow (s : State) (k : Nat) : State :=
  s.setReady (0x200 + k) ([false, true].all fun b => s.pllSel k b == 0 || s.pllLock k b)

/-- The lanes of an octet. -/
def octLanes (k : Nat) : List Nat := (List.range 8).map (8 * k + ·)

/-- PLL_A or PLL_B is written (R245). -/
def State.pllWrite (s : State) (m : Master) (k : Nat) (b : Bool) (region be data : Nat) : State :=
  let p := 0x200 + k
  let off := if b then 0x44 else 0x40
  if (octLanes k).any fun n => s.enabled (0x100 + n) && s.flag (F.lane_LANE_CFG_PLL_SEL n) == b then
    s.logErr p 4 (masterId m) region off
  else ((s.plainWrite m p off region be data).fset (if b then F.oct_PLL_B_LOCK k else F.oct_PLL_A_LOCK k) 0).octShow k

/-- A PLL locks: one that is on, with a valid rate (R245). -/
def State.pllLocks (s : State) (k : Nat) (b : Bool) : State :=
  if s.enabled (0x200 + k) && s.pllRate k b != 0 then
    (s.fset (if b then F.oct_PLL_B_LOCK k else F.oct_PLL_A_LOCK k) 1).octShow k
  else s

/-- An octet's power is switched (R278): clearing EN while a lane is enabled logs IN_USE; the lane pages lose their state
with the power. -/
def State.octEnable (s : State) (m : Master) (k : Nat) (en : Bool) : State :=
  let p := 0x200 + k
  if en then s.fset (enFl p) 1
  else if (octLanes k).any fun n => s.enabled (0x100 + n) then s.log p 4 m 0xC
  else if !s.enabled p then s
  else
    let s := (s.fset (enFl p) 0).fsets [(F.oct_PLL_A_LOCK k, 0), (F.oct_PLL_B_LOCK k, 0)]
    let s := (octLanes k).foldl (fun s n => ((s.dropFields (0x100 + n) 0x40 false).dropCounters (0x100 + n)).setLane n {}) s
    (s.octShow k).defects

/-! ## Transmitter taps (R246) -/

/-- The side taps' fields: c(−3), c(−2), c(−1), c(1), c(2), with their widths. -/
def firFields (n : Nat) : List (Fl × Nat) :=
  [(F.lane_TX_FIR_CM3 n, 4), (F.lane_TX_FIR_CM2 n, 5), (F.lane_TX_FIR_CM1 n, 6), (F.lane_TX_FIR_C1 n, 5), (F.lane_TX_FIR_C2 n, 4)]

/-- The range of each side tap. -/
def firRange : List (Int × Int) := [(-4, 4), (-8, 8), (-22, 0), (-13, 0), (-5, 5)]

/-- The side taps of a lane. -/
def State.taps (s : State) (n : Nat) : List Int := (firFields n).map fun e => signedOf e.2 (s.fget e.1)

/-- The main tap: 64 less the sum of the side taps' magnitudes. -/
def mainTap (l : List Int) : Int := 64 - l.foldl (fun a x => a + (if x < 0 then -x else x)) 0

/-- Every side tap lies in its range. -/
def tapsInRange (l : List Int) : Bool := (List.zipWith (fun x r => decide (r.1 ≤ x) && decide (x ≤ r.2)) l firRange).all id

/-- Write the taps, and C0 with them. -/
def State.setTaps (s : State) (n : Nat) (l : List Int) : State :=
  (s.fsets (List.zipWith (fun e x => (e.1, ofSigned e.2 x)) (firFields n) l)).fset (F.lane_TX_FIR_C0 n) (mainTap l).toNat

/-- The presets (R246). -/
def firPreset : Nat → List Int
  | 2 => [0, 0, -6, -4, 0]
  | 3 => [0, 2, -10, -6, 1]
  | _ => [0, 0, 0, 0, 0]

/-- TRAIN_STATUS.STATE. -/
def State.trainState (s : State) (n : Nat) : Nat := s.fget (F.lane_TRAIN_STATUS_STATE n)

/-- An attempt is in progress: SENDING, ADAPTING or COUNTDOWN. -/
def State.attempting (s : State) (n : Nat) : Bool := decide (1 ≤ s.trainState n) && decide (s.trainState n ≤ 3)

/-- TX_FIR is written (R246, R261). -/
def State.firWrite (s : State) (m : Master) (n region be data : Nat) : State :=
  let p := 0x100 + n
  let d := s.mergedWord p 0x54 region be data
  let l := [signedOf 4 (bitsOf d 0 4), signedOf 5 (bitsOf d 4 5), signedOf 6 (bitsOf d 9 6), signedOf 5 (bitsOf d 15 5),
    signedOf 4 (bitsOf d 20 4)]
  if s.attempting n then s.logErr p 8 (masterId m) region 0x54
  else if !tapsInRange l || mainTap l < 32 then s.logErr p 0xB (masterId m) region 0x54
  else s.setTaps n l

/-! ## Precoding without training (R252) -/

/-- The settings of PRECODE: own transmitter; own receiver, none where it is detected. -/
def State.precodeRule (s : State) (n : Nat) : Bool × Option Bool :=
  if !s.lanePam4 n then (false, some false)
  else match s.fget (F.lane_LANE_CFG_PRECODE n) with
    | 1 => (false, some false)
    | 2 => (true, some true)
    | _ => (s.laneOver n 60000000, none)

/-- What the receiver detects, where it tries both precoding settings (R252, R262): a free value. -/
def State.precodeDetected (s : State) (n : Nat) : State :=
  (s.fset (F.lane_TRAIN_STATUS_PRECODE_RX n) (Config.freeValue s.free % 2)).tick

/-- PRECODE_TX takes a value; the first symbol after precoding is switched on follows P(k − 1) = 0 (R242). -/
def State.setPrecodeTx (s : State) (n : Nat) (on : Bool) : State :=
  (if s.flag (F.lane_TRAIN_STATUS_PRECODE_TX n) = on then s else s.setLane n { s.lane n with lastSym := 0 }).fput
    (F.lane_TRAIN_STATUS_PRECODE_TX n) on

/-- PRECODE_TX and PRECODE_RX where no training has set them: what the receiver detects is a free value. -/
def State.plainPrecode (s : State) (n : Nat) : State :=
  match s.precodeRule n with
  | (tx, some rx) => (s.setPrecodeTx n tx).fput (F.lane_TRAIN_STATUS_PRECODE_RX n) rx
  | (tx, none) => (s.setPrecodeTx n tx).precodeDetected n

/-! ## The transmitter's state (R262, R264, R265) -/

/-- PROTO: 3 acts as 0. -/
def State.proto (s : State) (n : Nat) : Nat := s.fget (F.lane_TRAIN_CFG_PROTO n) % 3

/-- LOOP: 3 acts as 0. -/
def State.loopSel (s : State) (n : Nat) : Nat := s.fget (F.lane_TEST_CTRL_LOOP n) % 3

/-- The lane is unused: no active tributary-table entry names its slot units and it belongs to no bond. -/
def State.laneUnused (s : State) (n : Nat) : Bool :=
  let named := fun (t : TribTables) => t.su.any fun e =>
    decide (160 * n ≤ e.1) && decide (e.1 < 160 * n + 160) && e.2 != 0xFFFFFFFF
  !named s.odu.activeI && !named s.odu.activeE && (s.slBondOf n).isNone

/-- An intrusive test drives the lane's port (R33, R277): loopback or the PRBS functions of TEST_CTRL, in Maintenance, on a lane that is
not unused. -/
def State.testDrives (s : State) (n : Nat) : Bool :=
  s.dev.mode == .maintenance && !s.laneUnused n &&
    (s.loopSel n != 0 || (s.laneFormat n == 0 && (s.flag (F.lane_TEST_CTRL_GEN_EN n) || s.flag (F.lane_TEST_CTRL_CHK_EN n))))

/-- The mode lets the lane's transmitter leave idle (R33, R262): Maintenance of a twin does where an intrusive test drives the lane. -/
def State.laneLit (s : State) (n : Nat) : Bool := s.lightAllowed || s.testDrives n

/-- The mode or the forerunner squelch holds the lane's transmitter idle (R262, R295). -/
def State.laneHeld (s : State) (n : Nat) : Bool :=
  !s.laneLit n || (s.laneFormat n == 5 && s.flag F.fr_FR_STATUS_SQUELCH)

/-- The transmitter state that the lane's conditions call for (R264): 0 active, 1 idle, 2 sleep. TX_EN = 0, the mode, the squelch and
training in OFF, TRAIN_FAIL or RX_ONLY hold it idle, in loopback too (R35). -/
def State.txWanted (s : State) (n : Nat) : Nat :=
  let v := s.lane n
  let asked := if v.txMode = 2 then 2 else if v.txMode = 0 then 0 else 1
  if !s.laneUp n then 1
  else if (!s.flag (F.lane_LANE_CTRL_TX_EN n) && !v.txDrain) || s.laneHeld n then max 1 asked
  else match s.trainState n with
    | 0 | 5 | 6 => max 1 asked
    | _ => asked

/-- Frames of a Galop: GALOP_LEN, from 1 to 48, and no more than fit in 2 µs (R265). -/
def State.galopFrames (s : State) (n : Nat) : Nat :=
  min (max 1 (min 48 (s.fget (F.lane_FRM_CFG_GALOP_LEN n)))) (s.lanePll n / (2048000 * s.laneDiv n))

/-- The transmitter is active: RX_STATUS.TX_STATE = 0. -/
def State.txActive (s : State) (n : Nat) : Bool := s.fget (F.lane_RX_STATUS_TX_STATE n) == 0

/-- Symbols as they leave the pins (R243). -/
def State.atTxPins (s : State) (n : Nat) (l : List Nat) : List Nat := invertSyms (s.lanePam4 n) (s.flag (F.lane_LANE_CFG_TX_POL n)) l

/-- RX_STATUS.TX_STATE takes a value; a change is an event. -/
def State.setTxState (s : State) (n x : Nat) : State :=
  if s.fget (F.lane_RX_STATUS_TX_STATE n) = x then s
  else (s.fset (F.lane_RX_STATUS_TX_STATE n) x).raise (0x100 + n) 6

/-- A Galop is sent (R265): its frames carry no request, and PRECODE_ON alone as status; its pattern starts from the seed of
training. -/
def State.sendGalop (s : State) (n : Nat) : State :=
  let pre := s.flag (F.lane_TRAIN_STATUS_PRECODE_TX n)
  s.emit (.galop n (s.galopFrames n) pre
    (s.atTxPins n (trainingFrames (s.lanePam4 n) true 0 (8 * b2n pre) (s.galopFrames n) (n + 1))))

/-! ## The training machine (R258 to R263) -/

/-- TRAIN_STATUS.STATE takes a value. -/
def State.setTrain (s : State) (n x : Nat) : State := s.fset (F.lane_TRAIN_STATUS_STATE n) x

/-- The receiver asks its partner to precode (R252, R258): PRECODE has no effect on an NRZ lane. -/
def State.asksPrecode (s : State) (n : Nat) : Bool :=
  s.lanePam4 n && (match s.fget (F.lane_LANE_CFG_PRECODE n) with
    | 1 => false
    | 2 => true
    | _ => s.laneOver n 60000000)

/-- A new request: its TAP, STEP and PRESET bits, PRECODE, and TOGGLE inverted (R254). -/
def State.request (s : State) (n body : Nat) : State :=
  let v := s.lane n
  let tog := 1 - bitsOf v.ctl 15 1
  s.setLane n { v with ctl := body % 128 + 128 * b2n (s.asksPrecode n) + 2 ^ 15 * tog, outstanding := true }

/-- The transmitter starts the format (R271): the slot-lane frame counter begins at 0, for a bond with its first member, and
precoding with P(k − 1) = 0 (R242). -/
def State.startStream (s : State) (n : Nat) : State :=
  let s := s.setLane n { s.lane n with txFc := 0, lastSym := 0 }
  let others := (s.portLanes n).any fun q => q != n && (s.trainState q == 4 || s.trainState q == 7 || s.trainState q == 8)
  let f := s.portOfSu (160 * n)
  s.onlyIf ((s.slBondOf n).isSome && !others) fun s => s.setLane f { s.lane f with bondFc := 0, bondSent := [] }

/-- An attempt starts (R258, R260): its opening request is a preset. With PROTO 2 there is no training, and a lane that does
not qualify for PROTO 1 starts none; PROTO 1 holds c(2) at 0 (R251). ACK goes on showing the last request acted on (R255). -/
def State.startAttempt (s : State) (n : Nat) : State :=
  if s.proto n = 2 then ((s.setTrain n 7).startStream n).onlyIf (!(s.lane n).trained) fun s => s.plainPrecode n
  else if s.proto n = 1 && (!s.lanePam4 n || s.laneOver n 56000000) then
    (s.onlyIf (s.trainState n == 6 || s.trainState n == 8) fun s => s.setTrain n 0).fset (F.lane_TRAIN_STATUS_REASON n) 7
  else
    let v := s.lane n
    let count := if v.fresh then 1 else satAdd 255 (s.fget (F.lane_TRAIN_STATUS_ATTEMPT n)) 1
    let s := s.setLane n { v with
      fresh := false, loaded := false, sigRose := s.flag (F.lane_RX_STATUS_SIG n), lock := false, good := 0, bad := 0
      stat := 2 ^ 15 * bitsOf v.stat 15 1, converged := false, rxReady := false, countdown := 7, galopWait := false
      prbs := n + 1, peerIn := none, dataIn := false }
    let s := s.onlyIf (s.proto n == 1) fun s => s.setTaps n ((s.taps n).set 4 0)
    let s := s.fsets [(F.lane_TRAIN_STATUS_ATTEMPT n, count), (F.lane_TRAIN_STATUS_REM_RX_READY n, 0),
      (F.lane_RX_STATUS_EQ_CONV n, 0)]
    let s := (s.setTrain n 1).lcadd n (F.lane_TRAIN_ATTEMPTS_C n) 1
    s.request n (32 * max 1 (s.fget (F.lane_TRAIN_CFG_INIT_PRESET n)))

/-- The transmitter takes the state its conditions call for (R264): leaving idle in DATA or FIXED it sends a Galop; leaving
sleep it warms up first. A transmitter that drains keeps its state until the boundary (R47). -/
def State.applyTx (s : State) (n : Nat) : State :=
  let old := s.fget (F.lane_RX_STATUS_TX_STATE n)
  let new := s.txWanted n
  if (s.lane n).txDrain && s.laneLit n then s
  else if new != 0 then s.setTxState n new
  else if old = 2 then s.setTxState n 3
  else if old = 3 || old = 0 then s
  else
    let s := s.setTxState n 0
    if s.trainState n = 4 || s.trainState n = 7 then s.sendGalop n else s

/-- DATA is entered (R259, R260): TRAIN_DONE, and the interval and the count of attempts start anew; the format's stream begins. -/
def State.toData (s : State) (n : Nat) : State :=
  let s := s.setLane n { s.lane n with trained := true, fresh := true, fails := 0, good := 0 }
  (((s.fset (F.lane_TRAIN_STATUS_BACKOFF n) 0).setTrain n 4).startStream n).raise (0x100 + n) 1

/-- The training machine follows the lane's conditions (R259, R261, R262): disabled, looped, held idle by the mode, or free
to send. Without TX_EN an attempt or TRAIN_FAIL ends in OFF, and DATA and FIXED stay, with the transmitter idle. -/
def State.trainEval (s : State) (n : Nat) : State :=
  let st := s.trainState n
  let v := s.lane n
  let s :=
    if !s.laneUp n then s.setTrain n 0
    else if s.loopSel n != 0 then
      (if st = 8 then s else ((s.setTrain n 8).startStream n).onlyIf (!v.trained) fun s => s.plainPrecode n)
    else if !s.laneLit n then
      (if st = 6 then s else (s.setTrain n 6).onlyIf (!v.trained) fun s =>
        if s.laneFormat n = 0 then s.plainPrecode n else s.onlyIf (s.lanePam4 n) fun s => s.precodeDetected n)
    else if st = 6 && (v.trained || v.loaded) && s.proto n != 2 then
      (s.setLane n { v with dataIn := true }).toData n
    else if !s.flag (F.lane_LANE_CTRL_TX_EN n) then (if st = 4 || st = 7 then s else s.setTrain n 0)
    else match st with
      | 0 | 6 | 8 => s.startAttempt n
      | _ => s
  s.applyTx n

/-- The taps and PRECODE_TX that training has set are recorded for the partner (R337, R343). -/
def State.tapsNoted (s : State) (n : Nat) : State :=
  let note := fun (s : State) (off : Nat) => s.twinNote (.regWrite (0x100 + n) 0 (off / 4) 15 (s.mergedWord (0x100 + n) off 0 0 0) hwMaster)
  note (note s 0x54) 0x50

/-- The lane enters DATA from its countdown (R258, R260). In raw format precoding follows LANE_CFG alone (R252). -/
def State.enterData (s : State) (n : Nat) : State :=
  let asked := bitsOf (s.lane n).ctl 7 1 * b2n (s.lanePam4 n)
  let s := s.onlyIf (s.laneFormat n != 0) fun s => s.fset (F.lane_TRAIN_STATUS_PRECODE_RX n) asked
  ((s.toData n).applyTx n).tapsNoted n

/-- An attempt fails (R260): TRAIN_FAIL with its REASON, and the retry interval. -/
def State.trainFails (s : State) (n reason : Nat) : State :=
  let v := s.lane n
  let s := s.setLane n { v with fails := v.fails + 1, outstanding := false }
  let s := s.fsets [(F.lane_TRAIN_STATUS_REASON n, reason), (F.lane_TRAIN_STATUS_BACKOFF n, min 6 v.fails)]
  ((s.setTrain n 5).raise (0x100 + n) 2).applyTx n

/-- TRAINING_TIMEOUT's REASON (R260). -/
def State.timeoutReason (s : State) (n : Nat) : Nat :=
  let v := s.lane n
  if !v.sigRose then 1 else if s.trainState n = 1 then 2
  else if v.rxReady && !s.flag (F.lane_TRAIN_STATUS_REM_RX_READY n) then 3 else 4

/-- Both receivers are ready: the countdown begins (R258, R259). -/
def State.bothReady (s : State) (n : Nat) : State :=
  if s.trainState n = 2 && (s.lane n).rxReady && s.flag (F.lane_TRAIN_STATUS_REM_RX_READY n) then s.setTrain n 3 else s

/-- RX_READY is set once the equalisers have converged and no request is outstanding (R258). -/
def State.seeReady (s : State) (n : Nat) : State :=
  let v := s.lane n
  if s.trainState n = 2 && v.converged && !v.outstanding then (s.setLane n { v with rxReady := true }).bothReady n else s

/-- The RESULT of a step of a tap, and the taps after it (R246, R254, R255); `held` where c(2) is held at 0 (R251). -/
def stepTap (held : Bool) (l : List Int) (tap step : Nat) : Nat × List Int :=
  if step = 0 || step = 3 then (0, l)
  else if 5 ≤ tap || (held && tap == 4) then (5, l)
  else
    let x := l.getD tap 0 + (if step = 1 then 1 else -1)
    let l' := l.set tap x
    if !tapsInRange l' then (2, l) else if mainTap l' < 32 then (4, l) else (1, l')

/-- The taps of a preset: those of R246, or with PROTO 1 those of IEEE 802.3 with c(2) at 0, where they lie in R246's ranges
(R251). -/
def State.presetTaps (s : State) (n preset : Nat) : List Int :=
  if s.proto n = 1 then
    let l := (Config.ieeePreset preset).take 4 ++ [0]
    if l.length = 5 && tapsInRange l && 32 ≤ mainTap l then l else s.taps n
  else firPreset preset

/-- A new request is acted on exactly once (R257): RESULT, ACK, the taps and PRECODE_ON. PROTO 1 holds c(2) at 0 (R251). -/
def State.actOn (s : State) (n control : Nat) : State :=
  let preset := bitsOf control 5 2
  let held := s.proto n == 1
  let r := if preset != 0 then (3, s.presetTaps n preset)
    else stepTap held (s.taps n) (bitsOf control 0 3) (bitsOf control 3 2)
  let s := s.setTaps n r.2
  let s := s.onlyIf (s.laneFormat n != 0) fun s => s.setPrecodeTx n (bitOf control 7 && s.lanePam4 n)
  s.setLane n { s.lane n with stat := r.1 + 2 ^ 15 * bitsOf control 15 1 }

/-- The lane's receiver takes data: not in an attempt, nor in the DATA that follows one, before the partner's countdown has ended
(R258). -/
def State.takesData (s : State) (n : Nat) : Bool := (s.lane n).dataIn || !(s.attempting n || s.trainState n == 4)

/-- The lane's framer: OOF while a signal is present in a framed format, IDLE otherwise (R274, R284). -/
def State.frmFollow (s : State) (n : Nat) : State :=
  if s.laneUp n && s.flag (F.lane_RX_STATUS_SIG n) && s.laneFormat n != 0 then
    (if s.framer n = 0 then s.enterOof n else s)
  else (s.setLane n { s.lane n with stamps := [] }).frmIdle n

/-- DATA_IN of the partner's countdown frame that has ended (R258): with 0 the receiver takes data from here. -/
def State.peerCount (s : State) (n : Nat) (k : Option Nat) : State :=
  s.setLane n { s.lane n with peerIn := k, dataIn := (s.lane n).dataIn || k == some 0 }

/-- A training frame without a good CRC (R256); one within the partner's countdown is counted in it (R258). -/
def State.trainBad (s : State) (n : Nat) : State :=
  let v := s.lane n
  let s := s.setLane n { v with good := 0, bad := v.bad + 1, lock := v.lock && decide (v.bad + 1 < 16) }
  match v.peerIn with
  | some (k + 1) => s.peerCount n (some k)
  | _ => s

/-- A good training frame that begins at a place of the stream (R256 to R258, R263). In DATA the frames of the partner's own
countdown are no retraining. -/
def State.trainGood (s : State) (n place control status : Nat) : State :=
  let v := s.lane n
  let run := if 0 < v.good ∧ place = v.place + 4096 then v.good + 1 else 1
  let s := s.peerCount n (if bitOf status 8 then some (bitsOf status 5 3) else none)
  if s.trainState n = 4 && bitOf status 8 then s.setLane n { s.lane n with place := place }
  else
    let s := s.setLane n { s.lane n with good := run, bad := 0, lock := v.lock || decide (3 ≤ run), place := place }
    if s.trainState n = 4 then (if 3 ≤ run then (s.startAttempt n).applyTx n else s)
    else if !s.attempting n then s
    else
      let s := s.onlyIf (s.trainState n == 1 && (s.lane n).lock) fun s => s.setTrain n 2
      let s := s.onlyIf (bitsOf control 15 1 != bitsOf (s.lane n).stat 15 1) fun s => s.actOn n control
      let s := s.fset (F.lane_TRAIN_STATUS_REM_RX_READY n) (bitsOf status 4 1)
      let w := s.lane n
      let s := s.onlyIf (w.outstanding && bitsOf status 15 1 == bitsOf w.ctl 15 1) fun s =>
        s.setLane n { w with outstanding := false }
      (s.seeReady n).bothReady n

/-- The candidate with the higher agreement count of those that the second detector holds, and the earlier of equal ones (R256). -/
def bestMarker : List MarkerSeen → Option MarkerSeen
  | [] => none
  | a :: l => match bestMarker l with
    | none => some a
    | some b =>
      let x := markerAgreement a.signs.toNat
      let y := markerAgreement b.signs.toNat
      if y < x ∨ (x = y ∧ a.place ≤ b.place) then some a else some b

/-- A frame is received from a marker candidate (R256): where its CRC fails, reception begins again from the better of the candidates
seen while its fields came in. `later` are the candidates that follow it, `fuel` the receptions that they allow. -/
def State.trainFrame (s : State) (n : Nat) (later : List MarkerSeen) : Nat → MarkerSeen → State
  | 0, _ => s
  | fuel + 1, m =>
    if fieldsCrc m.control.val m.status.val = m.crc.toNat then s.trainGood n m.place m.control.val m.status.val
    else
      let held := later.filter fun x => decide (m.place < x.place) && decide (x.place < m.place + 224)
      match bestMarker held with
      | none => s.trainBad n
      | some x => (s.trainBad n).trainFrame n later fuel x

/-- A marker seen as the receiver sees it, with the polarity put right (R243). -/
def MarkerSeen.inverted (on : Bool) (m : MarkerSeen) : MarkerSeen :=
  if on then { m with signs := ~~~m.signs, control := Fin.rev m.control, status := Fin.rev m.status, crc := ~~~m.crc } else m

/-- What follows a window of the received symbols with at least 60 signs of the marker (R256): a training frame, and the later
candidates that the second detector finds. -/
def State.trainSeen (s : State) (n : Nat) (m : MarkerSeen) (later : List MarkerSeen) : State :=
  if !s.laneUp n || !s.flag (F.lane_RX_STATUS_SIG n) then s
  else
    let fix := MarkerSeen.inverted (s.flag (F.lane_LANE_CFG_RX_POL n))
    let is_ := fun (x : MarkerSeen) => decide (60 ≤ markerAgreement x.signs.toNat)
    let l := (later.map fix).filter is_
    if is_ (fix m) then s.trainFrame n l (l.length + 1) (fix m)
    else s.onlyIf (m.place == (s.lane n).place + 4096 * ((s.lane n).bad + 1)) fun s => s.trainBad n

/-- The status field a lane sends (R255). -/
def State.statusField (s : State) (n : Nat) : Nat :=
  let v := s.lane n
  v.stat % 8 + 8 * s.fget (F.lane_TRAIN_STATUS_PRECODE_TX n) + 16 * b2n v.rxReady +
    (if s.trainState n = 3 then 32 * v.countdown + 256 else 0) + 2 ^ 15 * bitsOf v.stat 15 1

/-- A training frame is sent, by an active transmitter (R253, R258): the receiver's next request goes out when none is outstanding;
the countdown advances to DATA. -/
def State.trainSend (s : State) (n : Nat) (next : Option Nat) : State :=
  if !s.attempting n || !s.txActive n then s
  else
    let s := match next with
      | some body => if s.trainState n = 2 && !(s.lane n).outstanding && !(s.lane n).rxReady then s.request n body else s
      | none => s
    let v := s.lane n
    let x := if s.proto n = 1 then Config.ieeeFrame v.ctl (s.statusField n) v.prbs
      else trainingFrame (s.lanePam4 n) false v.ctl (s.statusField n) v.prbs
    let s := (s.emit (.training n v.ctl (s.statusField n) (s.atTxPins n x.1))).setLane n { v with prbs := x.2 }
    if s.trainState n = 3 then
      (if v.countdown = 0 then s.enterData n else s.setLane n { s.lane n with countdown := v.countdown - 1 })
    else s

/-- The equalisers converge (R247, R258): RX_EQ shows the settings. -/
def State.eqConverged (s : State) (n dc peak dfe : Nat) : State :=
  if !s.laneUp n || !s.flag (F.lane_RX_STATUS_SIG n) then s
  else
    let s := s.fsets [(F.lane_RX_STATUS_EQ_CONV n, 1), (F.lane_RX_EQ_DC_GAIN n, min 16 dc), (F.lane_RX_EQ_PEAK n, min 40 peak),
      (F.lane_RX_EQ_DFE1 n, min 204 dfe)]
    (s.setLane n { s.lane n with converged := true }).seeReady n

/-- A request has gone unacknowledged for 2 ms (R258). -/
def State.noAck (s : State) (n : Nat) : State :=
  if s.attempting n && (s.lane n).outstanding then s.lcadd n (F.lane_NO_ACK_C n) 1 else s

/-- TRAIN_CFG.TIMEOUT expires in an attempt (R260). -/
def State.trainTimeout (s : State) (n : Nat) : State :=
  if s.attempting n then s.trainFails n (s.timeoutReason n) else s

/-- The retry interval ends (R260). -/
def State.backoffEnds (s : State) (n : Nat) : State :=
  if s.trainState n = 5 && s.flag (F.lane_TRAIN_CFG_RETRY_EN n) then (s.startAttempt n).applyTx n else s

/-- TRAIN_CMD is written (R259 to R261). -/
def State.trainCmd (s : State) (m : Master) (n op : Nat) : State :=
  match op with
  | 1 =>
    if s.trainState n = 5 || s.trainState n = 4 || (s.trainState n = 7 && s.proto n != 2) then (s.startAttempt n).trainEval n else s
  | 2 => if s.attempting n then s.trainFails n 6 else s
  | 3 => (s.setLane n { s.lane n with fails := 0 }).fset (F.lane_TRAIN_STATUS_BACKOFF n) 0
  | _ => s.log (0x100 + n) 9 m 0x4C

/-! ## Signal and clock (R248, R249, R263, R266, R267, R276) -/

/-- SLB_STATUS.IN_FRAME and ALIGNED of the bond a lane belongs to follow its members (R234). -/
def State.bondFollow (s : State) (n : Nat) : State :=
  match s.slBondOf n with
  | none => s
  | some j =>
    let ls := s.portLanes (s.fget (F.bond_SLB_CFG_FIRST j))
    let inF := (List.range ls.length).foldl (fun a i => a + 2 ^ i * b2n (s.framer (ls.getD i 0) == 2)) 0
    let s := s.fset (F.bond_SLB_STATUS_IN_FRAME j) inF
    if s.flag (F.bond_SLB_STATUS_ALIGNED j) && ls.any fun q => s.framer q != 2 then
      ((s.fset (F.bond_SLB_STATUS_ALIGNED j) 0).raise 0x90 4).defects
    else s

/-- SIG falls (R248, R260). -/
def State.laneSigFall (s : State) (n : Nat) : State :=
  if !s.flag (F.lane_RX_STATUS_SIG n) then s
  else
    let s := s.fsets [(F.lane_RX_STATUS_SIG n, 0), (F.lane_RX_STATUS_FROZEN n, 1)]
    let s := (s.raise (0x100 + n) 0).lcadd n (F.lane_SIG_LOSS_CNT_C n) 1
    let v := s.lane n
    let s := s.setLane n { v with
      eye := v.eye.map fun _ => false, good := 0, lock := false, galopWait := false, fell := true, peerIn := none }
    let s := s.onlyIf (s.attempting n && v.sigRose) fun s => s.trainFails n 5
    ((s.frmFollow n).bondFollow n).defects

/-- SIG rises (R248, R260, R266): TRAIN_FAIL ends, a frozen receiver resumes. -/
def State.laneSigRise (s : State) (n : Nat) : State :=
  if s.flag (F.lane_RX_STATUS_SIG n) || !s.enabled (0x100 + n) || s.flag (F.lane_RX_STATUS_RX_ASLEEP n) then s
  else
    let s := s.fsets [(F.lane_RX_STATUS_SIG n, 1), (F.lane_RX_STATUS_FROZEN n, 0)]
    let s := s.raise (0x100 + n) 0
    let s := s.setLane n { s.lane n with sigRose := true, galopWait := (s.lane n).fell, fell := false }
    let s := s.onlyIf (s.trainState n == 5) fun s => (s.startAttempt n).applyTx n
    ((s.frmFollow n).bondFollow n).defects

/-- RX_CFG.IDLE_HOLD passes with the receiver frozen (R263): a rise of SIG from now on resumes no frozen state (R266). A receiver that
sleeps keeps its state (R267). -/
def State.idleHoldEnds (s : State) (n : Nat) : State :=
  if !s.flag (F.lane_RX_STATUS_FROZEN n) || s.flag (F.lane_RX_STATUS_RX_ASLEEP n) then s
  else
    let s := s.setLane n { s.lane n with fell := false }
    if s.trainState n = 4 then (s.startAttempt n).applyTx n else s

/-- The last of the Galop frames that have been recognised ends (R266): adaptation has resumed, and the framer searches the data that
begins here. -/
def State.galopHeard (s : State) (n : Nat) : State :=
  if s.flag (F.lane_RX_STATUS_SIG n) && (s.lane n).galopWait then
    let s := (s.setLane n { s.lane n with galopWait := false }).fset (F.lane_RX_STATUS_EQ_CONV n) 1
    s.onlyIf (s.framer n == 1) fun s => s.enterOof n
  else s

/-- Neither a Galop nor an in-frame format has come within 100 µs (R266). -/
def State.galopTimeout (s : State) (n : Nat) : State :=
  if !(s.lane n).galopWait then s
  else
    let s := s.setLane n { s.lane n with galopWait := false }
    if s.framer n < 2 && s.laneUp n && s.trainState n = 4 then (s.startAttempt n).applyTx n else s

/-- The CDR loses lock (R249): the precursor comes only after 10 µs of lock. -/
def State.cdrFall (s : State) (n : Nat) (held : Bool) : State :=
  if !s.flag (F.lane_RX_STATUS_CDR_LOCK n) then s
  else
    let s := s.fset (F.lane_RX_STATUS_CDR_LOCK n) 0
    if held then
      (s.lcadd n (F.lane_CDR_UNLOCK_C n) 1).onlyIf (s.flag F.prot_LANE_PREC_CDR_EN) fun s => s.precursor (s.portOfSu (160 * n)) 3
    else s

/-- The CDR's conditions have held for 10 µs (R249). -/
def State.cdrRise (s : State) (n : Nat) : State :=
  if s.enabled (0x100 + n) && s.flag (F.lane_RX_STATUS_SIG n) then s.fset (F.lane_RX_STATUS_CDR_LOCK n) 1 else s

/-- RX_SLEEP is written (R267): asleep at once; power returns with RX_WAKE_DONE. -/
def State.rxSleep (s : State) (n : Nat) (on : Bool) : State :=
  let s := s.fput (F.lane_LANE_CTRL_RX_SLEEP n) on
  if on && !s.flag (F.lane_RX_STATUS_RX_ASLEEP n) then
    let s := (s.laneSigFall n).fsets [(F.lane_RX_STATUS_RX_ASLEEP n, 1), (F.lane_RX_STATUS_CDR_LOCK n, 0), (F.lane_RX_STATUS_FROZEN n, 1)]
    (s.setLane n { s.lane n with fell := true }).defects
  else s

/-- The receiver regains power (R267): R266 applies as if SIG had just risen. -/
def State.rxWake (s : State) (n : Nat) : State :=
  if s.flag (F.lane_RX_STATUS_RX_ASLEEP n) && !s.flag (F.lane_LANE_CTRL_RX_SLEEP n) then
    (s.fset (F.lane_RX_STATUS_RX_ASLEEP n) 0).laneSigRise n
  else s

/-! ## Enable, disable and LANE_CTRL (R46 to R49, R245, R278) -/

/-- LANE_CFG is written (R278). -/
def State.laneCfgWrite (s : State) (m : Master) (n region be data : Nat) : State :=
  if s.enabled (0x100 + n) then s.logErr (0x100 + n) 0xA (masterId m) region 0x40
  else s.plainWrite m (0x100 + n) 0x40 region be data

/-- BLK_CTRL.EN of a lane becomes 1 (R245), by a write through region `al`: its calibration starts. -/
def State.laneEnable (s : State) (m : Master) (n : Nat) (al : Nat := 0) : State :=
  let p := 0x100 + n
  if s.enabled p then s
  else if s.draining p then s.setLane n { s.lane n with heldEn := some (masterId m, al) }
  else if !s.laneRateOk n then s.logErr p 0xC (masterId m) al 0xC
  else
    let v := s.lane n
    let s := s.setLane n { txMode := s.fget (F.lane_LANE_CTRL_TX_MODE n), fails := v.fails, fresh := v.fresh, loaded := v.loaded }
    (s.fset (enFl p) 1).defects

/-- DRAINING of a lane page reads 1, and READY 0, while either side drains (R47). -/
def State.showDrain (s : State) (n : Nat) : State :=
  let v := s.lane n
  let d := v.dpDrain || v.txDrain
  (s.fput (F.hdr_BLK_STATUS_DRAINING (0x100 + n)) d).setReady (0x100 + n) (!d && s.laneUp n)

/-- A lane's slot datapath begins to drain; in a bond only the first lane's acts (R47, R48, R279). -/
def State.dpDisable (s : State) (n : Nat) : State :=
  if s.portOfSu (160 * n) != n then s
  else ((s.setLane n { s.lane n with dpDrain := true, heldDp := false }).showDrain n).drainPort n

/-- LANE_CTRL is written (R47, R49, R264, R267, R279): an enable of either side is held while DRAINING reads 1. -/
def State.laneCtrl (s : State) (m : Master) (n region be data : Nat) : State :=
  let p := 0x100 + n
  let was := s.mergedWord p 0x44 0 0 0
  let busy := s.draining p
  let s := s.plainWrite m p 0x44 region be data
  let d := s.mergedWord p 0x44 0 0 0
  let dpOff := bitOf was 0 && !bitOf d 0
  let dpOn := !bitOf was 0 && bitOf d 0
  let txOff := bitOf was 1 && !bitOf d 1
  let txOn := !bitOf was 1 && bitOf d 1
  let s := s.onlyIf (dpOff && s.laneUp n) fun s => s.dpDisable n
  let s := s.onlyIf (dpOn && busy) fun s =>
    (s.setLane n { s.lane n with heldDp := true }).fset (F.lane_LANE_CTRL_DP_EN n) 0
  let s := s.onlyIf (txOff && s.laneUp n) fun s => (s.setLane n { s.lane n with txDrain := true, heldTx := false }).showDrain n
  let s := s.onlyIf (txOn && busy) fun s =>
    (s.setLane n { s.lane n with heldTx := true }).fset (F.lane_LANE_CTRL_TX_EN n) 0
  let s := s.onlyIf (txOff || txOn) fun s => s.trainEval n
  let s := s.onlyIf (bitOf was 4 != bitOf d 4) fun s => s.rxSleep n (bitOf d 4)
  if dpOff || dpOn then s.defects else s

/-- A measurement in progress ends without a valid result (R268, R279). -/
def State.eyeDropped (s : State) (n : Nat) : State :=
  if (s.lane n).eye.isNone then s
  else ((s.setLane n { s.lane n with eye := none }).fsets
    [(F.lane_EYE_STATUS_DONE n, 1), (F.lane_EYE_STATUS_VALID n, 0)]).raise (0x100 + n) 5

/-- BLK_CTRL.EN of a lane becomes 0 (R47): both directions drain, and the lane must be calibrated anew. -/
def State.laneDisable (s : State) (n : Nat) : State :=
  let p := 0x100 + n
  let s := s.setLane n { s.lane n with heldEn := none }
  if !s.enabled p then s
  else
    let up := s.laneUp n
    let s := (s.eyeDropped n).fset (enFl p) 0
    let v := s.lane n
    let s := s.setLane n { dpDrain := up, txDrain := up, heldDp := v.heldDp, heldTx := v.heldTx, fails := v.fails, fresh := v.fresh }
    let s := s.fsets [(F.lane_TRAIN_STATUS_PRECODE_TX n, 0), (F.lane_TRAIN_STATUS_PRECODE_RX n, 0), (F.lane_RX_STATUS_EQ_CONV n, 0)]
    let s := ((s.showDrain n).onlyIf up fun s => s.drainPort (s.portOfSu (160 * n))).setTrain n 0
    ((s.frmFollow n).bondFollow n).defects

/-- What was held while a lane drained takes effect once nothing drains any more (R49): the enables of its sides, and its own. -/
def State.laneHeldOn (s : State) (n : Nat) : State :=
  if s.draining (0x100 + n) then s
  else
    let v := s.lane n
    let s := s.setLane n { v with heldDp := false, heldTx := false, heldEn := none }
    let s := s.onlyIf v.heldDp fun s => s.fset (F.lane_LANE_CTRL_DP_EN n) 1
    let s := s.onlyIf v.heldTx fun s => (s.fset (F.lane_LANE_CTRL_TX_EN n) 1).trainEval n
    match v.heldEn with
    | none => s
    | some (m, al) => s.laneEnable (masterOf m) n al

/-- The slot datapath of a lane port has drained (R47). -/
def State.dpDrained (s : State) (n : Nat) : State :=
  if !(s.lane n).dpDrain then s
  else
    let s := s.setLane n { s.lane n with dpDrain := false }
    let s := { s with core := { s.core with closing := spErase n s.core.closing } }.voidPort n
    ((s.showDrain n).laneHeldOn n).defects

/-- The transmitter of a lane has drained (R47): electrical idle. -/
def State.txDrained (s : State) (n : Nat) : State :=
  if !(s.lane n).txDrain then s
  else (((s.setLane n { s.lane n with txDrain := false }).showDrain n).applyTx n).laneHeldOn n

/-- A lane becomes READY (R46): calibration is complete after its enable; training follows (R259). -/
def State.laneReady (s : State) (n : Nat) : State :=
  if !s.enabled (0x100 + n) || (s.lane n).calibrated then s
  else
    let s := s.setLane n { s.lane n with calibrated := true }
    let s := (s.showDrain n).fput (F.lane_RX_STATUS_FROZEN n) (!s.flag (F.lane_RX_STATUS_SIG n))
    let s := s.onlyIf (s.laneFormat n == 0) fun s => s.plainPrecode n
    ((s.trainEval n).frmFollow n).defects

/-- A lane at a core-frame boundary (R264): TX_MODE takes effect. -/
def State.laneBoundary (s : State) (n : Nat) : State :=
  let v := s.lane n
  let m := s.fget (F.lane_LANE_CTRL_TX_MODE n)
  if v.txMode = m then s else (s.setLane n { v with txMode := m }).applyTx n

/-- A transmitter leaving sleep has warmed up (R264): a Galop if the lane has trained, otherwise an attempt. -/
def State.warmedUp (s : State) (n : Nat) : State :=
  if s.fget (F.lane_RX_STATUS_TX_STATE n) != 3 then s
  else if s.txWanted n != 0 then s.setTxState n (s.txWanted n)
  else
    let s := s.setTxState n 0
    if s.trainState n = 4 || s.trainState n = 7 then s.sendGalop n else s

/-! ## Eye scan (R268, R279) -/

/-- Non-intrusive tests are permitted: every mode from Bring-up to Service (R34). -/
def State.testsOk (s : State) : Bool := decide (3 ≤ s.dev.mode.code) && decide (s.dev.mode.code ≤ 10)

/-- The receiver sleeps or trains (R268). -/
def State.eyeBusy (s : State) (n : Nat) : Bool := s.flag (F.lane_RX_STATUS_RX_ASLEEP n) || s.attempting n

/-- EYE_CMD OP 1: a non-intrusive test, of the modes from Bring-up to Service (R34, R268). -/
def State.eyeMeasure (s : State) (m : Master) (n eye phase volt dwell : Nat) : State :=
  if !s.testsOk then s.log (0x100 + n) 3 m 0x6C
  else if s.eyeBusy n || (s.lane n).eye.isSome then s.log (0x100 + n) 8 m 0x6C
  else
    let s := s.setLane n { s.lane n with eye := some (s.flag (F.lane_RX_STATUS_SIG n)) }
    s.fsets [(F.lane_EYE_STATUS_DONE n, 0), (F.lane_EYE_STATUS_VALID n, 0),
      (F.lane_EYE_CMD_EYE n, if s.lanePam4 n then eye else 1), (F.lane_EYE_CMD_PHASE n, phase),
      (F.lane_EYE_CMD_VOLT n, if volt = 128 then 129 else volt), (F.lane_EYE_CMD_DWELL n, dwell)]

/-- EYE_CMD OP 2: the measurement in progress is abandoned. -/
def State.eyeAbandon (s : State) (m : Master) (n : Nat) : State :=
  if s.eyeBusy n then s.log (0x100 + n) 8 m 0x6C else s.eyeDropped n

/-- An eye measurement ends. -/
def State.eyeEnds (s : State) (n errors : Nat) : State :=
  match (s.lane n).eye with
  | none => s
  | some held =>
    let s := s.setLane n { s.lane n with eye := none }
    (s.fsets [(F.lane_EYE_STATUS_DONE n, 1), (F.lane_EYE_STATUS_VALID n, b2n held),
      (F.lane_EYE_ERR_ERRORS n, min (2 ^ 32 - 1) errors)]).raise (0x100 + n) 5

/-! ## Loopback and test patterns (R277) -/

/-- The PRBS generator of a raw lane: on with PRBS13 or PRBS31 (R277). -/
def State.prbsOn (s : State) (n : Nat) : Option Bool :=
  if s.laneFormat n = 0 ∧ s.flag (F.lane_TEST_CTRL_GEN_EN n) = true then some (s.flag (F.lane_TEST_CTRL_POLY n)) else none

/-- TEST_CTRL is written (R277, R34). -/
def State.loopWrite (s : State) (m : Master) (n region be data : Nat) : State :=
  let p := 0x100 + n
  let d := s.mergedWord p 0x68 region be data
  let asks := (bitsOf d 0 2 != 0 && bitsOf d 0 2 != 3) || (s.laneFormat n == 0 && bitsOf d 2 2 != 0)
  if asks && !(if s.laneUnused n then s.shadowOk else s.dev.mode == .maintenance) then s.logErr p 3 (masterId m) region 0x68
  else
    let was := s.loopSel n
    let gen := s.prbsOn n
    let s := s.plainWrite m p 0x68 region be data
    let s := s.onlyIf (gen != s.prbsOn n) fun s => s.emit (.prbsGen n (s.prbsOn n))
    if was != s.loopSel n then (s.setLane n { s.lane n with looped := [] }).trainEval n
    else s.onlyIf (s.dev.mode == .maintenance && !s.lightAllowed) fun s => s.trainEval n

end Sys2Proof.Machine
end

