-- ==== Sys2Proof/Machine/ModeOps.lean ====
section
/-! DEFINITION. Mode transitions, full reset, Boot, Service and fatal faults (spec/02_modes.md).

Readings fixed here (notes/assumptions): 10 DEDUCED, 11 DEDUCED, 12 DEDUCED, 13 DEDUCED, 14 DEDUCED, 15 DEDUCED, 20
DEDUCED, 98 DEDUCED, 100 DEDUCED, 113 DESIGN CHOICE. -/

namespace Sys2Proof.Machine

/-- DEVICE.MODE as it reads (R50). -/
def modeWord (s : State) : Nat :=
  s.dev.mode.code + 16 * s.dev.prev.code + 256 * s.dev.twinRole + 4096 * s.fget F.dev_MODE_REQ_STATUS

/-- TWIN_ROLE of a mode; Service keeps the role (R34). -/
def roleOf (old : Nat) : Mode → Nat
  | .twinActive => 1 | .twinStandby => 2 | .twinStale => 3 | .service => old | _ => 0

/-- A control core is reset (R406): its matrix requests go, its debug halt ends, its breakpoints stay (R471). -/
def State.coreReset (s : State) (k : Nat) : State :=
  let c := spGet {} s.dbg.cores k
  let s := s.masterReset (masterOf (3 + k % 8))
  { s with dbg := { s.dbg with cores := spPut {} s.dbg.cores k { c with halted := false, tag := c.tag + 1, regs := [] } } }

/-- The device changes mode: MODE record with its cause (1 request, 2 twin protocol, 3 watchdog, 4 fault; 0 none),
console notice, TWIN_ROLE and eligibility (R33, R463); once Bring-up is left ROLE is read-only (R38). The outputs follow when
the command settles. -/
def State.setMode (s : State) (new : Mode) (cause by_ : Nat) : State :=
  let old := s.dev.mode
  if new = old then s
  else
    let role := roleOf s.dev.twinRole new
    let prev := if new = .maintenance && old != .service then old
      else if new = .service then old
      else if new = .maintenance then s.dev.maintPrev else s.dev.prev
    let maint := if new = .service && old = .maintenance then s.dev.prev else s.dev.maintPrev
    let changed := role != s.dev.twinRole
    let s := { s with dev := { s.dev with
      mode := new, prev := prev, maintPrev := maint, twinRole := role, broughtUp := s.dev.broughtUp || decide (old = Mode.bringUp) } }
    let s := s.onlyIf changed fun s => s.raise 0x250 0
    let s := s.onlyIf (decide (new = .twinStale)) fun s => s.raise 0x250 2
    let el := new == .twinStandby
    let s := s.onlyIf (el && !s.flag F.twin_TWIN_STATUS_ELIGIBLE) fun s => s.raise 0x250 3
    let s := s.onlyIf (el || s.flag F.twin_TWIN_STATUS_ELIGIBLE) fun s => s.fput F.twin_TWIN_STATUS_ELIGIBLE el
    let s := s.onlyIf (cause != 0) fun s => s.jrnl 5 by_ 0 [old.code, new.code, cause]
    s.emit (.conNotice 1 [new.code])

/-- A standby in Service becomes stale there (R34): PREV, TWIN_ROLE and eligibility change. -/
def State.staleInService (s : State) : State :=
  let s := { s with dev := { s.dev with prev := .twinStale, twinRole := 3 } }
  ((s.raise 0x250 0).raise 0x250 2).fset F.twin_TWIN_STATUS_ELIGIBLE 0

/-- Enter Twin-Stale with a cause (R356 STALE_CAUSE). -/
def State.toStale (s : State) (why : Nat) : State :=
  let s := s.fset F.twin_TWIN_STATUS_STALE_CAUSE why
  let s := if s.dev.mode = .service then (if s.dev.twinRole = 3 then s else s.staleInService) else s.setMode .twinStale 2 hwMaster
  { s.fset F.twin_TWIN_STATUS_RESYNC 0 with twin := { s.twin with
    resync := 0, age := 0, cleanRun := 0, imaged := false, mirrorQ := [], kept := [], late := none } }

/-- A request that was accepted and waits is refused after all: REQ_STATUS, and a BAD_COMMAND log on page 0x000 in the name of the master
that made it (R36, R37, R75). -/
def State.refusePending (s : State) : State :=
  if s.fget F.dev_MODE_REQ_STATUS = 1 then (s.fset F.dev_MODE_REQ_STATUS 3).logErr 0 9 s.dev.reqBy 0 0x44 else s

/-- A request that is pending, a restart among them, is dropped with the mode it was made in (R36, R37): REQ_STATUS reads refused. -/
def State.dropReq (s : State) : State :=
  { s.refusePending with dev := { s.dev with req := .none, fwRestarting := false } }

/-- A fatal fault (R35): FATAL, its journal record, Quarantine, and every key slot zeroed (R422). A request that waits is not held
over (R36). -/
def State.fatal (s : State) (cls code : Nat) (detail : List Nat) : State :=
  if !s.live then s
  else
    let s := s.fsets [(F.dev_FATAL_CODE, code), (F.dev_FATAL_CLASS, cls)]
    let s := s.jrnl 4 hwMaster 0xFFFF (leBytes 4 (code + cls * 65536) ++ padTo 4 detail ++ [0])
    let s := s.emit (.conNotice 0 [code])
    (s.dropReq.setMode .quarantine 4 hwMaster).clearAllKeys

/-! ## Service (R33, R37, R406) -/

/-- Control firmware stops: a command in progress is abandoned (R51). -/
def State.firmwareStops (s : State) : State :=
  { s with
    dev := { s.dev with fwRunning := false, fwRestarting := false }
    cfw := { s.cfw with abandoned := s.cfw.abandoned || s.cfw.cmd.isSome, cmd := none } }

/-- Every control core has halted: the device enters Service, and the cores are reset (R37, R406). -/
def State.enterService (s : State) (cause : Nat) : State :=
  let s := (List.range 8).foldl State.coreReset s
  let s := (s.fset F.sec_CTL_CORE_CTRL_RUN 0).firmwareStops
  let asked := s.dev.req == .enterService
  let s := s.onlyIf asked fun s => s.fset F.dev_MODE_REQ_STATUS 2
  let s := { s with dev := { s.dev with req := if asked then .none else s.dev.req } }
  s.setMode .service cause hwMaster

/-- Some control core is in debug halt, which does not count as halted (R471). -/
def State.anyDebugHalt (s : State) : Bool := s.dbg.cores.any fun c => c.2.halted

/-- Modes from which the host may request Service (R33, R37). -/
def serviceFrom (m : Mode) : Bool :=
  match m with
  | .bringUp | .standalone | .twinActive | .twinStandby | .twinStale | .forerunner | .maintenance => true
  | _ => false

/-- A request for Service takes effect once every core has halted (R37), if the present mode allows it still (R36). -/
def State.serviceIfHalted (s : State) : State :=
  if s.dev.req = .enterService && !s.anyDebugHalt then
    (if serviceFrom s.dev.mode then s.enterService 1 else s.dropReq)
  else s

/-- Modes from which Maintenance may be requested (R33). -/
def maintFromOk (m : Mode) : Bool :=
  match m with
  | .standalone | .twinStandby | .twinStale | .forerunner => true
  | _ => false

/-- A request is refused: REQ_STATUS, and a BAD_COMMAND log on page 0x000 (R37, R75). -/
def State.refuseReq (s : State) (m : Master) : State := (s.fset F.dev_MODE_REQ_STATUS 3).log 0 9 m 0x44

/-- A transition is in progress (R37): a request has not been taken, restarted control firmware has not kicked the watchdog yet,
or the twins are switching over. -/
def State.transiting (s : State) : Bool :=
  s.dev.req != .none || s.dev.fwRestarting || s.twin.handoverReq ||
  s.twin.sw == .soon || s.twin.sw == .waitB1 || s.twin.sw == .waitB2

/-- DEVICE.MODE_REQ is written with an operation (R37, R50). Two points are the model's own (log 113): a restart of control
firmware is refused while Boot has found no valid manifest, since there is no image to start; and an accepted restart reads
pending in REQ_STATUS until the first kick of the watchdog, which is when R33 lets it take effect. -/
def State.modeReq (s : State) (m : Master) (op : Nat) : State :=
  if s.transiting then s.refuseReq m
  else
    let s := { s with dev := { s.dev with reqBy := masterId m } }
    match op with
    | 1 =>
      if maintFromOk s.dev.mode then
        { s.fset F.dev_MODE_REQ_STATUS 1 with dev := { s.dev with req := .enterMaint } }
      else s.refuseReq m
    | 2 =>
      if s.dev.mode = .maintenance then
        { s.fset F.dev_MODE_REQ_STATUS 1 with dev := { s.dev with req := .leaveMaint } }
      else s.refuseReq m
    | 3 =>
      if serviceFrom s.dev.mode then
        ({ s.fset F.dev_MODE_REQ_STATUS 1 with dev := { s.dev with req := .enterService } } : State).serviceIfHalted
      else s.refuseReq m
    | 4 =>
      if s.dev.mode = .service && s.sec.run.keys != [] then
        { (s.fset F.dev_MODE_REQ_STATUS 1).fset F.sec_CTL_CORE_CTRL_RUN 1 with
          dev := { s.dev with fwRestarting := true } }
      else s.refuseReq m
    | _ => s.refuseReq m

/-- Maintenance is entered or left at a superframe boundary (R37); a twin mode returns to Twin-Stale, and an
intrusive test running then is aborted (R33, R459). -/
def State.takeModeReq (s : State) : State :=
  match s.dev.req with
  | .enterMaint =>
    if maintFromOk s.dev.mode then
      ({ s.fset F.dev_MODE_REQ_STATUS 2 with dev := { s.dev with req := .none } } : State).setMode .maintenance 1 hwMaster
    else s.dropReq
  | .leaveMaint =>
    if s.dev.mode = .maintenance then
      let s := { s.fset F.dev_MODE_REQ_STATUS 2 with dev := { s.dev with req := .none } }
      let s := s.abortIntrusive
      if s.dev.prev = .twinStandby || s.dev.prev = .twinStale then
        (s.fset F.twin_TWIN_STATUS_STALE_CAUSE 4).setMode .twinStale 1 hwMaster
      else s.setMode s.dev.prev 1 hwMaster
    else s.dropReq
  | _ => s

/-- Restarted control firmware makes its first watchdog kick (R33): the device returns to PREV, or to Bring-up if
the datapath was off; an abandoned command shows its RESULT (R51). -/
def State.firstKick (s : State) : State :=
  let s := s.onlyIf s.cfw.abandoned fun s => s.fset F.cfw_RESULT_RESULT 3
  let off := s.dev.datapathOff
  let s := s.onlyIf (s.fget F.dev_MODE_REQ_STATUS == 1) fun s => s.fset F.dev_MODE_REQ_STATUS 2
  let s := { s with
    dev := { s.dev with fwRunning := true, fwRestarting := false, datapathOff := false }
    cfw := { s.cfw with abandoned := false } }
  s.setMode (if off then .bringUp else s.dev.prev) 3 hwMaster

/-! ## Rails, clocks and full reset (R39, R40, R44) -/

/-- Code of a rail state (R474). -/
def railCode : RailState → Nat
  | .off => 0 | .ok => 1 | .warn => 2 | .out => 3 | .fatal => 4

/-- Nominal voltage of rail index r - 1, in mV (R485). -/
def railNominal (i : Nat) : Nat := [700, 800, 800, 1200, 900, 1800, 1050, 400, 1800, 1800].getD i 1800

/-- Every non-AON rail is in its window: OK or WARN (R448). -/
def State.railsIn (s : State) : Bool :=
  (List.range 9).all fun i => s.fget (F.svc_RAIL_STATE i) == 1 || s.fget (F.svc_RAIL_STATE i) == 2

/-- Some non-AON rail is below its off threshold (R33 Dormant). -/
def State.railOff (s : State) : Bool := (List.range 9).any fun i => s.fget (F.svc_RAIL_STATE i) == 0

/-- Every full-reset source is released (R33, R39). -/
def State.sourcesReleased (s : State) : Bool :=
  !s.dev.rstLow && !(s.dev.perstLow && s.flag F.dev_RESET_CFG_PERST_FULL)

/-- The registers kept outside the reach of a full reset: the always-on pages and DEVICE.FATAL (R40). -/
def keepAon (k : Nat) : Bool :=
  (decide (0x2A0 * 0x80000 ≤ k) && decide (k < 0x2A2 * 0x80000)) || k == F.dev_FATAL_CODE.key || k == F.dev_FATAL_CLASS.key

/-- The counters of the always-on pages. -/
def keepAonCtr (k : Nat) : Bool := decide (0x2A0 * 0x4000 ≤ k) && decide (k < 0x2A2 * 0x4000)

/-- The flash slot that an UPDATE was writing: a full reset during step 3 leaves it invalid (R443). DESIGN CHOICE (log 115): step 3
lasts until the command ends. -/
def Sec.slotsCut (x : Sec) : List Nat := (x.cmd.bind fun c => c.slot).toList

/-- Everything outside the always-on domain returns to its reset state (R40); pins, fuses and the model's own
fields stay. -/
def State.aonOnly (s : State) (mode : Mode) : State :=
  State.showSec { State.reset with
    fields := spDrop (fun k => !keepAon k) s.fields
    ctrs := spDrop (fun k => !keepAonCtr k) s.ctrs
    hold := spDrop (fun k => !keepAonCtr k) s.hold
    dev := { State.reset.dev with
      mode := mode, rstLow := s.dev.rstLow, perstLow := s.dev.perstLow, aonOn := s.dev.aonOn
      strapSide := s.dev.strapSide, strapSrc := s.dev.strapSrc }
    fuses := s.fuses
    svc := { s.svc with conMbox := none, conMboxRun := false, badSlots := s.sec.slotsCut ++ s.svc.badSlots }
    dbg := { State.reset.dbg with challengeNo := s.dbg.challengeNo + 1, tap := s.dbg.tap }
    out := s.out
    free := s.free
    pending := s.pending }

/-- Leave Reset for Boot when every source is released, the root PLL is locked, XO_IN is present and every rail is
in its window; TWIN_SIDE and BOOT_SRC are sampled (R33, R44, R492). -/
def State.leaveReset (s : State) : State :=
  if s.dev.mode = .reset && s.sourcesReleased && s.railsIn && s.flag F.svc_SVC_STATUS_XO_PRESENT &&
      s.flag F.svc_SVC_STATUS_ROOT_LOCK then
    let s := s.fsets [(F.dev_BOOT_SRC, s.dev.strapSrc), (F.twin_TWIN_STATUS_SIDE, b2n s.dev.strapSide)]
    s.setMode .boot 0 hwMaster
  else s

/-- RESET_CAUSE of a full reset: the source, FROM_QUAR, and what was set while already in Reset (R50). -/
def State.resetCause (s : State) (bit : Nat) : Nat :=
  let old := if s.dev.mode = .reset then
    s.fget F.dev_RESET_CAUSE_CAUSE else 0
  old ||| 2 ^ bit ||| (if s.dev.mode = .quarantine then 32 else 0)

/-- A full reset (R39, R40): cause bit 0 POR, 1 PIN, 2 PERST, 3 CMD, 4 CONSOLE. -/
def State.fullReset (s : State) (bit : Nat) : State :=
  let cause := s.resetCause bit
  let s := (s.abortTest.aonOnly .reset).fset F.dev_RESET_CAUSE_CAUSE cause
  (s.jrnl 2 hwMaster 0 (leBytes 4 cause)).leaveReset

/-- PERST_N still low when PERST_FULL becomes 1 causes a full reset (R39). -/
def State.perstFollow (s : State) : State :=
  if s.dev.perstLow && s.flag F.dev_RESET_CFG_PERST_FULL && s.live then s.fullReset 2 else s

/-- Power outside the always-on domain is lost: Dormant (R33). -/
def State.toDormant (s : State) : State :=
  if s.dev.mode = .dormant then s
  else (s.abortTest.aonOnly .dormant).emit (.conNotice 1 [0])

/-! ## Boot (R426) -/

/-- The pages whose READY becomes 1 at the end of Boot (R46, and each chapter's page rule). An octet's PLL A is on and not yet locked
then (R278). -/
def bootReadyPages : List Nat := [0x0, 0x40, 0x80, 0x90, 0x2C0, 0x220, 0x240, 0x260, 0x270, 0x280]

/-- Boot ends: BOOT fields, READY bits, the BOOT record (R45, R46, R463). -/
def State.bootEnds (s : State) (image ms : Nat) : State :=
  let s := s.fsets [(F.dev_BOOT_IMAGE, image), (F.dev_BOOT_TIME, min ms 0xFFFF)]
  let s := (bootReadyPages.foldl (fun s p => s.setReady p true) s).showSec
  s.jrnl 3 hwMaster 0 (leBytes 4 (s.storedReg .warden 0 0x64) ++ leBytes 4 (s.storedReg .warden 0x280 0x48))

/-- The order in which the slots are tried (R425). -/
def slotOrder (src : Nat) : List Nat := match src with
  | 1 => [1, 0] | 2 => [0] | _ => [0, 1]

/-- Try the slots in order; a failure is recorded in SEC_STATUS (R426 steps 3 and 4). A control image is copied to control SRAM before
it is verified. DESIGN CHOICE (log 115): a slot marked invalid (R443) fails as one whose header is invalid. -/
def State.trySlots (s : State) (b : BootInput) : List Nat → State
  | [] =>
    let s := s.bootEnds 0 b.ms
    { s with dev := { s.dev with datapathOff := true } }.setMode .service 4 hwMaster
  | i :: l =>
    let sl := if i = 0 then b.slot0 else b.slot1
    let e := if s.svc.badSlots.contains i then 1 else slotErr s.fuses sl
    if e ≠ 0 then
      let s := s.copyImage (if s.svc.badSlots.contains i then none else copiedBody s.fuses sl)
      (s.fset (if i = 0 then F.sec_SEC_STATUS_BOOT_ERR0 else F.sec_SEC_STATUS_BOOT_ERR1) e).trySlots b l
    else match sl with
      | none => s
      | some sl =>
        let s := s.sramLoad (leAt sl.image 20 4) (imageBody sl.image)
        let s := { s with sec := { s.sec with run := runningOf sl }, dev := { s.dev with fwRunning := true } }
        ((s.fset F.sec_CTL_CORE_CTRL_RUN 1).bootEnds (i + 1) b.ms).setMode .bringUp 0 hwMaster

/-- Boot ends in Quarantine (R35): the security page is READY at the end of Boot however it ends (R444). -/
def State.bootFatal (s : State) (cls code : Nat) : State := (s.fatal cls code []).setReady 0x280 true

/-- Warden finishes Boot (R426): self-checks and fuses first, then the slots. -/
def State.bootComplete (s : State) (b : BootInput) : State :=
  if s.dev.mode != .boot then s
  else if !b.romOk then s.bootFatal 4 0x4111
  else if !b.sramOk then s.bootFatal 4 0x4112
  else if fusesBad b.fuses then s.bootFatal 5 0x5111
  else if !lifecycleValid b.fuses s.fuses.lifecycle then s.bootFatal 5 0x5112
  else s.trySlots b (slotOrder (s.fget F.dev_BOOT_SRC))

/-- Leave Bring-up with a role (R33, R38). -/
def State.leaveBringUp (s : State) (dest : Mode) (cause : Nat) : State := s.setMode dest cause hwMaster

/-- With ROLE non-zero and the slot core READY, Bring-up is left, or twin discovery begins (R33, R38, R331). -/
def State.bringUpExit (s : State) : State :=
  if s.dev.mode != .bringUp || !s.ready 0x80 then s
  else match s.fget F.dev_ROLE_ROLE with
    | 1 => s.leaveBringUp .standalone 1
    | 3 => s.leaveBringUp .forerunner 1
    | 2 => if s.twin.discovering then s
      else { s with twin := { s.twin with discovering := true, timedOut := false, heard := false } }
    | _ => s

end Sys2Proof.Machine
end

