-- ==== Sys2Proof/Machine/MboxOps.lean ====
section
/-! DEFINITION. The mailbox: its commands, what they answer, its registers, and the control cores' run bits
(spec/16_security.md).

Readings fixed here (notes/assumptions): 7 DESIGN CHOICE, 87 DEDUCED, 88 DEDUCED, 91 DEDUCED, 92 PRESUMED, 94 DEDUCED,
108 DESIGN CHOICE, 115 DESIGN CHOICE. -/

namespace Sys2Proof.Machine

/-! ## The mailbox (R430, R431) -/

/-- The owner's input bytes in MBOX_DATA. -/
def State.mboxInput (s : State) (n : Nat) : List Nat :=
  (List.range n).map fun i => s.fget (F.sec_MBOX_DATA_DATA (i / 4)) / 256 ^ (i % 4) % 256

/-- Write bytes into MBOX_DATA, from DWORD `d`. -/
def State.mboxFill (s : State) : Nat → Nat → List Nat → State
  | 0, _, _ => s
  | n + 1, d, l => (s.fset (F.sec_MBOX_DATA_DATA d) (leNat (l.take 4))).mboxFill n (d + 1) (l.drop 4)

/-- Write a command's output into MBOX_DATA. -/
def State.mboxPut (s : State) (l : List Nat) : State := s.mboxFill ((l.length + 3) / 4) 0 l

/-- What a mailbox command decides: its RESULT, its output, the state, and the entry address UPDATE will start. -/
structure MboxResult where
  result : Nat
  out : List Nat
  st : State
  start : Option Nat := none
  slot : Option Nat := none

/-- A command that ends with a RESULT and no output. -/
def mboxEnd (r : Nat) (s : State) : MboxResult := { result := r, out := [], st := s }

/-- MBOX_CMD is written by `m` with `op` and `len`: accepted from the owner while DONE is 1, otherwise logged
BUSY; an undefined OP is then BAD_COMMAND; the command runs and DONE reads 0 (R430). -/
def State.mboxIssue (s : State) (m : Master) (op len : Nat) (run : State → List Nat → MboxResult) : State :=
  if !s.mboxOwnedBy m || !s.flag F.sec_MBOX_STATUS_DONE then s.log 0x280 8 m 0x40
  else if op = 0 || 9 < op then s.log 0x280 9 m 0x40
  else
    let r := run s (s.mboxInput (min len 4096))
    ({ r.st with sec := { r.st.sec with cmd := some { op := op, master := masterId m, result := r.result, out := r.out, start := r.start, slot := r.slot } } } : State).fset
      F.sec_MBOX_STATUS_DONE 0

/-- ATTEST (R429): the report, signed by the identity key except in FIELD_RETURN (R421). -/
def attestReport (s : State) (nonce : List Nat) : List Nat :=
  let r := s.sec.run
  leBytes 4 0x52545441 ++ leBytes 2 1 ++ [s.fuses.lifecycle.code, s.fget F.dev_BOOT_IMAGE] ++
  leBytes 8 Config.serial ++ padTo 32 nonce ++ padTo 32 Config.rootKeyHash ++ padTo 32 r.manSha ++
  padTo 32 r.ctlHash ++ leBytes 4 r.manSvn ++ leBytes 4 r.ctlSvn ++ leBytes 4 s.fuses.manMin ++
  leBytes 4 s.fuses.ctlMin ++ leBytes 4 r.build ++ leBytes 4 (modeWord s) ++
  leBytes 4 (s.fget F.sec_SEC_STATUS_DEBUG_UNLOCKED) ++
  leBytes 4 ((List.range 1024).filter s.saEn).length ++ leBytes 8 (s.cget F.core_SF_COUNT_C) ++
  leBytes 8 (s.cget F.sec_ATTESTS_C) ++
  padTo 64 (if s.fuses.lifecycle == .fieldReturn then Config.agreementReturn else Config.agreementPub)

/-- ATTEST: input of 32 bytes. -/
def mboxAttest (s : State) (inp : List Nat) : MboxResult :=
  if inp.length < 32 then mboxEnd 2 s
  else
    let body := attestReport (s.cadd F.sec_ATTESTS_C 1) (inp.take 32)
    let ret := s.fuses.lifecycle == .fieldReturn
    { result := if ret then 4 else 0,
      out := body ++ (if ret then List.replicate 64 0 else padTo 64 (Config.identitySign (sha256 body))),
      st := s.cadd F.sec_ATTESTS_C 1 }

/-- A slot is in use: a source's TX_SLOT, or a sink's RX_SLOT of the last multiframe (R440). -/
def State.slotUsed (s : State) (a slot : Nat) : Bool :=
  if s.saSource a then s.saTxSlot a == slot else (s.sa a).opened && s.saRxSlot a == slot

/-- A slot may not be changed: it is in use, or it is the target of a pending switch (R440, R441). -/
def State.slotBusy (s : State) (a slot : Nat) : Bool :=
  s.slotUsed a slot || ((s.sa a).switchSf.isSome && slot == 1 - s.saTxSlot a)

/-- The wrapping key of a package (R439): from the shared secret with the sender's ephemeral key, the ASCII bytes KZ-SAKEY and
package bytes 0 to 23. -/
def wrappingKey (ephemeral head : List Nat) : List Nat :=
  sha256 ([0, 0, 0, 1] ++ Config.agreementSecret ephemeral ++ [0x4B, 0x5A, 0x2D, 0x53, 0x41, 0x4B, 0x45, 0x59] ++ head)

/-- KEY_LOAD (R439, R440). -/
def mboxKeyLoad (s : State) (p : List Nat) : MboxResult :=
  let a := beAt p 6 2
  let slot := beAt p 8 1
  let ctr := beAt p 20 4
  if p.length < 200 || beAt p 0 4 != 0x4B504B47 || beAt p 4 2 != 1 || 1 < slot || !zeroAt p 9 3 || 1023 < a then
    mboxEnd 2 s
  else if s.fuses.lifecycle == .fieldReturn then mboxEnd 4 s
  else if !(s.sec.run.keys.any fun k => k.role == 3 &&
      ecdsaVerify k.pub (sha256 (slice p 0 136)) (slice p 136 64)) then mboxEnd 1 s
  else match keyUnwrap (wrappingKey (slice p 24 64) (slice p 0 24)) (slice p 88 48) with
    | none => mboxEnd 1 s
    | some k =>
      if !zeroAt k 36 4 then mboxEnd 1 s
      else if beAt p 12 8 != Config.serial then mboxEnd 2 s
      else if !s.saEn a then mboxEnd 9 s
      else if (match (s.sa a).pkg with | some c => decide (ctr ≤ c) | none => false) then mboxEnd 3 s
      else if s.slotBusy a slot then mboxEnd 5 s
      else
        let v := s.sa a
        let s := s.setSa a { v with pkg := some ctr, high := (v.high.set (2 * slot) 0).set (2 * slot + 1) 0 }
        mboxEnd 0 ((s.setKey a slot (some (slice k 0 32, beAt k 32 4))).cadd F.sec_KEY_LOADS_C 1)

/-- A target superframe lies between 2 and 1,048,576 superframes ahead (R189). -/
def State.sfAhead (s : State) (sf : Nat) : Bool :=
  let d := (sf + 2 ^ 32 - s.cget F.core_SF_COUNT_C % 2 ^ 32) % 2 ^ 32
  decide (2 ≤ d) && decide (d ≤ 1048576)

/-- KEY_SWITCH (R441). -/
def mboxKeySwitch (s : State) (p : List Nat) : MboxResult :=
  let w := leAt p 0 4
  let a := w % 1024
  let sf := leAt p 4 4
  if p.length < 8 || bitsOf w 10 6 != 0 || bitsOf w 17 15 != 0 then mboxEnd 2 s
  else if !s.saEn a || !s.saSource a || (bitOf w 16 && !s.sfAhead sf) then mboxEnd 9 s
  else if (s.key a (1 - s.saTxSlot a)).isNone then mboxEnd 7 s
  else mboxEnd 0 (s.setSa a { s.sa a with switchSf := some (if bitOf w 16 then some sf else none), switchDue := false })

/-- KEY_ERASE (R440). -/
def mboxKeyErase (s : State) (p : List Nat) : MboxResult :=
  let w := leAt p 0 4
  if p.length < 4 || bitsOf w 10 6 != 0 || bitsOf w 17 15 != 0 then mboxEnd 2 s
  else if s.saEn (w % 1024) && s.slotBusy (w % 1024) (bitsOf w 16 1) then mboxEnd 5 s
  else mboxEnd 0 (s.setKey (w % 1024) (bitsOf w 16 1) none)

/-- Units admitted to an engine in a direction (R433): engine 0 serves the carriers, engine 1 everything else. -/
def State.saUnits (s : State) (engine : Nat) (source : Bool) (except_ : Nat) : Nat :=
  ((List.range 1024).map fun a =>
    if a != except_ && s.saEn a && s.saSource a == source &&
      saEngine (s.saScopePort a) (s.saGroup a) == engine then
      (s.secUnits source (s.saScopePort a) (s.saGroup a)).getD 0 else 0).foldl (· + ·) 0

/-- EN of association `a` rises (R433): a new EPOCH, both key slots cleared, SEQ reset. -/
def State.saRise (s : State) (a d0 d1 : Nat) : State :=
  let e := spGet 0 s.svc.epochs a + 1
  let s := { s with svc := { s.svc with epochs := spPut 0 s.svc.epochs a e } }
  let s := ((s.setCtxDw (saCtx a) 0 d0).setCtxDw (saCtx a) 1 d1).setCtxDw (saCtx a) 2 e
  let s := ((s.setCtxDw (saCtx a) 6 0).setSaSeq a 0).clearKeys a
  let s := s.setSa a { pkg := (s.sa a).pkg }
  if s.saSource a then s.setSaSeq a (s.fget F.twin_TWIN_STATUS_SIDE * 2 ^ 63 + e * 2 ^ 47) else s

/-- Another enabled association of the same direction names the ODU (R433). -/
def State.saTaken (s : State) (a : Nat) (src prt : Bool) (g : Nat) : Bool :=
  (List.range 1024).any fun b => b != a && s.saEn b && s.saSource b == src && s.saScopePort b == prt && s.saGroup b == g

/-- SA_SET (R433): configure association `a`. EN set before a clearing took effect rises again. -/
def mboxSaSet (s : State) (p : List Nat) : MboxResult :=
  let a := leAt p 0 4
  let d0 := leAt p 4 4
  let d1 := leAt p 8 4
  let src := bitOf d0 5
  let prt := bitOf d0 6
  if p.length < 16 || 1023 < a || d0 % 16 != 5 || bitsOf d0 11 21 != 0 || bitsOf d1 16 16 != 0 ||
      bitsOf (leAt p 12 4) 17 15 != 0 then mboxEnd 2 s
  else if s.fuses.lifecycle == .fieldReturn then mboxEnd 4 s
  else if !bitOf d0 4 then
    let s := (s.setCtxDw (saCtx a) 0 (if s.saEn a then setBits d0 4 1 1 else d0)).setCtxDw (saCtx a) 1 d1
    mboxEnd 0 (if s.saEn a then s.setSa a { s.sa a with disabling := true } else s)
  else if s.saEn a && !(s.sa a).disabling then mboxEnd 0 ((s.setCtxDw (saCtx a) 0 d0).setCtxDw (saCtx a) 1 d1)
  else match s.secUnits src prt (d1 % 65536) with
    | none => mboxEnd 9 s
    | some u =>
      if s.saTaken a src prt (d1 % 65536) then mboxEnd 9 s
      else if 5120 < u + s.saUnits (saEngine prt (d1 % 65536)) src a then mboxEnd 6 s
      else if 0xFFFF ≤ spGet 0 s.svc.epochs a then mboxEnd 8 s
      else mboxEnd 0 ((s.onlyIf (s.saEn a) fun s => s.saOff a).saRise a d0 d1)

/-- SA_READ (R431): the 64-byte record. -/
def mboxSaRead (s : State) (p : List Nat) : MboxResult :=
  if p.length < 4 || 1023 < leAt p 0 4 then mboxEnd 2 s
  else { result := 0, out := ((List.range 16).map fun d => leBytes 4 (s.ctxDw (saCtx (leAt p 0 4)) d)).flatten, st := s }

/-- RESULT of an image's failure code (R431, R443). -/
def errResult (e : SlotErr) : Nat := match e with
  | 0 => 0 | 1 => 2 | 4 => 3 | 6 => 4 | _ => 1

/-- Address in the boot flash of an image of a slot: the manifest, or the control image (R425). -/
def flashAddr (slot typ : Nat) : Nat := slot * 0x1000000 + if typ = 1 then 0 else 0x10000

/-- Warden writes an image to a flash slot, and reads it back (R443 step 3): a slot whose read-back differs is marked invalid. -/
def State.install (s : State) (slot typ : Nat) (img : List Nat) (ok : Bool) : State :=
  let s := s.emit (.flashWrite (flashAddr slot typ) img)
  let l := s.svc.badSlots.filter (· != slot)
  { s with svc := { s.svc with badSlots := if ok then l else slot :: l } }

/-- UPDATE (R443): verify the image in the staging region, install it, and with RUN halt the cores and enter
Service, from a mode that R33 lets into it. `flashOk`: the flash reads back what was written. -/
def mboxUpdate (flashOk : Bool) (s : State) (p : List Nat) : MboxResult :=
  let w := leAt p 0 4
  let off := leAt p 4 4
  let stack := w % 4
  if p.length < 8 || bitsOf w 5 27 != 0 then mboxEnd 2 s
  else if !s.ready (0x2B0 + stack) || 0x10000000 < off + 192 then mboxEnd 10 s
  else
    let h := s.memRead stack (0x7E0000000 + off) 192
    let s := s.memCounted stack 192
    if 0x10000000 < off + 192 + leAt h 16 4 then mboxEnd 10 s
    else
      let img := s.memRead stack (0x7E0000000 + off) (192 + leAt h 16 4)
      let s := s.memCounted stack (leAt h 16 4)
      let typ := leAt h 6 1
      let e := if typ = 1 then manifestErr s.fuses img else controlErr s.fuses s.sec.run.keys img
      if e ≠ 0 then mboxEnd (errResult e) s
      else
        let inst := bitOf w 2
        let s := s.onlyIf inst fun s => s.install (bitsOf w 3 1) typ img flashOk
        if inst && !flashOk then mboxEnd 11 s
        else if bitOf w 4 && typ = 2 then
          let s := if serviceFrom s.dev.mode then s.enterService 1 else (s.fset F.sec_CTL_CORE_CTRL_RUN 0).firmwareStops
          let s := s.sramLoad (leAt img 20 4) (imageBody img)
          let s := { s with sec := { s.sec with run := { s.sec.run with
            ctlHash := slice img 32 32, ctlSvn := leAt img 8 4, build := leAt img 12 4,
            entry := leAt img 20 4 + leAt img 24 4 } } }
          { result := 0, out := [], st := s.showSec, start := some s.sec.run.entry }
        else { result := 0, out := [], st := s, slot := if inst then some (bitsOf w 3 1) else none }

/-- The fuses of the manifest's minimum SVN rise to the running manifest's (R427). -/
def State.fuseManifest (s : State) : State :=
  { s with fuses := { s.fuses with manMin := max s.fuses.manMin s.sec.run.manSvn } }

/-- The fuses of the control images' minimum SVN rise to the running image's (R427). -/
def State.fuseControl (s : State) : State :=
  { s with fuses := { s.fuses with ctlMin := max s.fuses.ctlMin s.sec.run.ctlSvn } }

/-- The lifecycle fuses take a state (R421). -/
def State.fuseLifecycle (s : State) (l : Lifecycle) : State := { s with fuses := { s.fuses with lifecycle := l } }

/-- SVN_COMMIT (R427): raise a fused minimum to the running image's SVN. -/
def mboxSvnCommit (s : State) (p : List Nat) : MboxResult :=
  let t := leAt p 0 4
  if p.length < 4 then mboxEnd 2 s
  else if t = 1 then
    let s := s.fuseManifest
    mboxEnd 0 (s.showSec.jrnl 15 (s.fget F.sec_MBOX_STATUS_OWNER) 0x280 [5, 0, 0])
  else if t = 2 then
    let s := s.fuseControl
    mboxEnd 0 (s.showSec.jrnl 15 (s.fget F.sec_MBOX_STATUS_OWNER) 0x280 [5, 0, 0])
  else mboxEnd 2 s

/-- A token of R470 is signed by a DEBUG_AUTH key of the running manifest. -/
def tokenSigned (s : State) (t : List Nat) : Bool :=
  match manifestKey? s.sec.run.keys (beAt t 7 1) 4 with
  | none => false
  | some k => ecdsaVerify k.pub (sha256 (slice t 0 96)) (slice t 96 64)

/-- The fields of a token that both purposes need (R470). -/
def tokenForm (t : List Nat) : Bool :=
  160 ≤ t.length && beAt t 0 4 == 0x44544F4B && beAt t 4 2 == 1 && zeroAt t 52 44

/-- LIFECYCLE (R431, R421): to PRODUCTION from DEVELOPMENT; to FIELD_RETURN from PRODUCTION with a token. -/
def mboxLifecycle (s : State) (p : List Nat) : MboxResult :=
  let t := leAt p 0 4
  let tok := slice p 4 160
  if p.length < 4 then mboxEnd 2 s
  else if t = 1 && s.fuses.lifecycle == .development then
    let s := s.fuseLifecycle .production
    mboxEnd 0 ((s.showSec.raise 0x280 4).jrnl 15 (s.fget F.sec_MBOX_STATUS_OWNER) 0x280 [3, 0, 0])
  else if t = 2 && s.fuses.lifecycle == .production then
    if !tokenForm tok || beAt tok 6 1 != 2 || !zeroAt tok 16 36 then mboxEnd 2 s
    else if !tokenSigned s tok then mboxEnd 1 s
    else if beAt tok 8 8 != Config.serial then mboxEnd 9 s
    else
      let s := s.fuseLifecycle .fieldReturn
      let s := ((s.knownSas.filter fun a => !s.saEn a) ++ s.enabledSas).foldl State.saOff s
      mboxEnd 0 ((s.showSec.raise 0x280 4).jrnl 15 (s.fget F.sec_MBOX_STATUS_OWNER) 0x280 [3, 0, 0])
  else mboxEnd 9 s

/-- The command a written OP starts (R431). -/
def mboxRun (op : Nat) (flashOk : Bool) : State → List Nat → MboxResult :=
  match op with
  | 1 => mboxAttest | 2 => mboxKeyLoad | 3 => mboxKeySwitch | 4 => mboxKeyErase | 5 => mboxSaSet
  | 6 => mboxSaRead | 7 => mboxUpdate flashOk | 8 => mboxSvnCommit | _ => mboxLifecycle

/-- MBOX_CLAIM OP 1 (R430). -/
def State.mboxClaim (s : State) (m : Master) : State :=
  if s.flag F.sec_MBOX_STATUS_OWNED then s.log 0x280 8 m 0x54
  else s.fsets [(F.sec_MBOX_STATUS_OWNED, 1), (F.sec_MBOX_STATUS_OWNER, masterId m)]

/-- MBOX_CLAIM OP 2 (R430): the owner releases; another master's write is logged BUSY; a free mailbox has nothing to
release. -/
def State.mboxFree (s : State) (m : Master) : State :=
  if !s.flag F.sec_MBOX_STATUS_OWNED then s
  else if !s.mboxOwnedBy m then s.log 0x280 8 m 0x54 else s.mboxRelease

/-- What the flash reads back after a write that no operand describes is a free value (R443). -/
def State.flashReads (s : State) : Bool := Config.freeValue s.free % 2 == 0

/-- A command by its OP, where no operand says what the flash reads back. -/
def State.mboxByOp (s : State) (m : Master) (op len : Nat) : State :=
  (s.mboxIssue m op len (mboxRun op s.flashReads)).onlyIf (op == 7) fun s => { s with free := s.free + 1 }

/-- A write of MBOX_CMD by its data (R430, R445). -/
def State.mboxCmdWrite (s : State) (m : Master) (data : Nat) : State := s.mboxByOp m (data % 16) (bitsOf data 16 16)

/-- A write of MBOX_CLAIM by its data (R430, R445): while another master owns the mailbox, it is BUSY whatever it asks. -/
def State.mboxClaimWrite (s : State) (m : Master) (data : Nat) : State :=
  match data % 4 with
  | 1 => s.mboxClaim m
  | 2 => s.mboxFree m
  | _ => s.log 0x280 (if s.flag F.sec_MBOX_STATUS_OWNED && !s.mboxOwnedBy m then 8 else 9) m 0x54

/-- A write of MBOX_DATA: by the owner while DONE is 1; another master's write, or one while a command runs, is
logged BUSY (R430); an unowned mailbox ignores the write. -/
def State.mboxDataWrite (s : State) (m : Master) (off region be data : Nat) : State :=
  if m = .warden || (s.mboxOwnedBy m && s.flag F.sec_MBOX_STATUS_DONE) then s.plainWrite m 0x280 off region be data
  else if !s.flag F.sec_MBOX_STATUS_OWNED then s
  else s.log 0x280 8 m off

/-- Warden ends the command in progress (R430): output, RESULT, OUT_LEN, DONE, MBOX_DONE; UPDATE with RUN releases
core 0 (R443 step 5). A console MBOX command prints its output and RESULT and releases the mailbox (R456). -/
def State.mboxDone (s : State) : State :=
  match s.sec.cmd with
  | none => s
  | some c =>
    let s := { s with sec := { s.sec with cmd := none } }
    let s := (s.mboxPut c.out).fsets [(F.sec_MBOX_STATUS_DONE, 1), (F.sec_MBOX_STATUS_RESULT, c.result),
      (F.sec_MBOX_STATUS_OUT_LEN, c.out.length), (F.sec_MBOX_STATUS_MASTER, c.master)]
    let s := s.raise 0x280 0
    let s := s.onlyIf (c.result != 0) fun s => s.cadd F.sec_MBOX_REFUSED_C 1
    let s := s.onlyIf (c.op == 7) fun s =>
      { s.jrnl 15 c.master 0x280 [4, c.result, 0] with svc := { s.svc with updateVerdict := if c.result = 0 then 2 else 3 } }
    let s := s.onlyIf c.start.isSome fun s =>
      { s.fset F.sec_CTL_CORE_CTRL_RUN 1 with dev := { s.dev with fwRestarting := true } }
    if s.svc.conMboxRun then
      ({ (((s.emit (.conData c.out)).emit (.conData [c.result])).emit .conOk) with
        svc := { s.svc with conMboxRun := false } } : State).mboxRelease
    else s

/-- The mailbox is free for a claim that waits: no owner, and no command in progress. -/
def State.mboxFree? (s : State) : Bool := !s.flag F.sec_MBOX_STATUS_OWNED && s.flag F.sec_MBOX_STATUS_DONE

/-- The debug port's SUBMIT and the console's MBOX command claim the mailbox once it is free, and run (R430, R456,
R469). -/
def State.mboxFollow (s : State) : State :=
  let s :=
    if s.dbg.unlockWait && s.mboxFree? then
      ({ s with dbg := { s.dbg with unlockWait := false } } : State).fsets
        [(F.sec_MBOX_STATUS_OWNED, 1), (F.sec_MBOX_STATUS_OWNER, masterId .debug), (F.sec_MBOX_STATUS_DONE, 0)]
    else s
  match s.svc.conMbox with
  | none => s
  | some (op, data) =>
    if !s.mboxFree? then s
    else
      let s := { s with svc := { s.svc with conMbox := none, conMboxRun := true } }
      ((s.mboxClaim .service).mboxPut data).mboxByOp .service op data.length

/-- Every control core has halted without a request (R33): the device enters Service; in Service a restart in progress ends there,
and its request reads refused. -/
def State.allHalted (s : State) (was : Nat) : State :=
  if was = 0 ∨ s.fget F.sec_CTL_CORE_CTRL_RUN ≠ 0 then s
  else if serviceFrom s.dev.mode then s.enterService 1
  else if s.dev.mode = .service && s.dev.fwRestarting then
    s.refusePending.firmwareStops
  else s

/-- Write CTL_CORE_CTRL.RUN (R444, R445): only Warden and control cores; a bit cleared resets that core (R406). -/
def State.coreRun (s : State) (m : Master) (run : Nat) : State :=
  match m with
  | .warden | .core _ =>
    let old := s.fget F.sec_CTL_CORE_CTRL_RUN
    let s := s.fset F.sec_CTL_CORE_CTRL_RUN run
    ((List.range 8).foldl (fun s k => if bitOf old k && !bitOf run k then s.coreReset k else s) s).serviceIfHalted.allHalted old
  | _ => s.log 0x280 5 m 0x50

end Sys2Proof.Machine
end

