-- ==== Sys2Proof/Machine/TestOps.lean ====
section
/-! DEFINITION. The test engine (spec/17_service_debug.md, R458 to R460).

Readings fixed here (notes/assumptions): 95 DEDUCED. -/

namespace Sys2Proof.Machine

/-- The test disturbs traffic (R458, R277, R237, R97). -/
def State.testIntrusive (s : State) (num : Nat) (r : TestReq) : Bool :=
  match num with
  | 5 => !s.laneUnused (r.unit % 256)
  | 6 => r.full
  | 7 | 8 => s.enabled (carPage (r.unit % 2))
  | _ => false

/-- R34 permits the test now. -/
def State.testPermitted (s : State) (num : Nat) (r : TestReq) : Bool :=
  if s.testIntrusive num r then s.dev.mode == .maintenance
  else match num with
    | 1 | 2 | 9 => s.testsOk
    | _ => s.shadowOk

/-- A unit that a test cannot name: a stack or a carrier that does not exist. -/
def testUnitBad (num unit : Nat) : Bool :=
  (num == 6 && decide (4 ≤ unit)) || ((num == 7 || num == 8) && decide (2 ≤ unit))

/-- A start is refused (R458, R459): logged on page 0x2A0, but DOMAIN_OFF, a code of page 0x270 only (R75), there; a console
command's is answered there. -/
def State.testRefused (s : State) (m : Master) (con : Bool) (code : Nat) : State :=
  let logged := if code = 0x13 then 0xA else if code = 0x11 then 9 else code
  let s := s.onlyIf (!con || code == 3) fun s => s.log (if code = 6 then 0x270 else 0x2A0) logged m 0x48
  s.onlyIf con fun s => s.emit (.conErr code)

/-- The page whose domain a test uses. -/
def testPage (num unit : Nat) : Nat :=
  match num with
  | 2 | 5 => 0x100 + unit % 256
  | 7 | 8 => carPage (unit % 2) + 2
  | _ => 0

/-- The highest slot unit below `n` that test 4 may use (R460 step 1). -/
def State.freeUnit (s : State) : Nat → Option Nat
  | 0 => none
  | n + 1 =>
    if (s.odu.activeE.memberOf n).isNone && s.cmActive.entry n == 0x20000 then some n else s.freeUnit n

/-- The slot unit of a core test (R460 step 1). -/
def State.coreTestUnit (s : State) (r : TestReq) : Option Nat :=
  if r.laneLeg then
    (if s.laneUnused (r.unit % 256) && s.laneFormat (r.unit % 256) == 3 then some (160 * (r.unit % 256)) else none)
  else s.freeUnit numSu

/-- The block refuses the test's operation as BUSY (R459). -/
def State.testBlockBusy (s : State) (num : Nat) (r : TestReq) : Bool :=
  let n := r.unit % 256
  match num with
  | 2 => s.flag (F.lane_RX_STATUS_RX_ASLEEP n) || s.attempting n || (s.lane n).eye.isSome
  | 4 => !s.cmIdle || s.flag (F.tpc_TPC_CFG_EN 15)
  | 6 => s.fget (F.mem_MTEST_STATUS_STATE r.unit) == 1 || !s.ready (0x2B0 + r.unit) ||
      (r.full && bitOf (s.fget F.prot_SKEW_CFG_STACKS) r.unit && (!s.prot.aligners.isEmpty || s.prot.bondBlocks.isSome))
  | 7 | 8 => (s.car (r.unit % 2)).cal.isSome
  | _ => false

/-- Save fields, and give them values, for a test. -/
def State.testSets (s : State) (l : List (Fl × Nat)) : State :=
  match s.svc.test with
  | none => s
  | some t => { s.fsets l with svc := { s.svc with
      test := some { t with saved := (l.map fun e => s.save e.1) ++ t.saved } } }

/-- What a test does in its block when it starts (R458). -/
def State.testBegins (s : State) (num : Nat) (r : TestReq) : State :=
  let n := r.unit % 256
  match num with
  | 2 => s.eyeMeasure .service n r.eye 32 0 0
  | 4 => s.cmStart .service 6
  | 5 =>
    let s := s.testSets ([(F.lane_LANE_CFG_FORMAT n, 0), (F.lane_TEST_CTRL_LOOP n, 1), (F.lane_TEST_CTRL_GEN_EN n, 1),
      (F.lane_TEST_CTRL_CHK_EN n, 1), (F.lane_TEST_CTRL_POLY n, 0)] ++
      (if s.testIntrusive num r then [(F.hdr_BLK_STATUS_MAINT (0x100 + n), 1)] else []))
    s.trainEval n
  | 6 => s.mtest .service r.unit (if r.full then 2 else 1)
  | 7 => s.calCmd .service (r.unit % 2) 2
  | 8 => s.calCmd .service (r.unit % 2) 1
  | _ => s

/-- A test is started by `m` (R458, R459). -/
def State.testStart (s : State) (m : Master) (num : Nat) (r : TestReq) : State :=
  if s.svc.test.isSome then s.testRefused m r.console 8
  else if testUnitBad num r.unit then s.testRefused m r.console (if r.console then 0x11 else 9)
  else if !s.testPermitted num r then s.testRefused m r.console 3
  else if s.domainOff (testPage num r.unit) then s.testRefused m r.console 6
  else if num = 4 && (s.coreTestUnit r).isNone then s.testRefused m r.console 0x13
  else
    let busy := s.testBlockBusy num r
    let refs := match num with
      | 5 => [s.cget (F.lane_PRBS_ERR_C (r.unit % 256))]
      | 9 => (List.range 4).map fun k => s.cget (F.ez_FEC_UNCORR_C k)
      | _ => []
    let t : TestRun :=
      { num := num, req := r, su := (s.coreTestUnit r).getD 0, step := 1, intrusive := s.testIntrusive num r, refs := refs,
        saved := [s.save F.svc_TEST_STATUS_STATE, s.save F.svc_TEST_STATUS_TEST, s.save F.svc_TEST_STATUS_CODE] }
    let s := s.onlyIf (r.console && !s.svc.conEye) fun s => s.emit .conOk
    let s := { s with svc := { s.svc with test := some t, updateVerdict := 0 } }
    let s := s.fsets [(F.svc_TEST_STATUS_STATE, 1), (F.svc_TEST_STATUS_TEST, num), (F.svc_TEST_STATUS_CODE, 0)]
    let s := s.testBegins num r
    if busy then s.dropTest else s

/-- The running test, at another step of the core test. -/
def State.testStep (s : State) (n : Nat) : State :=
  match s.svc.test with
  | none => s
  | some t => { s with svc := { s.svc with test := some { t with step := n } } }

/-- The core test has its verdict, and ends (step 9) or puts the core back first (step 6). -/
def State.coreVerdict (s : State) (code step : Nat) : State :=
  match s.svc.test with
  | none => s
  | some t => { s with svc := { s.svc with test := some { t with step := step, refs := [code] } } }

/-- The core test writes its entry into the standby page and verifies it (R460 steps 3 and 5). -/
def State.coreStage (s : State) (u v step : Nat) : State :=
  let pg := s.cmStandby.put u v
  ((s.setCmPage (!s.activeB) pg).cmVerify .service).testStep step

/-- The core test arms its swap (R460 steps 3 and 5, R341). -/
def State.coreArm (s : State) : State :=
  if s.dev.mode == .twinActive && s.linkUp then
    (s.fset F.core_SWAP_SF_SF (s.cget F.core_SF_COUNT_C % 2 ^ 32 + 16)).cmArm .service true
  else s.cmArm .service false

/-- The core test goes on when the core has finished a step (R460). -/
def State.coreTestStep (s : State) : State :=
  match s.svc.test with
  | none => s
  | some t =>
    if t.num != 4 || s.cmState = 1 || s.cmState = 2 then s
    else
      let n := t.req.unit % 256
      match t.step with
      | 1 => if s.fget F.core_CM_STATUS_RESULT = 4 then (s.cmStart .service 1).testStep 2 else s.coreVerdict 0x6411 9
      | 2 => s.coreStage t.su 0x30000 3
      | 3 =>
        let s := s.coreArm
        if s.cmState = 4 then s.testStep 4 else s.coreVerdict 0x6499 9
      | 4 =>
        if s.cmState = 4 then s
        else if s.cmActive.entry t.su != 0x30000 then s.coreVerdict 0x6499 9
        else
          let lane := t.req.laneLeg
          let s := s.testSets ([(F.tpc_TPC_CFG_SU 15, if lane then 160 * n else t.su), (F.tpc_TPC_CFG_SIDE 15, b2n (!lane)),
            (F.tpc_TPC_CFG_EN 15, 1)] ++ (if lane then [(F.lane_TEST_CTRL_LOOP n, 1)] else []))
          (s.onlyIf lane fun s => s.trainEval n).testStep 5
      | 6 => s.coreStage t.su 0x20000 7
      | 7 =>
        let s := s.coreArm
        if s.cmState = 4 then s.testStep 8 else s.testStep 9
      | 8 => if s.cmState = 4 then s else s.testStep 9
      | _ => s

/-- Longest run of zeros in a list. -/
def zeroRun : Nat → Nat → List Nat → Nat
  | _, best, [] => best
  | n, best, e :: l => if e = 0 then zeroRun (n + 1) (max best (n + 1)) l else zeroRun 0 best l

/-- The rails out of window, as indexes from 0 (R448). -/
def State.railsOut (s : State) : List Nat :=
  (List.range 9).filter fun i => !(s.fget (F.svc_RAIL_STATE i) == 1 || s.fget (F.svc_RAIL_STATE i) == 2)

/-- An octet PLL with non-zero RATE_SEL is unlocked (R458 test 1). -/
def State.pllOut (s : State) : Bool :=
  (List.range 32).any fun k => [false, true].any fun b => s.pllSel k b != 0 && !s.pllLock k b

/-- The verdict of test 1: code and detail. -/
def State.railVerdict (s : State) : Nat × Nat :=
  let out := s.railsOut
  let map := (out.map fun i => 2 ^ i).foldl (· + ·) 0
  match out with
  | i :: _ => (0x6101 + 16 * (i + 1) + (if s.fget (F.svc_RAIL_MV i) < railNominal i then 0 else 1), map)
  | [] =>
    (if !s.flag F.svc_SVC_STATUS_XO_PRESENT then 0x6115 else if !s.flag F.svc_SVC_STATUS_ROOT_LOCK then 0x6116
     else if s.pllOut then 0x6117 else 0, 0)

/-- The verdict of a converter test on carrier `c` from CAL_STATUS.FAIL: DACs are bits 0 to 3. -/
def convVerdict (base c fail : Nat) : Nat :=
  if fail % 16 ≠ 0 then base + 16 * (c + 1) + 1 else if fail ≠ 0 then base + 16 * (c + 1) + 2 else 0

/-- A test's verdict with its detail, none while its block has not finished (R453, R458). -/
def State.testVerdict (s : State) (t : TestRun) (r : TestResult) : Option (Nat × Nat) :=
  let u := t.req.unit
  match t.num with
  | 1 => some s.railVerdict
  | 2 => match r with
    | .eye l => some (if zeroRun 0 0 (l.take 64) < 8 then 0x6211 else 0, zeroRun 0 0 (l.take 64))
    | _ => none
  | 3 => match r with
    | .march (some x) => some (0x6311, x)
    | .march none => some (0, 0)
    | _ => none
  | 4 => if t.step = 9 then some (t.refs.getD 0 0, t.su) else none
  | 5 => match r with
    | .checker synced errors => some (if !synced then 0x6512 else if errors ≠ 0 then 0x6511 else 0, 0)
    | .registers => some (if s.cget (F.lane_PRBS_ERR_C (u % 256)) ≠ t.refs.getD 0 0 then 0x6511 else 0, 0)
    | _ => none
  | 6 => match s.fget (F.mem_MTEST_STATUS_STATE u) with
    | 2 => some (0, 0)
    | 3 => some (0x6611, s.fget (F.mem_MTEST_STATUS_FAIL_BLK u))
    | _ => none
  | 7 | 8 =>
    if (s.car (u % 2)).cal.isSome then none
    else some (convVerdict (0x6000 + 0x100 * t.num) (u % 2) (s.fget (F.conv_CAL_STATUS_FAIL (u % 2))),
      s.fget (F.conv_CAL_STATUS_FAIL (u % 2)))
  | _ =>
    some (if s.fget F.twin_TWIN_STATUS_LINK ≠ 5 then 0x6911
      else if (List.range 4).any fun k => s.cget (F.ez_FEC_UNCORR_C k) != t.refs.getD k 0 then 0x6912
      else if (List.range 4).any fun k => decide (s.fget (F.ez_EZ_STATUS_ERLE k) < 120) then 0x6913 else 0, 0)

/-- A test with its verdict ends; what followed from its configuration follows from the restored one. -/
def State.testEnds (s : State) (t : TestRun) (code detail : Nat) : State :=
  let eye := s.svc.conEye
  let s := s.onlyIf (t.num == 2) fun s => s.eyeDropped (t.req.unit % 256)
  let s := s.endTest t (code == 0) code detail
  let s := s.onlyIf eye fun s => (s.emit (.conData [detail])).emit .conOk
  s.onlyIf (t.num == 5 || (t.num == 4 && t.req.laneLeg)) fun s => s.trainEval (t.req.unit % 256)

/-- TEST_END (R459): the test engine reaches the end of the running test. The core test in its dwell takes its verdict and
puts the core back (R460 step 5). -/
def State.testDone (s : State) (r : TestResult) : State :=
  match s.svc.test with
  | none => s
  | some t =>
    if r = .blockBusy then
      let eye := s.svc.conEye
      let s := s.dropTest
      ({ s with svc := { s.svc with conEye := false } } : State).onlyIf eye fun s => s.emit (.conErr 8)
    else if t.num = 4 && t.step = 5 then
      (match r with
        | .checker synced errors =>
          let code := if !synced then 0x6412 else if errors = 0 then 0 else if t.req.laneLeg then 0x6414 else 0x6413
          (s.coreVerdict code 6).cmStart .service 1
        | _ => s)
    else match s.testVerdict t r with
      | none => s
      | some (code, detail) => s.testEnds t code detail

/-- TEST ABORT (R459). The core test's entry is put back in the active page. -/
def State.testStop (s : State) : State :=
  match s.svc.test with
  | none => s
  | some t =>
    let s := s.onlyIf (t.num == 4 && s.cmActive.entry t.su == 0x30000) fun s =>
      s.setCmPage s.activeB (s.cmActive.put t.su 0x20000)
    s.testEnds t (0x6099 + t.num * 0x100) 0

/-- The domain that a running test uses has lost its power, or its stack is disabled (R459). -/
def State.testUnpowered (s : State) : Bool :=
  match s.svc.test with
  | none => false
  | some t => s.domainOff (testPage t.num t.req.unit) ||
      (t.num == 4 && t.req.laneLeg && s.domainOff (testPage 5 t.req.unit)) ||
      (t.num == 6 && !s.enabled (0x2B0 + t.req.unit))

/-- An intrusive test runs outside Maintenance, which alone permits it (R34). -/
def State.testForbidden (s : State) : Bool := (s.svc.test.any fun t => t.intrusive) && s.dev.mode != .maintenance

/-- A running test is aborted where its domain has lost its power, or where Maintenance has been left during an intrusive one (R34,
R459). -/
def State.testFollow (s : State) : State := if s.testUnpowered || s.testForbidden then s.testStop else s

/-- The lane of an intrusive test that ended between `s` and `s'` follows its restored configuration (R459). -/
def State.testLane (s s' : State) : State :=
  match s.svc.test with
  | some t => if t.num == 5 && s'.svc.test.isNone then s'.trainEval (t.req.unit % 256) else s'
  | none => s'

/-- TEST_CMD is written (R474). -/
def State.testCmd (s : State) (m : Master) (data : Nat) : State :=
  let num := data % 16
  if bitOf data 16 then s.testStop
  else if num = 0 || 9 < num then s.log 0x2A0 9 m 0x48
  else s.testStart m num
    { unit := bitsOf data 8 8, full := bitOf data 4, laneLeg := bitOf data 5, eye := bitsOf data 6 2, console := false }

end Sys2Proof.Machine
end

