-- ==== Sys2Proof/Machine/TimOps.lean ====
section
/-! DEFINITION. Timing: references, selection, the DPLL's states, holdover and the Bolero (spec/11_timing.md).

Readings fixed here (notes/assumptions): 7 DESIGN CHOICE, 18 DESIGN CHOICE, 71 DEDUCED, 72 DEDUCED, 73 DESIGN CHOICE,
74 DEDUCED, 75 DEDUCED. -/

namespace Sys2Proof.Machine

/-- A reference beside its registers. -/
def State.ref (s : State) (r : Nat) : RefState := spGet {} s.tim.refs r

/-- Replace a reference's hidden state. -/
def State.setRef (s : State) (r : Nat) (v : RefState) : State :=
  { s with tim := { s.tim with refs := spPut {} s.tim.refs r v } }

/-- Replace the DPLL's hidden state. -/
def State.setTim (s : State) (t : Timing) : State := { s with tim := t }

/-! ## The configuration in force (R319) -/

/-- The timing configuration that acts between evaluations. -/
def timFields : List Fl :=
  [F.tim_MON_CFG_WARN, F.tim_MON_CFG_DISQ, F.tim_OUT_CFG_FREQ0, F.tim_OUT_CFG_SRC0, F.tim_OUT_CFG_RCV0,
    F.tim_OUT_CFG_SQUELCH0, F.tim_OUT_CFG_EN0, F.tim_OUT_CFG_OUT1, F.tim_OUT_CFG_PPS_EN, F.tim_DPLL_CFG_HOLD_LIMIT,
    F.ref_REF_CFG8_WTR] ++
  (List.range 4).map F.tim_RCV_SEL_PORT ++ (List.range 9).map F.ref_REF_CFG_PRIO ++ (List.range 8).map F.ref_REF_CFG_WTR

/-- A configuration field as the last evaluation took it. -/
def State.timCfg (s : State) (f : Fl) : Nat := spGet f.rst s.tim.cfg f.key

/-- An evaluation takes the configuration written since the last one. -/
def State.takeTimCfg (s : State) : State :=
  s.setTim { s.tim with cfg := timFields.foldl (fun m f => spPut f.rst m f.key (s.fget f)) s.tim.cfg }

/-- The mean of `n` samples; a quotient that is no whole unit is one of its two neighbours, a free value (R303 and R313
state no rounding). -/
def State.meanOf (s : State) (sum : Int) (n : Nat) : Int :=
  if sum % (n : Int) = 0 then sum / (n : Int) else sum / (n : Int) + ((Config.freeValue s.free % 2 : Nat) : Int)

/-- WTR of a reference in seconds; above 720 acts as 720 (R304, R320). -/
def State.refWtr (s : State) (r : Nat) : Nat :=
  min 720 (s.timCfg (if r = 8 then F.ref_REF_CFG8_WTR else F.ref_REF_CFG_WTR r))

/-- A recovered clock's port is usable (R300). -/
def State.rcvUsable (s : State) (port : Nat) : Bool :=
  if port < 256 then
    s.enabled (0x100 + port) && s.flag (F.lane_RX_STATUS_SIG port) && s.flag (F.lane_RX_STATUS_CDR_LOCK port) &&
      !s.flag (F.lane_RX_STATUS_RX_ASLEEP port)
  else if port < 258 then s.enabled (carPage (port - 256)) && s.flag (F.car_RX_STATUS_DSP_LOCK (port - 256))
  else false

/-- SRC_FAIL of a reference (R300, R301). -/
def State.srcFail (s : State) (r : Nat) : Bool :=
  if r < 4 then false
  else if r < 8 then !s.rcvUsable (s.timCfg (F.tim_RCV_SEL_PORT (r - 4)))
  else !(s.linkUp && s.fget F.dev_ROLE_ROLE == 2 && s.dev.mode != .forerunner)

/-- A reference is valid (R304). -/
def State.refValid (s : State) (r : Nat) : Bool :=
  s.timCfg (F.ref_REF_CFG_PRIO r) != 0 && !s.flag (F.ref_REF_STATUS_SRC_FAIL r) &&
  s.flag (F.ref_REF_STATUS_ACTIVITY r) && !s.flag (F.ref_REF_STATUS_GROSS r) &&
  s.flag (F.ref_REF_STATUS_WINDOW_FULL r) && !s.flag (F.ref_REF_STATUS_DISQ r) &&
  !s.flag (F.ref_REF_STATUS_LOCK_FAIL r)

/-- A reference becomes eligible (R304). -/
def State.refEligible (s : State) (r : Nat) : State :=
  (s.fsets [(F.ref_REF_STATUS_ELIGIBLE r, 1), (F.ref_REF_STATUS_WTR_LEFT r, 0)]).raise 0x240 4

/-- The validity of a reference is judged again: lost, it is not eligible and WTR restarts; gained for the first time since
full reset, it is eligible at once, otherwise after WTR (R304). -/
def State.judgeRef (s : State) (r : Nat) : State :=
  let s := s.fput (F.ref_REF_STATUS_SRC_FAIL r) (s.srcFail r)
  let was := s.flag (F.ref_REF_STATUS_VALID r)
  let now := s.refValid r
  let s := s.fput (F.ref_REF_STATUS_VALID r) now
  if !now then s.fsets [(F.ref_REF_STATUS_ELIGIBLE r, 0), (F.ref_REF_STATUS_WTR_LEFT r, 0)]
  else if was then s
  else
    let first := !(s.ref r).everValid
    let s := s.setRef r { s.ref r with everValid := true }
    if first || s.refWtr r = 0 then s.refEligible r else s.fset (F.ref_REF_STATUS_WTR_LEFT r) (s.refWtr r)

/-- A recovered clock or TWIN whose source comes or goes is judged at once (R300, R301, R304). -/
def State.sourcesFollow (s : State) : State :=
  (List.range' 4 5).foldl (fun s r => if s.srcFail r = s.flag (F.ref_REF_STATUS_SRC_FAIL r) then s else s.judgeRef r) s

/-! ## The history (R313) -/

/-- The newest run of 64 usable samples at or after place `i`, among `n` places still to try. -/
def histRun (h : List (Int × Bool)) : Nat → Nat → Option (List Int)
  | 0, _ => none
  | n + 1, i =>
    let w := (h.drop i).take 64
    if w.length = 64 && w.all Prod.snd then some (w.map Prod.fst) else histRun h n (i + 1)

/-- The history that entry to HOLDOVER now would use: its last sample ends 128 s ago or earlier. -/
def State.history (s : State) : Option (List Int) := histRun s.tim.hist 833 128

/-- HIST_VALID and HIST_FFO follow the samples kept; in HOLDOVER, HIST_FFO is the history in use (R313, R320). -/
def State.histShow (s : State) : State :=
  match s.history with
  | none => s.fsets [(F.tim_DPLL_STATUS_HIST_VALID, 0), (F.tim_HIST_FFO_FFO, 0)]
  | some w =>
    let s := s.fset F.tim_DPLL_STATUS_HIST_VALID 1
    if s.fget F.tim_DPLL_STATUS_STATE = 3 then s
    else (s.fset F.tim_HIST_FFO_FFO (ofSigned 32 (s.meanOf (w.foldl (· + ·) 0) 64))).tick

/-- The samples of the last 128 s are marked unusable: the selected reference was disqualified (R313). -/
def State.histTaint (s : State) : State :=
  (s.setTim { s.tim with hist := (s.tim.hist.take 128).map (fun e => (e.1, false)) ++ s.tim.hist.drop 128 }).histShow

/-- A second ends: the output's offset joins the history, usable when the DPLL was LOCKED throughout and the reference it follows
has not been disqualified meanwhile (R313); HOLDOVER counts its seconds and minutes. -/
def State.historySample (s : State) (off : Int) : State :=
  let st := s.fget F.tim_DPLL_STATUS_STATE
  let sel := s.fget F.tim_DPLL_STATUS_SEL_REF
  let usable := s.tim.lockedWhole && st == 2 && !(decide (sel < 9) && s.flag (F.ref_REF_STATUS_DISQ sel))
  let s := s.setTim { s.tim with hist := ((off, usable) :: s.tim.hist).take 1024,
                                  lockedWhole := st == 2 }
  let s := s.onlyIf (st == 3) fun s =>
    let s := (s.setTim { s.tim with holdSecs := s.tim.holdSecs + 1 }).cadd F.tim_HOLDOVER_SECONDS_C 1
    s.fset F.tim_DPLL_STATUS_HOLD_MIN (min 0xFFFF (s.tim.holdSecs / 60))
  s.histShow

/-! ## States (R307) -/

/-- A TIMING record: DPLL_STATUS, and the previous and new SEL_REF (R463). -/
def State.timRecord (s : State) (old new : Nat) : State :=
  s.jrnl 8 hwMaster 0x240 (leBytes 4 (s.storedReg .warden 0x240 0x4C) ++ [old, new])

/-- The DPLL changes state: STATE_CHG and a journal record; leaving LOCKED ends the second's usability; HOLD_MIN reads 0
outside HOLDOVER, and HIST_FFO shows again what entry would use; RAMP falls outside LOST (R307, R313, R314). -/
def State.dpllState (s : State) (st : Nat) : State :=
  let was := s.fget F.tim_DPLL_STATUS_STATE
  if was = st then s
  else
    let s := (s.setTim { s.tim with lockedWhole := false, holdSecs := 0 }).fsets [(F.tim_DPLL_STATUS_STATE, st),
      (F.tim_DPLL_STATUS_HOLD_MIN, 0), (F.tim_DPLL_STATUS_RAMP, 0)]
    let s := (s.raise 0x240 0).onlyIf (was == 3) State.histShow
    let sel := s.fget F.tim_DPLL_STATUS_SEL_REF
    s.timRecord sel sel

/-- The DPLL enters LOST and begins the Bolero (R314). -/
def State.dpllLost (s : State) : State :=
  let s := (s.dpllState 4).cadd F.tim_LOST_ENTRIES_C 1
  s.fput F.tim_DPLL_STATUS_RAMP (s.fget F.tim_DPLL_FFO_FFO != 0)

/-- No reference is left: HOLDOVER with a valid history, otherwise LOST (R307). -/
def State.dpllUnlocked (s : State) : State :=
  if s.flag F.tim_DPLL_STATUS_HIST_VALID then
    ((s.setTim { s.tim with held := signedOf 32 (s.fget F.tim_HIST_FFO_FFO) }).dpllState 3).cadd F.tim_HOLDOVER_ENTRIES_C 1
  else s.dpllLost.raise 0x240 7

/-- SEL_REF takes a reference, 0xF for none; SELECTED follows (R320). -/
def State.setSel (s : State) (r : Nat) : State :=
  (List.range 9).foldl (fun s k => s.fput (F.ref_REF_STATUS_SELECTED k) (k == r)) (s.fset F.tim_DPLL_STATUS_SEL_REF r)

/-- The better of two references by PRIO, then by number (R305). -/
def State.betterRef (s : State) (a : Option Nat) (r : Nat) : Option Nat :=
  match a with
  | none => some r
  | some b => if s.fget (F.ref_REF_CFG_PRIO r) < s.fget (F.ref_REF_CFG_PRIO b) then some r else a

/-- The eligible reference that automatic selection names, TWIN apart. -/
def State.bestRef (s : State) : Option Nat :=
  ((List.range 8).filter fun r => s.flag (F.ref_REF_STATUS_ELIGIBLE r)).foldl s.betterRef none

/-- Automatic selection (R305): non-revertive keeps an eligible selection; revertive leaves it only for a lower PRIO. -/
def State.autoRef (s : State) : Option Nat :=
  let cur := s.fget F.tim_DPLL_STATUS_SEL_REF
  if cur < 8 && s.flag (F.ref_REF_STATUS_ELIGIBLE cur) then
    match s.bestRef with
    | some r =>
      if s.flag F.tim_DPLL_CFG_REVERT && decide (s.fget (F.ref_REF_CFG_PRIO r) < s.fget (F.ref_REF_CFG_PRIO cur))
      then some r else some cur
    | none => some cur
  else s.bestRef

/-- R306 is in force: a standby or stale twin follows TWIN while it is eligible. -/
def State.twinOvr (s : State) : Bool :=
  (s.dev.twinRole == 2 || s.dev.twinRole == 3) && s.flag (F.ref_REF_STATUS_ELIGIBLE 8)

/-- The selection that R305 and R306 name. -/
def State.wantRef (s : State) : Option Nat :=
  if s.twinOvr then some 8
  else match s.fget F.tim_DPLL_CFG_MODE with
    | 1 =>
      let r := s.fget F.tim_DPLL_CFG_FORCE_REF
      if r < 8 && s.flag (F.ref_REF_STATUS_VALID r) then some r else none
    | 2 => none
    | _ => s.autoRef

/-- Selection takes effect: a new reference is a reference switch and begins an acquisition, afresh in a retarget (R305,
R307, R312); with none left the DPLL enters HOLDOVER or LOST, as it does when MODE 2 finds it in FREE_RUN (R305). -/
def State.select (s : State) : State :=
  let cur := s.fget F.tim_DPLL_STATUS_SEL_REF
  let s := s.fput F.tim_DPLL_STATUS_TWIN_OVR s.twinOvr
  match s.wantRef with
  | some r =>
    if r = cur then s
    else
      let s := ((s.setSel r).cadd F.tim_REF_SWITCHES_C 1).raise 0x240 1
      let s := (s.fset F.tim_DPLL_STATUS_EVER_QUAL 1).timRecord cur r
      s.dpllState 1
  | none =>
    let st := s.fget F.tim_DPLL_STATUS_STATE
    if cur = 0xF && st != 0 then s
    else if cur = 0xF && s.fget F.tim_DPLL_CFG_MODE != 2 then s
    else
      let s := s.onlyIf (cur != 0xF) fun s => ((s.setSel 0xF).raise 0x240 1).timRecord cur 0xF
      s.dpllUnlocked

/-- The phase-slope limit in 10^-12 for each millisecond (R310). -/
def State.slopePerMs (s : State) : Int := ((max 1 (min 100 (s.fget F.tim_DPLL_CFG2_SLOPE_LIM)) * 100 : Nat) : Int)

/-- A value moved towards a target by at most a step. -/
def towards (x target step : Int) : Int := max (x - step) (min (x + step) target)

/-- The output's offset over the last millisecond: it tracks `off` while a reference is followed, moves to the history in
HOLDOVER, and to nominal in LOST at no more than 0.05 ppm/s (R307, R310, R314). -/
def State.outputMoves (s : State) (off : Int) : State :=
  let x := signedOf 32 (s.fget F.tim_DPLL_FFO_FFO)
  let y := match s.fget F.tim_DPLL_STATUS_STATE with
    | 0 => 0
    | 3 => towards x s.tim.held s.slopePerMs
    | 4 => towards x 0 50
    | _ => towards x off s.slopePerMs
  s.fset F.tim_DPLL_FFO_FFO (ofSigned 32 y)

/-- A threshold of MON_CFG in 10^-12: 0 acts as 1, above 1,500 as 1,500 (R303, R320). -/
def monThreshold (x : Nat) : Nat := max 1 (min 1500 x) * 10000

/-- A full window's mean is held against MON_CFG: WARN and DISQ (R303). -/
def State.refCompare (s : State) (r : Nat) : State :=
  if !s.flag (F.ref_REF_STATUS_WINDOW_FULL r) then s
  else
    let v := signedOf 32 (s.fget (F.ref_REF_FFO_FFO r))
    let warn := monThreshold (s.timCfg F.tim_MON_CFG_WARN)
    let disq := monThreshold (s.timCfg F.tim_MON_CFG_DISQ)
    let wasW := s.flag (F.ref_REF_STATUS_WARN r)
    let wasD := s.flag (F.ref_REF_STATUS_DISQ r)
    let nowW := if wasW then decide (warn * 9 < v.natAbs * 10) else decide (warn < v.natAbs)
    let nowD := if wasD then decide (disq * 9 < v.natAbs * 10) else decide (disq < v.natAbs)
    let s := s.fsets [(F.ref_REF_STATUS_WARN r, b2n nowW), (F.ref_REF_STATUS_DISQ r, b2n nowD)]
    let s := s.onlyIf (nowW && !wasW) fun s => s.raise 0x240 2
    s.onlyIf (nowD && !wasD) fun s =>
      let s := (s.raise 0x240 3).cadd (F.ref_DISQ_CNT_C r) 1
      s.onlyIf (s.fget F.tim_DPLL_STATUS_SEL_REF == r) State.histTaint

/-- The evaluation of every millisecond (R305): it takes the configuration written since the last (R319), references are judged, selection takes effect, and a LOCK_FAIL is cleared as
its WTR starts (R311). `off` is the offset to which the DPLL's loop tracks. -/
def State.evalSelection (s : State) (off : Int) : State :=
  let s := s.takeTimCfg.outputMoves off
  let s := (List.range 9).foldl (fun s r => (s.refCompare r).judgeRef r) s
  let s := s.select
  (List.range 9).foldl (fun s r =>
    if s.flag (F.ref_REF_STATUS_LOCK_FAIL r) then (s.fset (F.ref_REF_STATUS_LOCK_FAIL r) 0).judgeRef r else s) s

/-! ## References (R302, R303, R311) -/

/-- A reference's window is discarded (R303). -/
def State.windowReset (s : State) (r : Nat) : State :=
  (s.setRef r { s.ref r with samples := [] }).fsets [(F.ref_REF_STATUS_WINDOW_FULL r, 0), (F.ref_REF_FFO_FFO r, 0)]

/-- A reference fails: no edges, or its offset is gross (R302). -/
def State.refFails (s : State) (r : Nat) (gross : Bool) : State :=
  let s := if gross then s.fset (F.ref_REF_STATUS_GROSS r) 1 else s.fset (F.ref_REF_STATUS_ACTIVITY r) 0
  ((s.windowReset r).raise 0x240 5).judgeRef r

/-- A failure has ended (R302). -/
def State.refFailEnds (s : State) (r : Nat) : State :=
  (s.fsets [(F.ref_REF_STATUS_ACTIVITY r, 1), (F.ref_REF_STATUS_GROSS r, 0)]).judgeRef r

/-- A one-second sample of a reference that has not failed (R303): the window's mean, WARN and DISQ. WTR_LEFT counts the
seconds. -/
def State.refSample (s : State) (r : Nat) (off : Int) : State :=
  let s := s.fset (F.ref_REF_STATUS_WTR_LEFT r) (s.fget (F.ref_REF_STATUS_WTR_LEFT r) - 1)
  if !s.flag (F.ref_REF_STATUS_ACTIVITY r) || s.flag (F.ref_REF_STATUS_GROSS r) then s
  else
    let l := (off :: (s.ref r).samples).take 16
    let s := s.setRef r { s.ref r with samples := l }
    if l.length < 16 then s
    else
      let v := s.meanOf (l.foldl (· + ·) 0) 16
      let s := (s.fsets [(F.ref_REF_STATUS_WINDOW_FULL r, 1), (F.ref_REF_FFO_FFO r, ofSigned 32 v)]).tick
      (s.refCompare r).judgeRef r

/-- A reference that is still valid completes its WTR (R304). -/
def State.refWtrExpires (s : State) (r : Nat) : State :=
  let s := s.judgeRef r
  if s.flag (F.ref_REF_STATUS_VALID r) && !s.flag (F.ref_REF_STATUS_ELIGIBLE r) then s.refEligible r else s

/-- Acquisition is complete (R311). -/
def State.acqLocked (s : State) : State :=
  if s.fget F.tim_DPLL_STATUS_STATE = 1 then s.dpllState 2 else s

/-- The acquisition bound expires: LOCK_FAIL, and the reference is treated as failed (R311). -/
def State.acqTimeout (s : State) : State :=
  let r := s.fget F.tim_DPLL_STATUS_SEL_REF
  if s.fget F.tim_DPLL_STATUS_STATE = 1 && r < 9 then
    ((s.fset (F.ref_REF_STATUS_LOCK_FAIL r) 1).raise 0x240 5).judgeRef r
  else s

/-- HOLD_LIMIT expires in HOLDOVER: LOST, unless a reference is eligible in the same evaluation (R314, R316). -/
def State.holdLimitExpires (s : State) : State :=
  if s.fget F.tim_DPLL_STATUS_STATE != 3 || s.timCfg F.tim_DPLL_CFG_HOLD_LIMIT = 0 then s
  else
    let s := (List.range 9).foldl State.judgeRef s.takeTimCfg
    if s.wantRef.isSome then s.select else (s.raise 0x240 6).dpllLost

/-- The ramp reaches nominal (R314). -/
def State.boleroEnds (s : State) : State :=
  if s.fget F.tim_DPLL_STATUS_STATE = 4 then s.fsets [(F.tim_DPLL_STATUS_RAMP, 0), (F.tim_DPLL_FFO_FFO, 0)] else s

/-! ## Output clocks (R317, R318) -/

/-- The configuration byte of a REF_OUT. -/
def State.outCfg (s : State) (k : Nat) : Nat :=
  if k = 0 then s.timCfg F.tim_OUT_CFG_FREQ0 + 8 * s.timCfg F.tim_OUT_CFG_SRC0 + 16 * s.timCfg F.tim_OUT_CFG_RCV0 +
    64 * s.timCfg F.tim_OUT_CFG_SQUELCH0 + 128 * s.timCfg F.tim_OUT_CFG_EN0
  else s.timCfg F.tim_OUT_CFG_OUT1

/-- REF_OUT k runs, with its source (0 the DPLL, 1 + i RCVi) and frequency code; none while it is held low (R317, R35). -/
def State.refOut (s : State) (k : Nat) : Option (Nat × Nat) :=
  let w := s.outCfg k
  let squelched := bitOf w 6 &&
    (if bitOf w 3 then !s.rcvUsable (s.timCfg (F.tim_RCV_SEL_PORT (bitsOf w 4 2))) ||
        !s.flag (F.ref_REF_STATUS_ACTIVITY (4 + bitsOf w 4 2)) || s.flag (F.ref_REF_STATUS_GROSS (4 + bitsOf w 4 2))
      else s.fget F.tim_DPLL_STATUS_STATE != 2)
  if bitOf w 7 && !squelched && s.booted && s.dev.mode != .quarantine then
    some (if bitOf w 3 then 1 + bitsOf w 4 2 else 0, bitsOf w 0 3)
  else none

/-- PPS_OUT rises at the tick instant, in every mode that ticks, unless PPS_EN holds it low (R318). -/
def State.ppsOut (s : State) : State :=
  if s.timCfg F.tim_OUT_CFG_PPS_EN != 0 then s.emit .pps else s

end Sys2Proof.Machine
end

