-- ==== Sys2Proof/Machine/Emzal.lean ====
section
/-! DEFINITION. What the Emzal link carries: the cells of a Waltz message, its codewords and the training frames of bring-up
(spec/12_twin.md R325, R326, R333 to R335, R338, R340, R346, R347).

Readings fixed here (notes/assumptions): 115 DESIGN CHOICE. -/

namespace Sys2Proof.Machine

/-! ## The cells of a message (R334, R335, R338, R340) -/

/-- A list of bytes in 64-byte cells, zeros after it. -/
def cellsOf (n : Nat) (bytes : List Nat) : List (List Nat) := pieces 64 n (padTo (64 * n) bytes)

/-- The cell counts of the five sections (R334, R335). -/
def sectionCells (m : WaltzMsg) : List Nat :=
  [if m.copied then 129 else 0, if m.copied then 5760 else 0, 1440, 720, m.recs.length]

/-- A cell with the CRC-32 of its first 60 bytes in its last four (R335, R325). -/
def crcCell (bytes : List Nat) : List Nat := padTo 60 bytes ++ leBytes 4 (crc32 (padTo 60 bytes))

/-- The header cell (R335). -/
def headerCell (m : WaltzMsg) : List Nat :=
  let h := m.hdr
  crcCell (leBytes 4 0x57414C5A ++ leBytes 4 h.sf ++ leBytes 4 h.dTx ++ leBytes 4 (ofSigned 32 h.x) ++
    [h.mode % 16 + 16 * (h.role % 4) + 64 * b2n h.side + 128 * b2n h.eligible,
     b2n h.handover + 2 * b2n h.resyncReq + 4 * b2n h.resyncAck + 8 * b2n h.deferred + 16 * b2n h.overrun + 32 * b2n h.sfAligned] ++
    leBytes 2 h.fault ++ (sectionCells m).flatMap (leBytes 2) ++ leBytes 4 h.appliedSf)

/-- A port's 32 bytes (R338). -/
def portBytes (p : Nat) (e : PortEntry) : List Nat :=
  padTo 32 (leBytes 2 p ++ [0, 0] ++ leBytes 4 e.fc ++ leBytes 4 e.pos ++ [e.mfas, 0] ++ leBytes 2 e.d)

/-- A mapper entry's 64 bits (R338). -/
def mapperWord (e : MapperEntry) : Nat :=
  2 ^ 63 + if e.fr then e.mfi % 256 + 2 ^ 8 * (e.unread % 4) + 2 ^ 10 * b2n e.run + 2 ^ 11 * b2n e.inFrame
    else e.word % 2 ^ 13 + 2 ^ 13 * (e.frame % 2 ^ 19) + 2 ^ 32 * (e.phase % 2 ^ 16) + 2 ^ 48 * ofSigned 12 e.trim +
      2 ^ 60 * b2n e.gen

/-- A field-journal record in 56 bytes: its bytes that are always zero and the top byte of SF_COUNT are left out (R462). -/
def jrecBytes (r : JRec) : List Nat :=
  leBytes 4 r.seq ++ [r.typ, r.master] ++ leBytes 2 r.page ++ leBytes 6 r.uptime ++ leBytes 2 r.aonCycle ++ leBytes 7 r.sf ++
    leBytes 4 r.tick ++ [r.modeRole] ++ padTo 28 r.body

/-- TYPE and body of a record (R340); the bodies' layouts are the model's. -/
def bodyBytes (b : TwinBody) : Nat × List Nat :=
  match b with
  | .regWrite p region dw be data m => (1, leBytes 2 p ++ [region, be] ++ leBytes 4 (4 * dw) ++ leBytes 4 data ++ [m])
  | .cmBurst base l => (2, leBytes 4 base ++ leBytes 4 l.length ++ l.flatMap (leBytes 3))
  | .ctxConfig x dws => (3, leBytes 4 x ++ dws.flatMap (leBytes 4))
  | .protState g dws => (4, leBytes 4 g ++ dws.flatMap (leBytes 4))
  | .frameCount su fc => (5, leBytes 4 su ++ leBytes 4 fc)
  | .pmRecords tick recs => (6, leBytes 4 tick ++ recs.flatMap fun e => leBytes 4 e.1 ++ e.2)
  | .fieldJournal r => (7, jrecBytes r)
  | .bulk region l => (8, leBytes 8 region ++ l.flatMap fun e => leBytes 4 e.1 ++ leBytes 4 e.2)

/-- The cell of a journal record (R340). -/
def recordCell (r : TwinRec) : List Nat :=
  let b := bodyBytes r.body
  padTo 64 ([b.1, b2n (decide (b.1 ≤ 5))] ++ leBytes 2 r.seq ++ leBytes 4 (r.sf % 2 ^ 27 + 2 ^ 27 * r.frame) ++ b.2)

/-- The cells of a message before its trailer (R334): slot units without a signature have signature 0 and EXCL (R346). -/
def messageCells (m : WaltzMsg) : List (List Nat) :=
  let ports := (List.range 258).flatMap fun p => match m.ports.find? fun e => e.1 == p with
    | some e => portBytes p e.2
    | none => List.replicate 32 0
  let maps := (List.range 46080).flatMap fun u => match m.mappers.find? fun e => e.1 == u with
    | some e => leBytes 8 (mapperWord e.2)
    | none => List.replicate 8 0
  [headerCell m] ++ (if m.copied then cellsOf 129 ports ++ cellsOf 5760 maps else []) ++
  cellsOf 1440 ((List.range 46080).flatMap fun u => leBytes 2 (spGet 0 m.sigs u)) ++
  cellsOf 720 ((List.range 46080).map fun u => spGet 8 m.tags u) ++ m.recs.map recordCell

/-- A message's CRC-32 over every cell before its trailer (R334). -/
def messageCrc (m : WaltzMsg) : Nat := crc32 (messageCells m).flatten

/-- The cells of a message (R334). -/
def waltzCells (m : WaltzMsg) : List (List Nat) := messageCells m ++ [List.replicate 60 0 ++ leBytes 4 (messageCrc m)]

/-! ## Codewords (R325) -/

/-- The header of a data codeword: VALID of its ten cells and, on lane 0, SOM. -/
def dataHeader (valid : List Bool) (som : Bool) : Nat :=
  ((List.range 10).map fun c => 2 ^ c * b2n (valid.getD c false)).sum + 2 ^ 10 * b2n som

/-- A message in codeword periods of four lanes, each a header and ten cells: cell 40p + 10l + c stands in cell c of lane l's
codeword of period p, and SOM stands in the first (R325). -/
def waltzPeriods (cells : List (List Nat)) : List (List (Nat × List (List Nat))) :=
  (List.range ((cells.length + 39) / 40)).map fun p => (List.range 4).map fun l =>
    let mine := (cells.drop (40 * p + 10 * l)).take 10
    (dataHeader (mine.map fun _ => true) (p == 0 && l == 0), mine ++ List.replicate (10 - mine.length) (List.replicate 64 0))

/-- The 5,440 bits of a codeword of a header and ten cells (R325). -/
def ezCodeword (header : Nat) (cells : List (List Nat)) : List Bool :=
  rsEncode (bitsMsb 20 header ++ bitsOfBytes cells.flatten)

/-- The marker of an alignment codeword (R325). -/
def ezMarker : List Nat := [0x4D, 0x3A, 0xC6, 0xE1, 0x59, 0x2B, 0x07, 0xF4]

/-- Cell 0 of an alignment codeword (R325): lane, TWIN_SIDE, alignment on all four lanes, codeword counter. -/
def alignCell (k : Nat) (side all : Bool) (counter : Nat) : List Nat :=
  crcCell (ezMarker ++ [k, b2n side + 2 * b2n all] ++ leBytes 4 counter)

/-- The symbols of an alignment codeword (R325): it is not scrambled. -/
def alignSymbols (k : Nat) (side all : Bool) (counter : Nat) : List Nat :=
  graySyms (ezCodeword 0xFFFFF (alignCell k side all counter :: List.replicate 9 (List.replicate 64 0)))

/-- The symbols of lane `k` from codeword counter `c` on (R324, R325): data codewords under the PRBS31 that starts after each
alignment codeword, and the alignment codewords, every 4,096th, that fall among them. -/
def ezLine (k : Nat) (side all : Bool) : Nat → List (Nat × List (List Nat)) → List Nat
  | _, [] => []
  | c, e :: l =>
    let data := fun (c : Nat) => graySyms (scramble (5440 * (c % 4096 - 1)) (ezCodeword e.1 e.2))
    if c % 4096 = 0 then alignSymbols k side all c ++ data (c + 1) ++ ezLine k side all (c + 2) l
    else data c ++ ezLine k side all (c + 1) l

/-- The symbols of the four lanes for a message's periods, from codeword counter `c` on. -/
def ezLines (side all : Bool) (c : Nat) (periods : List (List (Nat × List (List Nat)))) : List (List Nat) :=
  (List.range 4).map fun k => ezLine k side all c (periods.map fun p => p.getD k (0, []))

/-- A codeword is an alignment codeword: in its 84-bit window at most 4 bits are in error (R325), and its CRC holds. -/
def isAlignment (header : Nat) (cell : List Nat) : Bool :=
  let want := bitsMsb 20 0xFFFFF ++ bitsOfBytes ezMarker
  let got := bitsMsb 20 header ++ bitsOfBytes (padTo 8 cell)
  decide (((List.zipWith (· != ·) want got).filter id).length ≤ 4) && leNat ((cell.drop 60).take 4) == crc32 (padTo 60 cell)

/-! ## Training (R326) -/

/-- The status field of a training frame of bring-up. -/
def ezStatusWord (side : Bool) (state : Nat) (all : Bool) : Nat := b2n side + 2 * state + 16 * b2n all

/-- The symbols of a training frame of bring-up on each of the four lanes: the form of R253 with a control field of zero. -/
def ezTraining (status : Nat) : List (List Nat) := (List.range 4).map fun k => (trainingFrame true false 0 status (k + 1)).1

end Sys2Proof.Machine
end

