-- ==== Sys2Proof/Machine/TwinCtl.lean ====
section
/-! DEFINITION. The Emzal link machine, the interlock, claims, switchover commands and superframe tracking
(spec/12_twin.md, R324 to R332, R349 to R353).

Readings fixed here (notes/assumptions): 7 DESIGN CHOICE, 22 DEDUCED, 76 DEDUCED, 77 DEDUCED, 78 DEDUCED, 79 DEDUCED,
107 DESIGN CHOICE, 115 DESIGN CHOICE. -/

namespace Sys2Proof.Machine

/-- The role is TWIN and the block is powered (R323). -/
def State.paired (s : State) : Bool := s.live && s.fget F.dev_ROLE_ROLE == 2

/-- This twin is side B. -/
def State.sideB (s : State) : Bool := s.flag F.twin_TWIN_STATUS_SIDE

/-- The link machine's state (R326). -/
def State.link (s : State) : Nat := s.fget F.twin_TWIN_STATUS_LINK

/-- Partner reading: 0 ABSENT, 1 ACTIVE, 2 STANDBY, 3 FAULT (R328). -/
def State.reading (s : State) : Nat := s.fget F.twin_TWIN_STATUS_PARTNER

/-- Emzal lane `k`. -/
def State.ez (s : State) (k : Nat) : EzLane := spGet {} s.twin.lanes k

/-- Replace it. -/
def State.setEz (s : State) (k : Nat) (v : EzLane) : State :=
  { s with twin := { s.twin with lanes := spPut {} s.twin.lanes k v } }

/-- All four lanes are locked, and within the four codeword periods that can be deskewed (R325). -/
def State.ezAligned (s : State) : Bool :=
  ((List.range 4).all fun k => s.flag (F.ez_EZ_STATUS_AM_LOCK k)) &&
  ((List.range 4).all fun j => (List.range 4).all fun k => decide ((s.ez j).lag - (s.ez k).lag ≤ 10880))

/-- This twin's signal is on the link's lanes in state `n`: side A's in SOLO, side B's in SOLO_B, both in DUPLEX and UP (R326). -/
def ezSends (sideB : Bool) (n : Nat) : Bool := n == 4 || n == 5 || n == (if sideB then 3 else 2)

/-- Training frames are sent (R326). -/
def State.ezTrain (s : State) (n : Nat) : State :=
  let w := ezStatusWord s.sideB n s.ezAligned
  s.emit (.ezTraining w (ezTraining w))

/-- The link enters a state; entering or leaving UP raises LINK_CHG, and the side whose state it is sends training frames
(R326). A lane's SIG shows the partner's signal. -/
def State.setLink (s : State) (n : Nat) : State :=
  let was := s.link
  let s := s.fset F.twin_TWIN_STATUS_LINK n
  let s := s.fsets ((List.range 4).map fun k => (F.ez_EZ_STATUS_SIG k, b2n (ezSends (!s.sideB) n)))
  let s := s.onlyIf ((n == 2 || n == 3) && ezSends s.sideB n) fun s => s.ezTrain n
  if (was == 5) != (n == 5) then s.raise 0x250 1 else s

/-- What the rails drive: 0 low, 1 high, 2 beacon (R327). -/
def State.railDrive (s : State) : Nat :=
  match s.outMode with
  | .twinActive => 1
  | .standalone => if s.fget F.dev_ROLE_ROLE = 2 then 1 else 0
  | .twinStandby | .twinStale => 2
  | _ => 0

/-- TWIN_SEL_O (R33, R349). -/
def State.selO (s : State) : Bool := s.outMode == .twinActive

/-- Resynchronisation goes to step `n`, with nothing kept of an earlier one: 0 none, 6 waiting for its retry (R345). -/
def State.resyncAt (s : State) (n : Nat) : State :=
  { s with twin := { s.twin with
    resync := n, age := 0, cleanRun := 0, imaged := false, mirrorQ := [], kept := [], late := none } }

/-- Resynchronisation starts (R345 step 1). -/
def State.startResync (s : State) : State :=
  ((s.resyncAt 1).fset F.twin_TWIN_STATUS_RESYNC 1).cadd F.twin_RESYNCS_C 1

/-- A resynchronisation step fails: it restarts after 100 ms (R345). -/
def State.failResync (s : State) : State :=
  if s.twin.resync = 0 then s else (s.resyncAt 6).fset F.twin_TWIN_STATUS_STALE_CAUSE 3

/-- The link leaves its state for DOWN (R326): leaving UP counts, resets the mirror master (R406), drops the records not
sent, and begins the standby's grace (R351). A message already complete stays, to be applied (R349 step 3). -/
def State.linkDown (s : State) : State :=
  let wasUp := s.linkUp
  let s := s.setLink 0
  let s := (List.range 4).foldl (fun s k => (s.setEz k {}).fset (F.ez_EZ_STATUS_AM_LOCK k) 0) s
  let s := { s with twin := { s.twin with
    partnerAligned := false, alignRun := 0, upAge := 0, ack := false, owed := false, urgent := [], bulkQ := []
    theirs := [], seen := [], misRun := [] } }
  if wasUp then
    let s := (s.cadd F.twin_LINK_DOWNS_C 1).masterReset .twin
    let s := (s.fset F.twin_TWIN_STATUS_SF_ALIGNED 0).fset F.core_CORE_STATUS_TRACKING 0
    { s with twin := { s.twin with grace := s.dev.twinRole == 2 } }
  else s

/-- The deskew of each locked lane: its distance to the latest (R325). -/
def State.ezDeskew (s : State) : State :=
  let locked := (List.range 4).filter fun k => s.flag (F.ez_EZ_STATUS_AM_LOCK k)
  let top := locked.foldl (fun t k => max t (s.ez k).lag) (s.ez (locked.headD 0)).lag
  s.fsets (locked.map fun k => (F.ez_EZ_STATUS_SKEW k, min 10880 (top - (s.ez k).lag).toNat))

/-- This twin's own alignment codeword of lane `k` (R325). -/
def State.ezAlignSend (s : State) (k : Nat) : State :=
  let e := s.ez k
  (s.setEz k { e with sent := e.sent + 1 }).emit (.ezAlign k (alignSymbols k s.sideB s.ezAligned (4096 * e.sent % 2 ^ 32)))

/-- A lane takes an alignment codeword (R325): whether its sender has alignment on all four lanes, and its counter, by which
two of them 4,096 codewords apart lock the lane. -/
def State.ezTakes (s : State) (k : Nat) (cell : List Nat) (arrival erle : Nat) : State :=
  let e := s.ez k
  let ctr := leNat ((cell.drop 10).take 4)
  let run := if e.amRun = 0 || ctr = (e.ctr + 4096) % 2 ^ 32 then e.amRun + 1 else 1
  let lock := decide (2 ≤ run) || s.flag (F.ez_EZ_STATUS_AM_LOCK k)
  let s := s.setEz k { e with amRun := run, missRun := 0, ctr := ctr, lag := (arrival : Int) - 2720 * ctr }
  let s := { s with twin := { s.twin with partnerAligned := bitOf (cell.getD 9 0) 1, heard := true } }
  (s.fsets [(F.ez_EZ_STATUS_SIG k, 1), (F.ez_EZ_STATUS_AM_LOCK k, b2n lock), (F.ez_EZ_STATUS_CONVERGED k, 1),
    (F.ez_EZ_STATUS_ERLE k, erle)]).ezDeskew

/-- An alignment codeword falls due on a lane (R325, R326): a codeword that is none of them, or a bad one, is one missed. -/
def State.ezCodeword (s : State) (k header : Nat) (cell : List Nat) (arrival erle corr uncorr : Nat) : State :=
  if s.link < 4 then s
  else
    let s := ((s.cadd (F.ez_FEC_CW_C k) 4096).cadd (F.ez_FEC_CORR_SYM_C k) corr).cadd (F.ez_FEC_UNCORR_C k) uncorr
    let s := s.ezAlignSend k
    let e := s.ez k
    if isAlignment header cell then s.ezTakes k cell arrival erle
    else
      let e := { e with amRun := 0, missRun := e.missRun + 1 }
      let s := s.setEz k e
      if 3 ≤ e.missRun then (if s.linkUp then s.linkDown else s.fset (F.ez_EZ_STATUS_AM_LOCK k) 0) else s

/-! ## Takeover and handover (R329, R330, R349) -/

/-- A switchover counts, and writes a TWIN record (R349, R463). -/
def State.countSwitchover (s : State) : State :=
  let s := s.cadd F.twin_SWITCHOVERS_C 1
  s.jrnl 9 hwMaster 0x250 (leBytes 4 (s.storedReg .warden 0x250 0x48) ++ leBytes 4 (s.cget F.twin_SWITCHOVERS_C))

/-- The next superframe boundary falls less than 2 µs after now: in the last two core frames always, in the one before
them perhaps (R349 B1). -/
def State.boundaryNear (s : State) : Bool :=
  let frame := s.fget F.core_CORE_STATUS_FRAME
  decide (30 ≤ frame) || (frame == 29 && Config.freeValue s.free % 2 == 1)

/-- The standby decides to take over (R349 step 2): it claims activity and is Twin-Active from now on. -/
def State.takeOver (s : State) : State :=
  let s := { s with twin := { s.twin with
    claim := some s.dev.mode, sw := if s.boundaryNear then .soon else .waitB1, grace := false } }.tick
  (s.setMode .twinActive 2 hwMaster).countSwitchover

/-- A takeover that a HANDOVER commands on a standby; refused with INTERLOCK while the partner reads ACTIVE or FAULT
(R329). -/
def State.commandTakeover (s : State) : State :=
  if s.dev.mode != .twinStandby then s
  else if s.reading == 0 || s.reading == 2 then s.takeOver
  else s.log 0x250 0xB .twin 0x44

/-- The partner's last header shows Twin-Active. -/
def State.partnerActive (s : State) : Bool := match s.twin.lastHdr with | some h => h.mode == 5 | none => false

/-- The partner's last header shows ELIGIBLE. -/
def State.partnerEligible (s : State) : Bool := match s.twin.lastHdr with | some h => h.eligible | none => false

/-- INTERLOCK_FAULT is set (R328, R329). -/
def State.interlockFault (s : State) : State := (s.fset F.twin_TWIN_STATUS_INTERLOCK_FAULT 1).raise 0x250 5

/-- Automatic takeover on a partner reading of ABSENT (R329). -/
def State.autoTakeover (s : State) : State :=
  if s.dev.mode = .twinStandby && s.reading == 0 then
    if s.flag F.twin_TWIN_CFG_AUTO_EN && (!s.linkUp || !s.partnerActive) then s.takeOver else s.interlockFault
  else s

/-- Code of an interlock class (R356). -/
def pinCode : PinClass → Nat
  | .low => 0 | .high => 1 | .beacon => 2 | .invalid => 3

/-- Side B withdraws its claim (R330): back to the mode it held before, or into Twin-Stale. -/
def State.withdraw (s : State) (m : Mode) : State :=
  let s := { s with twin := { s.twin with claim := none, sw := .idle } }
  if s.dev.mode = .twinActive || s.dev.mode = .standalone then
    (if m = .twinStale then s.toStale 8 else s.setMode m 2 hwMaster)
  else s

/-- The partner reading becomes ACTIVE (R330, R352): it ends the wait of a handover; side B withdraws a claim being watched at
once, and begins the watch of 3 µs where it is Standalone or Twin-Active. -/
def State.partnerClaims (s : State) : State :=
  if s.twin.sw = .handedOver then { s with twin := { s.twin with sw := .idle } }
  else if !s.sideB then s
  else match s.twin.claim with
    | some m => s.withdraw m
    | none =>
      if s.dev.mode = .standalone || s.dev.mode = .twinActive then { s with twin := { s.twin with claim := some .twinStale } } else s

/-- The partner reading leaves ACTIVE before its 3 µs have passed (R330). -/
def State.claimSpared (s : State) : State :=
  if s.twin.claim = some .twinStale then { s with twin := { s.twin with claim := none } } else s

/-- The interlock inputs take classes (R328). `held`: a disagreeing pair has been held for more than 10 µs. -/
def State.readPartner (s : State) (a b : PinClass) (held : Bool) : State :=
  let s := s.fsets [(F.twin_INTERLOCK_A_IN, pinCode a), (F.twin_INTERLOCK_B_IN, pinCode b)]
  let new := match a, b with
    | .low, .low => some 0
    | .high, .high => some 1
    | .beacon, .beacon => some 2
    | _, _ => if held then some 3 else none
  match new with
  | none => s
  | some r =>
    let old := s.reading
    let s := (s.fset F.twin_TWIN_STATUS_PARTNER r).onlyIf (r == 3) State.interlockFault
    if r = old then s
    else if r = 1 then s.partnerClaims
    else s.claimSpared.autoTakeover

/-- A twin that enters Twin-Standby with its partner ABSENT takes over or reports it (R329); one on side B that enters Standalone or
Twin-Active with its partner ACTIVE starts the watch of R330. -/
def State.entersMode (s : State) (was : Mode) : State :=
  let claims := fun (m : Mode) => m == .standalone || m == .twinActive
  let s := s.onlyIf (was != .twinStandby) State.autoTakeover
  if s.fget F.dev_ROLE_ROLE = 2 && s.sideB && s.reading = 1 && claims s.dev.mode && !claims was && s.twin.claim.isNone then
    { s with twin := { s.twin with claim := some .twinStale } }
  else s

/-- The watch on a claim ends (R330): a claim by takeover stands; a twin that has read its partner ACTIVE for 3 µs withdraws
into Twin-Stale. -/
def State.claimEnds (s : State) : State :=
  match s.twin.claim with
  | none => s
  | some m => if m = .twinStale then s.withdraw m else { s with twin := { s.twin with claim := none } }

/-- A switchover is in progress. -/
def State.switching (s : State) : Bool := s.twin.handoverReq || s.twin.sw != .idle

/-- TWIN_CMD HANDOVER (R349, R351). -/
def State.cmdHandover (s : State) (m : Master) : State :=
  if s.switching then s.log 0x250 8 m 0x44
  else if s.dev.mode != .twinActive then s.log 0x250 0xC m 0x44
  else if !s.partnerEligible || !s.linkUp || s.flag F.twin_TWIN_STATUS_INTERLOCK_FAULT then s.log 0x250 0xA m 0x44
  else { s with twin := { s.twin with handoverReq := true } }

/-- TWIN_CMD TAKEOVER (R329, R351). -/
def State.cmdTakeover (s : State) (m : Master) : State :=
  if s.switching then s.log 0x250 8 m 0x44
  else if s.dev.mode != .twinStandby then s.log 0x250 0xC m 0x44
  else if s.reading == 0 || s.reading == 2 then s.takeOver
  else s.log 0x250 0xB m 0x44

/-- TWIN_CMD RESYNC (R345, R331). -/
def State.cmdResync (s : State) (m : Master) : State :=
  if s.dev.mode != .twinStale then s.log 0x250 0xC m 0x44
  else if s.twin.resync != 0 && s.twin.resync != 6 then s.log 0x250 8 m 0x44
  else if !s.linkUp || s.flag F.twin_TWIN_STATUS_SIDE_CONFLICT then s.log 0x250 0xA m 0x44
  else s.startResync

/-- TWIN_CMD CLEAR (R328, R356). -/
def State.cmdClear (s : State) : State :=
  let s := s.fset F.twin_TWIN_STATUS_DISAGREE 0
  if s.fget F.twin_INTERLOCK_A_IN == s.fget F.twin_INTERLOCK_B_IN && s.fget F.twin_INTERLOCK_A_IN != 3 then
    s.fset F.twin_TWIN_STATUS_INTERLOCK_FAULT 0
  else s

/-- A write of TWIN_CMD (R356). -/
def State.twinCmd (s : State) (m : Master) (op : Nat) : State :=
  match op with
  | 1 => s.cmdHandover m
  | 2 => s.cmdTakeover m
  | 3 => s.cmdResync m
  | 4 => s.cmdClear
  | _ => s.log 0x250 9 m 0x44

/-- TWIN_CFG.COPY_EN is written (R356): clearing it on the active drains until the next superframe boundary;
setting it lets the standby resynchronise, and is held while the copy drains (R49). -/
def State.copyEnWrite (s : State) (en : Bool) : State :=
  if s.draining 0x250 then { s with twin := { s.twin with heldCopy := s.twin.heldCopy || en } }
  else
    let was := s.flag F.twin_TWIN_CFG_COPY_EN
    let s := s.fput F.twin_TWIN_CFG_COPY_EN en
    if s.twinActive && was && !en then
      (s.fset (F.hdr_BLK_STATUS_DRAINING 0x250) 1).setReady 0x250 false
    else s

/-- The twin copy's disable takes effect at a superframe boundary (R47, R356); a held enable then acts (R49). -/
def State.copyDrained (s : State) : State :=
  if s.draining 0x250 then
    let s := (s.fset (F.hdr_BLK_STATUS_DRAINING 0x250) 0).setReady 0x250 true
    if s.twin.heldCopy then { s.fset F.twin_TWIN_CFG_COPY_EN 1 with twin := { s.twin with heldCopy := false } } else s
  else s

/-! ## Superframe tracking (R332) -/

/-- A difference of cycles reduced into −18,432 to 18,431. -/
def reduceSf (x : Int) : Int := (x + 18432) % 36864 - 18432

/-- A Waltz message arrives at `tRx` cycles after this twin's own boundary (R332, R333). -/
def State.waltzHeard (s : State) (tRx : Int) (intact : Bool) (msg : WaltzMsg) : State :=
  if !s.linkUp || !intact then s
  else
    let h := msg.hdr
    let x := reduceSf (tRx - h.dTx)
    let phi := (x - h.x) / 2
    let later := (tRx - h.dTx - x) / 36864
    let run := if -2 ≤ phi ∧ phi ≤ 2 then s.twin.alignRun + 1 else 0
    let s := { s with twin := { s.twin with
      lastHdr := some h, rx := some msg, xOwn := x, phi := phi, alignRun := run } }
    s.fsets [(F.twin_SF_TRACK_PHASE, ofSigned 16 (max (-32768) (min 32767 phi))),
      (F.twin_SF_TRACK_LATENCY, ofSigned 16 ((x + h.x) / 2)),
      (F.twin_SF_OFS_OFS, ((h.sf + 1 - s.cget F.core_SF_COUNT_C - later : Int) % 2 ^ 32).toNat),
      (F.twin_TWIN_STATUS_SF_ALIGNED, b2n (decide (4 ≤ run))), (F.twin_TWIN_STATUS_PARTNER_MODE, h.mode)]

/-- The device follows its partner's superframes (R11, R332): in Twin-Standby, and in Twin-Stale while the link is UP. -/
def State.tracks (s : State) : Bool :=
  s.dev.mode = .twinStandby || (s.dev.mode = .twinStale && s.linkUp)

/-- The length of a core frame that ends with number `frame`, in CORE_CLK cycles (R11, R332). -/
def State.frameCycles (s : State) (frame : Nat) : Nat :=
  if !s.tracks then 1152
  else
    let p := s.twin.phi
    let adj := (p > 32 ∨ p < -32) ∨ ((2 ≤ p ∨ p ≤ -2) ∧ frame = 31)
    if adj then (if p > 0 then 1153 else 1151) else 1152

/-! ## Discovery (R331) -/

/-- Discovery ends in a mode; the twin page becomes READY (R46). -/
def State.discovered (s : State) (m : Mode) (why : Nat) (absent : Bool) : State :=
  let s := ({ s with twin := { s.twin with discovering := false } }.setReady 0x250 true)
  let s := s.onlyIf absent fun s => (s.fset F.twin_TWIN_STATUS_TWIN_ABSENT 1).raise 0x250 4
  let s := s.onlyIf (m == .twinStale) fun s => s.fset F.twin_TWIN_STATUS_STALE_CAUSE why
  s.leaveBringUp m 2

/-- The first row of R331 that applies decides discovery; the row of a partner that reads STANDBY needs a header of it. -/
def State.discover (s : State) : State :=
  if !s.twin.discovering || s.dev.mode != .bringUp then s
  else if s.flag F.twin_TWIN_STATUS_SIDE_CONFLICT && (s.link = 5 || s.link = 0) then s.discovered .twinStale 7 false
  else if s.reading = 3 then s.discovered .twinStale 8 false
  else if s.reading = 1 then
    if s.linkUp then s.discovered .twinStale 9 false
    else if s.twin.timedOut then s.discovered .twinStale 1 false else s
  else if s.reading = 2 then
    if s.linkUp && s.twin.lastHdr.isSome then
      (if s.partnerEligible then s.discovered .twinStale 9 false else s.discovered .twinActive 0 false)
    else s
  else if s.linkUp then
    if s.sideB then s.discovered .twinStale 9 false else s.discovered .twinActive 0 false
  else if s.twin.timedOut then
    if s.twin.heard then s.discovered .twinStale 9 false else s.discovered .standalone 0 true
  else s

/-- A Standalone twin whose partner appears enters Twin-Active (R331). -/
def State.partnerAppears (s : State) : State :=
  match s.twin.lastHdr with
  | none => s
  | some h =>
    if s.dev.mode = .standalone && s.fget F.dev_ROLE_ROLE = 2 && s.linkUp && (h.mode = 3 || h.mode = 7) then
      s.setMode .twinActive 2 hwMaster
    else s

/-- What follows from the twin's mode and its partner after any command: a stale twin with the link UP resynchronises
(R345, R353), one that has left Twin-Stale or lost the link does not, and a standby to whom R329 gives the takeover
takes it. -/
def State.twinFollow (s : State) : State :=
  let stale := s.dev.mode == .twinStale && s.linkUp
  let s := s.onlyIf (s.twin.resync != 0 && !stale) fun s => (s.resyncAt 0).fset F.twin_TWIN_STATUS_RESYNC 0
  let s := s.onlyIf (stale && s.twin.resync == 0 && !s.flag F.twin_TWIN_STATUS_SIDE_CONFLICT) State.startResync
  s.onlyIf (s.dev.mode == .twinStandby && s.reading == 0 && s.flag F.twin_TWIN_CFG_AUTO_EN &&
    (!s.linkUp || !s.partnerActive)) State.takeOver

end Sys2Proof.Machine
end

