-- ==== Sys2Proof/Machine/Settle.lean ====
section
/-! DEFINITION. What every command's effect ends with: the outputs that follow levels of the state, and the interrupt
messages of the change (R34, R99, R261, R300, R301, R317, R306, R329, R345, R367, R386). The queue of waiting commands is no part of a command's effect.

Readings fixed here (notes/assumptions): 9 DEDUCED, 93 DEDUCED. -/

namespace Sys2Proof.Machine

/-- The lanes that are enabled. -/
def State.enabledLanes (s : State) : List Nat := (List.range 256).filter fun n => s.enabled (0x100 + n)

/-- Lanes whose light was withheld or restored act on it (R261, R295), as do those that a test may drive in Maintenance (R33). -/
def lanesFollow (s s' : State) : State :=
  if s.lightAllowed = s'.lightAllowed && (s.dev.mode == .maintenance) = (s'.dev.mode == .maintenance) && s.flag F.fr_FR_STATUS_SQUELCH = s'.flag F.fr_FR_STATUS_SQUELCH then s'
  else s'.enabledLanes.foldl State.trainEval s'

/-- A carrier's laser output follows its level (R99); its label transmitter follows (R367). -/
def carrierFollows (c : Nat) (s s' : State) : State :=
  let s' := if s.laser c = s'.laser c then s' else s'.emit (.laser c (s'.laser c))
  s'.lblFollow c

/-- The interlock rails and TWIN_SEL_O follow their levels (R327, R349). -/
def interlockFollows (s s' : State) : State :=
  let s' := if s.railDrive = s'.railDrive then s' else s'.emit (.rails s'.railDrive)
  if s.selO = s'.selO then s' else s'.emit (.twinSel s'.selO)

/-- A twin that is neither standby nor stale leaves TWIN at once and reselects (R306, R349). -/
def State.leavesTwin (s : State) : State :=
  if s.fget F.tim_DPLL_STATUS_SEL_REF = 8 && s.dev.twinRole != 2 && s.dev.twinRole != 3 then s.select else s

/-- A reference's source that comes or goes is seen at once (R300, R301). -/
def State.timingFollow (s : State) : State := if s.booted then s.sourcesFollow else s

/-- REF_OUT k starts or stops (R317). -/
def refOutFollows (k : Nat) (s s' : State) : State :=
  if s.refOut k = s'.refOut k then s' else s'.emit (.refOut k (s'.refOut k))

/-- A mode that is entered finds the partner's reading as it stands (R329, R330). -/
def modeFollows (s s' : State) : State := if s.dev.mode = s'.dev.mode then s' else s'.entersMode s.dev.mode

/-- The outputs that follow the state after a command whose effect took `s` to `s'`. -/
def outputsFollow (s s' : State) : State :=
  let s' := modeFollows s s'
  let s' := lanesFollow s s'.perstFollow.twinFollow.testFollow.timingFollow.leavesTwin
  let s' := carrierFollows 1 s (carrierFollows 0 s s')
  let s' := refOutFollows 1 s (refOutFollows 0 s s')
  ((List.range 4).foldl State.lrxFollow (interlockFollows s s')).mboxFollow

/-- An output is a console notice. -/
def isNotice : Out → Bool
  | .conNotice _ _ => true
  | _ => false

/-- A console command has not had its status line yet (R455, R456). -/
def State.conAwaits (s : State) : Bool := s.svc.conMbox.isSome || s.svc.conMboxRun || s.svc.conEye

/-- Notices are sent only between a status line and the next command (R455): those of a command follow its status line. -/
def noticesFollow (s s' : State) : State :=
  let new := s'.out.take (s'.out.length - s.out.length)
  if s'.svc.notices.isEmpty && !new.any isNotice then s'
  else
    let l := new.filter isNotice ++ s'.svc.notices
    let rest := new.filter (!isNotice ·) ++ s'.out.drop (s'.out.length - s.out.length)
    if s'.conAwaits then { s' with out := rest, svc := { s'.svc with notices := l } }
    else { s' with out := l ++ rest, svc := { s'.svc with notices := [] } }

/-- The state after a command whose effect took `s` to `s'`. -/
def settle (s s' : State) : State := { noticesFollow s (interrupts s (outputsFollow s s')) with pending := s.pending }

/-- A command completes. -/
def finish (s s' : State) : Host.Outcome State Fault Refusal := .next (settle s s')

end Sys2Proof.Machine
end

