-- ==== Sys2Proof/Machine/ForeLine.lean ====
section
/-! DEFINITION. The line code of the forerunner line mode, RATE.MODE = 1 (spec/10_forerunner.md R289 to R293). -/

namespace Sys2Proof.Machine

/-- The level of a dimension's label (R289). -/
def foreLevel (label : Nat) : Int := if label = 0 then -3 else if label = 1 then -1 else if label = 3 then 1 else 3

/-- Symbol period and dimension of dimension `d` of FEC block `blk` (R290, R292). -/
def forePlace (blk d : Nat) : Nat × Nat :=
  let t := 2176 * blk + d / 4
  (t + t / 63 + 1, d % 4)

/-- The 7 bits of x^7 × m(x) mod x^7 + x^3 + 1, coefficient of x^6 first (R291). -/
def hammingRem (m : List Bool) : List Bool := bitsMsb 7 (m.foldl (crcBit 7 0x09) 0)

/-- The extended Hamming codeword of 120 bits (R291). -/
def hammingWord (m : List Bool) : List Bool :=
  let w := m ++ hammingRem m
  w ++ [w.foldl (· != ·) false]

/-- Entries `i`, `i + k`, `i + 2k` and so on of a list. -/
def everyNth {α : Type} (i k : Nat) (l : List α) : List α :=
  (l.zipIdx.filter fun e => e.2 % k == i).map Prod.fst

/-- The 136 inner codewords of a FEC block, from its 15,420 scrambled bits (R291): three RS codewords, their symbols round-robin, in
pieces of 120 bits. -/
def foreInnerWords (bits : List Bool) : List (List Bool) :=
  let cws := rsCodewords bits
  let syms := (List.range 1632).map fun k => (cws.getD (k % 3) []).getD (k / 3) 0
  (pieces 120 136 (symBits syms)).map hammingWord

/-- The levels of FEC block `blk` (R289, R292): dimension d carries bits 2j and 2j + 1 of inner codeword d mod 136, j = d / 136. -/
def foreBlockLevels (blk : Nat) (bits : List Bool) : List (Nat × Nat × Int) :=
  let words := foreInnerWords bits
  (List.range 8704).map fun d =>
    let place := forePlace blk d
    (place.1, place.2, foreLevel (msbNat (((words.getD (d % 136) []).drop (2 * (d / 136))).take 2)))

/-- The levels of a frame, from its 1,942,920 bits before scrambling, cut or padded with zeros (R291). -/
def foreLevels (bits : List Bool) : List (Nat × Nat × Int) :=
  let plain := (bits ++ List.replicate 1942920 false).take 1942920
  ((pieces 15420 126 (scramble 0 plain)).mapIdx foreBlockLevels).flatten

/-- The bits of the 136 inner codewords as received, in order, from the labels on the block's dimensions (R292). -/
def foreInner (labels : List Nat) : List Bool :=
  (List.range 136).flatMap fun h => (everyNth h 136 (padTo 8704 labels)).flatMap fun x => bitsMsb 2 x

/-- The number of places where two bit strings differ. -/
def differing (a b : List Bool) : Nat := ((List.zipWith (· != ·) a b).filter id).length

/-- What the outer code gives of decoded inner codewords (R291, R293): the block's 15,420 bits, still scrambled, and the RS codewords, 0
to 2, that are not corrected. A correction is a symbol's number in the order sent and the bits to invert. -/
def foreOuter (fixes : List (Nat × Nat)) (inner : List Bool) : List Bool × List Nat :=
  let syms := (pieces 10 1632 ((pieces 128 136 inner).flatMap (·.take 120))).map msbNat
  rsCorrect 3 (fixes.map fun e => (544 * (e.1 % 3) + e.1 / 3, e.2))
    (symBits ((List.range 3).flatMap fun i => everyNth i 3 syms))

end Sys2Proof.Machine
end

