-- ==== Sys2Proof/Machine/LineOps.lean ====
section
/-! DEFINITION. Codewords, line frames and OTUC frames of a carrier (spec/05_line_code_framing.md R109 to R131), and the
FEC blocks of the forerunner line (spec/10_forerunner.md R290 to R293).

Readings fixed here (notes/assumptions): 39 PRESUMED, 40 DEDUCED, 112 DESIGN CHOICE. -/

namespace Sys2Proof.Machine

/-! ## Transmit (R109 to R120, R131) -/

/-- H_CODE of a carrier. -/
def State.hCode (s : State) (c : Nat) : Nat := s.fget (F.car_RATE_H_CODE c)

/-- The carrier sends line frames now: its chain runs, in MODE 0. -/
def State.sendsFrames (s : State) (c : Nat) : Bool := s.txRuns c && !s.foreMode c

/-- The OTUCn frames given for transmission join a carrier's buffer, its own slices of each: in a bond carrier 1 carries slices 33 on
(R125, R131). -/
def State.txFill (s : State) (c : Nat) (frames : List (List (List Nat))) : State :=
  let v := s.car c
  let n := if s.foreMode c then 12 else s.fget (F.car_RATE_SLICES c)
  let off := if s.carBonded then 32 * c else 0
  s.setCar c { v with
    txUnits := v.txUnits ++ (frames.mapIdx fun k f => otucUnits n ((v.txMfas + k) % 256) (f.drop off)).flatten
    txMfas := (v.txMfas + frames.length) % 256 }

/-- The D of a carrier's next line frame (R123): `half` pairs of data blocks, as far as blocks and units reach. -/
def State.txChooseD (s : State) (c half : Nat) : Nat :=
  2 * min half (min (lineBlocks (s.hCode c) / 2) (s.car c).txUnits.length)

/-- Energy of a carrier's payload codewords (R87). -/
def State.payEnergy (s : State) (c : Nat) : Nat := shapeEnergy (composition (shapeM (s.hCode c)))

/-- A carrier's line frame with D data blocks is sent (R88, R118, R120). -/
def State.lineSend (s : State) (c d : Nat) : State :=
  let v := s.car c
  let back := 128 * s.fget (F.lm_LM_STATUS_LOCK c) + 64 * b2n (s.framer (256 + c) == 2) + 32 * s.fget (F.car_RX_STATUS_DSP_LOCK c)
  let oh := overhead v.txFc (s.storedReg .warden (carPage c) 0x40) d
    (128 * s.fget (F.lm_LM_CFG_BOND_EN c) + 64 * c) (s.fget (F.lm_LM_CFG_BOND_ID c)) back
  let s := s.setCar c { v with
    txFc := (v.txFc + 1) % 2 ^ 32, txOh := oh, txD := d, txData := v.txUnits.take (d / 2), txUnits := v.txUnits.drop (d / 2) }
  s.emit (.lineFrame c oh (s.payEnergy c) (s.fget (F.car_TX_CTRL_LEVEL c)) (pilots 6144))

/-- A line frame of MODE 1 is sent (R289 to R292): 126 FEC blocks of the OTUC12 stream's next bits. -/
def State.foreSend (s : State) (c : Nat) : State :=
  let v := s.car c
  let all := v.txBits ++ bitsOfBytes v.txUnits.flatten
  let used := (1942920 - v.txBits.length + 127) / 128
  let s := s.setCar c { v with
    txBits := (v.txBits ++ bitsOfBytes (v.txUnits.take used).flatten).drop 1942920, txUnits := v.txUnits.drop used }
  s.emit (.foreLine c (s.fget (F.car_TX_CTRL_LEVEL c)) (pilots 4352) (foreLevels all))

/-- A line frame begins (R118, R120, R131, R290). Two bonded carriers that both send do so together, with equal FC and D: where their
FC differ, as when one has just started, both begin afresh. -/
def State.lineTransmit (s : State) (c half : Nat) (frames : List (List (List Nat))) : State :=
  if s.txRuns c && s.foreMode c then (s.txFill c frames).foreSend c
  else if s.carBonded && s.sendsFrames 0 && s.sendsFrames 1 then
    let s := s.onlyIf ((s.car 0).txFc != (s.car 1).txFc) fun s => (s.txAfresh 0).txAfresh 1
    let s := (s.txFill 0 frames).txFill 1 frames
    let d := min (s.txChooseD 0 half) (s.txChooseD 1 half)
    (s.lineSend 0 d).lineSend 1 d
  else if s.sendsFrames c then
    let s := s.txFill c frames
    s.lineSend c (s.txChooseD c half)
  else s

/-- Payload bits of a codeword. -/
def payloadBits (h n : Nat) : Nat := matcherBits (codewordH h n) + 1024

/-- A list of bits cut or padded to `n`. -/
def padBits (n : Nat) (l : List Bool) : List Bool := (l ++ List.replicate n false).take n

/-- A codeword of the present line frame is built and sent (R109, R115): the overhead codeword carries the overhead, at the energy of its
own composition (R116). -/
def State.encode (s : State) (c n : Nat) : State :=
  if !s.sendsFrames c then s
  else
    let v := s.car c
    let h := s.hCode c
    let bits := padBits (payloadBits h n) (bitsOfBytes (if n = 0 then v.txOh else sentPayload h v.txD v.txData n))
    s.emit (.codeword c n (shapeEnergy (composition (shapeM (codewordH h n)))) (s.fget (F.car_TX_CTRL_LEVEL c))
      (encodeCodeword h n bits))

/-! ## Receive (R110, R112, R87) -/

/-- MAX_IT: values outside 4 to 24 act as the nearer limit (R133). -/
def State.maxIt (s : State) (c : Nat) : Nat := max 4 (min 24 (s.fget (F.ldpc_LDPC_CFG_MAX_IT c)))

/-- Bits whose decoded value differs from the sign of their 5-bit LLR (R112): a negative LLR stands for 1. -/
def correctedBits (llr : List Nat) (hard : List Bool) : Nat :=
  ((List.zipWith (fun l b => bitOf l 4 != b) llr hard).filter id).length

/-- A port has received an uncorrected FEC codeword in this core frame (R347). -/
def State.noteFecBad (s : State) (p : Nat) : State :=
  if s.core.fecBad.contains p then s else { s with core := { s.core with fecBad := p :: s.core.fecBad } }

/-- A codeword is decoded (R110): counts, the composition check of R87, the overhead and the payload. -/
def State.decode (s : State) (c n : Nat) (llr : List Nat) : State :=
  if !s.flag (F.car_RX_STATUS_PILOT_LOCK c) || s.foreMode c then s
  else
    let r := ldpcDecode llr (s.maxIt c) (s.flag (F.ldpc_LDPC_CFG_EARLY_STOP c))
    let its := r.1
    let hard := r.2
    let zero := isCodeword hard
    let (pay, shape) := dematch (s.hCode c) n (hard.take 10240)
    let corr := if zero && shape then correctedBits llr hard else 0
    let s := ((s.cadd (F.ldpc_CW_TOTAL_C c) 1).cadd (F.ldpc_ITER_SUM_C c) its).cadd (F.ldpc_BIT_CORR_C c) corr
    let s := s.onlyIf (!shape) fun s => s.cadd (F.car_SHAPE_VIOL_C c) 1
    let s := s.onlyIf (!(zero && shape)) fun s =>
      let s := (s.cadd (F.ldpc_CW_UNCORR_C c) 1).raise (carPage c + 6) 0
      s.noteFecBad (s.carPort c)
    let v := s.car c
    let v := { v with winCorr := v.winCorr + corr, winBits := v.winBits + 12288 }
    s.setCar c (if n = 0 then { v with rxOh := some (zero && shape, bytesOfBits pay) }
      else { v with rxPay := spSet v.rxPay n (bytesOfBits pay) })

/-! ## Data units and overhead (R119 to R124, R131, R236) -/

/-- Block `b` of the frame received, from its codewords' payload. -/
def Carrier.block (v : Carrier) (h b : Nat) : List Nat :=
  padTo 8 ((spGet [] v.rxPay (1 + b / (40 + h))).drop (8 * (b % (40 + h))))

/-- Data units reach the OTUC framer: they are numbered, and the last 8 OTUCn frames are kept (R126, R129). -/
def State.pushUnits (s : State) (c : Nat) (us : List (List Nat)) : State :=
  let v := s.car c
  let keep := 8 * s.framePeriod (256 + c)
  let all := us.foldl (fun (p : Nat × SparseMap (List Nat)) u => (p.1 + 1, spSet p.2 p.1 u)) (v.unitNo, v.units)
  s.setCar c { v with unitNo := all.1, units := spDrop (fun k => decide (k + keep < all.1)) all.2 }

/-- The fields taken from a good overhead while LOCK is 1 (R121, R122, R131). -/
def State.takeOverhead (s : State) (c : Nat) (oh : List Nat) : State :=
  let fc := ohField oh 8 4
  let rate := ohField oh 12 4
  let b := ohField oh 25 1
  let back := ohField oh 27 1
  let mism := rate != s.storedReg .warden (carPage c) 0x40
  let s := s.onlyIf (mism && !s.flag (F.lm_LM_STATUS_RATE_MISMATCH c)) fun s => s.raise (carPage c + 7) 1
  let s := s.fsets [(F.lm_LM_STATUS_RATE_MISMATCH c, b2n mism), (F.lm_RX_FC_FC c, fc),
    (F.lm_LM_STATUS_REM_LM_LOCK c, bitsOf back 7 1), (F.lm_LM_STATUS_REM_IN_FRAME c, bitsOf back 6 1),
    (F.lm_LM_STATUS_REM_DSP_LOCK c, bitsOf back 5 1), (F.lm_LM_STATUS_REM_BOND_EN c, bitsOf b 7 1),
    (F.lm_LM_STATUS_REM_ROLE c, bitsOf b 6 1), (F.lm_LM_STATUS_REM_BOND_ID c, ohField oh 26 1)]
  s

/-- A carrier's line-frame timestamps with one more, newest first: those of the last 2^21 cycles, which the SKEW field spans. -/
def stampsWith (fc time : Nat) (l : List (Nat × Nat)) : List (Nat × Nat) :=
  (fc, time) :: l.filter fun e => decide (time < e.2 + 2 ^ 21)

/-- Cycles that a carrier's timestamps span. -/
def stampSpan (l : List (Nat × Nat)) : Nat := (l.headD (0, 0)).2 - (l.getLastD (0, 0)).2

/-- The skew that the newest pair of line frames with equal FC shows, carrier 1's lateness (R131, R236); where both carriers' frames of
more than 1 ms hold no such pair it lies beyond what SKEW can show. -/
def bondSkew (l0 l1 : List (Nat × Nat)) : Option Int :=
  match l0.findSome? fun e => (l1.find? fun x => x.1 == e.1).map fun x => ((x.2 : Int) - e.2) with
  | some k => some k
  | none => if 1600000 < stampSpan l0 ∧ 1600000 < stampSpan l1 then some (2 ^ 21 - 1) else none

/-- The bonding aligner compares the line frames of equal FC (R131, R236); while a stack of STACKS is not READY the bond is not
aligned (R217). -/
def State.bondAlign (s : State) : State :=
  match bondSkew (s.prot.bondTime.getD 0 []) (s.prot.bondTime.getD 1 []) with
  | none => s
  | some k =>
    let skew := k.natAbs
    let ok := s.flag (F.lm_LM_STATUS_LOCK 0) && s.flag (F.lm_LM_STATUS_LOCK 1) && decide (skew ≤ 1600000) && s.stacksReady
    let was := s.flag F.bond_CBOND_STATUS_ALIGNED
    let s := s.fsets [(F.bond_CBOND_STATUS_ALIGNED, b2n ok), (F.bond_CBOND_STATUS_EARLY, b2n (decide (k < 0))),
      (F.bond_CBOND_STATUS_SKEW_OVER, b2n (decide (1600000 < skew))), (F.bond_CBOND_STATUS_SKEW, min skew (2 ^ 21 - 1))]
    if was = ok then s else (s.raise 0x90 4).defects

/-- The data units of a bonded carrier's line frame reach the bonding aligner (R236): they wait in the skew buffer until the frame of
equal FC has come on the other carrier, and both carriers' then go to the ODU processor together. Frames whose FC the timestamps no longer
hold wait no more. -/
def State.pairUnits (s : State) (c fc : Nat) (us : List (List Nat)) : State :=
  let mine := (s.prot.bondUnits.getD c []) ++ [(fc, us)]
  let live := mine.filter fun e => (s.prot.bondTime.getD c []).any fun x => x.1 == e.1
  match (s.prot.bondUnits.getD (1 - c) []).find? fun e => e.1 == fc with
  | none => { s with prot := { s.prot with bondUnits := s.prot.bondUnits.set c live } }
  | some x =>
    let rest := (s.prot.bondUnits.getD (1 - c) []).dropWhile fun e => e.1 != fc
    { s with prot := { s.prot with
      bondUnits := (s.prot.bondUnits.set c []).set (1 - c) (rest.drop 1)
      bondPairs := if c = 0 then us.zip x.2 else x.2.zip us } }

/-! ## OTUC frames (R126 to R128) -/

/-- What the units from `u` show, one for each slice; none until they have all arrived. -/
def State.sights (s : State) (c u : Nat) : Option (List SliceSight) :=
  let n := s.otucSlices (256 + c)
  if (s.car c).unitNo < u + n then none
  else some ((List.range n).map fun k => sightOf (spGet [] (s.car c).units (u + k)))

/-- A candidate completes at unit `u` (R126, R128). -/
def State.otucCandidate (s : State) (c u : Nat) : State :=
  match s.sights c u with
  | some l => if isCandidate l then s.candidate (256 + c) u (l.headD ⟨false, false, 0⟩).mfas else s
  | none => s

/-- The check of the hypothesis in REEL_HYPk falls due (R126, R128). -/
def State.otucHypothesis (s : State) (c k : Nat) : State :=
  match (s.reel (256 + c)).at k with
  | none => s
  | some h =>
    let next := h.pos + s.framePeriod (256 + c)
    match s.sights c next with
    | some l => s.hypCheck (256 + c) k next ((h.mark + 1) % 256) (checkOk l h.mark)
    | none => s

/-- An in-frame OTUC frame is checked (R127). Loss of frame may be the trigger of a capture (R101). -/
def State.otucFrame (s : State) (c : Nat) : State :=
  match s.sights c (s.reel (256 + c)).pos with
  | some l =>
    let was := s.framer (256 + c)
    let s := s.otucCheck (256 + c) l
    s.onlyIf (decide (2 ≤ was) && decide (s.framer (256 + c) < 2)) fun s => s.capEvent c 5
  | none => s

/-- What the framer does at unit `u` of its stream when the units from `first` on are new to it (R126 to R128): the check of its frame or
of a hypothesis that begins there, or a candidate. -/
def State.unitEvent (first c : Nat) (s : State) (u : Nat) : State :=
  let p := 256 + c
  if 2 ≤ s.framer p then (if (s.reel p).pos = u then s.otucFrame c else s)
  else match (s.reel p).hyps.find? fun h => h.pos + s.framePeriod p == u with
    | some h => s.otucHypothesis c h.reg
    | none => if first ≤ u then s.otucCandidate c u else s

/-- Every event whose last unit has arrived, in unit order (R128): `before` is the number of units that had arrived before the present
line frame. Those whose last unit precedes the line-frame boundary at which LOCK falls stand. -/
def State.unitEvents (s : State) (c before : Nat) : State :=
  let r := s.reel (256 + c)
  let n := s.otucSlices (256 + c)
  let first := before + 1 - n
  let due := if 2 ≤ s.framer (256 + c) then [r.pos] else r.hyps.map fun h => h.pos + s.framePeriod (256 + c)
  let lo := due.foldl min first
  (List.range' lo ((s.car c).unitNo + 1 - n - lo)).foldl (State.unitEvent first c) s

/-! ## The line-marker machine (R119 to R124, R131, R236) -/

/-- The line-marker machine enters LM_LOCK (R121): units are counted from here, and the framer goes to OOF (R127). -/
def State.lmGained (s : State) (c : Nat) : State :=
  let v := s.car c
  let s := s.setCar c { v with unitNo := 0, units := [], lmBad := 0 }
  ((s.fset (F.lm_LM_STATUS_LOCK c) 1).raise (carPage c + 7) 0).enterOof (256 + c)

/-- A line frame has been received (R119 to R124): `cycle` is the CORE_CLK cycle of its first unit in the core frame. -/
def State.lineReceived (s : State) (c cycle : Nat) : State :=
  if !s.flag (F.car_RX_STATUS_PILOT_LOCK c) || s.foreMode c then s
  else
    let v := s.car c
    let h := s.hCode c
    let oh := match v.rxOh with | some x => x.2 | none => []
    let good := (match v.rxOh with | some x => x.1 | none => false) && overheadOk oh
    let wasLock := s.flag (F.lm_LM_STATUS_LOCK c)
    let fc := ohField oh 8 4
    let d := if v.rxOh.isSome then chooseD h good oh (s.fget (F.lm_RX_D_D c)) else s.fget (F.lm_RX_D_D c)
    let s := s.fset (F.lm_RX_D_D c) d
    let s := if good then s.fset (F.lm_REMOTE_RATE_RATE c) (ohField oh 12 4) else s.cadd (F.lm_OH_BAD_C c) 1
    let s := s.onlyIf (good && !dOk h (ohField oh 16 3)) fun s => s.cadd (F.lm_D_BAD_C c) 1
    let s := s.onlyIf (wasLock && good && (match v.lastFc with
      | some l => fc != (l + v.since + 1) % 2 ^ 32
      | none => false)) fun s => s.cadd (F.lm_FC_ERR_C c) 1
    let s := s.setCar c { s.car c with
      rxOh := none, rxPay := []
      lmGood := if good then v.lmGood + 1 else 0
      lmBad := if good then 0 else v.lmBad + 1
      lastFc := if good then some fc else v.lastFc
      rxBond := if good then some (bitOf (ohField oh 25 1) 7, bitsOf (ohField oh 25 1) 6 1, ohField oh 26 1) else v.rxBond
      since := if good then 0 else v.since + 1 }
    let units := dataUnits h d (v.block h)
    let s := s.onlyIf wasLock fun s => s.pushUnits c units
    let s := s.onlyIf (!wasLock && good && decide (1 ≤ v.lmGood)) fun s => s.lmGained c
    let s := s.onlyIf (s.flag (F.lm_LM_STATUS_LOCK c) && good) fun s => s.takeOverhead c oh
    let s := s.onlyIf (wasLock && !good && decide (3 ≤ v.lmBad)) fun s => (s.unitEvents c v.unitNo).lmLost c
    let s := (s.showBondMismatch 0).showBondMismatch 1
    if s.carBonded && good && s.flag (F.lm_LM_STATUS_LOCK c) then
      let now := s.stampAt cycle
      let s := (({ s with prot := { s.prot with bondTime := s.prot.bondTime.modify c (stampsWith fc now) } } : State).bondAlign)
      s.onlyIf wasLock fun s => s.pairUnits c fc units
    else s

/-! ## The forerunner line (R290 to R293, R298) -/

/-- A FEC block of the forerunner line is decoded (R292, R293): the labels received, by dimension; the inner codewords as decoded from
soft information, 16 bytes each; and what the outer decoder corrects, by symbol in the order sent. -/
def State.foreBlock (s : State) (c blk : Nat) (labels inner : List Nat) (fixes : List (Nat × Nat)) : State :=
  if !s.foreMode c || !s.flag (F.car_RX_STATUS_PILOT_LOCK c) then s
  else
    let decoded := padBits 17408 (bitsOfBytes inner)
    let corr := differing decoded (foreInner labels)
    let out := foreOuter fixes decoded
    let good := fixes.filter fun e => !out.2.contains (e.1 % 3)
    let s := (((s.cadd (F.frl_RS_CW_C c) 3).cadd (F.frl_RS_CORR_SYM_C c) good.length).cadd (F.frl_RS_UNCORR_C c) out.2.length).cadd
      (F.frl_HAM_CORR_C c) corr
    let s := s.onlyIf (out.2 != []) fun s => (s.raise 0x221 c).noteFecBad (256 + c)
    let v := s.car c
    let all := v.bits ++ scramble (15420 * blk) out.1
    let n := all.length / 128
    let s := s.setCar c { v with winCorr := v.winCorr + corr, winBits := v.winBits + 17408, bits := all.drop (128 * n) }
    s.pushUnits c ((pieces 128 n all).map bytesOfBits)

end Sys2Proof.Machine
end

