-- ==== Sys2Proof/Machine/SlotLane.lean ====
section
/-! DEFINITION. The formats of a lane: slot-lane frames, bonds of lanes, FlexO frames, loopback (spec/09_lanes.md R242, R243, R269
to R277; spec/08_protection_skew.md R234).

Readings fixed here (notes/assumptions): 68 DEDUCED, 69 DEDUCED, 114 DESIGN CHOICE. -/

namespace Sys2Proof.Machine

/-! ## Transmitting slot-lane frames (R270 to R273) -/

/-- The symbols of a PAM4 lane before the pins, and the last precoded one (R242). -/
def State.pam4 (s : State) (n : Nat) (bits : List Bool) : List Nat × Nat :=
  let g := graySyms bits
  if s.flag (F.lane_TRAIN_STATUS_PRECODE_TX n) then
    let p := precodeSyms (s.lane n).lastSym g
    (p, p.getLastD 0)
  else (g, 0)

/-- FC of the frame that the lane sends next (R271): a bond's members send each FC once. -/
def State.frameFc (s : State) (n : Nat) : Nat :=
  if (s.slBondOf n).isSome then
    let v := s.lane (s.portOfSu (160 * n))
    if v.bondSent.contains n then (v.bondFc + 1) % 2 ^ 32 else v.bondFc
  else (s.lane n).txFc

/-- The lane has sent a frame: its FC, and its bond's, advance (R271). -/
def State.frameSent (s : State) (n : Nat) : State :=
  let fc := s.frameFc n
  let s := s.setLane n { s.lane n with txFc := (fc + 1) % 2 ^ 32 }
  let f := s.portOfSu (160 * n)
  s.onlyIf (s.slBondOf n).isSome fun s =>
    let v := s.lane f
    s.setLane f { v with bondFc := fc, bondSent := if v.bondSent.contains n then [n] else n :: v.bondSent }

/-- The header of a frame to send (R271). -/
def State.slHeader (s : State) (n : Nat) : List Nat :=
  let f := s.laneFormat n
  let bond := match s.slBondOf n with
    | some j => 2 ^ 15 + 16 * s.fget (F.bond_SLB_CFG_COUNT j) + (n - s.fget (F.bond_SLB_CFG_FIRST j))
    | none => 0
  let body := padTo (slHb f - 4) (slMarker ++ beBytes 4 (s.frameFc n) ++ [n, b2n (f == 4)] ++ beBytes 2 bond ++
    [128 * b2n (s.framer n == 2) + 64 * s.fget (F.lane_RX_STATUS_SIG n)])
  body ++ beBytes 4 (crc32 body)

/-- The format's stream runs: in DATA, FIXED and LOOP, while the transmitter idles too (R259, R265). -/
def State.streams (s : State) (n : Nat) : Bool :=
  s.laneUp n && (s.trainState n == 4 || s.trainState n == 7 || s.trainState n == 8)

/-- The lane sends its format's data now (R264, R259); far-end loopback discards it (R277). -/
def State.sendsData (s : State) (n : Nat) : Bool := s.streams n && s.txActive n && s.loopSel n != 2

/-- A frame that near-end loopback feeds to the receiver (R277); of frames not yet received the last 8 are kept. -/
def State.loopNear (s : State) (n : Nat) (frame : List Nat) : State :=
  if s.loopSel n = 1 then
    let q := (s.lane n).looped ++ [frame]
    s.setLane n { s.lane n with looped := q.drop (q.length - 8) }
  else s

/-- A slot-lane frame is built and sent (R272, R273): each unit sends the valid words its egress slot unit holds, in order,
and stuff words after them. While the transmitter idles the stream goes on unsent (R265). -/
def State.slTransmit (s : State) (n : Nat) : State :=
  let f := s.laneFormat n
  if !(f = 3 || f = 4) || !s.streams n then s
  else
    let w := slW f
    let held := (List.range w).map fun j => (spGet [] s.slOut (160 * n + j)).take 64
    let sym := s.pam4 n (slFrameBits (s.slHeader n) held)
    let before := (s.lane n).lastSym
    let s := s.frameSent n
    let s := (s.setLane n { s.lane n with lastSym := sym.2 }).loopNear n (before :: sym.1)
    let s := { s with slOut := (List.range w).foldl (fun m j => spModify [] m (160 * n + j) (·.drop 64)) s.slOut }
    if s.sendsData n then s.emit (.slotLane n (s.atTxPins n sym.1)) else s

/-! ## What a lane receives (R242, R243, R277) -/

/-- An RS codeword of a lane is decoded (R275, R280): symbols corrected, or none if uncorrected. Under an unconfirmed hypothesis it
counts nothing yet (R27). -/
def State.rsDecode (s : State) (n : Nat) (fixed : Option Nat) : State :=
  if !s.laneUp n || s.laneFormat n = 0 || 5 ≤ s.laneFormat n then s
  else if s.flag (F.lane_FRM_STATUS_PROV n) then
    let v := s.lane n
    let p := v.provFec
    s.setLane n { v with provFec := (p.1 + 1, p.2.1 + fixed.getD 0, p.2.2 + b2n fixed.isNone) }
  else
    let s := s.lcadd n (F.lane_FEC_CW_C n) 1
    match fixed with
    | some k => s.lcadd n (F.lane_FEC_CORR_SYM_C n) k
    | none => ((s.lcadd n (F.lane_FEC_UNCORR_C n) 1).raise (0x100 + n) 4).noteFecBad (s.portOfSu (160 * n))

/-- What the receiver is given of a frame (R277): in near-end loopback the oldest frame sent, and the pins are ignored. -/
def State.rxFrame (s : State) (n : Nat) (pins : List Nat) : State × List Nat :=
  if s.loopSel n = 1 then
    (s.setLane n { s.lane n with looped := (s.lane n).looped.drop 1 }, (s.lane n).looped.headD [])
  else (s, pins)

/-- The pins' polarity is inverted on receipt (R243); inside the device there are no pins (R277). -/
def State.rxInverts (s : State) (n : Nat) : Bool := s.flag (F.lane_LANE_CFG_RX_POL n) && s.loopSel n != 1

/-- The bits of received PAM4 symbols, of which the first comes before the frame (R242, R243). -/
def State.rxBits (s : State) (n : Nat) (l : List Nat) : List Bool :=
  let p := invertSyms true (s.rxInverts n) l
  grayPairs (if s.flag (F.lane_TRAIN_STATUS_PRECODE_RX n) then unprecodeSyms (p.headD 0) (p.drop 1) else p.drop 1)

/-- Far-end loopback sends the received symbols again (R277). -/
def State.loopFar (s : State) (n : Nat) (l : List Nat) : State :=
  s.onlyIf (s.loopSel n == 2 && s.txActive n) fun s =>
    s.emit (.slotLane n (s.atTxPins n (invertSyms (s.lanePam4 n) (s.rxInverts n) l)))

/-! ## Slip and bonding buffers (R25, R27, R129, R234, R273) -/

/-- Valid words reach a unit's slip buffer of 128 words; those that find it full are dropped and counted (R273). Provisional
words stand at its end, and count nothing while they are provisional (R25, R27). -/
def State.slipIn (s : State) (n : Nat) (prov : Bool) (e : Nat × List Nat) : State :=
  let have_ := spGet [] s.slIn e.1
  let taken := e.2.take (128 - have_.length)
  let lost := e.2.length - taken.length
  let s := { s with slIn := spPut [] s.slIn e.1 (have_ ++ taken) }
  let v := s.lane n
  if prov then s.setLane n { v with prov := spModify 0 v.prov e.1 (· + taken.length), provLost := v.provLost + lost }
  else s.onlyIf (lost != 0) fun s => s.lcadd n (F.lane_SL_OVF_C n) lost

/-- The first frame of a lane's bonding buffer goes on to the slip buffers. -/
def State.bondPop (s : State) (n : Nat) : State :=
  match (s.lane n).delay with
  | [] => s
  | f :: l => f.words.foldl (fun s e => s.slipIn n f.prov e) (s.setLane n { s.lane n with delay := l })

/-- A frame enters a lane's bonding buffer, which holds 12 (R234). -/
def State.bondStore (s : State) (n : Nat) (f : BondFrame) : State :=
  let s := s.onlyIf (decide (12 ≤ (s.lane n).delay.length)) fun s => s.bondPop n
  s.setLane n { s.lane n with delay := (s.lane n).delay ++ [f] }

/-- One frame count comes after another, in their circle of 2^32. -/
def fcAfter (a b : Nat) : Bool := a != b && decide ((a + 2 ^ 32 - b) % 2 ^ 32 < 2 ^ 31)

/-- The first frame of a lane's bonding buffer is voided unless its FC is `fc`. -/
def State.bondVoid (s : State) (n fc : Nat) : State :=
  match (s.lane n).delay with
  | [] => s
  | h :: l => if h.fc = fc then s else s.setLane n { s.lane n with delay := l }

/-- Frames of equal FC leave the bonding buffers of all members together, once they are due, ordinary, and the slip buffers have
room; a frame whose FC some member no longer holds is voided (R129, R234). -/
def State.bondStep (s : State) (ls : List Nat) : State :=
  let heads := ls.filterMap fun q => (s.lane q).delay.head?
  if heads.length != ls.length then s
  else
    let newest := heads.foldl (fun a h => if fcAfter h.fc a then h.fc else a) ((heads.head?.map (·.fc)).getD 0)
    if heads.any fun h => h.fc != newest then ls.foldl (fun s q => s.bondVoid q newest) s
    else if (heads.all fun h => !h.prov && decide (h.due ≤ s.core.cycles)) &&
        ls.all fun q => (List.range (slW (s.laneFormat q))).all fun j => decide ((spGet [] s.slIn (160 * q + j)).length ≤ 64) then
      ls.foldl State.bondPop s
    else s

/-- What a bond's buffers release at a core-frame boundary (R234): while the bond is not aligned, and no member provisional, its
groups carry replacement signal and each member's words go on as they fall due. -/
def State.bondRelease (s : State) (j : Nat) : State :=
  let ls := s.portLanes (s.fget (F.bond_SLB_CFG_FIRST j))
  if s.flag (F.bond_SLB_STATUS_ALIGNED j) || ls.any fun q => (s.lane q).delay.any (·.prov) then
    (List.range 16).foldl (fun s _ => s.bondStep ls) s
  else ls.foldl (fun s q => (List.range 12).foldl (fun s _ =>
    if (s.lane q).delay.head?.any fun h => !h.prov && decide (h.due ≤ s.core.cycles) then s.bondPop q else s) s) s

/-- Every slot-lane bond at a core-frame boundary. -/
def State.bondsRelease (s : State) : State :=
  ((List.range 128).filter fun j => s.flag (F.bond_SLB_CFG_EN j)).foldl State.bondRelease s

/-- A lane's words by slot unit, at CORE_CLK cycle `at_`, reach its buffers: those of a bonded lane are delayed to the latest member.
Provisional words are written only where a slip, skew or bonding buffer can hold them (R129, R234). -/
def State.slDeliver (s : State) (n fc at_ : Nat) (prov : Bool) (units : List (Nat × List Nat)) : State :=
  let p := s.portOfSu (160 * n)
  if s.portDisabled p then s
  else if (s.slBondOf n).isSome then
    let latest := (s.portLanes n).foldl (fun a q => max a (spGet 0 s.prot.late q)) 0
    s.bondStore n { fc := fc, due := at_ + (latest - spGet 0 s.prot.late n), prov := prov, words := units }
  else if prov && (s.alignersOn p).isEmpty then s
  else units.foldl (fun s e => s.slipIn n prov e) s

/-- The valid words of a slot-lane frame, by slot unit. -/
def State.slUnits (s : State) (n : Nat) (ws : List Nat) : List (Nat × List Nat) :=
  (List.range (slW (s.laneFormat n))).map fun j => (160 * n + j, slUnitWords (s.laneFormat n) ws j)

/-! ## Bonding lanes (R234) -/

/-- The bonding aligner's checkpoint for a lane (R32, R234). -/
def State.lateCheck (s : State) (n : Nat) : LateCheck :=
  let j := (s.slBondOf n).getD 0
  { late := (s.portLanes n).map fun q => (q, spGet 0 s.prot.late q), wide := s.flag (F.bond_SLB_STATUS_SKEW_OVER j)
    skew := s.fget (F.bond_SLB_STATUS_SKEW j), stamps := (s.lane n).stamps }

/-- The bonding aligner takes a frame count (R234): at the first of an unconfirmed hypothesis it saves its checkpoint (R32). -/
def State.slStamp (s : State) (n fc at_ : Nat) (prov : Bool) : State :=
  if (s.slBondOf n).isNone then s
  else
    let v := s.lane n
    let chk := if prov && v.lateChk.isNone then some (s.lateCheck n) else v.lateChk
    ((s.setLane n { v with stamps := ((fc, at_) :: v.stamps).take 8, lateChk := chk }).showBondProv n).slbAlign n

/-! ## Receiving slot-lane frames (R273 to R275) -/

/-- A frame's header is used in frame (R274, R279); FC of the frame is `fc`, and `at_` the cycle at which it began. -/
def State.slHeaderIn (s : State) (n at_ fc : Nat) (h : List Nat) : State :=
  let s := if slHeaderOk (s.laneFormat n) h then
      (s.fsets [(F.lane_FRM_STATUS_REM_IN_FRAME n, bitsOf (ohField h 18 1) 7 1), (F.lane_FRM_STATUS_REM_SIG n, bitsOf (ohField h 18 1) 6 1)]).onlyIf
        (fc != (s.reel n).mark) fun s => s.lcadd n (F.lane_FC_ERR_C n) 1
    else s.lcadd n (F.lane_HDR_BAD_C n) 1
  s.slStamp n fc at_ false

/-- After 5 consecutive failed checks a framer without OTUC checks leaves IN_FRAME (R274, R284); `mark` is the frame's MFI or FC. -/
def State.plainCheck (s : State) (n : Nat) (ok : Bool) (mark : Nat) : State :=
  let r := s.reel n
  let run := if ok then 0 else spGet 0 r.fasRun 0 + 1
  if 5 ≤ run then ((s.setReel n { r with mark := mark }).enterOof n).bondFollow n
  else s.setReel n { r with fasRun := spPut 0 [] 0 run, pos := r.pos + s.framePeriod n, mark := s.nextMark n mark }

/-- The lane receives slot-lane frames. -/
def State.slReceives (s : State) (n : Nat) : Bool :=
  s.laneUp n && (s.laneFormat n == 3 || s.laneFormat n == 4) && s.flag (F.lane_RX_STATUS_SIG n)

/-- What a slot-lane frame shows: its marker, its header, and its words by slot unit, those of uncorrected codewords flagged. -/
def State.slSeen (s : State) (n : Nat) (line : List Nat) (fixes : List (Nat × Nat)) :
    Bool × List Nat × List (Nat × List Nat) :=
  let f := s.laneFormat n
  let raw := s.rxBits n line
  let c := rsCorrect (slCodewords f) fixes raw
  let x := slFrame f c.1
  (s.takesData n && slMarkerOk (raw.take 80), x.1, s.slUnits n (slWords f x.2 c.2))

/-- A slot-lane frame is received at the framer's position, or at that of the hypothesis in register `k` (R274): the symbol before it
and its own, and the corrections that the RS decoder makes. The lead's words are provisional (R129). -/
def State.slReceived (s : State) (n : Nat) (k : Option Nat) (at_ : Nat) (pins : List Nat) (fixes : List (Nat × Nat)) : State :=
  if !s.slReceives n then s
  else
    let x := s.rxFrame n pins
    let s := x.1
    let y := s.slSeen n x.2 fixes
    let r := s.reel n
    match k with
    | none =>
      if s.framer n != 2 then s
      else
        let s := (s.setLane n { s.lane n with galopWait := false }).loopFar n (x.2.drop 1)
        let fc := slFc (s.laneFormat n) y.2.1 r.mark
        let s := s.onlyIf (s.takesData n) fun s => (s.slHeaderIn n at_ fc y.2.1).slDeliver n fc at_ false y.2.2
        s.plainCheck n y.1 (if s.takesData n then fc else r.mark)
    | some k =>
      match r.at k with
      | none => s
      | some h =>
        let fc := slFc (s.laneFormat n) y.2.1 (s.nextMark n h.mark)
        let lead := r.hyps.head? == some h
        let s := s.onlyIf lead fun s => s.loopFar n (x.2.drop 1)
        let s := s.onlyIf (lead && y.1) fun s => (s.slStamp n fc at_ true).slDeliver n fc at_ true y.2.2
        let s := s.hypCheck n k (h.pos + s.framePeriod n) fc y.1
        let s := s.onlyIf (!lead && s.framer n == 2) fun s => (s.slStamp n fc at_ false).slDeliver n fc at_ false y.2.2
        s.bondFollow n

/-- A marker candidate begins a frame at a place of the bit stream (R274). -/
def State.slCandidate (s : State) (n place at_ : Nat) (pins : List Nat) (fixes : List (Nat × Nat)) : State :=
  if !s.slReceives n then s
  else
    let x := s.rxFrame n pins
    let s := x.1
    let y := s.slSeen n x.2 fixes
    if !y.1 then s
    else
      let fc := slFc (s.laneFormat n) y.2.1 0
      let first := (s.reel n).hyps.isEmpty
      let s := s.onlyIf (first && s.framer n != 2) fun s => s.loopFar n (x.2.drop 1)
      let s := s.candidate n place fc
      s.onlyIf (first && !(s.reel n).hyps.isEmpty) fun s => (s.slStamp n fc at_ true).slDeliver n fc at_ true y.2.2

/-! ## FlexO (R269) -/

/-- A FlexO alignment marker in frame: 5 consecutive that are wrong lose the alignment. -/
def State.flexoMarker (s : State) (n : Nat) (am : Bool) : State :=
  let r := s.reel n
  let run := if am then 0 else spGet 0 r.fasRun 15 + 1
  let s := s.setReel n { r with fasRun := spPut 0 r.fasRun 15 (if 5 ≤ run then 0 else run) }
  if 5 ≤ run then s.enterOof n else s

/-- A FlexO frame is received (R269): `place` is its place in the FlexO frame cycle, `am` whether its alignment marker is
there, `otuc` what the slices of an OTUC frame that begins in it show: bytes 3 and 4 correct, and byte 7. -/
def State.flexoReceived (s : State) (n place : Nat) (am : Bool) (otuc : Option (List (Bool × Nat))) : State :=
  if !s.laneUp n || !(s.laneFormat n = 1 || s.laneFormat n = 2) || !s.flag (F.lane_RX_STATUS_SIG n) || !s.takesData n then s
  else if s.framer n < 2 then
    match (s.reel n).hyps.find? fun h => h.pos == place with
    | some h =>
      let first := match otuc with | some l => (l.headD (true, 0)).2 | none => h.mark
      s.hypCheck n h.reg place first am
    | none => if am then s.candidate n place (match otuc with | some l => (l.headD (true, 0)).2 | none => 0) else s
  else
    let s := s.setLane n { s.lane n with galopWait := false }
    let s : State := match otuc with
      | some l => s.otucCheck n ((l.take (s.otucSlices n)).map fun e => ⟨e.1, e.1, e.2⟩)
      | none => s
    if s.framer n < 2 then s else s.flexoMarker n am

/-! ## Words at a core-frame boundary (R273, R285) -/

/-- Words of a slot unit's slip buffer that may be read: a forerunner lane's provisional words may not, and those of a slot lane go on
only to the buffered copies of its groups, as provisional words (R25, R129, R285). While a forerunner lane is not in frame its slot
units carry stuff words only (R285). -/
def State.slReadable (s : State) (e : Nat × List Nat) : List Nat :=
  let n := e.1 / 160
  if s.laneFormat n != 5 then e.2
  else if s.framer n != 2 then []
  else e.2.take (e.2.length - spGet 0 (s.lane n).prov e.1)

/-- The words that the lanes' slip buffers give in a core frame: at most 64 for each slot unit. -/
def State.lanesIn (s : State) : List (Nat × List SlotWord) :=
  s.slIn.map fun e => (e.1, ((s.slReadable e).take 64).map (BitVec.ofNat 18))

/-- The core frame's words with those of the lanes in place of any given for their slot units. -/
def State.withLanes (s : State) (f : CoreFrame) : CoreFrame :=
  let isLane := fun u => decide (u < 40960) && decide (3 ≤ s.laneFormat (u / 160)) && decide (s.laneFormat (u / 160) ≤ 5)
  { f with words := s.lanesIn ++ f.words.filter fun e => !isLane e.1 }

/-- The lanes' slip buffers after a core frame; no more words are provisional than remain. -/
def State.lanesTaken (s : State) : State :=
  let left := (s.slIn.map fun e => (e.1, e.2.drop (min 64 (s.slReadable e).length))).filter fun e => e.2 != []
  let lanes := (s.lanes.filter fun e => e.2.prov != []).map Prod.fst
  lanes.foldl (fun (s : State) n =>
    let v := s.lane n
    s.setLane n { v with prov := (v.prov.map fun e => (e.1, min e.2 (spGet [] s.slIn e.1).length)).filter fun e => e.2 != 0 })
    { s with slIn := left }

/-- The valid words read for an egress slot unit of a slot lane wait for the lane's frames; those that find 128 waiting are dropped and
counted (R273). A lane whose stream does not run sends none. -/
def slotOut (s : State) (e : Nat × List Nat) : State :=
  let n := e.1 / 160
  if decide (e.1 < 40960) && s.slotLane n && decide (e.1 % 160 < laneUnits (s.laneFormat n)) then
    if s.streams n && s.flag (F.lane_LANE_CTRL_DP_EN (s.portOfSu e.1)) then
      let all := spGet [] s.slOut e.1 ++ e.2.filter fun w => bitOf w 16
      { s with slOut := spPut [] s.slOut e.1 (all.take 128) }.onlyIf (decide (128 < all.length)) fun s =>
        s.lcadd n (F.lane_SL_OVF_C n) (all.length - 128)
    else { s with slOut := spPut [] s.slOut e.1 [] }
  else s

/-- The valid words read for the egress slot units of slot-lane lanes (R273). -/
def State.lanesOut (s : State) : State := s.core.egress.foldl slotOut s

end Sys2Proof.Machine
end

