-- ==== Sys2Proof/Machine/ForeOps.lean ====
section
/-! DEFINITION. The forerunner slot bus: frames, blocks, slip buffers and the frame pulse (spec/10_forerunner.md R281 to
R288, R295, R297, R298).

Readings fixed here (notes/assumptions): 70 DEDUCED, 114 DESIGN CHOICE. -/

namespace Sys2Proof.Machine

/-! ## Receiving (R281 to R285) -/

/-- Numbers of a list of slot words. -/
def natWords (l : List SlotWord) : List Nat := l.map BitVec.toNat

/-- A frame's words with the scrambling from word 3 on applied, or removed (R282). -/
def frScramble (ws : List Nat) : List Nat :=
  let bits := ((ws.drop 3).map (bitsMsb 18)).flatten
  ws.take 3 ++ (pieces 18 (ws.length - 3) (prbs31Xor (2 ^ 31 - 1) bits)).map msbNat

/-- The FAS words are exact (R281). -/
def frFasOk (ws : List Nat) : Bool := ws.take 3 == [0x1F6F6, 0x1F628, 0x12828]

/-- MFI of a frame. -/
def frMfi (ws : List Nat) : Nat := ws.getD 3 0 % 256

/-- Bits [15:8] of word 3 are the complement of bits [7:0]. -/
def frMfiPair (ws : List Nat) : Bool := bitsOf (ws.getD 3 0) 8 8 == 255 - frMfi ws

/-- A counter of pages 0x222 to 0x225 counts, while its lane is in FORMAT 5 (R298). -/
def State.fcadd (s : State) (n : Nat) (c : Ct) (k : Nat) : State := if s.laneFormat n = 5 then s.cadd c k else s

/-- Words as they leave the pins (R243). -/
def State.frPins (s : State) (n : Nat) (line : List Nat) : List Nat :=
  if s.flag (F.lane_LANE_CFG_TX_POL n) then line.map (2 ^ 18 - 1 - ·) else line

/-- Far-end loopback sends the received words again (R277). -/
def State.frFar (s : State) (n : Nat) (line : List Nat) : State :=
  s.onlyIf (s.loopSel n == 2 && s.txActive n) fun s =>
    s.emit (.slotLane n ((s.frPins n (if s.rxInverts n then line.map (2 ^ 18 - 1 - ·) else line)).flatMap fun w => (bitsMsb 18 w).map b2n))

/-- The lane receives the slot bus. -/
def State.frReceives (s : State) (n : Nat) : Bool :=
  s.laneUp n && s.laneFormat n == 5 && s.flag (F.lane_RX_STATUS_SIG n)

/-- The block of slot `k` in a frame (R285): header word, then the slot's 10,788 words. -/
def frBlock (ws : List Nat) (k : Nat) : List Nat :=
  parityWord (2 ^ 16 + 0xA500 + frMfi ws) ::
    (List.range 10788).map fun i =>
      let w := ws.getD (96 + 8 * i + k) 0
      if bitOf w 16 then w else 0x10000

/-- Words of slot `k` received with V = 0. -/
def frVbad (ws : List Nat) (k : Nat) : Nat :=
  ((List.range 10788).filter fun i => !bitOf (ws.getD (96 + 8 * i + k) 0) 16).length

/-- EQ of a frame, by slot. -/
def frEq (ws : List Nat) : Nat := bitsOf (ws.getD 5 0) 8 8

/-- A block goes to each equipped slot (R285): those of the lead's frames are provisional, at the ends of the slots' buffers (R25,
R129). -/
def State.frBlocks (s : State) (n : Nat) (prov : Bool) (ws : List Nat) : State :=
  let on := (List.range 8).filter (bitOf (frEq ws))
  if s.portDisabled n then s
  else
    let v := s.lane n
    let s := s.onlyIf prov fun s => s.setLane n { v with
      prov := on.foldl (fun m k => spModify 0 m (160 * n + k) (· + 10789)) v.prov, provVbad := v.provVbad + sumOf (on.map (frVbad ws)) }
    { s with slIn := on.foldl (fun m k => spModify [] m (160 * n + k) (· ++ frBlock ws k)) s.slIn }

/-- An in-frame slot-bus frame: EQ is shown, words with V = 0 are counted, and a block goes to each equipped slot (R285). -/
def State.frDeliver (s : State) (n : Nat) (ws : List Nat) : State :=
  let s := s.fset (F.frs_SLOT_STATUS_RX_EQ (n / 64) (n % 64)) (frEq ws)
  let on := (List.range 8).filter (bitOf (frEq ws))
  (s.fcadd n (F.frs_VBAD_C (n / 64) (n % 64)) (sumOf (on.map (frVbad ws)))).frBlocks n false ws

/-- The words of a frame as the receiver sees them (R243, R277, R282). -/
def State.frSeen (s : State) (n : Nat) (line : List Nat) : List Nat :=
  frScramble (if s.rxInverts n then line.map (2 ^ 18 - 1 - ·) else line)

/-- A frame in frame (R284): it carries the FAS or not, and MFI is counted where it is wrong. -/
def State.frInFrame (s : State) (n : Nat) (ws : List Nat) : State :=
  let r := s.reel n
  let s := s.setLane n { s.lane n with galopWait := false }
  let good := frMfiPair ws && frMfi ws == r.mark
  let s := s.onlyIf (!good) fun s => s.fcadd n (F.frs_MFI_ERR_C (n / 64) (n % 64)) 1
  (s.onlyIf (s.takesData n) fun s => s.frDeliver n ws).plainCheck n (s.takesData n && frFasOk ws) (if frMfiPair ws then frMfi ws else r.mark)

/-- The check of a hypothesis (R284, R285): the lead's block is provisional, and the block of the frame that confirms one is
ordinary. -/
def State.frCheck (s : State) (n k : Nat) (h : Hyp) (ws : List Nat) : State :=
  let ok := s.takesData n && frFasOk ws && frMfiPair ws && frMfi ws == (h.mark + 1) % 256
  let lead := (s.reel n).hyps.head? == some h
  let s := s.hypCheck n k (h.pos + s.framePeriod n) (frMfi ws) ok
  if !ok then s else if s.framer n = 2 then s.frDeliver n ws else s.onlyIf lead fun s => s.frBlocks n true ws

/-- A slot-bus frame is received at the framer's position, or at that of the hypothesis in register `k` (R284). -/
def State.frReceived (s : State) (n : Nat) (k : Option Nat) (line : List Nat) : State :=
  if !s.frReceives n then s
  else
    let x := s.rxFrame n line
    let s := x.1
    let ws := s.frSeen n x.2
    match k with
    | none => if s.framer n != 2 then s else (s.frFar n x.2).frInFrame n ws
    | some k =>
      match (s.reel n).at k with
      | none => s
      | some h => (s.onlyIf ((s.reel n).hyps.head? == some h) fun s => s.frFar n x.2).frCheck n k h ws

/-- A candidate: FAS and an MFI with its complement (R284); the first hypothesis's block is provisional (R285). -/
def State.frCandidate (s : State) (n place : Nat) (line : List Nat) : State :=
  if !s.frReceives n then s
  else
    let x := s.rxFrame n line
    let s := x.1
    let ws := s.frSeen n x.2
    if !(s.takesData n && frFasOk ws && frMfiPair ws) then s
    else
      let first := (s.reel n).hyps.isEmpty
      let s := s.onlyIf (first && s.framer n != 2) fun s => s.frFar n x.2
      let s := s.candidate n place (frMfi ws)
      s.onlyIf (first && !(s.reel n).hyps.isEmpty) fun s => s.frBlocks n true ws

/-! ## Transmitting (R286 to R288) -/

/-- Egress slot `k` of lane `n`. -/
def State.frSlot (s : State) (n k : Nat) : FrSlot := spGet {} s.fore.slots (8 * n + k)

/-- Replace it; TRK and RUN show it (R297). -/
def State.setFrSlot (s : State) (n k : Nat) (v : FrSlot) : State :=
  let s := { s with fore := { s.fore with slots := spPut {} s.fore.slots (8 * n + k) v } }
  let put := fun (f : Fl) (s : State) (b : Bool) => s.fset f (setBits (s.fget f) k 1 (b2n b))
  put (F.frs_SLOT_STATUS_RUN (n / 64) (n % 64)) (put (F.frs_SLOT_STATUS_TRK (n / 64) (n % 64)) s v.inFrame) v.run

/-- A slot slips: a block dropped or repeated (R287, R297, R298). -/
def State.frSlip (s : State) (n k : Nat) (rep : Bool) : State :=
  let c := 8 * (n % 64) + k
  let s := s.fcadd n (if rep then F.frs_SLIP_REP_C (n / 64) c else F.frs_SLIP_DROP_C (n / 64) c) 1
  (s.cadd F.fr_SLIP_TOTAL_C 1).raise 0x220 3

/-- A word that may be a header (R286). -/
def isHeader (w : Nat) : Bool := bitsOf w 8 8 == 0xA5

/-- A word after another's header, one greater in its low byte. -/
def nextHeader (mfi w : Nat) : Bool := isHeader w && w % 256 == (mfi + 1) % 256

/-- The tracker judges a valid word (R286): with it a block may be complete, given as its 10,788 payload words. Out of frame it looks
for two headers 10,789 words apart; the second begins its first block. -/
def FrSlot.word (v : FrSlot) (w : Nat) : FrSlot × Option (List Nat) :=
  if !v.inFrame then
    match v.past[10788]? with
    | some p =>
      if isHeader p && nextHeader (p % 256) w then ({ v with inFrame := true, past := [], mfi := w % 256, bad := 0, part := [w] }, none)
      else ({ v with past := (w :: v.past).take 10789 }, none)
    | none => ({ v with past := w :: v.past }, none)
  else if v.part = [] then
    if nextHeader v.mfi w then ({ v with mfi := w % 256, bad := 0, part := [w] }, none)
    else if 5 ≤ v.bad + 1 then ({ seen := v.seen, past := [w] }, none)
    else ({ v with mfi := (v.mfi + 1) % 256, bad := v.bad + 1, part := [w] }, none)
  else if v.part.length = 10788 then ({ v with part := [] }, some ((w :: v.part).reverse.drop 1))
  else ({ v with part := w :: v.part }, none)

/-- The tracker judges words until a block is complete: the block, and the words that are left. -/
def FrSlot.next : List Nat → FrSlot → FrSlot × Option (List Nat)
  | [], v => ({ v with seen := [] }, none)
  | w :: l, v =>
    match v.word w with
    | (v', some b) => ({ v' with seen := l }, some b)
    | (v', none) => FrSlot.next l v'

/-- An egress slot's tracker judges the words read for it, up to the end of its next block, which enters the slip buffer (R286, R287). -/
def State.frBlockDone (s : State) (n k : Nat) : State :=
  if !s.laneUp n || s.laneFormat n != 5 then s
  else
    let v := s.frSlot n k
    let r := v.next v.seen
    match r.2 with
    | none => s.setFrSlot n k r.1
    | some b =>
      let full := decide (3 ≤ r.1.blocks.length)
      let v := { r.1 with blocks := (if full then r.1.blocks.drop 1 else r.1.blocks) ++ [b] }
      (s.setFrSlot n k v).onlyIf full fun s => s.frSlip n k false

/-- The valid words that the interchange reads for the egress slot units of forerunner lanes wait for their trackers (R286). -/
def frOut (s : State) (e : Nat × List Nat) : State :=
  let n := e.1 / 160
  if decide (e.1 < 40960) && decide (e.1 % 160 < 8) && s.laneUp n && s.laneFormat n == 5 && s.flag (F.lane_LANE_CTRL_DP_EN n) then
    let v := s.frSlot n (e.1 % 160)
    let v := { v with seen := v.seen ++ e.2.filter fun w => bitOf w 16 }
    { s with fore := { s.fore with slots := spPut {} s.fore.slots (8 * n + e.1 % 160) v } }
  else s

/-- The trackers after a core frame's reading; those of lanes that are not up in FORMAT 5 hold nothing. -/
def State.foreOut (s : State) : State :=
  let gone := (s.fore.slots.map Prod.fst).filter fun x => !(s.laneUp (x / 8) && s.laneFormat (x / 8) == 5)
  s.core.egress.foldl frOut (gone.foldl (fun s x => s.setFrSlot (x / 8) (x % 8) {}) s)

/-- An egress slot at a frame start (R287): what it sends. -/
def State.frSlotStart (s : State) (n k : Nat) : State × Option (List Nat) :=
  let v := s.frSlot n k
  if !v.inFrame then (s, none)
  else if v.run then
    match v.blocks with
    | b :: l => (s.setFrSlot n k { v with blocks := l, last := b }, some b)
    | [] => (s.frSlip n k true, some v.last)
  else match v.blocks with
    | b :: c :: l => (s.setFrSlot n k { v with run := true, blocks := c :: l, last := b }, some b)
    | _ => (s, none)

/-- The 86,400 words of a lane's slot-bus frame, before scrambling (R281): FAS, MFI and its complement, LANE_ID, STATUS, and the slots'
payload words in turn. -/
def frWords (n mfi : Nat) (inFrame : Bool) (blocks : List (Option (List Nat))) : List Nat :=
  let eq := sumOf (blocks.mapIdx fun k b => b2n b.isSome * 2 ^ (8 + k))
  let slots := blocks.map fun b => b.getD (List.replicate 10788 0x20000)
  [0x1F6F6, 0x1F628, 0x12828, parityWord (2 ^ 16 + 256 * (255 - mfi) + mfi), parityWord (2 ^ 16 + 0x400 + n),
    parityWord (2 ^ 16 + eq + b2n inFrame)] ++ List.replicate 90 0x20000 ++
    (List.range 10788).flatMap fun i => slots.map fun l => l.getD i 0x20000

/-- A lane at an egress frame start: its stream goes on while the transmitter idles (R265). -/
def frLaneStart (mfi : Nat) (s : State) (n : Nat) : State :=
  let r := (List.range 8).foldl (fun (p : State × List (Option (List Nat))) k =>
    let q := p.1.frSlotStart n k; (q.1, p.2 ++ [q.2])) (s, [])
  let line := frScramble (frWords n mfi (r.1.framer n == 2) r.2)
  let s := r.1.onlyIf (r.1.streams n) fun s => s.loopNear n line
  if s.sendsData n then s.emit (.frFrame n mfi (s.framer n == 2) r.2 (s.frPins n line)) else s

/-- The lanes in FORMAT 5 that are up. -/
def State.frLanes (s : State) : List Nat := (List.range 256).filter fun n => s.laneUp n && s.laneFormat n == 5

/-- An egress slot-bus frame starts on every forerunner lane at a CORE_CLK cycle of the core frame, with a pulse of FR_FP_OUT (R287,
R288). -/
def State.frFrameStart (s : State) (cycle : Nat) : State :=
  let mfi := if s.fore.mark then 0 else (s.fget F.fr_FR_MFI_TX_MFI + 1) % 256
  let s := { s with fore := { s.fore with mark := false, start := some (s.core.cycles + cycle) } }.fset F.fr_FR_MFI_TX_MFI mfi
  s.frLanes.foldl (frLaneStart mfi) (s.emit (.frPulse (mfi == 0)))

/-! ## The frame pulse (R288, R295) -/

/-- FR_FP_IN is ignored: FP_MASTER = 1, which Forerunner mode locks at 0. -/
def State.fpIgnored (s : State) : Bool := s.flag F.fr_FR_CFG_FP_MASTER && s.fget F.dev_ROLE_ROLE != 3

/-- How far, in CORE_CLK cycles, an edge lies from its expected position (R288): FP_OFFSET word times, of 125 / 54 cycles, before a frame
start. Frame starts are 200,000 cycles apart, and the nearest counts; before the first there is none to compare. -/
def State.fpError (s : State) (now : Nat) : Int :=
  match s.fore.start with
  | none => 0
  | some t =>
    let d := ((now : Int) + ((min 86399 (s.fget F.fr_FR_OFFSET_FP_OFFSET) * 125 + 27) / 54 : Nat) - t) % 200000
    if 100000 ≤ d then d - 200000 else d

/-- The frame start moves by `off` cycles (R288): where it falls before the current frame ends, every slot in RUN loses its block. -/
def State.fpRealign (s : State) (off : Int) : State :=
  let s := ((s.raise 0x220 2).cadd F.fr_FP_REALIGN_CNT_C 1).emit (.frMove off)
  let s := { s with fore := { s.fore with
    out := 0, back := 0, start := s.fore.start.map fun t => ((t : Int) + off).toNat } }
  if off < 0 then s.frLanes.foldl (fun s n => (List.range 8).foldl (fun s k =>
    if (s.frSlot n k).run then s.frSlip n k false else s) s) s
  else s

/-- SQUELCH takes a value (R295). -/
def State.setSquelch (s : State) (b : Bool) : State :=
  if s.flag F.fr_FR_STATUS_SQUELCH = b then s else (s.fput F.fr_FR_STATUS_SQUELCH b).raise 0x220 4

/-- A rising edge of FR_FP_IN at a CORE_CLK cycle of the core frame; `long` marks the multiframe (R288, R295). -/
def State.fpEdge (s : State) (cycle : Nat) (long : Bool) : State :=
  if s.fpIgnored then s
  else
    let off := s.fpError (s.stampAt cycle)
    let w : Int := max 1 (s.fget F.fr_FR_CFG_FP_WINDOW)
    let inside := decide (-w ≤ off ∧ off ≤ w)
    let s := s.onlyIf (!s.flag F.fr_FR_STATUS_FP_PRESENT) fun s => s.raise 0x220 1
    let s := s.fsets [(F.fr_FR_STATUS_FP_PRESENT, 1), (F.fr_FR_STATUS_FP_ALIGNED, b2n inside),
      (F.fr_FR_STATUS_FP_PHASE, ofSigned 16 (max (-32768) (min 32767 off)))]
    let s := { s with fore := { s.fore with
      out := if inside then 0 else s.fore.out + 1, mark := s.fore.mark || long, back := s.fore.back + 1 } }
    if s.flag F.fr_FR_STATUS_SQUELCH then (if 3 ≤ s.fore.back then (s.fpRealign off).setSquelch false else s)
    else if 3 ≤ s.fore.out then s.fpRealign off
    else s

/-- No edge within 250 µs (R288). -/
def State.fpLoss (s : State) : State :=
  if !s.flag F.fr_FR_STATUS_FP_PRESENT then s
  else ({ s with fore := { s.fore with out := 0, back := 0 } }.fsets
    [(F.fr_FR_STATUS_FP_PRESENT, 0), (F.fr_FR_STATUS_FP_ALIGNED, 0)]).raise 0x220 0

/-- FP_PRESENT has been 0 for longer than FP_HOLD in the Forerunner role (R295). -/
def State.fpHoldEnds (s : State) : State :=
  if s.fget F.dev_ROLE_ROLE = 3 && s.live && !s.flag F.fr_FR_STATUS_FP_PRESENT then
    ({ s with fore := { s.fore with back := 0 } } : State).setSquelch true
  else s

end Sys2Proof.Machine
end

