-- ==== Sys2Proof/Machine/JrnlOps.lean ====
section
/-! DEFINITION. The field journal's ring: the bytes of a record, the limiter and the writing of records
(spec/17_service_debug.md R461 to R464).

Readings fixed here (notes/assumptions): 18 DESIGN CHOICE, 30 DEDUCED, 96 DEDUCED. -/

namespace Sys2Proof.Machine

/-- The 64 bytes of a record (R462), its CRC-32 last. -/
def jrnlBytes (r : JRec) : List Nat :=
  let b := leBytes 4 r.seq ++ [r.typ, r.master] ++ leBytes 2 r.page ++ leBytes 6 r.uptime ++ leBytes 2 r.aonCycle ++
    leBytes 8 r.sf ++ leBytes 4 r.tick ++ [r.modeRole, 0, 0, 0] ++ (padTo 28 r.body).map (· % 256)
  b ++ leBytes 4 (crc32 b)

/-- The bytes of a slot of the MRAM's ring (R461); a slot never written is zero. -/
def State.mramSlot (s : State) (slot : Nat) : List Nat :=
  match s.svc.mram.find? fun e => e.1 == slot with
  | some e => jrnlBytes e.2
  | none => List.replicate 64 0

/-- A DWORD of the MRAM as target T1 (R399, R461, R436): the EPOCH store reads zero to all but Warden. -/
def State.mramDw (s : State) (m : Master) (off : Nat) : Nat :=
  if off < 0xFFF000 then leNat ((s.mramSlot (off / 64)).drop (off % 64) |>.take 4)
  else if m = .warden then spGet 0 s.svc.epochs ((off - 0xFFF000) / 4)
  else 0

/-- The slot after a slot of the ring (R461). -/
def nextSlot (n : Nat) : Nat := (n + 1) % 262080

/-- A record is written whole to the next slot (R461, R475). -/
def State.jrnlPut (s : State) (r : JRec) : State :=
  let slot := s.fget F.jr_JRNL_WR_SLOT
  let s := { s with svc := { s.svc with mram := spSet s.svc.mram slot r } }
  let s := (s.fset F.jr_JRNL_WR_SLOT (nextSlot slot)).cadd F.jr_JRNL_RECORDS_C 1
  s.onlyIf (s.twinActive && s.linkUp) fun s => s.twinRecordLater (.fieldJournal r)

/-- The DROPPED record that precedes the next record the limiter admits (R464). -/
def State.jrnlTellDropped (s : State) : State :=
  if s.svc.dropped = 0 then s
  else
    let r := s.mkRecord (s.fget F.jr_JRNL_SEQ_SEQ) 16 hwMaster 0x2A1 (leBytes 4 s.svc.dropped)
    let s := s.fset F.jr_JRNL_SEQ_SEQ (nextSeq r.seq)
    ({ s with svc := { s.svc with dropped := 0 } } : State).jrnlPut r

/-- The oldest queued record meets the limiter (R464): it is written, or dropped. -/
def State.jrnlNext (s : State) : State :=
  match s.svc.jq with
  | [] => s
  | r :: l =>
    let s := { s with svc := { s.svc with jq := l } }
    if jrnlBypass r.typ then s.jrnlPut r
    else if s.svc.tokens = 0 then s.jrnlDrop
    else (({ s with svc := { s.svc with tokens := s.svc.tokens - 1 } } : State).jrnlTellDropped).jrnlPut r

/-- A millisecond passes in the service engine: UPTIME, and one token of the limiter (R462, R464). -/
def State.svcMs (s : State) : State :=
  { s with svc := { s.svc with uptimeMs := s.svc.uptimeMs + 1, tokens := min 4096 (s.svc.tokens + 1) } }

end Sys2Proof.Machine
end

