-- ==== Sys2Proof/Machine/HostOps.lean ====
section
/-! DEFINITION. Operations of the host interface: the link, the functions' reset, DMA channels
(spec/14_host_pcie.md).

Readings fixed here (notes/assumptions): 22 DEDUCED, 32 DEDUCED, 33 PRESUMED, 34 DEDUCED, 85 DEDUCED. -/

namespace Sys2Proof.Machine

/-- DMA channel `k` beside its registers. -/
def State.chan (s : State) (k : Nat) : DmaChan := spGet {} s.host.chans k

/-- Replace it. -/
def State.setChan (s : State) (k : Nat) (c : DmaChan) : State :=
  { s with host := { s.host with chans := spPut {} s.host.chans k c } }

/-- Size of a channel's descriptor ring (R390). -/
def State.chSize (s : State) (k : Nat) : Nat := 2 ^ clamp 4 16 (s.fget (F.dma_CH_CFG_LOG2_SIZE k))

/-- Host address of the descriptor at HEAD. -/
def State.chDesc (s : State) (k : Nat) : Nat :=
  64 * s.fget (F.dma_CH_BASE_LO_BASE k) + 2 ^ 32 * s.fget (F.dma_CH_BASE_HI_BASE k) +
    32 * (s.fget (F.dma_CH_HEAD_HEAD k) % s.chSize k)

/-- The ring holds a pending descriptor. -/
def State.chPending (s : State) (k : Nat) : Bool :=
  s.fget (F.dma_CH_HEAD_HEAD k) % s.chSize k != s.fget (F.dma_CH_TAIL_TAIL k) % s.chSize k

/-- A descriptor ends (R390): status and bytes are written back, HEAD advances and is written back, DONE is raised
if IRQ is set; a status other than OK or ABORTED halts the channel. -/
def State.descEnd (s : State) (k : Nat) (irq : Bool) (status done : Nat) : State :=
  let s := s.emit (.hostWrite (s.chDesc k + 24) (leBytes 4 status ++ leBytes 4 done))
  let head := (s.fget (F.dma_CH_HEAD_HEAD k) + 1) % s.chSize k
  let s := s.fset (F.dma_CH_HEAD_HEAD k) head
  let wb := s.fget (F.dma_CH_WB_LO_WB k) + 2 ^ 32 * s.fget (F.dma_CH_WB_HI_WB k)
  let s := ((s.emit (.hostWrite wb (leBytes 4 head))).setChan k { s.chan k with job := none }).cadd F.dma_DESC_DONE_C 1
  let s := (s.fset (F.dma_CH_STATUS_LAST k) status).onlyIf irq fun s => s.raise 0x261 k
  if status = 1 || status = 2 then
    s.fset (F.dma_CH_STATUS_STATE k) (if status = 1 && s.flag (F.dma_CH_CFG_EN k) && s.chPending k then 1 else 0)
  else ((s.fset (F.dma_CH_STATUS_STATE k) 4).raise 0x261 16).cadd F.dma_DESC_ERR_C 1

/-- STATE of an enabled channel: idle with no descriptor pending, paused while its function may not send requests,
otherwise running (R390, R392). -/
def State.chState (s : State) (k : Nat) : Nat :=
  if !s.chPending k then 0 else if s.host.pf0.bme && !s.host.pf0.d3hot then 1 else 3

/-- An enable that was held while the channel drained takes effect (R49). -/
def State.heldEnable (s : State) (k : Nat) : State :=
  if (s.chan k).heldEn then
    let s := (s.setChan k { s.chan k with heldEn := false }).fset (F.dma_CH_CFG_EN k) 1
    if s.fget (F.dma_CH_STATUS_STATE k) = 0 || s.fget (F.dma_CH_STATUS_STATE k) = 5 then
      s.fset (F.dma_CH_STATUS_STATE k) (s.chState k)
    else s
  else s

/-- DRAINING returns to 0, and READY to 1, on the page of the host interface (R47), and enables held meanwhile take effect (R49). -/
def State.dmaDrainEnds (s : State) : State :=
  if s.draining 0x260 then
    (List.range 16).foldl State.heldEnable ((s.fset (F.hdr_BLK_STATUS_DRAINING 0x260) 0).setReady 0x260 true)
  else s

/-- DRAINING reads 0 once no channel drains (R392). -/
def State.dmaDrainShown (s : State) : State :=
  if (List.range 16).any fun j => s.fget (F.dma_CH_STATUS_STATE j) == 2 then s else s.dmaDrainEnds

/-- CH_CFG.EN of a channel is cleared (R47, R392): LINK_LOST stays until it is set again. -/
def State.chanDisable (s : State) (k : Nat) : State :=
  let s := s.fset (F.dma_CH_CFG_EN k) 0
  if (s.chan k).job.isSome then
    ((s.fset (F.dma_CH_STATUS_STATE k) 2).fset (F.hdr_BLK_STATUS_DRAINING 0x260) 1).setReady 0x260 false
  else if s.fget (F.dma_CH_STATUS_STATE k) = 5 then s
  else s.fset (F.dma_CH_STATUS_STATE k) 0

/-- CH_CFG is written as a whole word (R390, R392, R395). -/
def State.chanCfg (s : State) (m : Master) (k new : Nat) : State :=
  let en := bitOf new 8
  let was := s.flag (F.dma_CH_CFG_EN k)
  if was && bitsOf new 0 5 != s.fget (F.dma_CH_CFG_LOG2_SIZE k) then s.log 0x261 0xA m (0x408 + 0x40 * k)
  else
    let s := s.fset (F.dma_CH_CFG_LOG2_SIZE k) new
    if was && !en then s.chanDisable k
    else if !was && en then
      if s.draining 0x260 then s.setChan k { s.chan k with heldEn := true }
      else (s.fset (F.dma_CH_CFG_EN k) 1).fset (F.dma_CH_STATUS_STATE k) (s.chState k)
    else s

/-- CH_TAIL is written (R390). -/
def State.chanTail (s : State) (k tail : Nat) : State :=
  let s := s.fset (F.dma_CH_TAIL_TAIL k) tail
  if s.flag (F.dma_CH_CFG_EN k) && s.fget (F.dma_CH_STATUS_STATE k) = 0 then s.fset (F.dma_CH_STATUS_STATE k) (s.chState k)
  else s

/-- The link goes down (R392): descriptors in progress are dropped without writeback, enabled channels read
LINK_LOST. -/
def State.dmaLinkLost (s : State) : State :=
  ((List.range 16).foldl (fun (s : State) k =>
    if s.flag (F.dma_CH_CFG_EN k) || (s.chan k).job.isSome then
      (s.setChan k { s.chan k with job := none }).fset (F.dma_CH_STATUS_STATE k) 5
    else s) s).dmaDrainShown

/-- The width that a link of `w` lanes trains to: the widest supported (R378). -/
def linkWidth (w : Nat) : Nat :=
  if 16 ≤ w then 16 else if 8 ≤ w then 8 else if 4 ≤ w then 4 else if 2 ≤ w then 2 else 1

/-- The link trains or goes down (R378, R379). -/
def State.linkChange (s : State) (gen width : Nat) : State :=
  let was := s.flag F.pcie_LINK_STATUS_UP
  let cap := max 1 (s.fget F.pcie_LINK_CFG_MAX_GEN)
  if gen = 0 then
    let s := s.fsets [(F.pcie_LINK_STATUS_GEN, 0), (F.pcie_LINK_STATUS_WIDTH, 0), (F.pcie_LINK_STATUS_UP, 0),
      (F.pcie_LINK_STATUS_FLIT, 0)]
    if was then ((s.cadd F.pcie_LINK_DOWNS_C 1).raise 0x260 0).dmaLinkLost else s
  else
    let g := min gen cap
    let width := linkWidth width
    let s := s.fsets [(F.pcie_LINK_STATUS_GEN, g), (F.pcie_LINK_STATUS_WIDTH, width), (F.pcie_LINK_STATUS_UP, 1),
      (F.pcie_LINK_STATUS_FLIT, b2n (g == 7))]
    let s := s.onlyIf (!was) fun s => s.raise 0x260 0
    s.onlyIf (decide (g < cap) || decide (width < 16)) fun s => s.raise 0x260 1

/-- A function's host-interface state returns to reset (R385). -/
def State.funcReset (s : State) (pf1 : Bool) : State :=
  if pf1 then { s with host := { s.host with pf1 := ({} : HostIf).pf1 } }.masterReset .pf1
  else
    let s := ({ s with host := { pf1 := s.host.pf1 } } : State).dmaDrainEnds
    ((((s.dropFields 0x261 0 false).dropCounters 0x261).dropFields 0x262 0 false).dropCounters 0x262
      |>.masterReset .pf0).masterReset .dma

/-- A function-level reset (R385). -/
def State.flr (s : State) (pf1 : Bool) : State :=
  (s.funcReset pf1).raise 0x260 (if pf1 then 3 else 2)

/-- PERST_N with PERST_FULL = 0 (R41): the link and the host-interface state of both functions. -/
def State.perstHost (s : State) : State := ((s.funcReset false).funcReset true).linkChange 0 0

/-- Messages that were waiting are sent when their vector can send and its request is still 1 (R386). -/
def State.flushPba (s : State) (pf : Nat) : State :=
  let now := requestedVectors s pf
  let go := (s.pf pf).pba.filter fun v => now.contains v && (s.pf pf).unmasked.contains v
  if s.msgReady pf then
    let s := go.foldl (fun s v => s.sendMsix pf v) s
    s.setPf pf { s.pf pf with pba := (s.pf pf).pba.filter fun v => !go.contains v }
  else s

/-- Unmask a vector, or enable MSI-X for the function (R386). -/
def State.msixUnmask (s : State) (pf : Nat) (vec : Option Nat) : State :=
  let st := s.pf pf
  let st := match vec with
    | none => { st with msixEn := true }
    | some v => { st with unmasked := if st.unmasked.contains v then st.unmasked else v :: st.unmasked }
  (s.setPf pf st).flushPba pf

/-- Mask a vector again (R386). -/
def State.msixMask (s : State) (pf v : Nat) : State :=
  s.setPf pf { s.pf pf with unmasked := (s.pf pf).unmasked.filter (· != v) }

/-! ## BAR4 (R382) -/

/-- The function whose BAR4 a request of PCI Express reaches, and the offset in it: the model's requests of a function reach its BAR4
from 0xF000_0000. -/
def bar4Of (r : BusReq) : Option (Nat × Nat) :=
  if (r.master = .pf0 && decide (0xF0000000 ≤ r.addr) && decide (r.addr < 0xF0010000)) ||
      (r.master = .pf1 && decide (0xF0000000 ≤ r.addr) && decide (r.addr < 0xF0001000)) then
    some (b2n (r.master == .pf1), r.addr - 0xF0000000)
  else none

/-- Offset of the PBA in a function's BAR4. -/
def pbaBase (pf : Nat) : Nat := if pf = 0 then 0x8000 else 0x800

/-- A DWORD of BAR4 lies in the MSI-X table or the PBA. -/
def PfState.inBar4 (f : PfState) (pf off : Nat) : Bool :=
  decide (off < 16 * f.vectors) || (decide (pbaBase pf ≤ off) && decide (off < pbaBase pf + f.vectors / 8))

/-- A DWORD read from BAR4. -/
def PfState.readBar4 (f : PfState) (pf off : Nat) : Nat :=
  let j := off / 4
  if off < 16 * f.vectors then
    (if j % 4 = 3 then b2n (!f.unmasked.contains (j / 4)) else spGet 0 f.table j)
  else ((List.range 32).map fun b => b2n (f.pba.contains (8 * (off - pbaBase pf) + b)) * 2 ^ b).sum

/-- A DWORD written to BAR4: Vector Control masks or unmasks its vector; the PBA takes no write. -/
def State.writeBar4 (s : State) (pf off be data : Nat) : State :=
  let f := s.pf pf
  let j := off / 4
  if 16 * f.vectors ≤ off then s
  else if j % 4 = 3 then
    (if !bitOf be 0 then s else if bitOf data 0 then s.msixMask pf (j / 4) else s.msixUnmask pf (some (j / 4)))
  else
    let mask := beMask be &&& (if j % 4 = 0 then 0xFFFFFFFC else 0xFFFFFFFF)
    s.setPf pf { f with table := spPut 0 f.table j ((spGet 0 f.table j &&& (0xFFFFFFFF - mask)) + (data &&& mask)) }

/-- The beats of a write to BAR4. -/
def State.writeBar4s (s : State) (pf off : Nat) : List (Nat × Nat) → State
  | [] => s
  | b :: l => (s.writeBar4 pf off b.1 b.2).writeBar4s pf (off + 4) l

/-- A request to a function's BAR4: outside the table and the PBA it gets Unsupported Request (R382). -/
def State.bar4 (s : State) (r : BusReq) (pf off : Nat) : State :=
  let f := s.pf pf
  let n := match r.op with
    | .read l => l.length
    | .write l => l.length
  if !(List.range n).all fun i => f.inBar4 pf (off + 4 * i) then
    (s.cadd F.pcie_UR_SENT_C 1).emit (.busReply (masterId r.master) 1 [])
  else match r.op with
    | .write l => (s.writeBar4s pf off l).emit (.busReply (masterId r.master) 0 [])
    | .read l => s.emit (.busReply (masterId r.master) 0 (l.mapIdx fun i be => f.readBar4 pf (off + 4 * i) &&& beMask be))

/-- INT_REARM (R386). -/
def State.rearm (s : State) (m : Master) (data : Nat) : State :=
  let v := data % 2048
  let pf := bitsOf data 11 1
  if pf = 1 && 63 < v then s.log 0x260 9 m 0x48
  else if (requestedVectors s pf).contains v && (s.pf pf).unmasked.contains v && s.msgReady pf then s.sendMsix pf v
  else s

/-- Bus Master Enable or the power state of a function changes (R381, R392). -/
def State.busMaster (s : State) (pf1 : Bool) (bme d3 : Bool) : State :=
  let pf := b2n pf1
  let s := s.setPf pf { s.pf pf with bme := bme, d3hot := d3 }
  let s := s.flushPba pf
  if pf1 then s
  else (List.range 16).foldl (fun s k =>
    let st := s.fget (F.dma_CH_STATUS_STATE k)
    if !(bme && !d3) && st = 1 then s.fset (F.dma_CH_STATUS_STATE k) 3
    else if bme && !d3 && st = 3 then s.fset (F.dma_CH_STATUS_STATE k) 1
    else s) s

end Sys2Proof.Machine
end

