-- ==== Sys2Proof/Machine/BlkOps.lean ====
section
/-! DEFINITION. Enabling, disabling, draining, resetting and readiness of blocks (spec/02_modes.md R43 to R49;
spec/15_bus_counters.md R405).

Readings fixed here (notes/assumptions): 5 DESIGN CHOICE, 19 DEDUCED, 20 DEDUCED, 21 DEDUCED, 113 DESIGN CHOICE. -/

namespace Sys2Proof.Machine

/-! ## Memory stacks (R49, R237) -/

/-- A channel's current descriptor addresses the staging region of stack `i` (R388). -/
def State.dmaOnStack (s : State) (i k : Nat) : Bool :=
  match (s.chan k).job with
  | none => false
  | some j => s.flag (F.dma_CH_CFG_EN k) && j.d.devAddr / 2 ^ 62 == 1 && bitsOf j.d.devAddr 35 2 == i &&
      stackRegion (j.d.devAddr % 2 ^ 35) == 3

/-- Stack `i` is in use (R49). -/
def State.stackInUse (s : State) (i : Nat) : Bool :=
  (bitOf (s.fget F.prot_SKEW_CFG_STACKS) i && (!s.prot.aligners.isEmpty || s.prot.bondBlocks.isSome)) ||
  (s.ctx.any fun e => e.1 % 16 == 0 && e.2 % 16 != 0 && e.1 / 16 / 65536 == i) ||
  (decide (i < 2) && s.capBusy i) ||
  (List.range 16).any (s.dmaOnStack i) ||
  (s.flag F.samp_SAMP_CFG_EN && s.fget F.samp_SAMP_CFG_STACK == i) ||
  ((s.dev.mode == .twinStandby || s.dev.mode == .twinStale) && s.linkUp)

/-- A stack stops: not READY, its status cleared. A block reset leaves its contents, a power-down does not (R43, R405). -/
def State.stackDown (s : State) (i : Nat) : State :=
  (s.stackLost i).fsets [(F.mem_MEM_STATUS_TRAINED i, 0), (F.mem_MEM_STATUS_ECC_INIT i, 0)]

/-- BLK_CTRL.EN of a stack is written (R49, R237). -/
def State.stackEnable (s : State) (m : Master) (i : Nat) (en : Bool) : State :=
  let p := 0x2B0 + i
  if en then s.fset (enFl p) 1
  else if !s.enabled p then s
  else if s.stackInUse i then s.log p 4 m 0xC
  else ((s.fset (enFl p) 0).stackDown i).memClear i 0 (2 ^ 35)

/-! ## BLK_CTRL.EN (R47, R49) -/

/-- BLK_CTRL.EN of the block with first page `p` is written, through region `al`. -/
def State.blkEnable (s : State) (m : Master) (p : Nat) (en : Bool) (al : Nat := 0) : State :=
  if p = 0x10 ∨ p = 0x20 then
    (if en then s.carEnable (p / 0x10 - 1) (masterId m) al else s.carDisable (p / 0x10 - 1))
  else if 0x100 ≤ p ∧ p < 0x200 then (if en then s.laneEnable m (p - 0x100) al else s.laneDisable (p - 0x100))
  else if 0x200 ≤ p ∧ p < 0x220 then s.octEnable m (p - 0x200) en
  else if 0x2B0 ≤ p ∧ p < 0x2B4 then s.stackEnable m (p - 0x2B0) en
  else s

/-! ## The reset shield and block reset (R43, R405) -/

/-- A request at the target of a block: T0 by its page, a stack by its target number. -/
def reqAtBlock (p : Nat) (r : BusReq) : Bool :=
  match targetOf r.addr with
  | some (0, a) => basePage (a / 0x10000) == p
  | some (t, _) => decide (0x2B0 ≤ p) && decide (p < 0x2B4) && t == 4 + (p - 0x2B0)
  | none => false

/-- The shield of a block goes up (R405): requests and bursts at it end with ERR_RESET; a memory burst keeps the beats
already written. -/
def State.shieldUp (s : State) (p : Nat) : State :=
  let cut := (s.bus.waiting.map fun w => { req := w.req, target := w.target, beats := 0 : InProgress }) ++ s.bus.inProg
  let gone := cut.filter fun b => reqAtBlock p b.req
  let s := { s with bus := { s.bus with
    shield := p :: s.bus.shield.filter fun q => q != p
    waiting := s.bus.waiting.filter fun w => !reqAtBlock p w.req
    inProg := s.bus.inProg.filter fun b => !reqAtBlock p b.req } }
  gone.foldl (fun (s : State) b =>
    let r := b.req
    let txn := txnOf r b.target (if b.target = 0 then 0 else b.beats) 3 b.prov
    let s := ((s.mxError 0xB (masterId r.master) r.addr).sampleTxn txn).busEvents r txn [(4, 1), (5, 1)]
    s.emit (.busReply (masterId r.master) 3 (errData r 3))) s

/-- The pages of a block that has an enable. -/
def blockPages (p : Nat) : List Nat := if p = 0x10 ∨ p = 0x20 then (List.range 10).map (p + ·) else [p]

/-- What a carrier's own logic loses in a block reset. -/
def State.carReset (s : State) (c : Nat) : State :=
  let s := { s.setCar c {} with core := { s.core with closing := spErase (s.carPort c) s.core.closing } }
  (((s.rxStop c).frmIdle (256 + c)).voidPort (s.carPort c)).defects

/-- What a lane's own logic loses in a block reset. -/
def State.laneReset (s : State) (n : Nat) : State :=
  let s := { s.setLane n {} with core := { s.core with closing := spErase n s.core.closing } }
  (((s.frmIdle n).bondFollow n).voidPort n).defects

/-- A block is reset (R43): what R43 keeps is kept, and the shield goes up. -/
def State.resetBlock (s : State) (p : Nat) : State :=
  let eng := (s.fget (F.car_PWR_CTRL_ENGINE_ON (p / 0x10 - 1)), s.fget (F.car_PWR_CTRL_ENGINE_PWR (p / 0x10 - 1)))
  let s := (blockPages p).foldl (fun (s : State) q => (s.dropFields q 0x40 true).dropCounters q) s
  let s := s.setReady p false
  let s := s.fsets [(F.hdr_BLK_STATUS_FAULT p, 0), (F.hdr_BLK_STATUS_DRAINING p, 0), (F.hdr_BLK_STATUS_MAINT p, 0)]
  let s := s.onlyIf (enReset p == 0) fun s => s.fset (enFl p) 0
  let s := s.shieldUp p
  if p = 0x10 ∨ p = 0x20 then
    let c := p / 0x10 - 1
    (s.fsets [(F.car_PWR_CTRL_ENGINE_ON c, eng.1), (F.car_PWR_CTRL_ENGINE_PWR c, eng.2)]).carReset c
  else if p < 0x200 then s.laneReset (p - 0x100)
  else if p < 0x220 then s.defects
  else s.stackDown (p - 0x2B0)

/-- BLK_CTRL.BLK_RST is written (R43). -/
def State.blkReset (s : State) (m : Master) (p : Nat) : State :=
  if s.dev.mode = .maintenance ∨ (s.enabled p = false ∧ s.draining p = false) then s.resetBlock p
  else s.log p 3 m 0xC

/-- BLK_CTRL is written (R56, R43, R47, R49): only in the page of a block that has an enable. -/
def State.blkCtrl (s : State) (m : Master) (p region be data : Nat) : State :=
  if !hasEnable p || !bitOf be 0 then s
  else
    let en := mergeField region (s.fget (enFl p)) (data % 2) 1 % 2 == 1
    let s := s.blkEnable m p en region
    if region = 0 ∧ bitOf data 1 then s.blkReset m p else s

/-! ## Readiness and draining (R45 to R47) -/

/-- A function completes its readiness work (R45, R46): READY becomes 1 where the function is enabled. -/
def State.readyWork (s : State) (p : Nat) : State :=
  if p = 0x10 ∨ p = 0x20 then s.carReady (p / 0x10 - 1)
  else if 0x100 ≤ p ∧ p < 0x200 then s.laneReady (p - 0x100)
  else if 0x200 ≤ p ∧ p < 0x220 then s.octShow (p - 0x200)
  else if 0x2B0 ≤ p ∧ p < 0x2B4 then
    (if s.enabled p then
      ((s.fsets [(F.mem_MEM_STATUS_TRAINED (p - 0x2B0), 1), (F.mem_MEM_STATUS_ECC_INIT (p - 0x2B0), 1)]).setReady p true).defects
    else s)
  else if p = 0x60 then s.setReady p true
  else s

/-- A function completes its readiness work, and the shield of its block is lowered as READY returns to 1 (R405: `setReady`). DESIGN
CHOICE (log 113): a block that its reset left disabled is READY again only once it is enabled afresh, which takes a write to it:
its shield is lowered as its logic is ready to be enabled (R43). -/
def State.readyReached (s : State) (p : Nat) : State :=
  (s.readyWork p).onlyIf (hasEnable p && !s.enabled p) fun s =>
    { s with bus := { s.bus with shield := s.bus.shield.filter fun q => q != p } }

/-- The function with first page `p` is still working towards READY (R45, R46). -/
def State.readyAwaited (s : State) (p : Nat) : Bool :=
  !s.ready p && (p == 0x60 || (p == 0x250 && s.twin.discovering) || ((p < 0x200 || 0x220 ≤ p) && hasEnable p && s.enabled p))

/-- A function misses its bound (R45): FAULT, its interrupt, and a READY_FAULT record. -/
def State.readyMissed (s : State) (p : Nat) : State :=
  if !s.readyAwaited p then s
  else
    let s := s.setFault p
    s.jrnl 6 hwMaster p (leBytes 4 p ++ leBytes 4 (s.storedReg .warden p 8))

end Sys2Proof.Machine
end

