-- ==== Sys2Proof/Machine/CfwOps.lean ====
section
/-! DEFINITION. Control firmware as the device shows it: the commands of page 0x001, its publications and its slow-path
work (spec/02_modes.md, R51, R52; spec/08_protection_skew.md, R213).

Readings fixed here (notes/assumptions): 42 PRESUMED, 43 DESIGN CHOICE, 51 DEDUCED, 52 PRESUMED, 108 DESIGN CHOICE,
113 DESIGN CHOICE. -/

namespace Sys2Proof.Machine

/-- The point's record of control firmware. -/
def State.cfwPoint (s : State) (x : Nat) : CfwPoint := spGet {} s.cfw.points x

/-- Replace it. -/
def State.setCfwPoint (s : State) (x : Nat) (v : CfwPoint) : State :=
  { s with cfw := { s.cfw with points := spPut {} s.cfw.points x v } }

/-- The mapper's record of control firmware. -/
def State.cfwMsi (s : State) (x : Nat) : CfwMsi := spGet {} s.cfw.msi x

/-- Replace it. -/
def State.setCfwMsi (s : State) (x : Nat) (v : CfwMsi) : State :=
  { s with cfw := { s.cfw with msi := spPut {} s.cfw.msi x v } }

/-- The group's record of control firmware. -/
def State.cfwGroup (s : State) (g : Nat) : CfwGroup := spGet {} s.cfw.groups g

/-- Replace it. -/
def State.setCfwGroup (s : State) (g : Nat) (v : CfwGroup) : State :=
  { s with cfw := { s.cfw with groups := spPut {} s.cfw.groups g v } }

/-- CFW_CMD is written (R51, R73): accepted while control firmware runs and no command is in progress. -/
def State.cfwCmd (s : State) (m : Master) (op : Nat) : State :=
  if !s.dev.fwRunning || s.cfw.cmd.isSome then s.log 1 8 m 0x48
  else
    let data := (List.range 32).map fun d => s.fget (F.cfw_DATA_DATA d)
    { s with cfw := { s.cfw with cmd := some { op := op, index := s.fget F.cfw_ARG_INDEX, data := data } } }

/-- CFW_ARG and the input in CFW_DATA are written, and then CFW_CMD (R51). -/
def State.cfwCall (s : State) (m : Master) (op index : Nat) (data : List Nat) : State :=
  if !s.dev.fwRunning then s.log 1 8 m 0x48
  else
    let s := s.fset F.cfw_ARG_INDEX index
    ((List.range data.length).foldl (fun (s : State) d => s.fset (F.cfw_DATA_DATA d) (data.getD d 0)) s).cfwCmd m op

/-- DWORDs of a list of bytes, first byte in [7:0]. -/
def dwords : Nat → List Nat → List Nat
  | 0, _ => []
  | n + 1, l => leNat (l.take 4) :: dwords n (l.drop 4)

/-- The last stable received trail trace of a point (R159). -/
def State.stableTrace (s : State) (x : Nat) : List Nat :=
  if s.coldOk x then s.memRead (coldStore x).1 ((coldStore x).2 + 4096) 64 else List.replicate 64 0

/-- What a command does and answers: RESULT and output DWORDs (R52). -/
def State.cfwRun (s : State) (c : CfwCmd) : State × Nat × List Nat :=
  let x := c.index
  let ty := s.ctxType x
  let small := decide (x < 261120)
  match c.op with
  | 1 =>
    if !small || ty != 1 then (s, 2, [])
    else
      let w := c.data.getD 16 0
      let v := { s.cfwPoint x with
        trace := ((c.data.take 16).map (leBytes 4)).flatten, compare := w % 4, bdiOnTim := bitOf w 2 }
      (s.setCfwPoint x v, 0, [])
  | 2 =>
    if !small || ty != 1 then (s, 2, [])
    else
      let v := s.cfwPoint x
      (s.onlyIf (s.coldOk x) fun s => s.memCounted (coldStore x).1 64, 0,
        (b2n v.tim + 2 * b2n v.forced + 4 * b2n v.sd) :: dwords 16 (s.stableTrace x))
  | 3 =>
    if !small || ty != 3 then (s, 2, [])
    else
      let v := s.cfwMsi x
      (s, 0, [b2n v.msim + 2 * b2n v.compared + 4 * (v.slice % 128) + 512 * (v.slot % 32), v.found % 2 ^ 32])
  | 4 =>
    if !small || ty != 2 then (s, 2, [])
    else
      let w := c.data.getD 0 0
      let old := s.cfwGroup x
      let fresh := !old.en && bitOf w 12
      let v := { old with
        histW := if fresh then [] else old.histW, histP := if fresh then [] else old.histP
        x := max 3 (min 9 (w % 16)), window := max 1 (min 10 (bitsOf w 8 4)), en := bitOf w 12,
        clearW := 0, clearP := 0 }
      (s.setCfwGroup x v, 0, [])
  | 5 =>
    if !small || ty != 2 then (s, 2, [])
    else
      let v := s.cfwGroup x
      (s, 0, [b2n v.sdW + 2 * b2n v.sdP + 4 * b2n v.protFail + 8 * b2n (s.extReq x == 5)])
  | 6 =>
    if !small || ty != 1 || s.ctxBits x 0 10 1 != 1 then (s, 2, [])
    else (s, 0, (padTo 24 (spGet [] s.cfw.bins x)).map (· % 2 ^ 32))
  | _ => (s, 1, [])

/-- Control firmware ends the command in progress (R51). -/
def State.cfwDone (s : State) : State :=
  match s.cfw.cmd with
  | none => s
  | some c =>
    let r := s.cfwRun c
    let s := { r.1 with cfw := { r.1.cfw with cmd := none } }
    let s := (List.range r.2.2.length).foldl (fun (s : State) d => s.fset (F.cfw_DATA_DATA d) (r.2.2.getD d 0)) s
    (s.fsets [(F.cfw_RESULT_RESULT, r.2.1), (F.cfw_RESULT_OUT_DW, r.2.2.length)]).raise 1 0

/-! ## The slow path (R52, R213) -/

/-- The parts of a trace that COMPARE selects: SAPI is bytes 0 to 15, DAPI bytes 16 to 31. -/
def traceParts (compare : Nat) (l : List Nat) : List Nat :=
  match compare with
  | 1 => l.take 16
  | 2 => (l.drop 16).take 16
  | 3 => l.take 32
  | _ => []

/-- Control firmware sets or clears FORCE_BDI of a point, as a context write of its own (R52, R156). -/
def State.forceBdi (s : State) (x : Nat) (b : Bool) : State :=
  let s := (s.setCtxBits x 0 16 1 (b2n b)).settlePoint x
  s.twinNote (.ctxConfig x ((List.range 6).map fun d => s.ctxDw x d))

/-- A point's received trace is compared with the expected one (R52); a context that is a point no longer is in no mismatch. -/
def State.compareTrace (s : State) (x : Nat) : State :=
  let v := s.cfwPoint x
  if s.ctxType x != 1 then s.setCfwPoint x { v with tim := false, forced := false, sd := false }
  else
    let tim := v.compare != 0 && s.ctxBits x 6 10 1 == 1 && s.coldOk x &&
      traceParts v.compare (padTo 64 v.trace) != traceParts v.compare (s.stableTrace x)
    let want := tim && v.bdiOnTim
    let s := (s.onlyIf (s.coldOk x) fun s => s.memCounted (coldStore x).1 64).setCfwPoint x { v with tim := tim, forced := want }
    if want = v.forced then s else s.forceBdi x want


/-- A parent's captured MSI is compared with the implied one (R52). -/
def State.compareMsi (s : State) (g : Nat) : State :=
  match s.mapCtxOf g with
  | none => s
  | some x =>
    if !s.coldOk x then s
    else
      let want := s.impliedMsi false g
      let got := s.memRead (coldStore x).1 ((coldStore x).2 + 4096) want.length
      let v := s.cfwMsi x
      let s := s.memCounted (coldStore x).1 want.length
      if got.all (· == 0) then s
      else match (List.range want.length).find? fun i => want.getD i 0 != got.getD i 0 with
        | none => s.setCfwMsi x { v with msim := false, compared := true, slice := 0, slot := 0 }
        | some i => s.setCfwMsi x
          { msim := true, compared := true, slice := i / 20 + 1, slot := i % 20 + 1, found := v.found + b2n (!v.msim) }

/-- The parents of the ingress side: ODUCn of ports, and demultiplexed groups. -/
def State.parents (s : State) : List Nat :=
  ((s.ports.filter s.portOduc).map (0xF000 + ·)) ++
    (s.odu.activeI.grp.filter fun e => e.2.demux).map Prod.fst

/-- Errored blocks and blocks of the last seconds. -/
def ratioOf (n : Nat) (h : List (Nat × Nat)) : Nat × Nat :=
  (h.take n).foldl (fun a e => (a.1 + e.1, a.2 + e.2)) (0, 0)

/-- A group's degrade assessment takes the second just closed (R52): the records of both copies' SF points, nothing where SF_CTX names no
enabled point, and the
seconds for which each ratio has stayed below the clearing threshold. -/
def State.degradeSecond (s : State) (g : Nat) : State :=
  let v := s.cfwGroup g
  if !v.en || s.ctxType g != 2 then s
  else
    let rec_ := fun p =>
      let x := s.sfCtx g p
      if x < 261120 && s.ctxType x == 1 && s.ctxEn x then (s.ctxDw x 11, s.ctxDw x 10) else (0, 0)
    let hw := (rec_ false :: v.histW).take 10
    let hp := (rec_ true :: v.histP).take 10
    let below := fun h => decide ((ratioOf v.window h).1 * 10 ^ (v.x + 1) < (ratioOf v.window h).2)
    s.setCfwGroup g { v with
      histW := hw, histP := hp, clearW := if below hw then v.clearW + 1 else 0
      clearP := if below hp then v.clearP + 1 else 0 }

/-- Signal degrade of a copy: raised above 10^-X, cleared after a whole window below 10^-(X + 1) (R52). -/
def degraded (was : Bool) (x window clear : Nat) (h : List (Nat × Nat)) : Bool :=
  let r := ratioOf window h
  if decide (r.2 < r.1 * 10 ^ x) then true else was && decide (clear < window)

/-- A protection protocol failure (R213): the transmitted and received APS bytes disagree on A, B or D, or, in a bidirectional group,
on the requested signal, which the far end of a 1+1 group answers with its own. -/
def State.protocolFails (s : State) (g : Nat) : Bool :=
  s.ctxBits g 5 0 18 != 0x3FFFF && s.ctxDw g 8 != 0 &&
    (bitsOf (s.ctxDw g 7) 25 3 != bitsOf (s.ctxDw g 8) 25 3 ||
      (s.ctxBits g 0 5 1 == 1 && bitsOf (s.ctxDw g 7) 16 8 != bitsOf (s.ctxDw g 8) 16 8))

/-- Control firmware writes EXT_REQ of a group, as a context write of its own; the engine takes it at its next update. -/
def State.setExtReq (s : State) (g v : Nat) : State :=
  if s.extReq g = v then s
  else
    let s := s.setCtxBits g 5 18 4 v
    s.twinNote (.ctxConfig g ((List.range 6).map fun d => s.ctxDw g d))

/-- A group's degrade and protocol state is published (R52, R213). -/
def State.assessGroup (s : State) (g : Nat) : State :=
  let v := s.cfwGroup g
  let w := v.en && degraded v.sdW v.x v.window v.clearW v.histW
  let p := v.en && degraded v.sdP v.x v.window v.clearP v.histP
  let s := s.setCfwGroup g { v with sdW := w, sdP := p, protFail := s.protocolFails g }
  let sd := fun (s : State) (p b : Bool) =>
    if s.ctxType (s.sfCtx g p) = 1 then s.setCfwPoint (s.sfCtx g p) { s.cfwPoint (s.sfCtx g p) with sd := b } else s
  let s := s.onlyIf (v.en || v.sdW || v.sdP) fun s => sd (sd s false w) true p
  let now := s.extReq g
  if now = 0 || now = 6 || now = 7 then
    (if w then s.setExtReq g 6 else if p then s.setExtReq g 7
     else if v.sdW || v.sdP then s.setExtReq g 0 else s)
  else s

/-- Control firmware publishes (R51): the slow path's findings, CFW_IF, CFW_SUMMARY and CFW_SEQ. -/
def State.cfwPublish (s : State) (ifVer : Nat) : State :=
  if !s.dev.fwRunning then s
  else
    let s := (s.cfw.points.map Prod.fst).foldl State.compareTrace s
    let s := s.parents.foldl State.compareMsi s
    let s := s.pgs.foldl State.assessGroup s
    let tims := (s.cfw.points.filter fun e => e.2.tim).length
    let alerts := (s.cfw.groups.filter fun e => s.pgs.contains e.1 && (e.2.sdW || e.2.sdP || e.2.protFail)).length
    let changed := s.fget F.cfw_SUMMARY_TIM_POINTS != min tims 0xFFFF || s.fget F.cfw_SUMMARY_PG_ALERTS != min alerts 0xFFFF
    let s := s.fsets [(F.cfw_IF_VER, ifVer), (F.cfw_IF_BUILD, s.sec.run.build),
      (F.cfw_SUMMARY_TIM_POINTS, min tims 0xFFFF), (F.cfw_SUMMARY_PG_ALERTS, min alerts 0xFFFF),
      (F.cfw_SEQ_SEQ, s.fget F.cfw_SEQ_SEQ + 1)]
    s.onlyIf changed fun s => s.raise 1 1

/-! ## Bins (R52) -/

/-- The bins of a point after a second that counted `d`, at a tick of number `seq`. -/
def binSecond (seq : Nat) (d : List Nat) (b : List Nat) : List Nat :=
  let b := padTo 24 b
  let add := fun (l : List Nat) => (List.range 6).map fun i => l.getD i 0 + d.getD i 0
  let q := add (b.take 6)
  let y := add ((b.drop 12).take 6)
  let zero := List.replicate 6 0
  (if seq % 900 = 0 then zero ++ q else q ++ (b.drop 6).take 6) ++
  (if seq % 86400 = 0 then zero ++ y else y ++ (b.drop 18).take 6)

/-- The computed points' counts before the tick `s` and after it `s'` go into the bins. -/
def binsTake (s s' : State) : State :=
  let seq := s'.fget F.odu_TICK_SEQ_SEQ
  s'.compPoints.foldl (fun (t : State) x =>
    let k := s'.ctxBits x 3 0 13
    let d := (List.range 6).map fun i =>
      ((spGet {} s'.odu.pm k).counts.getD i 0 + 2 ^ 32 - (spGet {} s.odu.pm k).counts.getD i 0) % 2 ^ 32
    { t with cfw := { t.cfw with bins := spPut [] t.cfw.bins x (binSecond seq d (spGet [] t.cfw.bins x)) } }) s'

/-- The tick boundary as control firmware sees it: it takes the records of the second, and bins them, while it runs. -/
def State.tickWith (s : State) (tick : State → State) : State :=
  if s.dev.fwRunning then
    let s := s.pgs.foldl State.degradeSecond s
    binsTake s (tick s)
  else tick s

end Sys2Proof.Machine
end

