-- ==== Sys2Proof/Machine/PerfOps.lean ====
section
/-! DEFINITION. The sampler and the user counter view (spec/15_bus_counters.md, R413 to R415).

Readings fixed here (notes/assumptions): 86 DESIGN CHOICE. -/

namespace Sys2Proof.Machine

/-! ## The sampler (R413, R414) -/

/-- Size of the sample ring (R413). -/
def State.sampSize (s : State) : Nat := 2 ^ max 10 (min 20 (s.fget F.samp_SAMP_CFG_LOG2_SIZE))

/-- Offset of the sample ring in its stack. -/
def State.sampBase (s : State) : Nat := 0x7E0000000 + 32 * s.fget F.samp_SAMP_BASE_BASE

/-- Core events whose PC is that of the instruction itself (R409). -/
def preciseEvent (ev : Nat) : Bool := [1, 2, 3, 4, 5, 6, 7, 9].contains ev

/-- Core events that carry a load or store address: loads, stores and data misses (R414). -/
def addressEvent (ev : Nat) : Bool := [2, 3, 5, 6].contains ev

/-- The DWORDs of a record (R414). What the sampler measures is `w`: for a core record the core and mode of byte 1, the
CORE_CLK cycle, PC low and high, address low and high; for a bus record the cycle and the cycles from request to
response. -/
def sampleRecord (d : SampleDue) (w : List Nat) : List Nat :=
  if d.cls = 1 then
    [d.k + 32 + 256 * (w.getD 0 0 % 64) + 65536 * (d.event + 256 + 4096 * b2n (preciseEvent d.event)), d.sf,
      d.frame + 32 * min 1151 (w.getD 1 0 % 2048), 0, w.getD 2 0, w.getD 3 0] ++
    (if addressEvent d.event then [w.getD 4 0, w.getD 5 0] else [0, 0])
  else match d.txn with
    | some t =>
      [d.k + 64 + 256 * (t.master + 16 * t.target) +
        65536 * (d.event + 256 * d.cls + 4096 * b2n t.write + 8192 * b2n t.prov), d.sf,
        d.frame + 32 * min 1151 (w.getD 0 0 % 2048), w.getD 1 0, t.addr % 2 ^ 32, t.addr / 2 ^ 32,
        t.beats + 256 * t.resp + 2048 * t.mode, 0]
    | none => [d.k + 64 + 65536 * (d.event + 256 * d.cls), d.sf, d.frame + 32 * min 1151 (w.getD 0 0 % 2048), 0, 0, 0, 0, 0]

/-- The sampler drops a record (R413). -/
def State.sampDrop (s : State) : State := (s.cadd F.samp_SAMP_DROP_C 1).raise 0x273 1

/-- The sampler writes the oldest record of counter `k`, or drops it (R413). -/
def State.sampleWrite (s : State) (k : Nat) (w : List Nat) : State :=
  match s.bus.sampleDue.find? fun d => d.k == k with
  | none => s
  | some d =>
    let s := { s with bus := { s.bus with sampleDue := s.bus.sampleDue.erase d } }
    let size := s.sampSize
    let prod := s.fget F.samp_SAMP_PROD_PROD
    let used := (prod + 2 ^ 32 - s.fget F.samp_SAMP_CONS_CONS) % 2 ^ 32
    let stack := s.fget F.samp_SAMP_CFG_STACK
    if !s.flag F.samp_SAMP_CFG_EN || decide (size ≤ used) || !s.ready (0x2B0 + stack) ||
        decide (0x7F0000000 < s.sampBase + 32 * size) then s.sampDrop
    else
      let bytes := ((sampleRecord d w).map (leBytes 4)).flatten
      let s := s.memWrite stack (s.sampBase + 32 * (prod % size)) bytes
      let s := (s.fset F.samp_SAMP_PROD_PROD (prod + 1)).cadd F.samp_SAMP_RECORDS_C 1
      s.onlyIf (used + 1 == size / 2) fun s => s.raise 0x273 0

/-! ## The user counter view (R415) -/

/-- A DWORD of the user counter view. -/
def State.userView (s : State) (off : Nat) : Nat :=
  let user := fun k => s.flag (F.perf_EVT_CFG_USER k)
  if off = 0x24 then s.fget (F.hdr_SNAP_SEQ_SEQ 0x272)
  else if off = 0x40 then ((List.range 32).map fun k => b2n (user k) * 2 ^ k).foldl (· + ·) 0
  else if 0x100 ≤ off && off < 0x180 && off % 4 == 0 then
    (if user ((off - 0x100) / 4) then s.cget (F.perf_CNT_C ((off - 0x100) / 4)) else 0)
  else if 0x2100 ≤ off && off < 0x2180 && off % 4 == 0 then
    (if user ((off - 0x2100) / 4) then spGet 0 s.hold (F.perf_CNT_C ((off - 0x2100) / 4)).key else 0)
  else 0

end Sys2Proof.Machine
end

