-- ==== Sys2Proof/Machine/RegAccess.lean ====
section
/-! DEFINITION. Register reads and writes in full: the common header, counters, status views, and the registers
whose write is a command of its own (spec/03_registers.md).

Readings fixed here (notes/assumptions): 19 DEDUCED, 23 DESIGN CHOICE, 24 DEDUCED, 25 DEDUCED, 32 DEDUCED, 106
DEDUCED, 113 DESIGN CHOICE. -/

namespace Sys2Proof.Machine

/-! ## Status that follows from other state (R28, R45, R46, R56, R73) -/

/-- DEVICE.READY (R50): LANES is 0 while no lane is enabled, as its reset value says. -/
def State.readySummary (s : State) : Nat :=
  let b := fun (k p : Nat) => b2n (s.ready p) * 2 ^ k
  let lanes := (List.range 256).filter fun n => s.enabled (0x100 + n)
  b 0 0x80 + b 1 0x40 + b 2 0x60 + b 3 0x90 + b 4 0x240 + b 5 0x250 + b 6 0x10 + b 7 0x20 +
  b 8 0x2B0 + b 9 0x2B1 + b 10 0x2B2 + b 11 0x2B3 +
  b2n (!lanes.isEmpty && lanes.all fun n => s.ready (0x100 + n)) * 2 ^ 12

/-- BLK_STATUS.READY of a page: the label pages of the carriers copy page B; the always-on block reads 1. -/
def State.readyBit (s : State) (p : Nat) : Bool :=
  if p = 0x1C then s.ready 0x10
  else if p = 0x2C then s.ready 0x20
  else if basePage p = 0x2A0 then true
  else s.ready (basePage p)

/-- BLK_STATUS.BUSY of a page: a command of its block is in progress, or control firmware does not run (R56, R73). -/
def State.busyBit (s : State) (p : Nat) : Bool :=
  let b := basePage p
  if p = 1 then !s.dev.fwRunning || s.cfw.cmd.isSome
  else if b = 0x10 ∨ b = 0x20 then
    (s.car (b / 0x10 - 1)).fe.isSome || (s.car (b / 0x10 - 1)).cal.isSome || s.capBusy (b / 0x10 - 1)
  else if b = 0x40 then !s.flag F.odu_TRIB_STATUS_DONE
  else if b = 0x60 then !s.flag F.ctx_CTX_STATUS_DONE
  else if b = 0x80 then s.cmState == 1 || s.cmState == 2
  else if b = 0x90 then !s.flag F.prot_ADMIT_STATUS_DONE
  else if 0x100 ≤ b ∧ b < 0x200 then !s.flag (F.lane_EYE_STATUS_DONE (b - 0x100))
  else if b = 0x250 then s.switching
  else if b = 0x280 then !s.flag F.sec_MBOX_STATUS_DONE
  else if b = 0x2A0 then s.svc.test.isSome || s.svc.jq.any fun r => r.typ == 17
  else if 0x2B0 ≤ b ∧ b < 0x2B4 then s.fget (F.mem_MTEST_STATUS_STATE (b - 0x2B0)) == 1
  else false

/-- BLK_STATUS.PROV of a page (R28, R129, R157, R232, R279). -/
def State.provBit (s : State) (p : Nat) : Bool :=
  let b := basePage p
  if p = 0x10 ∨ p = 0x18 then s.flag (F.frm_FRM_STATUS_PROV 0)
  else if p = 0x20 ∨ p = 0x28 then s.flag (F.frm_FRM_STATUS_PROV 1)
  else if b = 0x40 then (List.range 258).any fun p => s.portOduc p && s.portProv p
  else if b = 0x60 then s.ctx.any fun e => e.1 % 16 == 6 && bitOf e.2 6 && s.ctxType (e.1 / 16) == 1
  else if b = 0x90 then s.protProv
  else if 0x100 ≤ b ∧ b < 0x200 then s.flag (F.lane_FRM_STATUS_PROV (b - 0x100))
  else false

/-- BLK_STATUS as it reads (R56). -/
def State.blkStatus (s : State) (p : Nat) : Nat :=
  let b := basePage p
  b2n (s.readyBit p) + 2 * b2n (s.busyBit p) + 4 * s.fget (F.hdr_BLK_STATUS_FAULT b) +
  8 * s.fget (F.hdr_BLK_STATUS_DRAINING b) + 16 * s.fget (F.hdr_BLK_STATUS_MAINT b) + 32 * b2n (s.provBit p)

/-- CAP_ID (R56, R57). -/
def capId (p : Nat) : Nat := (pageIdent p).2.1 + 2 ^ 16 + pageNext p * 2 ^ 20

/-- BLK_INFO (R56, R59). -/
def State.blkInfo (s : State) (p : Nat) : Nat :=
  (pageIdent p).2.2 + (p - (pageIdent p).1) * 2 ^ 12 + b2n (s.domainOff p) * 2 ^ 23 + 0xB0 * 2 ^ 24

/-- PORT_STATUS of the debug port (R468). -/
def State.portStatus (s : State) : Nat :=
  b2n (s.dbg.rights != 0) + 2 * s.dbg.rights + 32 * s.fget F.dbg_DBG_CTRL_DBG_OFF +
  256 * ((List.range 8).map fun k => b2n (spGet {} s.dbg.cores k).halted * 2 ^ k).foldl (· + ·) 0 +
  2 ^ 16 * s.fuses.lifecycle.code

/-- The label receiver whose registers a page holds at an offset: receiver and offset from its base (R376). -/
def lblRxAt (p off : Nat) : Option (Nat × Nat) :=
  if p = 0x1C ∧ 0x400 ≤ off then some (0, off - 0x400)
  else if p = 0x2C ∧ 0x400 ≤ off then some (1, off - 0x400)
  else if p = 0x2C0 ∧ 0x800 ≤ off then some (3, off - 0x800)
  else if p = 0x2C0 ∧ 0x400 ≤ off then some (2, off - 0x400)
  else none

/-- Bits that a register shows beside its stored fields, or none where all it shows is stored. -/
def State.shown (s : State) (p off : Nat) : Option Nat :=
  let b := basePage p
  if p = 0 then (match off with
    | 0x40 => some (modeWord s)
    | 0x5C => some s.readySummary
    | _ => none)
  else if p = b + 0 ∧ (b = 0x10 ∨ b = 0x20) ∧ off = 0x50 then
    some (s.storedReg .pf0 p off + b2n (s.laser (b / 0x10 - 1)) * 2 ^ 16 + b2n (s.dark (b / 0x10 - 1)) * 2 ^ 17)
  else if (p = 0x19 ∨ p = 0x29) ∧ (off = 0x40 ∨ off = 0x44) then
    some (s.storedReg .pf0 p off % 2 ^ s.otucSlices (p / 16 + 255))
  else if (p = 0x14 ∨ p = 0x24) ∧ off = 0x40 then some (b2n (s.txRuns (b / 0x10 - 1)))
  else if p = 0x40 ∧ off = 0x64 then
    some (s.storedReg .pf0 p off + ((List.range 4).map fun i => b2n (s.ready (0x2B0 + i)) * 2 ^ (2 + i)).foldl (· + ·) 0)
  else if p = 0x40 ∧ off = 0x6C then some (s.monLoadField % 4096)
  else if p = 0x41 ∧ 0x40 ≤ off ∧ off < 0x448 then some (s.portDefWord ((off - 0x40) / 4))
  else if p = 0x60 ∧ off = 0x48 then some s.ctxUsed
  else if p = 0x60 ∧ off = 0x4C then
    some (s.ctx.filter fun e => e.1 % 16 == 0 && e.2 % 16 == 1 && s.ctxEn (e.1 / 16) && bitOf e.2 10).length
  else if p = 0x90 ∧ off = 0x5C then some s.loadSu
  else if p = 0x90 ∧ 0x60 ≤ off ∧ off < 0x70 then
    some (if bitOf (s.fget F.prot_SKEW_CFG_STACKS) ((off - 0x60) / 4) then s.blocksUsed else 0)
  else if p = 0x90 ∧ off = 0x70 then some s.indexUsed
  else if p = 0x250 ∧ off = 0x4C then
    some (s.storedReg .pf0 p off + 16 * s.railDrive + 64 * s.railDrive + 256 * b2n s.selO)
  else if p = 0x281 then (match off with
    | 0x40 => some (Config.serial % 2 ^ 32)
    | 0x44 => some (Config.serial / 2 ^ 32 % 2 ^ 32)
    | 0x48 => some (Config.certificate.length % 2048)
    | _ => if 0x400 ≤ off ∧ off < 0x800 then some (leNat (slice Config.certificate (off - 0x400) 4)) else none)
  else if p = 0x2A0 ∧ off = 0x54 then some (s.storedReg .pf0 p off + 16 * b2n s.attn)
  else if p = 0x2A2 ∧ off = 0x40 then some s.portStatus
  else match lblRxAt p off with
    | none => none
    | some (x, o) =>
      if o = 4 then some (s.rxStatusWord x)
      else if o = 0xC then some ((s.lrx x).queue.length % 32)
      else if 0x40 ≤ o ∧ o < 0xA0 then some (s.rxqHead x ((o - 0x40) / 4))
      else none

/-! ## Reads -/

/-- A register of a page that answers, as a master reads it: the offset is that of a DWORD (R53 to R66, R76, R430). Where R76 gives PF1
and the console what PF0 would read and R430 gives every master but the mailbox's owner zero, the model follows R430 (log 113). -/
def State.regRead (s : State) (m : Master) (p off : Nat) : State × Nat :=
  if off = 0 then (s, capId p)
  else if off = 4 then (s, s.blkInfo p)
  else if off = 8 then (s, s.blkStatus p)
  else if off = 0xC then (s, if hasEnable p then s.fget (enFl p) else 1)
  else if 0x82 ≤ p ∧ p ≤ 0x8D ∧ 0x400 ≤ off then s.cmRead p off
  else if p = 0x280 ∧ 0x1000 ≤ off ∧ off < 0x2000 ∧ s.flag F.sec_MBOX_STATUS_OWNED ∧ m ≠ .warden ∧ !s.mboxOwnedBy m then (s, 0)
  else match s.shown p off with
    | some v => (s, v)
    | none => match (if off < 0x40 then none else s.ctrReg p off) with
      | some v => (s, v)
      | none => (s, s.storedReg m p off)

/-- The response codes of the matrix (R403, R414). -/
abbrev Resp := Nat

/-- A read of a DWORD of the register aperture by a master: the value and the response, 0 OKAY, 1 DECODE, 3 RESET (R54,
R59, R72, R74, R76, R405). `off` may lie in an alias region, which reads as the register region does; PF1 reads zero
there. -/
def State.readDw (s : State) (m : Master) (addr : Nat) : State × Nat × Resp :=
  let p := addr / 0x10000 % 0x1000
  let off := addr % 0x4000
  let region := addr / 0x4000 % 4
  if s.live ∧ pageMapped p ∧ (off = 0 ∨ off = 4) then
    (s, if m = .pf1 ∧ region ≠ 0 then 0 else (s.regRead m p off).2, 0)
  else match s.gate m p false with
    | .go =>
      if m = .pf1 ∧ region ≠ 0 then (s, 0, 0)
      else
        let r := s.regRead m p (off / 4 * 4)
        (r.1, r.2, 0)
    | .drop => (s, 0, 0)
    | .secure => (s, 0, 0)
    | .dropLog => (s.logErr 0x270 6 (masterId m) region off, 0, 0)
    | .decode =>
      ((s.mxError 0xA (masterId m) addr).onlyIf (m = .pf0 || m = .pf1) (fun s => s.cadd F.pcie_UR_SENT_C 1), 0, 1)
    | .shield =>
      if m = .pf1 ∧ region ≠ 0 then (s, 0, 0)
      else if off = 8 then (s, 2, 0) else (s.mxError 0xB (masterId m) addr, 0, 3)

/-! ## The common header -/

/-- The event bits that a page defines, as a mask (each chapter's INT_STATUS.EVENT table). -/
def eventMask (p : Nat) : Nat :=
  let low := fun (n : Nat) => 2 ^ n - 1
  if p = 1 then low 2
  else match pageClass p with
    | .carPg => low 10 | .ldpcPg => low 1 | .lmPg => low 3 | .frmPg => low 3 | .lanePg => low 7 | .memPg => low 2
    | .lblPg => low 6 | .monPg => 0x1F8
    | _ => match p with
      | 0x40 => low 7 | 0x60 => low 2 | 0x80 => low 7 | 0x90 => low 6 | 0x220 => low 5 | 0x221 => low 2
      | 0x240 => low 8 | 0x250 => low 10 | 0x260 => low 4 | 0x261 => low 17 | 0x262 => low 1 | 0x270 => low 2
      | 0x272 => low 1 | 0x273 => low 2 | 0x280 => low 5 | 0x2A0 => low 4 | 0x2A1 => low 1
      | _ => 0

/-- INT_FORCE is written (R56). -/
def State.intForce (s : State) (p region be data : Nat) : State :=
  if region ≠ 0 then s
  else
    s.fset (F.hdr_INT_STATUS_INT p)
      (s.fget (F.hdr_INT_STATUS_INT p) ||| (data &&& beMask be &&& (eventMask p + 0xF0000000)))

/-- SNAP_CTRL is written, as a whole word (R56, R66). -/
def State.snapCtrl (s : State) (p data : Nat) : State :=
  let s := s.onlyIf (p == 0) fun s => s.fput (F.hdr_SNAP_CTRL_ON_TICK 0) (bitOf data 1)
  s.onlyIf (bitOf data 0) fun s => s.snapshot p

/-- LOCK_VIOL is written: clearing VIOL clears COUNT (R56). -/
def State.violClear (s : State) (p region be data : Nat) : State :=
  if region = 0 ∧ bitOf be 0 ∧ bitOf data 0 then s.fsets [(F.hdr_LOCK_VIOL_VIOL p, 0), (F.hdr_LOCK_VIOL_COUNT p, 0)] else s

/-- ERR_LOG is written: clearing VALID clears the whole entry (R56). -/
def State.errClear (s : State) (p region be data : Nat) : State :=
  if region = 0 ∧ bitOf be 3 ∧ bitOf data 31 then
    s.fsets [(F.hdr_ERR_LOG_CODE p, 0), (F.hdr_ERR_LOG_MASTER p, 0), (F.hdr_ERR_LOG_ALIAS p, 0),
      (F.hdr_ERR_LOG_OVERFLOW p, 0), (F.hdr_ERR_LOG_OFFSET_DW p, 0), (F.hdr_ERR_LOG_VALID p, 0)]
  else s

/-- A header register is written (R56). -/
def State.headerWrite (s : State) (m : Master) (p off region be data : Nat) : State :=
  match off with
  | 0xC => s.blkCtrl m p region be data
  | 0x18 => s.intForce p region be data
  | 0x20 => s.snapCtrl p data
  | 0x2C => s.violClear p region be data
  | 0x30 => s.errClear p region be data
  | _ => s.plainWrite m p off region be data

/-! ## The blocks' own registers -/

/-- A plain write refused while a condition holds, with the page's error code. -/
def State.guarded (s : State) (m : Master) (p off region be data : Nat) (bad : Bool) (code : Nat) : State :=
  if bad then s.logErr p code (masterId m) region off else s.plainWrite m p off region be data

/-- CTLFW_WDOG is written (R50): TIMEOUT, and a kick, the first of which ends Service (R33). -/
def State.wdogWrite (s : State) (m : Master) (region be data : Nat) : State :=
  let s := s.plainWrite m 0 0x60 region be data
  if isCore m ∧ region = 0 ∧ bitOf be 3 ∧ bitOf data 31 ∧ s.dev.mode = .service ∧ s.dev.fwRestarting then s.firstKick else s

/-- A device register is written (R50). DESIGN CHOICE (log 113): a write of DEVICE.RESET with FULL = 1 and another KEY, or with FULL = 0, has no
effect and is not logged; the spec does not say whether it is an undefined value of a command register. -/
def State.devWrite (s : State) (m : Master) (off region be data : Nat) : State :=
  match off with
  | 0x44 => s.modeReq m (data % 8)
  | 0x48 =>
    let was := s.fget F.dev_ROLE_ROLE
    let s := s.plainWrite m 0 off region be data
    s.onlyIf ((was == 2) != (s.fget F.dev_ROLE_ROLE == 2)) State.linkDown
  | 0x4C => if bitOf data 0 ∧ bitsOf data 16 16 = 0xD0D0 then s.fullReset 3 else s
  | 0x60 => s.wdogWrite m region be data
  | _ => s.plainWrite m 0 off region be data

/-- A firmware-backed register is written (R51, R73); a reserved offset is none (R54). -/
def State.cfwWrite (s : State) (m : Master) (off region be data : Nat) : State :=
  if (findReg 1 off).isNone then s
  else if !s.dev.fwRunning then s.logErr 1 8 (masterId m) region off
  else if off = 0x48 then s.cfwCmd m (data % 16)
  else s.plainWrite m 1 off region be data

/-- A register of a carrier's pages is written (R82, R97 to R105, R133, R376). -/
def State.carWrite (s : State) (m : Master) (p off region be data : Nat) : State :=
  let c := p / 0x10 - 1
  match p % 0x10, off with
  | 0, 0x40 => s.rateWrite m c 0x40 region be data
  | 0, 0x44 => s.rateWrite m c 0x44 region be data
  | 0, 0x50 => s.txWrite m c region be data
  | 0, 0x58 =>
    let on := bitOf (s.mergedWord p 0x58 region be data) 0
    if on = s.flag (F.car_PWR_CTRL_ENGINE_ON c) then s else s.engineWrite m c on
  | 1, 0x40 => s.feCmd m c data
  | 2, 0x40 => s.calCmd m c (data % 4)
  | 5, 0x40 => s.capCmd m c data
  | 7, 0x40 => s.guarded m p off region be data (s.enabled (carPage c) || s.draining (carPage c)) 0xA
  | 0xC, 0x50 => s.lblCmd m c data
  | 0xC, 0x408 => s.rxqCmd m c (data % 4)
  | _, _ => s.plainWrite m p off region be data

/-- A register of ODU processing or the context store is written (R169, R171). -/
def State.oduWrite (s : State) (m : Master) (p off region be data : Nat) : State :=
  if p = 0x40 ∧ off = 0x40 then s.tribCmd m (data % 65536) (bitOf data 16) (bitsOf data 17 2) (bitsOf data 19 3)
  else if p = 0x60 ∧ off = 0x40 then s.ctxCmd m (data % 2 ^ 18) (bitsOf data 18 3)
  else s.plainWrite m p off region be data

/-- A checker's configuration is written: with EN clear or SU out of range it has no SYNC, and will start afresh (R199,
R202). -/
def State.tpcWrite (s : State) (m : Master) (off region be data : Nat) : State :=
  let k := (off - 0x40) / 8
  let s := s.plainWrite m 0x81 off region be data
  if s.flag (F.tpc_TPC_CFG_EN k) && s.fget (F.tpc_TPC_CFG_SU k) < numSu then s
  else { s.fset (F.tpc_TPC_STATUS_SYNC k) 0 with core := { s.core with checkers := spErase k s.core.checkers } }

/-- A register of the slot core is written (R184, R199, R202). -/
def State.coreWrite (s : State) (m : Master) (p off region be data : Nat) : State :=
  if p = 0x80 ∧ off = 0x48 then s.cmCmd m (data % 8) (bitOf data 3)
  else if 0x82 ≤ p ∧ p ≤ 0x8D ∧ 0x400 ≤ off then s.cmWrite m p off region be data
  else if p = 0x81 ∧ 0x40 ≤ off ∧ off < 0xC0 ∧ off % 8 = 0 then s.tpcWrite m off region be data
  else s.plainWrite m p off region be data

/-- The skew buffer has contents: a group or the carrier bond is admitted. -/
def State.skewHeld (s : State) : Bool := !s.prot.aligners.isEmpty || s.prot.bondBlocks.isSome || s.carBonded

/-- A write addresses some of the low `n` bits of a register whose code is RW: through the register region those of byte 0, through
an alias those that the data names (R60, R62). -/
def addresses (n region be data : Nat) : Bool := bitOf be 0 && (region == 0 || data % 2 ^ n != 0)

/-- A register of protection and bonding is written (R224, R233, R235, R239). A write of STACKS or of CBOND_CTRL.EN is refused by
the rules whether or not it would change the value. -/
def State.protWrite (s : State) (m : Master) (p off region be data : Nat) : State :=
  if p = 0x90 ∧ off = 0x54 then s.admitCmd m (data % 2 ^ 18) (bitsOf data 18 3)
  else if p = 0x90 ∧ off = 0x50 then
    s.guarded m p off region be data (s.skewHeld && addresses 4 region be data) 4
  else if p = 0x92 ∧ off = 0x40 then
    if addresses 1 region be data then s.carrierBond m (bitOf (s.mergedWord p off region be data) 0) else s
  else if p = 0x92 ∧ 0x100 ≤ off ∧ off < 0x500 ∧ off % 8 = 0 then s.slotBond m ((off - 0x100) / 8) region be data
  else s.plainWrite m p off region be data

/-- EYE_CMD is written (R268, R279). -/
def State.eyeCmd (s : State) (m : Master) (n data : Nat) : State :=
  match data % 4 with
  | 1 => s.eyeMeasure m n (bitsOf data 2 2) (bitsOf data 4 6) (bitsOf data 10 8) (bitsOf data 18 4)
  | 2 => s.eyeAbandon m n
  | _ => s.log (0x100 + n) 9 m 0x6C

/-- A lane's register is written (R246, R279). -/
def State.laneWrite (s : State) (m : Master) (n off region be data : Nat) : State :=
  match off with
  | 0x40 => s.laneCfgWrite m n region be data
  | 0x44 => s.laneCtrl m n region be data
  | 0x4C => s.trainCmd m n (data % 4)
  | 0x54 => s.firWrite m n region be data
  | 0x68 => s.loopWrite m n region be data
  | 0x6C => s.eyeCmd m n data
  | _ => s.plainWrite m (0x100 + n) off region be data


/-- TWIN_CFG is written (R356). -/
def State.twinCfgWrite (s : State) (m : Master) (region be data : Nat) : State :=
  let was := s.fget F.twin_TWIN_CFG_COPY_EN
  let s := s.plainWrite m 0x250 0x40 region be data
  let now := s.flag F.twin_TWIN_CFG_COPY_EN
  if b2n now = was then s else (s.fset F.twin_TWIN_CFG_COPY_EN was).copyEnWrite now

/-- A DMA register is written (R390, R392, R395). -/
def State.dmaWrite (s : State) (m : Master) (off region be data : Nat) : State :=
  if 0x400 ≤ off ∧ off < 0x800 then
    let k := (off - 0x400) / 0x40
    match off % 0x40 with
    | 8 => s.chanCfg m k (s.mergedWord 0x261 off region be data)
    | 0xC => s.chanTail k (s.mergedWord 0x261 off region be data % 65536)
    | 0 | 4 | 0x18 | 0x1C => s.guarded m 0x261 off region be data (s.flag (F.dma_CH_CFG_EN k)) 0xA
    | _ => s.plainWrite m 0x261 off region be data
  else s.plainWrite m 0x261 off region be data

/-- A ring's configuration is written (R393 to R395): while EN is 1 only EN of it may change. -/
def State.ringCfgWrite (s : State) (m : Master) (off region be data : Nat) : State :=
  let pm := decide (0x60 ≤ off)
  let en := if pm then s.flag F.ring_PMR_CFG_EN else s.flag F.ring_EVR_CFG_EN
  let size := if pm then s.fget F.ring_PMR_CFG_LOG2_SIZE else s.fget F.ring_EVR_CFG_LOG2_SIZE
  match off % 0x20 with
  | 8 => s.guarded m 0x262 off region be data (en && s.mergedWord 0x262 off region be data % 32 != size) 0xA
  | 0 => s.guarded m 0x262 off region be data en 0xA
  | 4 => s.guarded m 0x262 off region be data en 0xA
  | 0x14 => s.guarded m 0x262 off region be data en 0xA
  | 0x18 => s.guarded m 0x262 off region be data en 0xA
  | _ => s.plainWrite m 0x262 off region be data

/-- A register of PCIe and DMA is written. -/
def State.pcieWrite (s : State) (m : Master) (p off region be data : Nat) : State :=
  if p = 0x260 ∧ off = 0x48 then s.rearm m data
  else if p = 0x261 then s.dmaWrite m off region be data
  else if p = 0x262 ∧ 0x40 ≤ off ∧ off < 0x80 then s.ringCfgWrite m off region be data
  else s.plainWrite m p off region be data

/-- A sampler register is written (R413). -/
def State.sampWrite (s : State) (m : Master) (off region be data : Nat) : State :=
  let en := s.flag F.samp_SAMP_CFG_EN
  match off with
  | 0x40 =>
    s.guarded m 0x273 off region be data
      (en && s.mergedWord 0x273 off region be data / 2 % 128 != s.mergedWord 0x273 off 0 0 0 / 2 % 128) 4
  | 0x44 => s.guarded m 0x273 off region be data en 4
  | _ => s.plainWrite m 0x273 off region be data

/-- A register of the matrix, the counters or the sampler is written (R408, R417). -/
def State.busWrite (s : State) (m : Master) (p off region be data : Nat) : State :=
  if p = 0x272 ∧ 0x100 ≤ off ∧ off < 0x180 then
    let c := F.perf_CNT_C ((off - 0x100) / 4)
    s.cset c (mergeField region (s.cget c) data (beMask be))
  else if p = 0x273 then s.sampWrite m off region be data
  else s.plainWrite m p off region be data

/-- A register of the security pages is written (R430, R444, R445). -/
def State.secWrite (s : State) (m : Master) (p off region be data : Nat) : State :=
  if p = 0x280 then
    if off = 0x40 then s.mboxCmdWrite m data
    else if off = 0x54 then s.mboxClaimWrite m data
    else if off = 0x50 then s.coreRun m (s.mergedWord p off region be data % 256)
    else if 0x1000 ≤ off ∧ off < 0x2000 then s.mboxDataWrite m off region be data
    else s.plainWrite m p off region be data
  else if m = .warden ∧ 0x290 ≤ p ∧ 0x400 ≤ off ∧ off < 0x2400 ∧ off % 64 / 4 ≤ 8 then
    s.keyWordWrite ((p - 0x290) * 64 + (off - 0x400) / 128) (off / 64 % 2)
      (off % 64 / 4) be data
  else s.plainWrite m p off region be data

/-- JRNL_CMD is written (R463, R474): a USER record, one at a time. -/
def State.userRecord (s : State) (m : Master) (data : Nat) : State :=
  if !bitOf data 0 then s
  else if s.svc.jq.any fun r => r.typ == 17 then s.log 0x2A1 8 m 0x48
  else
    s.jrnl 17 (masterId m) 0x2A1 (((List.range 7).map fun d => leBytes 4 (s.fget (F.jr_JRNL_USER_DATA d))).flatten)

/-- A register of the service, journal or debug page is written (R474). -/
def State.svcWrite (s : State) (m : Master) (p off region be data : Nat) : State :=
  if p = 0x2A0 ∧ off = 0x48 then s.testCmd m data
  else if p = 0x2A0 ∧ off = 0x58 then (if bitOf data 0 then s.attnRelease else s)
  else if p = 0x2A1 ∧ off = 0x48 then s.userRecord m data
  else s.plainWrite m p off region be data

/-- The effect of a write that has reached its page (R60 to R69). -/
def State.pageWrite (s : State) (m : Master) (p off region be data : Nat) : State :=
  let b := basePage p
  if wholeWord p off ∧ (region ≠ 0 ∨ be ≠ 15) then s.logErr p 2 (masterId m) region off
  else if off < 0x40 then s.headerWrite m p off region be data
  else if p = 0 then s.devWrite m off region be data
  else if p = 1 then s.cfwWrite m off region be data
  else if 0x10 ≤ p ∧ p ≤ 0x2C then s.carWrite m p off region be data
  else if b = 0x40 ∨ b = 0x60 then s.oduWrite m p off region be data
  else if b = 0x80 then s.coreWrite m p off region be data
  else if b = 0x90 then s.protWrite m p off region be data
  else if 0x100 ≤ p ∧ p < 0x200 then s.laneWrite m (p - 0x100) off region be data
  else if 0x200 ≤ p ∧ p < 0x220 ∧ (off = 0x40 ∨ off = 0x44) then s.pllWrite m (p - 0x200) (off == 0x44) region be data

  else if p = 0x250 ∧ off = 0x40 then s.twinCfgWrite m region be data
  else if p = 0x250 ∧ off = 0x44 then s.twinCmd m (data % 8)
  else if b = 0x260 then s.pcieWrite m p off region be data
  else if b = 0x270 then s.busWrite m p off region be data
  else if b = 0x280 then s.secWrite m p off region be data
  else if b = 0x2A0 then s.svcWrite m p off region be data
  else if 0x2B0 ≤ p ∧ p < 0x2B4 ∧ off = 0x48 then s.mtest m (p - 0x2B0) (data % 4)
  else if p = 0x2C0 ∧ off = 0x408 then s.rxqCmd m 2 (data % 4)
  else if p = 0x2C0 ∧ off = 0x808 then s.rxqCmd m 3 (data % 4)
  else s.plainWrite m p off region be data

/-- The entry that a write has put in its page's ERR_LOG names the region it came through (R56, R75). -/
def aliasLogged (p region : Nat) (s s' : State) : State :=
  if !s.flag (F.hdr_ERR_LOG_VALID p) && s'.flag (F.hdr_ERR_LOG_VALID p) then s'.fset (F.hdr_ERR_LOG_ALIAS p) region else s'

/-- A DWORD write to the register aperture by a master (R53, R54). -/
def State.regWrite (s : State) (m : Master) (p off region be data : Nat) : State :=
  s.viaPage m p off region be data fun s => aliasLogged p region s (s.pageWrite m p off region be data)

end Sys2Proof.Machine
end

