-- ==== Sys2Proof/Machine/Waltz.lean ====
section
/-! DEFINITION. The Waltz: gathering, the messages, applying them, resynchronisation and output comparison
(spec/12_twin.md R333 to R348).

Readings fixed here (notes/assumptions): 7 DESIGN CHOICE, 8 DESIGN CHOICE, 48 DEDUCED, 77 DEDUCED, 79 DEDUCED, 80
DEDUCED, 81 DEDUCED. -/

namespace Sys2Proof.Machine

/-! ## Gathered state (R337, R338) -/

/-- The ports whose transmit framing a message describes. -/
def State.wPorts (s : State) : List Nat :=
  (List.range 258).filter fun p => if p < 256 then s.enabled (0x100 + p) else s.enabled (carPage (p - 256))

/-- The transmit frame count of a port; where the model keeps none (a FlexO lane's) it is a free value. -/
def State.portFc (s : State) (p free : Nat) : Nat :=
  if 256 ≤ p then (s.car (p - 256)).txFc
  else if s.laneFormat p = 5 then s.fget F.fr_FR_MFI_TX_MFI
  else if s.laneFormat p = 3 ∨ s.laneFormat p = 4 then (s.lane p).txFc
  else Config.freeValue free

/-- The OTUCn MFAS of a port's transmit framing: a FlexO lane's is a free value, and other lanes carry no OTUCn. -/
def State.portMfas (s : State) (p free : Nat) : Nat :=
  if 256 ≤ p then (s.car (p - 256)).txMfas
  else if s.laneFormat p = 1 ∨ s.laneFormat p = 2 then Config.freeValue free % 256
  else 0

/-- The entry of a port (R338): the position within its frame is a free value. -/
def State.portEntry (s : State) (p free : Nat) : PortEntry :=
  { fc := s.portFc p free, pos := Config.freeValue (free + 1), mfas := s.portMfas p (free + 2)
    d := if 256 ≤ p then (s.car (p - 256)).txD else 0 }

/-- Phase units of a whole word at a group's rate. -/
def phaseUnit (e : GroupEntry) : Nat := (kindRate e.kind e.flex).2 * 10 ^ 17

/-- KIND and S of an egress group. -/
def State.kindS (s : State) (h : Nat) : Nat :=
  65536 * (s.odu.activeE.entry h).kind + (s.odu.activeE.slotGroup h).length

/-- The mapper entry of an egress group. -/
def State.groupEntry (s : State) (h : Nat) : MapperEntry :=
  let e := s.odu.activeE.entry h
  let m : EgMapper := spGet {} s.core.mappers h
  let us := s.odu.activeE.slotGroup h
  { word := m.pos.getD 0, frame := m.frame, phase := m.acc * 65536 / phaseUnit e, trim := m.trim
    gen := s.egressDark h || us.any (fun u => s.cmActive.mode u != 0), kindS := s.kindS h }

/-- The forerunner slots, by slot unit. -/
def State.frUnits (s : State) : List Nat := s.frLanes.flatMap fun n => (List.range 8).map fun k => 160 * n + k

/-- The mapper entry of a forerunner slot. -/
def State.frEntry (s : State) (u : Nat) : MapperEntry :=
  let v := s.frSlot (u / 160) (u % 160)
  { fr := true, mfi := v.mfi, unread := min 3 v.blocks.length, run := v.run, inFrame := v.inFrame }

/-- The gathered mapper entries. -/
def State.wMappers (s : State) : SparseMap MapperEntry :=
  (s.egressGroups.map fun h => ((s.odu.activeE.slotGroup h).headD h, s.groupEntry h)) ++
  s.frUnits.map fun u => (u, s.frEntry u)

/-- The active's mappers set their rate trim from their own buffer fill (R339), which is left open here: a free value of
12 bits. -/
def State.trims (s : State) : State :=
  s.egressGroups.foldl (fun (s : State) h =>
    ({ s with core := { s.core with mappers := spModify {} s.core.mappers h fun m =>
        { m with trim := (Config.freeValue s.free % 4096 : Int) - 2048 } } } : State).tick) s

/-- Signature and tag of each slot unit of the last completed windows (R346, R347); other slot units have signature 0 and
EXCL. -/
def State.wSigs (s : State) : List (Nat × Nat × Nat) :=
  s.egressGroups.flatMap fun h => match (spGet {} s.core.mappers h : EgMapper).closed with
    | none => []
    | some (_, l) => (s.odu.activeE.slotGroup h).zip l

/-! ## CHG (R347) -/

/-- Egress groups fed by one of these ingress groups. -/
def State.fedBy (s : State) (gs : List Nat) : List Nat :=
  s.egressGroups.filter fun h => match s.feedOf h with
    | some g => gs.contains g
    | none => false

/-- The egress groups that a record names: by a connection-memory entry, a tributary-table entry or a port's APPLY, a protection
context or an ingress group. -/
def State.namedGroups (s : State) (b : TwinBody) : List Nat :=
  match b with
  | .cmBurst base l => (List.range l.length).filterMap fun i => s.odu.activeE.memberOf (base + i)
  | .regWrite p _ dw _ data _ =>
    if p = 0x40 ∧ dw = 0x10 then
      let port := 4 ≤ bitsOf data 19 3 || bitsOf data 17 2 == 2
      (if bitOf data 16 then s.egressGroups.filter fun h =>
          if port then s.portOfSu h == data % 65536 else (s.odu.activeE.slotGroup h).contains (data % 65536)
       else s.fedBy (s.ingressGroups.filter fun g =>
          if port then s.portOfSu g == data % 65536 else (s.odu.activeI.slotGroup g).contains (data % 65536)))
    else if 0x82 ≤ p && p ≤ 0x8D && 0x100 ≤ dw then (s.odu.activeE.memberOf ((p - 0x82) * 3840 + dw - 0x100)).toList
    else []
  | .ctxConfig x _ | .protState x _ => s.fedBy [s.copyGroup x false, s.copyGroup x true]
  | .frameCount su _ => s.fedBy [su]
  | _ => []

/-- A record takes effect: CHG stays set in this window and the next two. -/
def State.markChg (s : State) (b : TwinBody) : State :=
  { s with core := { s.core with
    mappers := (s.namedGroups b).foldl (fun m h => spModify {} m h fun v => { v with chg := 3 }) s.core.mappers } }

/-- The records of the core frame that ends mark their groups on the active. -/
def State.markNew (s : State) (sf frame : Nat) : State :=
  (s.twin.urgent.filter fun r => r.sf == sf % 2 ^ 27 && r.frame == frame).foldl (fun (s : State) r => s.markChg r.body) s

/-! ## The bulk image (R345 step 3) -/

/-- A list in pieces of `n`. -/
def chunks {α : Type} (n : Nat) (l : List α) : List (List α) :=
  (List.range ((l.length + n - 1) / n)).map fun i => (l.drop (n * i)).take n

/-- A tributary table as (key, value) pairs: key = table × 2^24 + index × 8 + item. -/
def tableImage (t : Nat) (x : TribTables) : List (Nat × Nat) :=
  let key := fun (i j : Nat) => t * 2 ^ 24 + 8 * i + j
  (x.su.map fun e => (key e.1 0, e.2)) ++
  (x.grp.flatMap fun e => [(key e.1 1, e.2.kind + 256 * b2n e.2.demux + 512 * e.2.monMask), (key e.1 2, e.2.monBase),
    (key e.1 3, e.2.mapCtx), (key e.1 4, e.2.flex)]) ++
  (x.port.flatMap fun e => [(key e.1 5, e.2.monBase), (key e.1 6, e.2.monMask), (key e.1 7, e.2.mapCtx)])

/-- A table with one item of an image. -/
def TribTables.load (x : TribTables) (i j v : Nat) : TribTables :=
  let g := x.entry i
  let p := x.portEntry i
  match j with
  | 0 => { x with su := spPut 0xFFFFFFFF x.su i v }
  | 1 => { x with grp := spPut {} x.grp i { g with kind := v % 256, demux := bitOf v 8, monMask := v / 512 } }
  | 2 => { x with grp := spPut {} x.grp i { g with monBase := v } }
  | 3 => { x with grp := spPut {} x.grp i { g with mapCtx := v } }
  | 4 => { x with grp := spPut {} x.grp i { g with flex := v } }
  | 5 => { x with port := spPut {} x.port i { p with monBase := v } }
  | 6 => { x with port := spPut {} x.port i { p with monMask := v } }
  | _ => { x with port := spPut {} x.port i { p with mapCtx := v } }

/-- A connection-memory page as pairs; key 2^20 is its fill. -/
def pageImage (p : CmPage) : List (Nat × Nat) := (2 ^ 20, p.fill) :: p.ents

/-- A page with one pair of an image. -/
def CmPage.load (p : CmPage) (e : Nat × Nat) : CmPage :=
  if e.1 = 2 ^ 20 then { fill := e.2 } else { p with ents := spPut p.fill p.ents e.1 e.2 }

/-- The blocks with an enable, by first page. -/
def enPages : List Nat := (List.range 0x2B4).filter hasEnable

/-- Main tap and PRECODE_TX of every lane that has reached DATA, as (key, value) pairs: with the side taps they are what
R343 loads. -/
def State.tapImage (s : State) : List (Nat × Nat) :=
  ((List.range 256).filter fun n => (s.lane n).trained).flatMap fun n =>
    [F.lane_TX_FIR_C0 n, F.lane_TRAIN_STATUS_PRECODE_TX n].map fun f => (f.key, s.fget f)

/-- The records of a full image, from its beginning to its end. -/
def State.image (s : State) : List TwinBody :=
  let part := fun (region : Nat) (l : List (Nat × Nat)) => (chunks 6 l).map (TwinBody.bulk region)
  [.bulk 8 []] ++ part 0 ((s.fields.filter fun e => cfgKey e.1) ++ s.tapImage) ++ part 2 (pageImage s.cmActive) ++
  part 3 (pageImage s.cmStandby) ++
  part 4 (tableImage 0 s.odu.stagedI ++ tableImage 1 s.odu.stagedE ++ tableImage 2 s.odu.activeI ++
    tableImage 3 s.odu.activeE) ++
  part 5 (s.ctx.filter fun e => e.1 % 16 < 6 && e.1 / 16 < 261120) ++ part 1 (enPages.map fun p => (p, s.fget (enFl p))) ++
  (s.ingressGroups.map fun g => .frameCount g (s.tracker false g).count) ++ [.bulk 9 []]

/-- The active owes its partner the image (R345). -/
def State.sendImage (s : State) : State :=
  let s := { s with twin := { s.twin with owed := false, bulkQ := s.twin.bulkQ.filter fun r => match r.body with
    | .bulk _ _ | .frameCount _ _ => false
    | _ => true } }
  s.image.foldl State.twinRecordLater s

/-- The mirror has loaded a lane's taps (R343). -/
def State.tapsLoaded (s : State) (n : Nat) : State := s.setLane n { s.lane n with loaded := true }

/-- The lane whose main tap a register-store key is. -/
def mainTapLane (k : Nat) : Option Nat :=
  let n := k / 0x80000 - 0x100
  if 0x100 ≤ k / 0x80000 ∧ k / 0x80000 < 0x200 ∧ (F.lane_TX_FIR_C0 n).key = k then some n else none

/-- A copied field takes its value. -/
def State.putField (s : State) (e : Nat × Nat) : State := { s with fields := spSet s.fields e.1 e.2 }

/-- A copied field of an image takes effect; with a lane's main tap its taps are loaded. -/
def State.loadField (s : State) (e : Nat × Nat) : State :=
  match mainTapLane e.1 with
  | some n => (s.putField e).tapsLoaded n
  | none => s.putField e

/-- One pair of an image takes effect. -/
def State.loadPair (s : State) (region : Nat) (e : Nat × Nat) : State :=
  match region with
  | 0 => s.loadField e
  | 1 => if s.fget (enFl e.1) = e.2 then s else s.blkEnable .twin e.1 (e.2 == 1)
  | 2 => s.setCmPage s.activeB (s.cmActive.load e)
  | 3 => s.setCmPage (!s.activeB) (s.cmStandby.load e)
  | 4 =>
    let i := e.1 % 2 ^ 24 / 8
    (match e.1 / 2 ^ 24 with
      | 0 => s.setStaged false (s.odu.stagedI.load i (e.1 % 8) e.2)
      | 1 => s.setStaged true (s.odu.stagedE.load i (e.1 % 8) e.2)
      | 2 => s.setActive false (s.odu.activeI.load i (e.1 % 8) e.2)
      | _ => s.setActive true (s.odu.activeE.load i (e.1 % 8) e.2))
  | _ => s.setCtxDw (e.1 / 16) (e.1 % 16) e.2

/-- An image begins: the copied configuration is dropped. Security associations are each twin's own (R442). -/
def State.imageBegins (s : State) : State :=
  { s with
    fields := spDrop cfgKey s.fields
    core := { s.core with pageA := {}, pageB := {} }
    odu := { s.odu with stagedI := {}, stagedE := {}, activeI := {}, activeE := {} }
    ctx := spDrop (fun k => decide (k % 16 < 6) && decide (k / 16 < 261120)) s.ctx }

/-- A type 8 record takes effect. -/
def State.bulkRecord (s : State) (region : Nat) (l : List (Nat × Nat)) : State :=
  if region = 8 then s.imageBegins
  else if region = 9 then { s with twin := { s.twin with imaged := true } }.defects
  else l.foldl (fun (s : State) e => s.loadPair region e) s

/-! ## The twin mirror (R340, R341, R342) -/

/-- A difference between the twins (R339, R340): a standby becomes stale and resynchronises; a resynchronisation fails. -/
def State.diverged (s : State) : State :=
  let s := s.cadd F.twin_DIVERGE_C 1
  if s.dev.twinRole = 2 then s.toStale 6 else s.failResync

/-- The mirror makes a write, whose outcome on the active was an effect (R340). -/
def State.mirrorWrite (s : State) (p region off be data : Nat) : State × Bool :=
  let f := fun (s : State) => s.regWrite .twin p off region be data
  let probe := f ((s.errCleared p).errCleared 0x270)
  (f s, !probe.flag (F.hdr_ERR_LOG_VALID p) && !probe.flag (F.hdr_ERR_LOG_VALID 0x270))

/-- The mirror's ARM takes SWAP_SF − SF_OFS (R341). -/
def State.mirrorArm (s : State) (region be data : Nat) : State × Bool :=
  let sf := s.fget F.core_SWAP_SF_SF
  let r := (s.fset F.core_SWAP_SF_SF (sf + 2 ^ 32 - s.fget F.twin_SF_OFS_OFS)).mirrorWrite 0x80 region 0x48 be data
  (r.1.fset F.core_SWAP_SF_SF sf, r.2)

/-- The confirmed state of a group from DWORDs 6 to 9 (R342): position, request in force, APS and a running
wait-to-restore or hold-off timer, the latter of the copy that shows a condition; a speculation ends when the confirmed state changes (R31). -/
def State.protRecord (s : State) (g : Nat) (dws : List Nat) : State :=
  let d := fun (i : Nat) => dws.getD i 0
  let changed := s.ctxBits g 6 0 1 != bitsOf (d 0) 0 1 || s.ctxBits g 6 3 5 != bitsOf (d 0) 3 5
  let s := (s.setCtxBits g 6 0 1 (bitsOf (d 0) 0 1)).setCtxBits g 6 3 5 (bitsOf (d 0) 3 5)
  let s := (s.setCtxDw g 7 (d 1)).setCtxDw g 8 (d 2)
  let code := bitsOf (d 0) 3 4
  let v := s.pg g
  let ho := bitOf (d 0) 12 && !bitOf (d 0) 13
  let onW := bitOf (d 0) 8 || bitOf (d 0) 10
  (s.setPg g { v with
    wtr := if bitOf (d 0) 13 then some (d 3) else none
    hoW := if ho && onW then some (d 3) else v.hoW
    hoP := if ho && !onW then some (d 3) else v.hoP, dnr := code == 1, heldSf := code == 11 || v.heldSf
    spec := v.spec && !changed, specEnd := v.specEnd && !changed }).showTimers g

/-- A lane's PRECODE_TX comes with its taps (R343): `data` is TRAIN_STATUS. -/
def State.precodeLoaded (s : State) (n data : Nat) : State :=
  s.fset (F.lane_TRAIN_STATUS_PRECODE_TX n) (bitsOf data 19 1)

/-- A field-journal record of the partner enters the journal-mirror region of the standby's first READY stack (R214, R337), at the
place of its slot. -/
def State.mirrorJournal (s : State) (r : JRec) : State :=
  let s := { s with twin := { s.twin with jmirror := r :: s.twin.jmirror } }
  match (List.range 4).find? fun i => s.ready (0x2B0 + i) with
  | some i => s.memWrite i (0x7F0000000 + 64 * (r.seq % 262080)) (jrnlBytes r)
  | none => s

/-- A record takes effect on the standby; false where its outcome differs from the active's. -/
def State.mirrorOne (s : State) (b : TwinBody) : State × Bool :=
  match b with
  | .regWrite p region dw be data _ =>
    if p = 0x80 ∧ dw = 0x12 ∧ data % 8 = 4 then s.mirrorArm region be data
    else if 0x100 ≤ p ∧ p < 0x200 ∧ dw = 0x14 then (s.precodeLoaded (p - 0x100) data, true)
    else if 0x100 ≤ p ∧ p < 0x200 ∧ dw = 0x15 then
      let r := s.mirrorWrite p region 0x54 be data
      (r.1.tapsLoaded (p - 0x100), r.2)
    else s.mirrorWrite p region (4 * dw) be data
  | .cmBurst base l =>
    (l.zip (List.range l.length)).foldl (fun (r : State × Bool) e =>
      let u := base + e.2
      let x := r.1.mirrorWrite (0x82 + u / 3840) 0 (0x400 + 4 * (u % 3840)) 15 e.1
      (x.1, r.2 && x.2)) (s, true)
  | .ctxConfig x dws =>
    ((s.ctxStarts ((dws.mapIdx fun d v => (d, v)).foldl (fun (s : State) e => s.setCtxDw x e.1 e.2) s) x).defects, true)
  | .protState g dws => (s.protRecord g dws, true)
  | .frameCount su fc =>
    ({ s with odu := { s.odu with trackers := spModify {} s.odu.trackers su fun t => { t with count := fc } } }, true)
  | .pmRecords tick recs => (recs.foldl (coldRecord tick) s, true)
  | .fieldJournal r => (s.mirrorJournal r, true)
  | .bulk region l => (s.bulkRecord region l, true)

/-- A command that the mirror has begun has not completed (R340). -/
def State.mirrorBusy (s : State) : Bool := [0x40, 0x60, 0x80, 0x90].any s.busyBit

/-- The reset shield of the page that a record's accesses go to is raised: they are retried until it lowers (R403). -/
def State.mirrorShielded (s : State) (b : TwinBody) : Bool :=
  match b with
  | .regWrite p _ _ _ _ _ => s.bus.shield.contains (basePage p)
  | _ => false

/-- The address of a record's first access in the register aperture. -/
def bodyAddr : TwinBody → Nat
  | .regWrite p region dw _ _ _ => p * 0x10000 + region * 0x4000 + 4 * dw
  | _ => 0

/-- The mirror performs records in order, until one has to wait; the matrix logs each try that a shield answers (R404). -/
def State.mirrorRun : List TwinRec → State → State
  | [], s => { s with twin := { s.twin with mirrorQ := [] } }
  | r :: l, s =>
    if s.mirrorBusy then { s with twin := { s.twin with mirrorQ := r :: l } }
    else if s.mirrorShielded r.body then
      ({ s with twin := { s.twin with mirrorQ := r :: l } } : State).mxError 0xB (masterId .twin) (bodyAddr r.body)
    else
      let x := (s.markChg r.body).mirrorOne r.body
      if x.2 then State.mirrorRun l x.1 else x.1.diverged

/-! ## Comparison (R348) -/

/-- A window enters a slot unit's history, unless it is there. -/
def pushSig (m : SparseMap (List SigEntry)) (u : Nat) (e : SigEntry) : SparseMap (List SigEntry) :=
  let l := spGet [] m u
  if (l.headD e).tag % 4 = e.tag % 4 ∧ l ≠ [] then m else spPut [] m u ((e :: l).take 2)

/-- The partner's windows of a message, those already seen apart. -/
def State.theirSigs (s : State) (msg : WaltzMsg) : State :=
  let fault := msg.hdr.fault != 0
  msg.sigs.foldl (fun (s : State) e =>
    let tag := spGet 8 msg.tags e.1
    if spGet 0 s.twin.seen e.1 = tag % 4 + 1 then s
    else { s with twin := { s.twin with
      seen := spPut 0 s.twin.seen e.1 (tag % 4 + 1)
      theirs := spPut [] s.twin.theirs e.1 (({ sig := e.2, tag := tag, fault := fault } :: spGet [] s.twin.theirs e.1).take 2) } }) s

/-- A comparison is skipped: PROV, EXCL or CHG. -/
def SigEntry.skipped (a : SigEntry) : Bool := bitOf a.tag 2 || bitOf a.tag 3 || bitOf a.tag 5

/-- A twin is flagged for a mismatch. -/
def SigEntry.flagged (a : SigEntry) : Bool := bitOf a.tag 4 || a.fault

/-- DISAGREE (R348). -/
def State.disagree (s : State) : State := (s.fset F.twin_TWIN_STATUS_DISAGREE 1).raise 0x250 6

/-- The pair is an active and its standby. -/
def State.pairOf (s : State) : Bool :=
  match s.twin.lastHdr with
  | some h => (s.dev.twinRole = 1 && h.role == 2) || (s.dev.twinRole = 2 && h.role == 1)
  | none => false

/-- A slot unit has mismatched in CMP_PERSIST windows in a row (R348): `act` and `stb` say which twin is flagged. -/
def State.cmpOutcome (s : State) (act stb : Bool) : State :=
  let en := s.flag F.twin_TWIN_CFG_CMP_EN
  let here := s.dev.twinRole = 1
  let eligible := if here then s.partnerEligible else s.flag F.twin_TWIN_STATUS_ELIGIBLE
  match act, stb with
  | true, false =>
    if en && eligible then (if here && !s.switching then { s with twin := { s.twin with handoverReq := true } } else s)
    else s.disagree
  | false, true => if en && !here then s.toStale 5 else s
  | _, _ => s.disagree

/-- A compared window of a slot unit: the state, and whether it mismatched. -/
def State.cmpOne (s : State) (u : Nat) (mine their : SigEntry) : State × Bool :=
  let run := fun (s : State) (n : Nat) => { s with twin := { s.twin with misRun := spPut 0 s.twin.misRun u n } }
  if mine.skipped || their.skipped || mine.sig = their.sig then (run s 0, false)
  else
    let n := spGet 0 s.twin.misRun u + 1
    let s := run s n
    let here := s.dev.twinRole = 1
    let due := n = max 1 (s.fget F.twin_TWIN_CFG_CMP_PERSIST) && s.pairOf
    (s.onlyIf due fun s => s.cmpOutcome (if here then mine.flagged else their.flagged)
      (if here then their.flagged else mine.flagged), true)

/-- BLAME of a mismatch (R356). -/
def blame (mine their : SigEntry) : Nat :=
  match mine.flagged, their.flagged with
  | true, false => 1
  | false, true => 2
  | _, _ => 3

/-- The windows of a slot unit that both twins now hold are compared, once each; `first` tells whether no slot unit of this
cycle has mismatched yet. -/
def cmpUnit (p : State × Bool) (u : Nat) : State × Bool :=
  let s := p.1
  let mine := spGet [] s.twin.own u
  let pairs := (spGet [] s.twin.theirs u).filterMap fun t =>
    (mine.find? fun m => m.tag % 4 = t.tag % 4).map fun m => (m, t)
  let left := (spGet [] s.twin.theirs u).filter fun t => !(mine.any fun m => m.tag % 4 = t.tag % 4)
  let s := { s with twin := { s.twin with theirs := spPut [] s.twin.theirs u left } }
  pairs.reverse.foldl (fun (q : State × Bool) e =>
    let x := q.1.cmpOne u e.1 e.2
    if x.2 && q.2 then
      (x.1.fsets [(F.cmp_CMP_STATUS_FIRST_SU, u), (F.cmp_CMP_STATUS_BLAME, blame e.1 e.2)], false)
    else (x.1, q.2)) (s, p.2)

/-- The comparisons of a cycle. -/
def State.compare (s : State) : State :=
  let x := (s.twin.theirs.map Prod.fst).foldl cmpUnit (s, true)
  let s := x.1
  if x.2 then { s with twin := { s.twin with cleanRun := s.twin.cleanRun + 1 } }
  else { s with twin := { s.twin with cleanRun := 0 } }.cadd F.twin_MISMATCH_WIN_C 1

/-! ## Applying a message (R333, R339, R344, R345) -/

/-- This twin follows: a standby, a stale twin that resynchronises, or one that takes over and has not reached B1. -/
def State.follows (s : State) : Bool :=
  s.dev.twinRole == 2 || (s.dev.twinRole == 3 && decide (3 ≤ s.twin.resync ∧ s.twin.resync ≤ 4)) || s.twin.sw == .soon ||
  s.twin.sw == .waitB1

/-- Mapper and port entries are applied. -/
def State.takesEntries (s : State) : Bool := s.follows && s.twin.resync != 3

/-- A group's live mapper moves by the difference of two entries (R339). -/
def moveMapper (e : GroupEntry) (own theirs : MapperEntry) (m : EgMapper) : EgMapper :=
  let at_ := fun (x : MapperEntry) => (x.frame * 7648 + x.word : Int)
  let total : Int := 2 ^ 19 * 7648
  let now := ((m.frame * 7648 + m.pos.getD 0 : Int) + (at_ theirs - at_ own)) % total
  let acc := ((m.acc : Int) + ((theirs.phase : Int) - own.phase) * phaseUnit e / 65536) % (max 1 (phaseUnit e) : Int)
  { m with pos := m.pos.map fun _ => now.toNat % 7648, frame := now.toNat / 7648, acc := acc.toNat, trim := theirs.trim }

/-- A forerunner slot takes the received state; blocks that it has not received stay unread (R339). -/
def State.moveFr (s : State) (u : Nat) (e : MapperEntry) : State :=
  let v := s.frSlot (u / 160) (u % 160)
  s.setFrSlot (u / 160) (u % 160) { v with mfi := e.mfi, run := e.run, inFrame := e.inFrame, blocks := v.blocks.take e.unread }

/-- A received mapper entry is applied; `names` are the groups that records of the same cycle name. -/
def applyMapper (names : List Nat) (s : State) (x : Nat × MapperEntry) : State :=
  if x.2.fr then s.moveFr x.1 x.2
  else match s.odu.activeE.memberOf x.1 with
    | none => if names.contains x.1 then s else s.diverged
    | some h => match s.twin.gotMaps.find? fun y => y.1 == x.1 with
      | none => s
      | some own =>
        if own.2.kindS = x.2.kindS then
          { s with core := { s.core with
            mappers := spModify {} s.core.mappers h (moveMapper (s.odu.activeE.entry h) own.2 x.2) } }
        else if names.contains h then s
        else s.diverged

/-- A port's transmit framing moves by the difference in frame count (R339). -/
def applyPort (s : State) (x : Nat × PortEntry) : State :=
  match s.twin.gotPorts.find? fun y => y.1 == x.1 with
  | none => s
  | some own =>
    let move := fun (n : Nat) => ((n : Int) + x.2.fc - own.2.fc) % 2 ^ 32 |>.toNat
    if 256 ≤ x.1 then
      let c := s.car (x.1 - 256)
      let mfas := ((c.txMfas : Int) + x.2.mfas - own.2.mfas) % 256
      s.setCar (x.1 - 256) { c with txFc := move c.txFc, txD := x.2.d, txMfas := mfas.toNat }
    else if s.laneFormat x.1 = 3 ∨ s.laneFormat x.1 = 4 then
      s.setLane x.1 { s.lane x.1 with txFc := move (s.lane x.1).txFc }
    else if s.frLanes.head? = some x.1 then s.fset F.fr_FR_MFI_TX_MFI (move (s.fget F.fr_FR_MFI_TX_MFI) % 256)
    else s

/-- A message is missing or bad, or the journal overran (R333, R344): a standby becomes stale, a resynchronisation
fails. -/
def State.overrun (s : State) : State :=
  let s := (s.cadd F.twin_OVERRUNS_C 1).raise 0x250 7
  if s.dev.twinRole = 2 then s.toStale 2 else s.failResync

/-- Steps 1 to 4 of a resynchronisation advance (R345). -/
def State.resyncAdvance (s : State) (ack : Bool) : State :=
  let goto := fun (s : State) (n : Nat) => { s with twin := { s.twin with resync := n, age := 0 } }
  let s := if s.twin.resync = 1 && ack then goto s 2 else s
  let s := if s.twin.resync = 2 && s.flag F.twin_TWIN_STATUS_SF_ALIGNED then goto s 3 else s
  if s.twin.resync = 3 && s.twin.imaged && s.twin.mirrorQ = [] then
    { goto s 4 with twin := { (goto s 4).twin with cleanRun := 0 } }
  else s

/-- A partner asks for a resynchronisation, or awaits its image (R345). -/
def State.answerResync (s : State) (h : WaltzHeader) : State :=
  let may := (s.dev.mode = .twinActive || s.dev.mode = .standalone) && !s.flag F.twin_TWIN_STATUS_SIDE_CONFLICT &&
    s.flag F.twin_TWIN_CFG_COPY_EN
  let s := s.onlyIf (h.resyncReq && may) fun s => { s with twin := { s.twin with ack := true, owed := true } }
  s.onlyIf (s.twin.owed && h.sfAligned) State.sendImage

/-- Records of a message that the mirror performs now: while the image is applied, others wait for its end (R345). -/
def State.takeRecords (s : State) (l : List TwinRec) : State :=
  if s.twin.resync = 3 then
    let img := fun (r : TwinRec) => match r.body with
      | .bulk _ _ | .frameCount _ _ => true
      | _ => false
    let ends := l.any fun r => match r.body with
      | .bulk 9 _ => true
      | _ => false
    let kept := s.twin.kept ++ l.filter fun r => !img r
    if ends then
      State.mirrorRun (l.filter img ++ kept) { s with twin := { s.twin with kept := [] } }
    else State.mirrorRun (l.filter img) { s with twin := { s.twin with kept := kept } }
  else State.mirrorRun l s

/-- The follower's part of an apply. -/
def State.followMsg (s : State) (msg : WaltzMsg) : State :=
  let names := (msg.recs.flatMap fun r => s.namedGroups r.body)
  let s := s.onlyIf s.takesEntries fun s => msg.ports.foldl applyPort (msg.mappers.foldl (applyMapper names) s)
  s.onlyIf s.follows fun s => s.takeRecords msg.recs

/-- A message is applied at its boundary. -/
def State.applyMsg (s : State) (msg : WaltzMsg) : State :=
  let s := (s.fset F.twin_APPLIED_SF_SF msg.hdr.sf).theirSigs msg
  let s := s.onlyIf s.linkUp fun s => (s.answerResync msg.hdr).resyncAdvance msg.hdr.resyncAck
  let fromActive := msg.hdr.role = 1 || msg.hdr.handover
  if (s.dev.twinRole = 2 || (s.dev.twinRole = 3 && 3 ≤ s.twin.resync && s.twin.resync ≤ 4)) && msg.hdr.overrun then s.overrun
  else if s.dev.twinRole = 2 && fromActive && !msg.copied then s.toStale 10
  else s.followMsg msg

/-- The mirror goes on with records that had to wait, and a delayed apply follows them (R340). -/
def State.mirrorStep (s : State) : State :=
  let s := s.onlyIf (s.twin.mirrorQ != []) fun s => State.mirrorRun s.twin.mirrorQ s
  match s.twin.late with
  | some msg => if s.twin.mirrorQ = [] then ({ s with twin := { s.twin with late := none } } : State).applyMsg msg else s
  | none => s

/-- The apply boundary (R333, R340): the message received in the superframe that ends, if one was due; a complete message
is applied though the link has gone DOWN since (R349 step 3). -/
def State.applyDue (s : State) : State :=
  match s.twin.rx with
  | none =>
    if s.linkUp && decide (2 ≤ s.twin.upAge) then (s.cadd F.twin_MSG_BAD_C 1).overrun else s
  | some msg =>
    let s := { s with twin := { s.twin with rx := none } }
    if s.twin.late.isSome then s.overrun
    else if s.twin.mirrorQ ≠ [] then { s with twin := { s.twin with late := some msg } }
    else s.applyMsg msg

/-! ## Gathering and sending (R333 to R335, R344) -/

/-- Journal cells of a message. -/
def jrnlCells : Nat := 8333

/-- Two runs of records, each oldest first, in the order in which they were queued; `age` counts back from the newest. -/
def mergeRecs (age : TwinRec → Nat) : Nat → List TwinRec → List TwinRec → List TwinRec
  | 0, l, l' => l ++ l'
  | _ + 1, [], l' => l'
  | _ + 1, l, [] => l
  | n + 1, a :: l, b :: l' =>
    if age b < age a then a :: mergeRecs age n l (b :: l') else b :: mergeRecs age n (a :: l) l'

/-- The journal section of a message: its records in the order of their sequence numbers (R340), DEFERRED, OVERRUN, and the queues
left (R344). -/
def State.journalPart (s : State) : List TwinRec × Bool × Bool × State :=
  let u := s.twin.urgent
  let q := s.twin.bulkQ
  let age := fun (r : TwinRec) => (s.twin.recSeq + 65535 - r.seq) % 65536
  if jrnlCells < u.length then
    (q.take jrnlCells, decide (jrnlCells < q.length), true, { s with twin := { s.twin with urgent := [], bulkQ := q.drop jrnlCells } })
  else
    let room := jrnlCells - u.length
    (mergeRecs age (u.length + q.length) u (q.take room), decide (room < q.length), false, { s with twin := { s.twin with urgent := [], bulkQ := q.drop room } })

/-- JRNL_ROOM and the counters of what is sent (R344, R357). -/
def State.roomShown (s : State) (urgent : Nat) (deferred ovr : Bool) : State :=
  let s := s.fsets [(F.twin_JRNL_ROOM_URGENT, if ovr then 0 else urgent), (F.twin_JRNL_ROOM_BACKLOG, min 16383 s.twin.bulkQ.length)]
  let s := s.onlyIf deferred fun s => s.cadd F.twin_DEFER_CYCLES_C 1
  s.onlyIf ovr fun s => (s.cadd F.twin_OVERRUNS_C 1).raise 0x250 7

/-- The header of the message for superframe `sf` (R335); D_TX is a free value of at most 1 µs. -/
def State.waltzHeader (s : State) (sf : Nat) (deferred ovr : Bool) : WaltzHeader :=
  { sf := sf % 2 ^ 32, dTx := Config.freeValue s.free % 1601, x := s.twin.xOwn, mode := s.dev.mode.code
    role := s.dev.twinRole, side := s.sideB, eligible := s.flag F.twin_TWIN_STATUS_ELIGIBLE, handover := s.twin.announce
    resyncReq := s.twin.resync == 1, resyncAck := s.twin.ack, deferred := deferred, overrun := ovr
    sfAligned := s.flag F.twin_TWIN_STATUS_SF_ALIGNED, fault := s.twin.fault
    appliedSf := s.fget F.twin_APPLIED_SF_SF }

/-- This twin's own windows enter its history. -/
def State.ownSigs (s : State) (l : List (Nat × Nat × Nat)) : State :=
  let fault := s.twin.fault != 0
  { s with twin := { s.twin with
    own := l.foldl (fun m e => pushSig m e.1 { sig := e.2.1, tag := e.2.2, fault := fault }) s.twin.own } }

/-- A twin gathers the state of superframe `sf` and sends it; `act`: it gathers as the active (R333, R334). -/
def State.gather (s : State) (sf : Nat) (act : Bool) : State :=
  let s := s.onlyIf act State.trims
  let ports := s.wPorts.mapIdx fun i p => (p, s.portEntry p (s.free + 1 + 3 * i))
  let maps := s.wMappers
  let sigs := s.wSigs
  let copied := act && s.flag F.twin_TWIN_CFG_COPY_EN
  let j := if copied then s.journalPart
    else ([], false, false, { s with twin := { s.twin with urgent := [], bulkQ := if act then [] else s.twin.bulkQ } })
  let s1 := j.2.2.2.roomShown s.twin.urgent.length j.2.1 j.2.2.1
  let hdr := s1.waltzHeader sf j.2.1 j.2.2.1
  let msg : WaltzMsg := { hdr := hdr, copied := copied, ports := if copied then ports else [], mappers := if copied then maps else []
                          sigs := sigs.map fun e => (e.1, e.2.1), tags := sigs.map fun e => (e.1, e.2.2), recs := j.1 }
  let periods := waltzPeriods (waltzCells msg)
  let lines := ezLines s.sideB s.ezAligned (Config.freeValue (s1.free + 1 + 3 * ports.length)) periods
  let s2 := (s1.emit (.waltz msg periods lines)).ownSigs sigs
  { s2 with
    twin := { s2.twin with gotPorts := ports, gotMaps := maps, fault := 0, ack := false, announce := false }
    free := s2.free + 2 + 3 * ports.length }

/-! ## A resynchronisation's bounds and end (R345) -/

/-- The standby's own lanes and carriers are READY. -/
def State.ownReady (s : State) : Bool :=
  ([0x10, 0x20] ++ (List.range 256).map (0x100 + ·)).all fun p => !s.enabled p || s.ready p

/-- A superframe passes in a resynchronisation (R345): its bounds are in superframes of 23.04 µs. -/
def State.resyncTick (s : State) : State :=
  let n := s.twin.resync
  if n = 0 || n = 6 then s
  else
    let s := s.resyncAdvance false
    let n := s.twin.resync
    let s := { s with twin := { s.twin with age := s.twin.age + b2n (n != 4 || s.ownReady) } }
    if n = 4 && 16 ≤ s.twin.cleanRun then
      ({ s with twin := { s.twin with resync := 0, age := 0 } }.fsets [(F.twin_TWIN_STATUS_RESYNC, 0),
        (F.twin_TWIN_STATUS_STALE_CAUSE, 0)]).setMode .twinStandby 2 hwMaster
    else if (match n with | 1 => 2 | 2 => 651 | 3 => 8680 | _ => 1736) < s.twin.age then s.failResync
    else s

/-- A former active that hands over is ELIGIBLE again after 16 clean cycles with superframes aligned (R354). -/
def State.regainEligible (s : State) : State :=
  if s.dev.mode = .twinStandby && !s.flag F.twin_TWIN_STATUS_ELIGIBLE && s.flag F.twin_TWIN_STATUS_SF_ALIGNED &&
      decide (16 ≤ s.twin.cleanRun) then
    (s.fset F.twin_TWIN_STATUS_ELIGIBLE 1).raise 0x250 3
  else s

/-! ## Switchover at superframe boundaries (R349) -/

/-- B0: the active hands over (R349 step 1). -/
def State.handsOver (s : State) : State :=
  if !s.twin.handoverReq then s
  else
    let s := { s with twin := { s.twin with handoverReq := false } }
    if s.dev.mode != .twinActive then s
    else
      let s := (s.setMode .twinStandby 2 hwMaster).fset F.twin_TWIN_STATUS_ELIGIBLE 0
      { s with twin := { s.twin with sw := .handedOver, announce := true, cleanRun := 0 } }.countSwitchover

/-- B1 and B2 pass. -/
def State.switchSteps (s : State) : State :=
  match s.twin.sw with
  | .soon => { s with twin := { s.twin with sw := .waitB1 } }
  | .waitB1 => { s with twin := { s.twin with sw := .waitB2 } }
  | .waitB2 => { s with twin := { s.twin with sw := .idle } }
  | _ => s

/-- What the twin block does at the boundary that ends superframe `sf` (R331, R333 to R349). -/
def State.twinBoundary (s : State) (sf : Nat) : State :=
  if !s.paired then s
  else
    let s := s.applyDue
    let act := s.dev.twinRole == 1
    let s := s.switchSteps.handsOver.failsDue
    let s := if s.linkUp then (s.gather sf act).compare else { s with twin := { s.twin with fault := 0 } }
    let s := s.onlyIf s.linkUp fun s => { s with twin := { s.twin with upAge := s.twin.upAge + 1 } }
    s.resyncTick.regainEligible.discover.partnerAppears

end Sys2Proof.Machine
end

