-- ==== Sys2Proof/Machine/Boundary.lean ====
section
/-! DEFINITION. The core-frame boundary and the superframe boundary: every boundary-timed action in its order
(spec/07_slot_core.md R173 to R176, R190, R193; spec/02_modes.md R33, R37; spec/08_protection_skew.md R211, R216, R221,
R230; spec/12_twin.md R331 to R349; spec/16_security.md R433, R441).

Readings fixed here (notes/assumptions): 48 DEDUCED, 107 DESIGN CHOICE. -/

namespace Sys2Proof.Machine

/-- Scheduled key switches and disables of associations at a boundary (R433, R441): a switch at the core frame, or at the
superframe that begins. -/
def State.saBoundary (s : State) (newSf : Option Nat) : State :=
  s.sec.sas.foldl (fun (s : State) e =>
    let v := e.2
    if v.disabling then s.saOff e.1
    else
      let due := match v.switchSf with
        | none => false
        | some none => true
        | some (some t) => newSf == some t
      if due then s.setSa e.1 { s.sa e.1 with switchDue := true } else s) s

/-- A lane's test-pattern checker ran in the core frame that ends (R277, R280): bits checked, errors counted, where the checker of a
raw lane is on and the lane is READY. -/
def prbsCount (s : State) (e : Nat × Nat × Nat) : State :=
  if s.laneFormat e.1 = 0 ∧ s.flag (F.lane_TEST_CTRL_CHK_EN e.1) = true then
    (s.lcadd e.1 (F.lane_PRBS_BITS_C e.1) e.2.1).lcadd e.1 (F.lane_PRBS_ERR_C e.1) e.2.2
  else s

/-- CORE_CLK time passes by the length of the core frame that ends with number `frame` (R11, R173, R209, R409). -/
def State.frameTime (s : State) (frame : Nat) : State :=
  let n := s.frameCycles frame
  let ms := s.msPassed n
  let us := (s.core.cycles + n) / 1600 - s.core.cycles / 1600
  let s := s.timeEvents n us
  let s := { s with core := { s.core with cycles := s.core.cycles + n }, odu := { s.odu with framesSinceTick := s.odu.framesSinceTick + 1 } }
  s.onlyIf (ms != 0) fun s => (s.pgs.filter fun g => !(s.run g).ecc).foldl (State.pgMs ms) s

/-- What ends with a core frame: errors found in it, the words written in it, and its time. -/
def State.frameEnds (s : State) (f : CoreFrame) (frame : Nat) : State :=
  let s := ((s.cmErrors f).selfChecks f).skewErrors f
  let s := (s.writeSide f).lanesTaken
  (f.prbs.foldl prbsCount s).frameTime frame

/-- RELEASE of every group that waits for it takes effect (R228). -/
def State.releases (s : State) : State :=
  ((s.prot.aligners.filter fun e => e.2.releasing).map Prod.fst).foldl State.releaseNow s

/-- Selectors and aligners at a core-frame boundary (R12, R48, R211, R220, R221, R228, R230, R231). -/
def State.protBoundary (s : State) : State :=
  let s := s.drainStep.releases
  let s := s.pgs.foldl State.selectorBoundary s
  let s := s.pgs.foldl State.precSwitch s
  let s := { s with prot := { s.prot with fresh := [] } }
  ((s.prot.aligners.map Prod.fst).foldl State.residual s).alignerChecks

/-- The counts of a core frame begin again: replacement signal of the ingress groups (R153), ports with uncorrected
codewords (R347). -/
def State.frameStarts (s : State) : State :=
  { s with core := { s.core with repl := s.ingressGroups.filter s.replNow, fecBad1 := s.core.fecBad, fecBad := [] } }

/-- What a core-frame boundary does before words are read for the core frame that begins, `frame` of superframe `sf`. -/
def State.boundaryActions (s : State) (sf frame : Nat) : State :=
  let s := (s.protBoundary.swapDue sf frame).saBoundary (if frame = 0 then some (sf % 2 ^ 32) else none)
  (List.range 256).foldl State.laneBoundary s

/-- What the end of superframe `sf` brings: the twin block, mode entries (R33, R37, R331, R333). -/
def State.superframeActions (s : State) (sf : Nat) : State :=
  (s.twinBoundary sf).copyDrained.takeModeReq

/-- A core-frame boundary (R173); `super`: it begins a superframe (R175). -/
def State.frameBoundary (s : State) (f : CoreFrame) (super : Bool) : State :=
  let sf := s.cget F.core_SF_COUNT_C
  let frame := s.fget F.core_CORE_STATUS_FRAME
  let s := s.bondsRelease
  let s := ((s.bondTakes f).markNew sf frame).frameEnds (s.withLanes (s.withBond f)) frame
  let s := (s.fset F.core_CORE_STATUS_FRAME (if super then 0 else frame + 1)).cset F.core_SF_COUNT_C (sf + b2n super)
  let s := s.fput F.core_CORE_STATUS_TRACKING s.tracks
  let s := s.boundaryActions (sf + b2n super) (if super then 0 else frame + 1)
  let s := if super then s.testLane (s.superframeActions sf) else s
  let s := s.mirrorStep
  s.frameStarts.readSide.lanesOut.foreOut.coreTestStep

/-- CORE_FRAME_BOUNDARY (R173): after core frame 31 a superframe begins (R175). -/
def execCoreFrameBoundary (f : CoreFrame) (s : State) : Host.Outcome State Fault Refusal :=
  finish s (s.whenLive fun s => s.frameBoundary f (decide (31 ≤ s.fget F.core_CORE_STATUS_FRAME)))

/-- SUPERFRAME_BOUNDARY (R175): the core-frame boundary that begins a superframe. -/
def execSuperframeBoundary (f : CoreFrame) (s : State) : Host.Outcome State Fault Refusal :=
  finish s (s.whenLive fun s => s.frameBoundary f true)

end Sys2Proof.Machine
end

