-- ==== Sys2Proof/Machine/BusOps.lean ====
section
/-! DEFINITION. Bursts on the bus matrix: permissions, arbitration and what a burst does at its target
(spec/15_bus_counters.md R398 to R407; spec/03_registers.md R54, R70).

Readings fixed here (notes/assumptions): 23 DESIGN CHOICE, 27 DEDUCED, 28 DESIGN CHOICE, 29 DEDUCED, 30 DEDUCED, 86
DESIGN CHOICE, 115 DESIGN CHOICE. -/

namespace Sys2Proof.Machine

/-- Beats of an access that begins `k` bytes into a DWORD, as the aligned accesses it is split into: each beat's bytes go `k`
places up, the upper ones into the next DWORD; (byte enables, data) of the bytes carried over come first (R70). -/
def splitBeats (k : Nat) : Nat × Nat → List (Nat × Nat) → List (Nat × Nat)
  | c, [] => if c.1 = 0 then [] else [c]
  | c, b :: l =>
    (c.1 + b.1 * 2 ^ k % 16, c.2 + b.2 * 256 ^ k % 2 ^ 32) :: splitBeats k (b.1 / 2 ^ (4 - k), b.2 / 256 ^ (4 - k)) l

/-- An internal master's access that crosses a DWORD boundary is split into the DWORD accesses it covers (R70). -/
def splitReq (r : BusReq) : BusReq :=
  let k := r.addr % 4
  if k = 0 then r
  else { r with
    addr := r.addr - k
    op := match r.op with
      | .read l => .read ((splitBeats k (0, 0) (l.map fun b => (b, 0))).map Prod.fst)
      | .write l => .write (splitBeats k (0, 0) l) }

/-- The internal address that a master's address reaches: Warden's are of 32 bits, and its window begins at WARDEN_WIN.BASE
(R398, R445); the last page of PF1's BAR0 is the user counter page, T3 (R382, R384). -/
def State.reached (s : State) (r : BusReq) : BusReq :=
  if r.master = .warden ∧ 0x40000000 ≤ r.addr ∧ r.addr < 0x80000000 then
    { r with addr := s.fget F.wwin_WARDEN_WIN_BASE * 2 ^ 30 + r.addr % 2 ^ 30 }
  else if r.master = .pf1 ∧ 0x3FF0000 ≤ r.addr ∧ r.addr < 0x4000000 then
    { r with addr := 0x30000000 + r.addr % 0x10000 }
  else r

/-- The block whose page address `a` of the register aperture names. -/
def addrPage (a : Nat) : Nat := a / 0x10000 % 0x1000

/-- A control core in U mode reaches only T2 and T3 (R399). -/
def coreU (r : BusReq) : Bool := isCore r.master && r.mode == .u

/-- Every DWORD of a shielded page's burst is one that the matrix answers itself (R405). -/
def shieldExempt (r : BusReq) : Bool :=
  !reqWrite r && (List.range (reqDwords r)).all fun i => decide ((r.addr + 4 * i) % 0x4000 / 4 < 3)

/-- The error response of a burst at T0, if any: 1 DECODE, 2 PERM, 3 RESET (R54, R70, R399, R405). -/
def State.regResp (s : State) (r : BusReq) : Resp :=
  let n := reqDwords r
  let last := r.addr + 4 * (n - 1)
  if coreU r then 2
  else if 16 < n || r.addr / 0x4000 != last / 0x4000 then 1
  else match s.gate r.master (addrPage r.addr) (reqWrite r) with
    | .decode => 1
    | .shield => if shieldExempt r then 0 else 3
    | _ => 0

/-- The beats of a read before which no word is uncorrectable, where its operand names one that is (R403). -/
def badAt (r : BusReq) : Option Nat := if reqWrite r then none else r.badBeat.filter (· < reqDwords r)

/-- The error response of a burst at stack `i` (R399, R403, R405): 2 PERM, 3 RESET, 4 DATA at an uncorrectable word, or while
the stack is not READY. -/
def State.memResp (s : State) (i off : Nat) (r : BusReq) : Resp :=
  let ok := fun (k : Nat) =>
    let o := off + 4 * k
    decide (o < 2 ^ 35) && memPermitted r.master (reqWrite r) (s.ctxBits (coldContext i o) 0 0 4) i o
  if s.bus.shield.contains (0x2B0 + i) then 3
  else if coreU r || !(List.range (reqDwords r)).all ok then 2
  else if !s.ready (0x2B0 + i) || (badAt r).isSome then 4
  else 0

/-- The response of a burst at its target. -/
def State.burstResp (s : State) (t off : Nat) (r : BusReq) : Resp :=
  let n := reqDwords r
  if t = 0 then s.regResp r
  else if 64 < n then 1
  else if t = 1 then
    if 0x1000000 < off + 4 * n then 1
    else if coreU r || (reqWrite r && !(r.master == .warden && decide (0xFFF000 ≤ off))) then 2 else 0
  else if t = 2 then
    if 0x800000 < off + 4 * n then 1
    else if r.master == .warden || r.master == .debug || isCore r.master then 0 else 2
  else if t = 3 then (if 0x10000 < off + 4 * n then 1 else 0)
  else s.memResp (t - 4) off r

/-- CTL_CORE_CTRL takes writes from control cores in M mode only (R444). -/
def coreCtrlDenied (r : BusReq) (a : Nat) : Bool := isCore r.master && r.mode != .m && addrPage a == 0x280 && a % 0x4000 == 0x50

/-- A beat of a write at its target. -/
def State.writeBeat (s : State) (t : Nat) (r : BusReq) (off be data : Nat) : State :=
  if t = 0 then
    (if coreCtrlDenied r off then s.logErr 0x280 5 (masterId r.master) (off / 0x4000 % 4) 0x50
     else s.regWrite r.master (addrPage off) (off % 0x4000) (off / 0x4000 % 4) be data)
  else if t = 1 then
    { s with svc := { s.svc with epochs := spPut 0 s.svc.epochs ((off - 0xFFF000) / 4) (data % 2 ^ 32) } }
  else if t = 2 then
    (List.range 4).foldl (fun (s : State) i =>
      if bitOf be i then { s with sram := spPut 0 s.sram (off + i) (BitVec.ofNat 8 (data / 256 ^ i)) } else s) s
  else if t = 3 then s
  else s.memWriteBe (t - 4) off be data

/-- The beats of a write from the `k`-th on. -/
def State.writeBeats (s : State) (t : Nat) (r : BusReq) (off : Nat) : List (Nat × Nat) → State
  | [] => s
  | (be, data) :: l => (s.writeBeat t r off be data).writeBeats t r (off + 4) l

/-- A DWORD at a target. -/
def State.readBeat (s : State) (t : Nat) (m : Master) (off : Nat) : State × Nat :=
  if t = 0 then
    (let x := s.readDw m off
     (x.1, x.2.1))
  else if t = 1 then (s, s.mramDw m off)
  else if t = 2 then (s, leNat ((List.range 4).map fun i => (spGet 0 s.sram (off + i) : Byte).toNat))
  else if t = 3 then (s, s.userView off)
  else (s.cadd (F.mem_RD_BYTES_C (t - 4)) 4, leNat (s.memRead (t - 4) off 4))

/-- Records of a burst at the connection memory join: entries that follow one another make one record (R340 type 2). -/
def joinRecs : List TwinRec → List TwinRec
  | [] => []
  | r :: l => match r.body, joinRecs l with
    | .cmBurst a x, q :: t => (match q.body with
      | .cmBurst b y => if b = a + x.length then { r with body := .cmBurst a (x ++ y) } :: t else r :: q :: t
      | _ => r :: q :: t)
    | _, t => r :: t

/-- The twin journal records of a burst that took `s` to `s'` (R340). -/
def State.burstRecords (s s' : State) : State :=
  let n := s.twin.urgent.length
  let l := (joinRecs (s'.twin.urgent.drop n)).mapIdx fun i r => { r with seq := (s.twin.recSeq + i) % 2 ^ 16 }
  if s'.twin.urgent.length ≤ n + 1 || s'.twin.bulkQ.length != s.twin.bulkQ.length then s'
  else { s' with twin := { s'.twin with urgent := s'.twin.urgent.take n ++ l, recSeq := (s.twin.recSeq + l.length) % 2 ^ 16 } }

/-- The DWORDs of a read, each with its enabled bytes (R70), and the state after it. -/
def State.readBeats (s : State) (t : Nat) (m : Master) (off : Nat) : List Nat → State × List Nat
  | [] => (s, [])
  | be :: l =>
    let x := s.readBeat t m off
    let y := x.1.readBeats t m (off + 4) l
    (y.1, (x.2 &&& beMask be) :: y.2)

/-- What an error response logs and counts (R404, R403): codes 0xA DECODE, 0xC PERM, 0xB SHIELD; an uncorrectable word is
logged by its stack, as its counter and its interrupt (R239); PCIe reports Unsupported Request for DECODE and PERM. -/
def State.respError (s : State) (r : BusReq) (resp : Resp) : State :=
  let s := match resp with
    | 1 => s.mxError 0xA (masterId r.master) r.addr
    | 2 => s.mxError 0xC (masterId r.master) r.addr
    | 3 => s.mxError 0xB (masterId r.master) r.addr
    | 4 => (match badAt r, targetOf r.addr with
      | some k, some (t, _) =>
        ((s.cadd (F.mem_RD_BYTES_C (t - 4)) (4 * (k + 1))).cadd (F.mem_ECC_UNCORR_C (t - 4)) 1).raise (0x2B0 + (t - 4)) 0
      | _, _ => s)
    | _ => s
  if (r.master = .pf0 || r.master = .pf1) && (resp == 1 || resp == 2) then s.cadd F.pcie_UR_SENT_C 1 else s

/-- BLK_STATUS.PROV of a burst's target block (R414). -/
def State.targetProv (s : State) (t : Nat) (r : BusReq) : Bool := t == 0 && s.provBit (addrPage r.addr)

/-- The events of a completed burst (R409). -/
def respEvents (n : Nat) (resp : Resp) : List (Nat × Nat) :=
  if resp = 0 then [(1, n), (2, 4 * n)] else [(4, 1)] ++ (if resp = 3 then [(5, 1)] else [])

/-- What a granted burst does and answers: the state, the response and the DWORDs read; `k` beats of it were accepted
before, and `prov` is the target's PROV at the grant. -/
def State.perform (s : State) (t off : Nat) (r : BusReq) (k : Nat) (prov : Bool) : State × Resp × List Nat :=
  let resp := s.burstResp t off r
  let n := if resp = 0 then reqDwords r else if resp = 4 then (badAt r).getD k else k
  let done : State × List Nat :=
    if resp ≠ 0 then (s.respError r resp, errData r resp)
    else match r.op with
      | .write l => (s.burstRecords (s.writeBeats t r (off + 4 * k) (l.drop k)), [])
      | .read l => s.readBeats t r.master off l
  let txn := txnOf r t n resp prov
  ((done.1.sampleTxn txn).busEvents r txn (respEvents n resp), resp, done.2)

/-- A granted burst completes, and its master has the response. -/
def State.burst (s : State) (t off : Nat) (r : BusReq) (k : Nat) (prov : Bool) : State :=
  let x := s.perform t off r k prov
  x.1.emit (.busReply (masterId r.master) x.2.1 x.2.2)

/-- An access of one DWORD that a block of the device makes for itself, granted at once. -/
def State.access (s : State) (m : Master) (addr : Nat) (op : BusOp) : State × Resp × List Nat :=
  let r : BusReq := { master := m, mode := .m, addr := addr / 4 * 4, op := op }
  match targetOf r.addr with
  | none => (s.respError r 1, 1, [])
  | some (t, off) =>
    let prov := s.targetProv t r
    (s.busEvents r (txnOf r t 0 0 prov) [(0, 1)]).perform t off r 0 prov

/-! ## Arbitration (R400, R401) -/

/-- Reset priority of each master (R400). -/
def prioReset (m : Nat) : Nat := [4, 1, 7, 3, 3, 3, 3, 3, 3, 3, 3, 3, 2, 5, 6, 5].getD m 0

/-- Priority of a master at a target (R400). -/
def State.prio (s : State) (m t : Nat) : Nat := s.fget ⟨0x271, 0x40 + 8 * m, 4 * t, 3, prioReset m⟩

/-- Rank of a waiting request: the greater goes first. Aged requests come before all others, oldest first; the others by
priority, then round-robin after the master last granted, then in the order issued (R401, R402). -/
def State.rank (s : State) (w : Waiting) : Nat :=
  let m := masterId w.req.master
  let p := s.prio m w.target
  let last := spGet 15 s.bus.lastGrant (w.target * 16 + p)
  let turn := (last + 16 - m) % 16
  if w.aged then 2 ^ 70 - w.id else (p * 16 + turn) * 2 ^ 60 - w.id + 2 ^ 60

/-- The waiting request that a target grants next. -/
def State.nextGrant (s : State) (t : Nat) : Option Waiting :=
  (s.bus.waiting.filter fun w => w.target == t).foldl (fun b w => match b with
    | none => some w
    | some v => if s.rank v < s.rank w then some w else some v) none

/-- A request is granted: it leaves the queue, and its turn passes. -/
def State.granted (s : State) (w : Waiting) : State :=
  let m := masterId w.req.master
  let s := { s with bus := { s.bus with
    waiting := s.bus.waiting.filter fun (v : Waiting) => v.id != w.id
    lastGrant := if w.aged then s.bus.lastGrant else spSet s.bus.lastGrant (w.target * 16 + s.prio m w.target) m } }
  s.busEvents w.req (txnOf w.req w.target 0 0 (s.targetProv w.target w.req)) [(0, 1)]

/-- Offset of a request in its target. -/
def reqOff (r : BusReq) : Nat :=
  match targetOf r.addr with
  | some e => e.2 / 4 * 4
  | none => 0

/-- A granted burst of which only `k` beats have been accepted yet: a register target stages them, a memory target holds
them already (R71, R407). -/
def State.partBurst (s : State) (w : Waiting) (k : Nat) : State :=
  if s.burstResp w.target (reqOff w.req) w.req ≠ 0 then
    s.burst w.target (reqOff w.req) w.req 0 (s.targetProv w.target w.req)
  else
    let s := match w.req.op with
      | .write l => if w.target = 0 then s else s.writeBeats w.target w.req (reqOff w.req) (l.take k)
      | .read _ => s
    { s with bus := { s.bus with inProg := s.bus.inProg ++
        [{ req := w.req, target := w.target, beats := k, prov := s.targetProv w.target w.req }] } }

/-- A target serves its waiting requests, at most `n`; request `id` stays in progress after `part` beats, and ends the
round. -/
def State.serve (t id : Nat) (part : Option Nat) : Nat → State → State
  | 0, s => s
  | n + 1, s =>
    match s.nextGrant t with
    | none => s
    | some w =>
      let s := s.granted w
      match (if w.id = id then part else none) with
      | some k =>
        if k < reqDwords w.req then s.partBurst w k
        else State.serve t id part n (s.burst t (reqOff w.req) w.req 0 (s.targetProv t w.req))
      | none => State.serve t id part n (s.burst t (reqOff w.req) w.req 0 (s.targetProv t w.req))

/-- The bursts in progress at a target complete. -/
def State.finishBursts (s : State) (t : Nat) : State :=
  let l := s.bus.inProg.filter fun b => b.target == t
  let s := { s with bus := { s.bus with inProg := s.bus.inProg.filter fun b => b.target != t } }
  l.foldl (fun (s : State) b =>
    s.burst t (reqOff b.req) b.req (if t = 0 then 0 else b.beats) b.prov) s

/-- A master issues a burst, a PCI Express function's to its BAR4 apart (R382, R401): it waits for its target, which serves the requests that wait unless it is busy. -/
def State.busRequest (s : State) (r : BusReq) (busy : Bool) (part : Option Nat) : State :=
  match bar4Of r, targetOf r.addr with
  | some e, _ => s.bar4 r e.1 e.2
  | none, none => ((s.respError r 1).busEvents r (txnOf r 15 0 1 false) [(4, 1)]).emit (.busReply (masterId r.master) 1 [])
  | none, some (t, _) =>
    let id := s.bus.nextId
    let s := { s with bus := { s.bus with nextId := id + 1, waiting := s.bus.waiting ++ [{ id := id, req := r, target := t }] } }
    if busy then s
    else
      let s := s.finishBursts t
      State.serve t id part s.bus.waiting.length s

/-- A waiting request passes AGE_LIMIT (R401). -/
def State.ageRequest (s : State) (id : Nat) : State :=
  match s.bus.waiting.find? fun w => w.id == id && !w.aged with
  | none => s
  | some w =>
    let s := { s with bus := { s.bus with
      waiting := s.bus.waiting.map fun (v : Waiting) => if v.id = id then { v with aged := true } else v } }
    (s.cadd F.mx_AGE_PROMOTIONS_C 1).busEvents w.req (txnOf w.req w.target 0 0 (s.targetProv w.target w.req)) [(6, 1)]

end Sys2Proof.Machine
end

