-- ==== Sys2Proof/Machine/BusFam.lean ====
section
/-! DEFINITION. The commands of the bus matrix, the event counters and the sampler (spec/15_bus_counters.md). -/

namespace Sys2Proof.Machine

/-- BUS_REQUEST (R70, R401): outside a powered device only the registers of R33 answer. -/
def execBusRequest (r : BusReq) (busy : Bool) (beats : Option Nat) (s : State) : Host.Outcome State Fault Refusal :=
  finish s (if s.live || r.addr < 0x10000000 then s.busRequest (splitReq (s.reached r)) busy beats else s)

/-- AGE_LIMIT_EXPIRY (R401). -/
def execAgeLimitExpiry (id : Nat) (s : State) : Host.Outcome State Fault Refusal :=
  finish s (s.whenLive fun s => s.ageRequest id)

/-- MASTER_RESET (R406, R407): Warden is reset only by a full reset. -/
def execMasterReset (m : Master) (s : State) : Host.Outcome State Fault Refusal :=
  finish s (s.whenLive fun s => if m = .warden then s else s.masterReset m)

/-- COUNTER_OVERFLOW (R412). -/
def execCounterOverflow (k : Fin 32) (s : State) : Host.Outcome State Fault Refusal :=
  finish s (s.whenLive fun s => s.counterPasses k.val)

/-- SAMPLE_RECORD_WRITE (R413, R414). -/
def execSampleRecordWrite (k : Fin 32) (payload : List Word) (s : State) : Host.Outcome State Fault Refusal :=
  finish s (s.whenLive fun s => s.sampleWrite k.val (payload.map BitVec.toNat))

/-- FREEZE_WRITE (R411). -/
def execFreezeWrite (m : Master) (frozen halt : Bool) (s : State) : Host.Outcome State Fault Refusal :=
  finish s (s.regWrite m 0x272 0x40 0 0xF (b2n frozen + 2 * b2n halt))

end Sys2Proof.Machine
end

