-- ==== Sys2Proof/Machine/Carrier.lean ====
section
/-! DEFINITION. The commands of the coherent carriers (spec/04_coherent_carrier.md, spec/08_protection_skew.md R229). -/

namespace Sys2Proof.Machine

/-- Numbers of a byte list. -/
def natBytes (l : List Byte) : List Nat := l.map BitVec.toNat

/-- CARRIER_RATE_WRITE (R82): RATE, or SLOT. -/
def execCarrierRateWrite (m : Master) (c : Fin 2) (slot : Bool) (be : Fin 16) (data : Word) (s : State) :
    Host.Outcome State Fault Refusal :=
  let off := if slot then 0x44 else 0x40
  finish s (s.viaPage m (carPage c.val) off 0 be.val data.toNat fun s => s.rateWrite m c.val off 0 be.val data.toNat)

/-- RATE_EVALUATION_DONE (R81). -/
def execRateEvaluationDone (c : Fin 2) (s : State) : Host.Outcome State Fault Refusal :=
  finish s (s.whenLive fun s => s.rateDone c.val)

/-- CARRIER_ENABLE (R81, R98). -/
def execCarrierEnable (m : Master) (c : Fin 2) (s : State) : Host.Outcome State Fault Refusal :=
  finish s (s.viaPage m (carPage c.val) 0xC 0 1 1 fun s => s.carEnable c.val (masterId m))

/-- ENGINE_POWER_ON (R98). -/
def execEnginePowerOn (m : Master) (c : Fin 2) (s : State) : Host.Outcome State Fault Refusal :=
  finish s (s.viaPage m (carPage c.val) 0x58 0 1 1 fun s => s.engineWrite m c.val true)

/-- ENGINE_POWERED (R98). -/
def execEnginePowered (c : Fin 2) (s : State) : Host.Outcome State Fault Refusal :=
  finish s (s.whenLive fun s => s.enginePowered c.val)

/-- ENGINE_POWER_OFF (R100). -/
def execEnginePowerOff (m : Master) (c : Fin 2) (s : State) : Host.Outcome State Fault Refusal :=
  finish s (s.viaPage m (carPage c.val) 0x58 0 1 0 fun s => s.engineWrite m c.val false)

/-- TX_ENABLE_WRITE (R99). -/
def execTxEnableWrite (m : Master) (c : Fin 2) (be : Fin 16) (data : Word) (s : State) : Host.Outcome State Fault Refusal :=
  finish s (s.viaPage m (carPage c.val) 0x50 0 be.val data.toNat fun s => s.txWrite m c.val 0 be.val data.toNat)

/-- FOREGROUND_CALIBRATION (R97). -/
def execForegroundCalibration (m : Master) (c : Fin 2) (s : State) : Host.Outcome State Fault Refusal :=
  finish s (s.viaCmd m (carPage c.val + 2) 0x40 1 fun s => s.calCmd m c.val 1)

/-- CONVERTER_LOOP_TEST (R97). -/
def execConverterLoopTest (m : Master) (c : Fin 2) (s : State) : Host.Outcome State Fault Refusal :=
  finish s (s.viaCmd m (carPage c.val + 2) 0x40 2 fun s => s.calCmd m c.val 2)

/-- CALIBRATION_DONE (R97, R98). -/
def execCalibrationDone (c : Fin 2) (fail : Byte) (ms : Fin 65536) (res : List (Nat × Int)) (s : State) :
    Host.Outcome State Fault Refusal :=
  finish s (s.whenLive fun s => s.calEnd c.val fail.toNat ms.val res)

/-- BACKGROUND_CALIBRATION (R96). -/
def execBackgroundCalibration (c : Fin 2) (k : Fin 8) (gain time : Int) (s : State) : Host.Outcome State Fault Refusal :=
  finish s (s.whenLive fun s => s.bgCal c.val k.val gain time)

/-- CARRIER_SIG_FALL (R92, R366). -/
def execCarrierSigFall (c : Fin 2) (s : State) : Host.Outcome State Fault Refusal :=
  finish s (s.whenLive fun s =>
    let had := s.flag (F.car_RX_STATUS_SIG c.val)
    (s.carSigFall c.val).onlyIf had fun s => s.gaspEvent c.val 2)

/-- CARRIER_SIG_RISE (R92). -/
def execCarrierSigRise (c : Fin 2) (s : State) : Host.Outcome State Fault Refusal :=
  finish s (s.whenLive fun s => s.carSigRise c.val)

/-- FREEZE_EXPIRY (R92). -/
def execFreezeExpiry (c : Fin 2) (s : State) : Host.Outcome State Fault Refusal :=
  finish s (s.whenLive fun s => s.freezeExpires c.val)

/-- RX_STAGE_ADVANCE (R98). -/
def execRxStageAdvance (c : Fin 2) (est : DspEst) (s : State) : Host.Outcome State Fault Refusal :=
  finish s (s.whenLive fun s => s.stageAdvance c.val est)

/-- ADC_POWER_STEP (R229). -/
def execAdcPowerStep (c : Fin 2) (db : Nat) (s : State) : Host.Outcome State Fault Refusal :=
  finish s (s.whenLive fun s => s.powerStep c.val db)

/-- PRECURSOR_WINDOW_END (R229): for each carrier, the pilots of the window and those wrong. -/
def execPrecursorWindowEnd (pilots0 wrong0 pilots1 wrong1 : Nat) (s : State) : Host.Outcome State Fault Refusal :=
  finish s (s.whenLive fun s => ((s.judgeWindow 0 pilots0 wrong0).judgeWindow 1 pilots1 wrong1).precWindowEnds)

/-- ADC_CLIP_CHECK (R105): the 1 ms window's samples at full scale, and the receiver's estimates. -/
def execAdcClipCheck (c : Fin 2) (est : DspEst) (clipped samples : Nat) (s : State) : Host.Outcome State Fault Refusal :=
  finish s (s.whenLive fun s => s.msWindow c.val est clipped samples)

/-- CAPTURE_ARM (R101): a write of CAPTURE_CTRL with ARM = 1. -/
def execCaptureArm (m : Master) (c : Fin 2) (data : Word) (s : State) : Host.Outcome State Fault Refusal :=
  let d := setBits data.toNat 0 1 1
  finish s (s.viaCmd m (carPage c.val + 5) 0x40 d fun s => s.capCmd m c.val d)

/-- CAPTURE_ABORT (R105). -/
def execCaptureAbort (m : Master) (c : Fin 2) (s : State) : Host.Outcome State Fault Refusal :=
  finish s (s.viaCmd m (carPage c.val + 5) 0x40 2 fun s => s.capCmd m c.val 2)

/-- CAPTURE_TRIGGER (R101): the cycle of the trigger, and the samples before and after it, oldest first. -/
def execCaptureTrigger (c : Fin 2) (cycle : Fin 1153) (before after : List Byte) (s : State) :
    Host.Outcome State Fault Refusal :=
  finish s (s.whenLive fun s => s.capTrigger c.val cycle.val (natBytes before) (natBytes after))

/-- CAPTURE_COPY_DONE (R101). -/
def execCaptureCopyDone (c : Fin 2) (s : State) : Host.Outcome State Fault Refusal :=
  finish s (s.whenLive fun s => s.capCopied c.val)

/-- HISTOGRAM_DONE (R103). -/
def execHistogramDone (c : Fin 2) (cycle : Fin 1153) (x y : List Nat) (s : State) : Host.Outcome State Fault Refusal :=
  finish s (s.whenLive fun s => s.histDone c.val cycle.val x y)

/-- FE_COMMAND (R104, R105). -/
def execFeCommand (m : Master) (c : Fin 2) (data : Word) (s : State) : Host.Outcome State Fault Refusal :=
  finish s (s.viaCmd m (carPage c.val + 1) 0x40 data.toNat fun s => s.feCmd m c.val data.toNat)

/-- FE_TRANSACTION_DONE (R105). -/
def execFeTransactionDone (c : Fin 2) (ack : Bool) (bytes : List Byte) (s : State) : Host.Outcome State Fault Refusal :=
  finish s (s.whenLive fun s => s.feDone c.val ack (natBytes bytes))

end Sys2Proof.Machine
end

