-- ==== Sys2Proof/Machine/DbgOps.lean ====
section
/-! DEFINITION. The debug port, its view of the control cores, and the TAP (spec/17_service_debug.md R465 to R472).

Readings fixed here (notes/assumptions): 7 DESIGN CHOICE, 27 DEDUCED, 94 DEDUCED, 97 DEDUCED, 98 DEDUCED, 99 PRESUMED,
108 DESIGN CHOICE. -/

namespace Sys2Proof.Machine

/-! ## Replies (R466) -/

/-- The reply codes. -/
inductive DbgCode | done | pending | error | denied | check
deriving DecidableEq, Repr

/-- A reply code as it is sent. -/
def DbgCode.bits : DbgCode → Nat
  | .done => 1 | .pending => 2 | .error => 4 | .denied => 8 | .check => 16

/-- The port answers a frame. -/
def State.dbgSay (s : State) (tag : Nat) (c : DbgCode) : State := s.emit (.dbgReply tag c.bits none)

/-- The port answers a read with its data. -/
def State.dbgData (s : State) (tag v : Nat) : State := 
  let d := v % 2 ^ 32
  s.emit (.dbgReply tag DbgCode.done.bits (some (d, crc16 ([tag % 8 * 32 + DbgCode.done.bits] ++ beBytes 4 d))))

/-- The CRC-16 of a frame, over HDR and, for a write, DATA (R466). -/
def dbgCrc (wr : Bool) (tag reg data : Nat) : Nat :=
  crc16 (beBytes 2 (b2n wr * 32768 + tag % 8 * 4096 + reg % 128) ++ (if wr then beBytes 4 data else []))

/-- PORT_ERR records an error with the TAG of its frame (R467, R468). -/
def State.dbgErr (s : State) (tag code : Nat) : State :=
  { s with dbg := { s.dbg with errCode := code, errTag := tag, errCount := min 255 (s.dbg.errCount + 1) } }

/-! ## Registers and rights (R468) -/

/-- What the Locked column of a register asks. -/
inductive DbgLock | open_ | bus | core
deriving DecidableEq, Repr

/-- The registers of R468, each with its Locked column. -/
def dbgReg (reg : Nat) : Option DbgLock :=
  if reg ≤ 2 || (4 ≤ reg && reg ≤ 0xE) then some .open_
  else if 0x10 ≤ reg && reg ≤ 0x14 then some .bus
  else if (0x18 ≤ reg && reg ≤ 0x1E) || (0x20 ≤ reg && reg ≤ 0x2F) then some .core
  else none

/-- The right is granted: core is bit 0 of RIGHTS, bus read bit 1, bus write bit 2 (R470). -/
def State.dbgRight (s : State) (l : DbgLock) : Bool :=
  match l with
  | .open_ => true
  | .bus => s.dbg.rights / 2 % 4 != 0
  | .core => bitOf s.dbg.rights 0

/-- The port is closed (R471). -/
def State.dbgOff (s : State) : Bool := s.flag F.dbg_DBG_CTRL_DBG_OFF

/-- The frames that an access in progress keeps waiting (R467). -/
def dbgWaits (wr : Bool) (reg : Nat) : Bool :=
  (wr && (reg == 0x10 || reg == 0x11 || reg == 0x12 || reg == 0x13)) || (!wr && reg == 0x12)

/-! ## Control cores (R468, R471) -/

/-- A control core as the port sees it. -/
def State.cpu (s : State) (k : Nat) : CoreState := spGet {} s.dbg.cores k

/-- Replace it. -/
def State.setCpu (s : State) (k : Nat) (c : CoreState) : State :=
  { s with dbg := { s.dbg with cores := spPut {} s.dbg.cores k c } }

/-- The core is held in reset (R445). -/
def State.cpuInReset (s : State) (k : Nat) : Bool := !bitOf (s.fget F.sec_CTL_CORE_CTRL_RUN) k

/-- The mode a core is in when it stops: a free value, for the spec gives no program's course. -/
def freeMode (n : Nat) : CpuMode :=
  match Config.freeValue n % 3 with
  | 0 => .u
  | 1 => .s
  | _ => .m

/-- A core stops with a cause (R468, R471): what it has run leaves its registers and mode as free values. -/
def State.cpuStop (s : State) (k cause : Nat) : State :=
  let c := s.cpu k
  ((s.setCpu k { c with halted := true, cause := cause, mode := freeMode s.free, tag := c.tag + 1, regs := [] }).tick).freezeOnHalt

/-- HALT: a released core that runs stops (R471). -/
def State.cpuHalt (s : State) (k cause : Nat) : State :=
  if s.cpuInReset k || (s.cpu k).halted then s else s.cpuStop k cause

/-- RESUME: a halted core runs on (R471). -/
def State.cpuRun (s : State) (k : Nat) : State :=
  let c := s.cpu k
  if c.halted then s.setCpu k { c with halted := false, tag := c.tag + 1, regs := [] } else s

/-- CPU_CTL is written (R468, R471). A pending request for Service may find every core halted. -/
def State.cpuCtl (s : State) (tag op : Nat) : State :=
  let k := s.dbg.cpuSel
  match op with
  | 1 => if s.cpuInReset k then s.dbgSay tag .error else (s.cpuHalt k 1).dbgSay tag .done
  | 2 => if s.cpuInReset k then s.dbgSay tag .error else ((s.cpuRun k).serviceIfHalted).dbgSay tag .done
  | 3 => if s.cpuInReset k then s.dbgSay tag .error else (s.cpuStop k 3).dbgSay tag .done
  | 4 => ((List.range 8).foldl (fun s j => s.cpuHalt j 1) s).dbgSay tag .done
  | 5 => (((List.range 8).foldl State.cpuRun s).serviceIfHalted).dbgSay tag .done
  | _ => s.dbgSay tag .error

/-- A register number that REG_NUM may name (R468). -/
def regNumOk (n : Nat) : Bool := n ≤ 0x1040

/-- A register of a halted core: what the debugger wrote, x0 as zero, otherwise a free value. -/
def State.cpuReg (s : State) (k num : Nat) : Nat :=
  if num = 0x1000 then 0
  else match (s.cpu k).regs.find? fun e => e.1 == num with
    | some e => e.2
    | none => Config.coreRegister k (s.cpu k).tag num % 2 ^ 64

/-- REG_CMD is written (R468). -/
def State.regCmd (s : State) (tag op : Nat) : State :=
  let k := s.dbg.cpuSel
  let c := s.cpu k
  if op = 0 || 2 < op then s.dbgSay tag .error
  else if !c.halted then (s.dbgErr tag 5).dbgSay tag .error
  else if !regNumOk s.dbg.regNum then s.dbgSay tag .error
  else if op = 1 then
    ({ s with dbg := { s.dbg with regVal := s.cpuReg k s.dbg.regNum } } : State).dbgSay tag .done
  else
    (if s.dbg.regNum = 0x1000 then s
      else s.setCpu k { c with regs := spSet c.regs s.dbg.regNum s.dbg.regVal }).dbgSay tag .done

/-- A breakpoint of core `k` is met (R468): the core halts, and with GROUP every other core too. -/
def State.breakHit (s : State) (k b : Nat) : State :=
  let bp := (s.cpu k).bps.getD b {}
  if s.cpuInReset k || (s.cpu k).halted || bp.ctl % 8 = 0 then s
  else
    let s := s.cpuHalt k 2
    if bitOf bp.ctl 3 then (List.range 8).foldl (fun s j => s.cpuHalt j 4) s else s

/-! ## Unlocking (R469, R470) -/

/-- The challenge now in force: 32 bytes. -/
def State.challenge (s : State) : List Nat := padTo 32 (Config.challenge s.dbg.challengeNo)

/-- TOKEN is written: 40 writes make a token. -/
def State.tokenWrite (s : State) (data : Nat) : State :=
  let t := if s.dbg.tokenBytes.length < 160 then s.dbg.tokenBytes else []
  { s with dbg := { s.dbg with tokenBytes := t ++ beBytes 4 data } }

/-- The unlock ends: rights and status, the SECURITY record, a new challenge. -/
def State.unlockEnds (s : State) (result rights : Nat) : State :=
  let ok := result == 0
  let s := s.onlyIf ok fun s => s.fset F.sec_SEC_STATUS_DEBUG_UNLOCKED 1
  let s := { s with dbg := { s.dbg with
    rights := if ok then rights else s.dbg.rights
    unlockState := if ok then 2 else 3
    unlockResult := result
    tokenBytes := []
    challengeNo := s.dbg.challengeNo + 1 } }
  s.jrnl 15 (masterId .debug) 0x280 [if ok then 1 else 2, result, rights]

/-- SUBMIT. -/
def State.unlockSubmit (s : State) (tag : Nat) : State :=
  if s.dbg.unlockState = 1 then s.dbgSay tag .pending
  else if s.fuses.lifecycle = .development then (s.unlockEnds 0 7).dbgSay tag .done
  else
    (({ s with dbg := { s.dbg with unlockState := 1, unlockResult := 0, unlockWait := true } } : State).mboxFollow).dbgSay tag .done

/-- Why a token does not unlock the port, in the codes of R431; 0 where it does. -/
def State.tokenResult (s : State) (t : List Nat) : Nat :=
  if !tokenForm t || beAt t 6 1 != 1 then 2
  else if !tokenSigned s t then 1
  else if beAt t 8 8 != Config.serial || slice t 16 32 != s.challenge then 9
  else 0

/-- Warden's check of the token ends, and the mailbox is released (R430, R469). -/
def State.unlockDone (s : State) : State :=
  if s.dbg.unlockState != 1 || s.dbg.unlockWait then s
  else
    let t := s.dbg.tokenBytes
    let r := s.tokenResult t
    let s := s.fsets [(F.sec_MBOX_STATUS_DONE, 1), (F.sec_MBOX_STATUS_RESULT, r), (F.sec_MBOX_STATUS_OUT_LEN, 0),
      (F.sec_MBOX_STATUS_MASTER, masterId .debug)]
    let s := (s.raise 0x280 0).onlyIf (r != 0) fun s => s.cadd F.sec_MBOX_REFUSED_C 1
    let s := s.onlyIf (s.mboxOwnedBy .debug) State.mboxRelease
    s.unlockEnds r (if r = 0 then beAt t 48 4 % 8 else 0)

/-- UNLOCK_CMD is written. -/
def State.unlockCmd (s : State) (tag op : Nat) : State :=
  match op with
  | 1 => s.unlockSubmit tag
  | 2 => ({ s with dbg := { s.dbg with rights := 0 } } : State).dbgSay tag .done
  | _ => s.dbgSay tag .error

/-! ## Bus accesses (R467) -/

/-- BUS_CMD is written. -/
def State.busCmd (s : State) (tag data : Nat) : State :=
  let rd := bitOf data 0
  let wr := bitOf data 1
  if rd == wr then s.dbgSay tag .error
  else if !bitOf s.dbg.rights (if wr then 2 else 1) then s.dbgSay tag .denied
  else ({ s with dbg := { s.dbg with busOp := some (wr, bitOf data 2, tag) } } : State).dbgSay tag .done

/-- The access in progress completes. -/
def State.busDone (s : State) : State :=
  match s.dbg.busOp with
  | none => s
  | some (wr, inc, tag) =>
    let x := s.access .debug s.dbg.busAddr (if wr then .write [(0xF, s.dbg.busData)] else .read [15])
    let s := { x.1 with dbg := { x.1.dbg with busOp := none, outcome := x.2.1 } }
    if x.2.1 ≠ 0 then s.dbgErr tag x.2.1
    else { s with dbg := { s.dbg with
      busData := if wr then s.dbg.busData else x.2.2.headD 0
      busAddr := if inc then (s.dbg.busAddr + 4) % 2 ^ 40 else s.dbg.busAddr } }

/-! ## Frames (R466, R468) -/

/-- What a register reads. -/
def State.dbgRead (s : State) (reg : Nat) : Nat :=
  let d := s.dbg
  let c := s.cpu d.cpuSel
  if reg = 0 then 0x725600B0
  else if reg = 1 then s.portStatus
  else if reg = 2 then d.errCode + 16 * d.errTag + 128 * b2n d.errCheck + 65536 * d.errCount
  else if 4 ≤ reg && reg ≤ 0xB then beAt s.challenge (4 * (reg - 4)) 4
  else if reg = 0xE then d.unlockState + 16 * d.unlockResult
  else if reg = 0x10 then d.busAddr % 2 ^ 32
  else if reg = 0x11 then d.busAddr / 2 ^ 32 % 256
  else if reg = 0x12 then d.busData
  else if reg = 0x14 then b2n d.busOp.isSome + 2 * d.outcome
  else if reg = 0x18 then d.cpuSel
  else if reg = 0x1A then
    b2n c.halted + 2 * b2n (s.cpuInReset d.cpuSel) + (if c.halted then 4 * c.cause + 32 * cpuCode c.mode else 0)
  else if reg = 0x1B then d.regNum
  else if reg = 0x1C then d.regVal % 2 ^ 32
  else if reg = 0x1D then d.regVal / 2 ^ 32 % 2 ^ 32
  else if 0x20 ≤ reg && reg ≤ 0x2F then
    (let bp := c.bps.getD ((reg - 0x20) / 4) {}
     match reg % 4 with
     | 0 => bp.addr % 2 ^ 32
     | 1 => bp.addr / 2 ^ 32 % 2 ^ 32
     | 2 => bp.mask
     | _ => bp.ctl)
  else 0

/-- The low or high DWORD of a number takes a value. -/
def withDw (hi : Bool) (x v : Nat) : Nat :=
  if hi then x % 2 ^ 32 + v % 2 ^ 32 * 2 ^ 32 else x / 2 ^ 32 * 2 ^ 32 + v % 2 ^ 32

/-- A breakpoint register of the selected core is written. -/
def State.bpWrite (s : State) (reg data : Nat) : State :=
  let k := s.dbg.cpuSel
  let c := s.cpu k
  let b := (reg - 0x20) / 4
  let bp := c.bps.getD b {}
  let bp := match reg % 4 with
    | 0 => { bp with addr := withDw false bp.addr data }
    | 1 => { bp with addr := withDw true bp.addr data }
    | 2 => { bp with mask := data % 64 }
    | _ => { bp with ctl := data % 16 }
  s.setCpu k { c with bps := c.bps.set b bp }

/-- The debug port, replaced. -/
def State.setDbg (s : State) (d : Dbg) : State := { s with dbg := d }

/-- What a write to a register without an action of its own does; a read-only register ignores it (R60). -/
def State.dbgWrite (s : State) (reg data : Nat) : State :=
  let d := s.dbg
  if reg = 2 then
    (if bitOf data 31 then s.setDbg { d with errCode := 0, errTag := 0, errCheck := false, errCount := 0 } else s)
  else if reg = 0xC then s.tokenWrite data
  else if reg = 0x10 then s.setDbg { d with busAddr := withDw false d.busAddr data }
  else if reg = 0x11 then s.setDbg { d with busAddr := withDw true d.busAddr (data % 256) }
  else if reg = 0x12 then s.setDbg { d with busData := data }
  else if reg = 0x18 then s.setDbg { d with cpuSel := data % 8 }
  else if reg = 0x1B then s.setDbg { d with regNum := data % 65536 }
  else if reg = 0x1C then s.setDbg { d with regVal := withDw false d.regVal data }
  else if reg = 0x1D then s.setDbg { d with regVal := withDw true d.regVal data }
  else if 0x20 ≤ reg && reg ≤ 0x2F then s.bpWrite reg data
  else s

/-- A frame whose CRC holds (R466 to R468). -/
def State.dbgFrame (s : State) (wr : Bool) (tag reg data : Nat) : State :=
  if s.dbgOff && 2 ≤ reg then s.dbgSay tag .denied
  else match dbgReg reg with
  | none => s.dbgSay tag .error
  | some l =>
    if !s.dbgRight l then s.dbgSay tag .denied
    else if s.dbg.busOp.isSome && dbgWaits wr reg then s.dbgSay tag .pending
    else if !wr then s.dbgData tag (s.dbgRead reg)
    else match reg with
      | 0xD => s.unlockCmd tag (data % 4)
      | 0x13 => s.busCmd tag data
      | 0x19 => s.cpuCtl tag (data % 8)
      | 0x1E => s.regCmd tag data
      | _ => (s.dbgWrite reg data).dbgSay tag .done

/-- A frame arrives (R466, R475): the port answers from the end of Reset on (R465). -/
def State.dbgTakes (s : State) (wr : Bool) (tag reg data : Nat) (crcOk : Bool) : State :=
  if !s.live then s
  else
    let s := s.cadd F.dbg_DBG_FRAMES_C 1
    if crcOk then s.dbgFrame wr tag reg data
    else (({ s with dbg := { s.dbg with errCheck := true } } : State).cadd F.dbg_DBG_CRC_ERR_C 1).dbgSay tag .check

/-! ## The TAP (R472) -/

/-- The instruction of an instruction register's value. -/
def tapOf (ir : Nat) : TapInstr :=
  match ir with
  | 1 => .idcode | 2 => .samplePreload | 3 => .extest | 4 => .clamp | 5 => .highz | 6 => .extestPulse
  | 7 => .extestTrain | _ => .bypass

/-- The instruction drives pins. -/
def tapDrives : TapInstr → Bool
  | .extest | .clamp | .highz | .extestPulse | .extestTrain => true
  | _ => false

/-- The instruction in effect: one that drives pins acts as BYPASS unless RESET_N is low. -/
def State.tapActs (s : State) : TapInstr := if tapDrives s.dbg.tap && !s.dev.rstLow then .bypass else s.dbg.tap

/-- IDCODE. -/
def tapIdcode : Nat := 0x172565A7

end Sys2Proof.Machine
end

