-- ==== Sys2Proof/Machine/Debug.lean ====
section
/-! DEFINITION. The commands of the debug port and the TAP (spec/17_service_debug.md). -/

namespace Sys2Proof.Machine

/-- DEBUG_LINE_RESET (R465): it resets master 0xC and revokes nothing. -/
def execDebugLineReset (s : State) : Host.Outcome State Fault Refusal :=
  finish s (s.whenLive fun s => s.masterReset .debug)

/-- DEBUG_FRAME (R466). -/
def execDebugFrame (wr : Bool) (tag : Fin 8) (reg : Fin 128) (data : Word) (crc : Fin 65536) (s : State) :
    Host.Outcome State Fault Refusal :=
  finish s (s.dbgTakes wr tag.val reg.val data.toNat (crc.val == dbgCrc wr tag.val reg.val data.toNat))

/-- DBG_BUS_READ (R467). -/
def execDbgBusRead (tag : Fin 8) (autoinc : Bool) (s : State) : Host.Outcome State Fault Refusal :=
  finish s (s.dbgTakes true tag.val 0x13 (1 + 4 * b2n autoinc) true)

/-- DBG_BUS_WRITE (R467). -/
def execDbgBusWrite (tag : Fin 8) (autoinc : Bool) (s : State) : Host.Outcome State Fault Refusal :=
  finish s (s.dbgTakes true tag.val 0x13 (2 + 4 * b2n autoinc) true)

/-- DBG_BUS_DONE (R467). -/
def execDbgBusDone (s : State) : Host.Outcome State Fault Refusal :=
  finish s (s.whenLive State.busDone)

/-- TOKEN_WRITE (R468). -/
def execTokenWrite (tag : Fin 8) (data : Word) (s : State) : Host.Outcome State Fault Refusal :=
  finish s (s.dbgTakes true tag.val 0xC data.toNat true)

/-- UNLOCK_SUBMIT (R469). -/
def execUnlockSubmit (tag : Fin 8) (s : State) : Host.Outcome State Fault Refusal :=
  finish s (s.dbgTakes true tag.val 0xD 1 true)

/-- UNLOCK_DONE (R469). -/
def execUnlockDone (s : State) : Host.Outcome State Fault Refusal :=
  finish s (s.whenLive State.unlockDone)

/-- UNLOCK_RELOCK (R469). -/
def execUnlockRelock (tag : Fin 8) (s : State) : Host.Outcome State Fault Refusal :=
  finish s (s.dbgTakes true tag.val 0xD 2 true)

/-- CPU_HALT (R471). -/
def execCpuHalt (tag : Fin 8) (s : State) : Host.Outcome State Fault Refusal :=
  finish s (s.dbgTakes true tag.val 0x19 1 true)

/-- CPU_RESUME (R471). -/
def execCpuResume (tag : Fin 8) (s : State) : Host.Outcome State Fault Refusal :=
  finish s (s.dbgTakes true tag.val 0x19 2 true)

/-- CPU_STEP (R471). -/
def execCpuStep (tag : Fin 8) (s : State) : Host.Outcome State Fault Refusal :=
  finish s (s.dbgTakes true tag.val 0x19 3 true)

/-- CPU_HALT_ALL (R471). -/
def execCpuHaltAll (tag : Fin 8) (s : State) : Host.Outcome State Fault Refusal :=
  finish s (s.dbgTakes true tag.val 0x19 4 true)

/-- CPU_RESUME_ALL (R471). -/
def execCpuResumeAll (tag : Fin 8) (s : State) : Host.Outcome State Fault Refusal :=
  finish s (s.dbgTakes true tag.val 0x19 5 true)

/-- REG_CMD_READ (R468). -/
def execRegCmdRead (tag : Fin 8) (s : State) : Host.Outcome State Fault Refusal :=
  finish s (s.dbgTakes true tag.val 0x1E 1 true)

/-- REG_CMD_WRITE (R468). -/
def execRegCmdWrite (tag : Fin 8) (s : State) : Host.Outcome State Fault Refusal :=
  finish s (s.dbgTakes true tag.val 0x1E 2 true)

/-- BREAKPOINT_HIT (R468). -/
def execBreakpointHit (k : Fin 8) (b : Fin 4) (s : State) : Host.Outcome State Fault Refusal :=
  finish s (s.whenLive fun s => s.breakHit k.val b.val)

/-- DBG_OFF_WRITE (R471). -/
def execDbgOffWrite (m : Master) (s : State) : Host.Outcome State Fault Refusal :=
  finish s (s.regWrite m 0x2A2 0x44 0 0xF 1)

/-- JTAG_INSTRUCTION (R472). -/
def execJtagInstruction (ir : Fin 256) (s : State) : Host.Outcome State Fault Refusal :=
  finish s { s with dbg := { s.dbg with tap := tapOf ir.val } }

end Sys2Proof.Machine
end

