-- ==== Sys2Proof/Machine/Forerunner.lean ====
section
/-! DEFINITION. The commands of the forerunner slot bus (spec/10_forerunner.md). -/

namespace Sys2Proof.Machine

/-- FORERUNNER_FRAME_RECEIVED (R285): at the framer's position, or at a hypothesis's. -/
def execForerunnerFrameReceived (n : Fin 256) (h : Option (Fin 4)) (line : List SlotWord) (s : State) :
    Host.Outcome State Fault Refusal :=
  finish s (s.whenLive fun s => s.frReceived n.val (h.map Fin.val) (natWords line))

/-- FORERUNNER_CANDIDATE (R284). -/
def execForerunnerCandidate (n : Fin 256) (place : Fin 1555200) (line : List SlotWord) (s : State) :
    Host.Outcome State Fault Refusal :=
  finish s (s.whenLive fun s => s.frCandidate n.val place.val (natWords line))

/-- FORERUNNER_BLOCK_COMPLETE (R286, R287). The words that the slot's tracker has been given make the block, so the row's last two
operands are empty. -/
def execForerunnerBlockComplete (n : Fin 256) (k : Fin 8) (_empty _more : Unit) (s : State) : Host.Outcome State Fault Refusal :=
  finish s (s.whenLive fun s => s.frBlockDone n.val k.val)

/-- FORERUNNER_FRAME_START (R287), at a cycle of the core frame. -/
def execForerunnerFrameStart (s : State) (cycle : Fin 1153 := 0) : Host.Outcome State Fault Refusal :=
  finish s (s.whenLive fun s => s.frFrameStart cycle.val)

/-- FRAME_PULSE_EDGE (R288), at a cycle of the core frame. -/
def execFramePulseEdge (cycle : Fin 1153) (long : Bool) (s : State) : Host.Outcome State Fault Refusal :=
  finish s (s.whenLive fun s => s.fpEdge cycle.val long)

/-- FRAME_PULSE_LOSS (R288). -/
def execFramePulseLoss (s : State) : Host.Outcome State Fault Refusal :=
  finish s (s.whenLive fun s => s.fpLoss)

/-- SQUELCH_HOLD_EXPIRY (R295). -/
def execSquelchHoldExpiry (s : State) : Host.Outcome State Fault Refusal :=
  finish s (s.whenLive fun s => s.fpHoldEnds)

end Sys2Proof.Machine
end

