-- ==== Sys2Proof/Machine/DmaOps.lean ====
section
/-! DEFINITION. DMA descriptors: what they may touch, the bursts they make and how they end (spec/14_host_pcie.md R387 to
R392).

Readings fixed here (notes/assumptions): 7 DESIGN CHOICE, 27 DEDUCED, 34 DEDUCED, 85 DEDUCED. -/

namespace Sys2Proof.Machine

/-- A descriptor's fields are in range (R387, R389, R390). -/
def descValid (d : Descriptor) : Bool :=
  decide (4 ≤ d.len) && decide (d.len ≤ 16777216) && d.len % 4 == 0 && d.ctrl < 4 && d.hostAddr % 4 == 0 &&
  d.devAddr % 4 == 0 &&
  (match d.devAddr / 2 ^ 62 with
    | 0 => bitsOf d.devAddr 28 34 == 0
    | 1 => bitsOf d.devAddr 37 25 == 0
    | _ => false)

/-- The bytes of a memory-target descriptor are all permitted (R388): reads from the cold store upwards but for the contexts
from 261,120 on; writes within the staging region, or within the writable bytes of one context. `typ` is the TYPE of the
context whose cold store the first byte lies in. -/
def dmaPermitted (typ stack off len : Nat) (write : Bool) : Bool :=
  let last := off + len - 1
  decide (off + len ≤ 2 ^ 35) && decide (0x780000000 ≤ off) &&
  (if write then
    (stackRegion off == 3 && stackRegion last == 3) ||
    (stackRegion last == 1 && coldContext stack off == coldContext stack last && decide (coldContext stack off < 261120) &&
      typ == 1 && decide (4160 ≤ (off - 0x780000000) % 8192) && decide ((last - 0x780000000) % 8192 < 4224))
  else decide (0x7A0000000 ≤ off) || decide (coldContext stack (min last 0x79FFFFFFF) < 261120))

/-- The status a descriptor ends with before any byte moves: 7 INVALID, 5 ACCESS, or none (R388, R390). -/
def State.descRefused (s : State) (d : Descriptor) : Option Nat :=
  if !descValid d then some 7
  else if d.devAddr / 2 ^ 62 = 1 then
    let stack := bitsOf d.devAddr 35 2
    let off := d.devAddr % 2 ^ 35
    if dmaPermitted (ctxTypeOf (s.ctxDw (coldContext stack off) 0)) stack off d.len (d.ctrl % 2 == 0) then none
    else some 5
  else none

/-- A channel starts its next descriptor (R390). -/
def State.descStart (s : State) (k : Nat) (d : Descriptor) : State :=
  if !s.flag (F.dma_CH_CFG_EN k) || s.fget (F.dma_CH_STATUS_STATE k) != 1 || (s.chan k).job.isSome ||
      !s.chPending k || !s.dmaReady then s
  else match s.descRefused d with
    | some st => s.descEnd k (bitOf d.ctrl 1) st 0
    | none => s.setChan k { s.chan k with job := some { d := d } }

/-- Bytes as DWORDs, the first byte least significant. -/
def dwordsOf (l : List Nat) : List Nat := (List.range (l.length / 4)).map fun i => leNat ((l.drop (4 * i)).take 4)

/-- The internal address of a descriptor's device address (R387, R398). -/
def dmaAddr (a : Nat) : Nat := if a / 2 ^ 62 = 1 then 0x8000000000 + a % 2 ^ 37 else a % 2 ^ 28

/-- Bytes of a burst that begins at an address: bursts end at multiples of 64 bytes at T0 (R391), of 256 at a stack
(R401). -/
def burstBytes (addr left : Nat) : Nat :=
  let lim := if addr < 0x10000000 then 64 else 256
  min left (lim - addr % lim)

/-- The write bursts of a descriptor, at most `n`: the state, the bytes done and the response that ended them (R391). -/
def State.dmaWrites (s : State) (addr : Nat) : Nat → List Nat → Nat → State × Nat × Resp
  | 0, _, done => (s, done, 0)
  | n + 1, data, done =>
    let k := burstBytes addr data.length
    if k = 0 then (s, done, 0)
    else
      let x := s.access .dma addr (.write ((dwordsOf (data.take k)).map fun v => (15, v)))
      if x.2.1 ≠ 0 then (x.1, done, x.2.1) else x.1.dmaWrites (addr + k) n (data.drop k) (done + k)

/-- The read bursts of a descriptor, at most `n`, for `left` bytes: the state, the bytes read and the response that ended
them (R391). -/
def State.dmaReads (s : State) (addr : Nat) : Nat → Nat → List Nat → State × List Nat × Resp
  | 0, _, acc => (s, acc, 0)
  | n + 1, left, acc =>
    let k := burstBytes addr left
    if k = 0 then (s, acc, 0)
    else
      let x := s.access .dma addr (.read (List.replicate (k / 4) 15))
      if x.2.1 ≠ 0 then (x.1, acc, x.2.1)
      else x.1.dmaReads (addr + k) n (left - k) (acc ++ (x.2.2.map (leBytes 4)).flatten)

/-- The first `n` bytes of a descriptor move: the state, the bytes moved and the response that ended the bursts (R389,
R391). -/
def State.dmaMove (s : State) (d : Descriptor) (n : Nat) (hostData : List Nat) : State × Nat × Resp :=
  let n := min n d.len / 4 * 4
  if d.ctrl % 2 = 0 then
    let data := hostData.take (min n (hostData.length / 4 * 4))
    let r := s.dmaWrites (dmaAddr d.devAddr) n data 0
    (r.1.cadd F.dma_BYTES_H2D_C r.2.1, r.2.1, r.2.2)
  else
    let r := s.dmaReads (dmaAddr d.devAddr) n n []
    ((r.1.emit (.hostWrite d.hostAddr r.2.1)).cadd F.dma_BYTES_D2H_C r.2.1.length, r.2.1.length, r.2.2)

/-- The status of a descriptor that a response other than OKAY ends (R403): DEV_ERR, ACCESS or ECC. -/
def respStatus : Resp → Nat
  | 2 => 5
  | 4 => 6
  | _ => 4

/-- A descriptor's transfer ends (R390, R391): an uncorrectable read is passed on as read, counted by its stack, and ends it there. -/
def State.descDone (s : State) (k : Nat) (hostData : List Nat) (how : DmaEnd) : State :=
  match (s.chan k).job with
  | none => s
  | some j =>
    if s.fget (F.dma_CH_STATUS_STATE k) != 1 then s
    else
      let d := j.d
      let bad := match how with
        | .ecc n => if d.ctrl % 2 = 1 ∧ d.devAddr / 2 ^ 62 = 1 then some n else none
        | _ => none
      let ecc := bad.isSome
      let r := s.dmaMove d (bad.getD d.len) hostData
      let stack := bitsOf d.devAddr 35 2
      let s := r.1.onlyIf ecc fun s => (s.cadd (F.mem_ECC_UNCORR_C stack) 1).raise (0x2B0 + stack) 0
      s.descEnd k (bitOf d.ctrl 1)
        (if r.2.2 ≠ 0 then respStatus r.2.2 else if ecc then 6 else if how = .hostErr ∨ r.2.1 ≠ d.len then 3 else 1) r.2.1

/-- Where a transfer of which `n` bytes have been asked for can be cut: at a whole access of a register target, which is then
performed or not, and at a beat of a memory target (R71, R391, R392). -/
def cutAt (d : Descriptor) (n : Nat) : Nat :=
  if d.devAddr / 2 ^ 62 = 1 then n else (d.devAddr % 64 + n) / 64 * 64 - d.devAddr % 64

/-- A descriptor is cut short by the link or by a function-level reset: the accesses made by then stand (R392). How many they were,
and what the host had sent, no operand says: free values. -/
def State.chanCut (s : State) (k : Nat) : State :=
  match (s.chan k).job with
  | none => s
  | some j =>
    let n := cutAt j.d (Config.freeValue s.free % (j.d.len + 1))
    let r := s.dmaMove j.d n ((List.range j.d.len).map fun i => Config.freeValue (s.free + 1 + i) % 256)
    { r.1 with free := s.free + 1 + j.d.len }

/-- Every descriptor in progress is cut short. -/
def State.dmaCut (s : State) : State := (List.range 16).foldl State.chanCut s

/-- A channel that drains reaches the end of its TLP: its descriptor ends ABORTED with the bytes moved by then (R392); when
no channel drains any more, held enables take effect (R49). `moved` bytes had moved, of them `hostData` from the host. -/
def State.chanDrained (s : State) (k moved : Nat) (hostData : List Nat) : State :=
  if s.fget (F.dma_CH_STATUS_STATE k) != 2 then s
  else
    let s := match (s.chan k).job with
      | none => s.fset (F.dma_CH_STATUS_STATE k) 0
      | some j =>
        let r := s.dmaMove j.d moved hostData
        r.1.descEnd k (bitOf j.d.ctrl 1) (if r.2.2 ≠ 0 then respStatus r.2.2 else 2) r.2.1
    s.dmaDrainShown

end Sys2Proof.Machine
end

