-- ==== Sys2Proof/Machine/HostFam.lean ====
section
/-! DEFINITION. The host-interface commands (spec/14_host_pcie.md). -/

namespace Sys2Proof.Machine

/-- PCIE_LINK_CHANGE (R379): the link exists from Boot onwards. -/
def execPcieLinkChange (gen : Fin 8) (width : Fin 32) (s : State) : Host.Outcome State Fault Refusal :=
  finish s (s.whenLive fun s => (s.onlyIf (gen.val == 0) State.dmaCut).linkChange gen.val width.val)

/-- FUNCTION_LEVEL_RESET (R385). -/
def execFunctionLevelReset (pf1 : Bool) (s : State) : Host.Outcome State Fault Refusal :=
  finish s (s.whenLive fun s => (s.onlyIf (!pf1) State.dmaCut).flr pf1)

/-- INT_REARM (R386). -/
def execIntRearm (m : Master) (vec : Fin 2048) (pf1 : Bool) (s : State) : Host.Outcome State Fault Refusal :=
  finish s (s.viaCmd m 0x260 0x48 (vec.val + 2048 * b2n pf1) fun s => s.rearm m (vec.val + 2048 * b2n pf1))

/-- MSIX_UNMASK (R386). -/
def execMsixUnmask (pf1 : Bool) (vec : Option (Fin 2048)) (s : State) : Host.Outcome State Fault Refusal :=
  finish s (s.whenLive fun s => s.msixUnmask (b2n pf1) (vec.map Fin.val))

/-- BUS_MASTER_CHANGE (R392). -/
def execBusMasterChange (pf1 bme d3hot : Bool) (s : State) : Host.Outcome State Fault Refusal :=
  finish s (s.whenLive fun s => s.busMaster pf1 bme d3hot)

/-- DMA_TAIL_WRITE (R390). -/
def execDmaTailWrite (m : Master) (k : Fin 16) (tail : Fin 65536) (s : State) : Host.Outcome State Fault Refusal :=
  finish s (s.viaPage m 0x261 (0x40C + 0x40 * k.val) 0 0xF tail.val fun s => s.chanTail k.val tail.val)

/-- DMA_DESCRIPTOR_START (R390). -/
def execDmaDescriptorStart (k : Fin 16) (d : Descriptor) (s : State) : Host.Outcome State Fault Refusal :=
  finish s (s.whenLive fun s => s.descStart k.val d)

/-- DMA_DESCRIPTOR_DONE (R390). -/
def execDmaDescriptorDone (k : Fin 16) (hostData : List Byte) (how : DmaEnd) (s : State) :
    Host.Outcome State Fault Refusal :=
  finish s (s.whenLive fun s => s.descDone k.val (hostData.map BitVec.toNat) how)

/-- DMA_CHANNEL_DISABLE (R392). -/
def execDmaChannelDisable (m : Master) (k : Fin 16) (s : State) : Host.Outcome State Fault Refusal :=
  finish s (s.viaPage m 0x261 (0x408 + 0x40 * k.val) 0 0xF (s.fget (F.dma_CH_CFG_LOG2_SIZE k.val)) fun s =>
    if s.flag (F.dma_CH_CFG_EN k.val) then s.chanDisable k.val else s)

/-- EVENT_RING_COALESCE (R393). -/
def execEventRingCoalesce (s : State) : Host.Outcome State Fault Refusal :=
  finish s (s.whenLive State.announceEvents)

end Sys2Proof.Machine
end

