-- ==== Sys2Proof/Machine/Label.lean ====
section
/-! DEFINITION. The commands of the label channel (spec/13_label_channel.md). -/

namespace Sys2Proof.Machine

/-- LABEL_SEND_USER (R366, R367). -/
def execLabelSendUser (m : Master) (c : Fin 2) (len : Byte) (s : State) : Host.Outcome State Fault Refusal :=
  let d := 1 + 256 * len.toNat
  finish s (s.viaCmd m (lblPage c.val) 0x50 d fun s => s.lblCmd m c.val d)

/-- LABEL_GASP (R366, R367): LBL_CMD GASP. The events that send a GASP act within their own commands. -/
def execLabelGasp (m : Master) (c : Fin 2) (code : Byte) (s : State) : Host.Outcome State Fault Refusal :=
  let d := 2 + 65536 * code.toNat
  finish s (s.viaCmd m (lblPage c.val) 0x50 d fun s => s.lblCmd m c.val d)

/-- LABEL_ABORT (R376). -/
def execLabelAbort (m : Master) (c : Fin 2) (s : State) : Host.Outcome State Fault Refusal :=
  finish s (s.viaCmd m (lblPage c.val) 0x50 3 fun s => s.lblCmd m c.val 3)

/-- IDENT_PERIOD_EXPIRY (R366). -/
def execIdentPeriodExpiry (c : Fin 2) (s : State) : Host.Outcome State Fault Refusal :=
  finish s (s.whenLive fun s => s.identDue c.val)

/-- LABEL_PACKET_SENT (R366). -/
def execLabelPacketSent (c : Fin 2) (s : State) : Host.Outcome State Fault Refusal :=
  finish s (s.whenLive fun s => s.lblSent c.val)

/-- LABEL_CANDIDATE (R369, R370): SF − 7, C in 0.1 dB, the NETID read and the qualification time in samples. -/
def execLabelCandidate (x : Fin 4) (sf : Fin 6) (c : Fin 65536) (netid : Fin 128) (time : Nat) (s : State) :
    Host.Outcome State Fault Refusal :=
  finish s (s.whenLive fun s => s.lblCandidate x.val (7 + sf.val) c.val netid.val time)

/-- LABEL_HEADER_DECODED (R370). -/
def execLabelHeaderDecoded (x : Fin 4) (header : Fin 16777216) (corrected : Bool) (s : State) :
    Host.Outcome State Fault Refusal :=
  finish s (s.whenLive fun s => s.lblHeaderDecoded x.val header.val corrected)

/-- LABEL_SYMBOL_BOUNDARY (R371). -/
def execLabelSymbolBoundary (x : Fin 4) (s : State) : Host.Outcome State Fault Refusal :=
  finish s (s.whenLive fun s => s.lblBoundary x.val)

/-- LABEL_PACKET_END (R372, R373): the time of its end in samples, the payload field's bytes as decoded, and the
estimates of R373. -/
def execLabelPacketEnd (x : Fin 4) (now : Nat) (bytes : List Byte) (corrected : Bool) (rate snr : Int) (depth : Fin 65536)
    (s : State) : Host.Outcome State Fault Refusal :=
  finish s (s.whenLive fun s => s.lblPacketEnd x.val now (bytes.map BitVec.toNat) corrected rate snr depth.val)

/-- RXQ_POP (R376). -/
def execRxqPop (m : Master) (x : Fin 4) (s : State) : Host.Outcome State Fault Refusal :=
  finish s (s.viaCmd m (rxPage x.val) (rxBase x.val + 8) 1 fun s => s.rxqCmd m x.val 1)

/-- RXQ_FLUSH (R376). -/
def execRxqFlush (m : Master) (x : Fin 4) (s : State) : Host.Outcome State Fault Refusal :=
  finish s (s.viaCmd m (rxPage x.val) (rxBase x.val + 8) 2 fun s => s.rxqCmd m x.val 2)

end Sys2Proof.Machine
end

