-- ==== Sys2Proof/Machine/LaneFam.lean ====
section
/-! DEFINITION. The commands of the lanes (spec/09_lanes.md). -/

namespace Sys2Proof.Machine

/-- The page of a lane. -/
def lanePage (n : Nat) : Nat := 0x100 + n

/-- OCTET_PLL_WRITE (R245). -/
def execOctetPllWrite (m : Master) (k : Fin 32) (b : Bool) (be : Fin 16) (data : Word) (s : State) :
    Host.Outcome State Fault Refusal :=
  finish s (s.viaPage m (0x200 + k.val) (if b then 0x44 else 0x40) 0 be.val data.toNat fun s =>
    s.pllWrite m k.val b 0 be.val data.toNat)

/-- OCTET_PLL_LOCK (R245). -/
def execOctetPllLock (k : Fin 32) (b : Bool) (s : State) : Host.Outcome State Fault Refusal :=
  finish s (s.whenLive fun s => s.pllLocks k.val b)

/-- LANE_ENABLE (R245, R49). -/
def execLaneEnable (m : Master) (n : Fin 256) (s : State) : Host.Outcome State Fault Refusal :=
  finish s (s.viaPage m (lanePage n.val) 0xC 0 1 1 fun s => s.laneEnable m n.val)

/-- TX_FIR_WRITE (R246). -/
def execTxFirWrite (m : Master) (n : Fin 256) (be : Fin 16) (data : Word) (s : State) : Host.Outcome State Fault Refusal :=
  finish s (s.viaPage m (lanePage n.val) 0x54 0 be.val data.toNat fun s => s.firWrite m n.val 0 be.val data.toNat)

/-- LANE_SIG_FALL (R248). -/
def execLaneSigFall (n : Fin 256) (s : State) : Host.Outcome State Fault Refusal :=
  finish s (s.whenLive fun s => s.laneSigFall n.val)

/-- LANE_SIG_RISE (R248). -/
def execLaneSigRise (n : Fin 256) (s : State) : Host.Outcome State Fault Refusal :=
  finish s (s.whenLive fun s => s.laneSigRise n.val)

/-- CDR_LOCK_FALL (R249). -/
def execCdrLockFall (n : Fin 256) (held : Bool) (s : State) : Host.Outcome State Fault Refusal :=
  finish s (s.whenLive fun s => s.cdrFall n.val held)

/-- CDR_LOCK_RISE (R249). -/
def execCdrLockRise (n : Fin 256) (s : State) : Host.Outcome State Fault Refusal :=
  finish s (s.whenLive fun s => s.cdrRise n.val)

/-- TRAINING_FRAME_RECEIVED (R256, R257): a marker candidate with the fields after it, and those seen while these came in, the next one and
the later ones. -/
def execTrainingFrameReceived (n : Fin 256) (seen : MarkerSeen) (next : Option MarkerSeen) (later : List MarkerSeen) (s : State) :
    Host.Outcome State Fault Refusal :=
  finish s (s.whenLive fun s => s.trainSeen n.val seen (next.toList ++ later))

/-- TRAINING_FRAME_SENT (R258): `next` is the request the receiver's adaptation makes next. -/
def execTrainingFrameSent (n : Fin 256) (next : Option (Fin 128)) (s : State) : Host.Outcome State Fault Refusal :=
  finish s (s.whenLive fun s => s.trainSend n.val (next.map Fin.val))

/-- EQUALISER_CONVERGED (R258). -/
def execEqualiserConverged (n : Fin 256) (dc : Fin 32) (peak : Fin 64) (dfe : Byte) (s : State) :
    Host.Outcome State Fault Refusal :=
  finish s (s.whenLive fun s => s.eqConverged n.val dc.val peak.val dfe.toNat)

/-- NO_ACK_TIMEOUT (R258). -/
def execNoAckTimeout (n : Fin 256) (s : State) : Host.Outcome State Fault Refusal :=
  finish s (s.whenLive fun s => s.noAck n.val)

/-- TRAINING_TIMEOUT (R260). -/
def execTrainingTimeout (n : Fin 256) (s : State) : Host.Outcome State Fault Refusal :=
  finish s (s.whenLive fun s => s.trainTimeout n.val)

/-- TRAINING_BACKOFF_EXPIRY (R260). -/
def execTrainingBackoffExpiry (n : Fin 256) (s : State) : Host.Outcome State Fault Refusal :=
  finish s (s.whenLive fun s => s.backoffEnds n.val)

/-- TRAIN_START (R261). -/
def execTrainStart (m : Master) (n : Fin 256) (s : State) : Host.Outcome State Fault Refusal :=
  finish s (s.viaCmd m (lanePage n.val) 0x4C 1 fun s => s.trainCmd m n.val 1)

/-- TRAIN_ABORT (R261). -/
def execTrainAbort (m : Master) (n : Fin 256) (s : State) : Host.Outcome State Fault Refusal :=
  finish s (s.viaCmd m (lanePage n.val) 0x4C 2 fun s => s.trainCmd m n.val 2)

/-- TRAIN_RESET_BACKOFF (R260). -/
def execTrainResetBackoff (m : Master) (n : Fin 256) (s : State) : Host.Outcome State Fault Refusal :=
  finish s (s.viaCmd m (lanePage n.val) 0x4C 3 fun s => s.trainCmd m n.val 3)

/-- IDLE_HOLD_EXPIRY (R263). -/
def execIdleHoldExpiry (n : Fin 256) (s : State) : Host.Outcome State Fault Refusal :=
  finish s (s.whenLive fun s => s.idleHoldEnds n.val)

/-- A write of LANE_CTRL that gives one field a value and leaves the rest. -/
def State.laneCtrlField (s : State) (m : Master) (n lo w v : Nat) : State :=
  let d := setBits (s.mergedWord (lanePage n) 0x44 0 0 0) lo w v
  s.viaPage m (lanePage n) 0x44 0 0xF d fun s => s.laneCtrl m n 0 0xF d

/-- TX_MODE_REQUEST (R264). -/
def execTxModeRequest (m : Master) (n : Fin 256) (mode : Fin 4) (s : State) : Host.Outcome State Fault Refusal :=
  finish s (s.laneCtrlField m n.val 2 2 mode.val)

/-- SLEEP_WARMUP_DONE (R264). -/
def execSleepWarmupDone (n : Fin 256) (s : State) : Host.Outcome State Fault Refusal :=
  finish s (s.whenLive fun s => s.warmedUp n.val)

/-- GALOP_RECEIVED (R266). -/
def execGalopReceived (n : Fin 256) (s : State) : Host.Outcome State Fault Refusal :=
  finish s (s.whenLive fun s => s.galopHeard n.val)

/-- GALOP_WAIT_TIMEOUT (R266). -/
def execGalopWaitTimeout (n : Fin 256) (s : State) : Host.Outcome State Fault Refusal :=
  finish s (s.whenLive fun s => s.galopTimeout n.val)

/-- RX_SLEEP_WRITE (R267). -/
def execRxSleepWrite (m : Master) (n : Fin 256) (on : Bool) (s : State) : Host.Outcome State Fault Refusal :=
  finish s (s.laneCtrlField m n.val 4 1 (b2n on))

/-- RX_WAKE_DONE (R267). -/
def execRxWakeDone (n : Fin 256) (s : State) : Host.Outcome State Fault Refusal :=
  finish s (s.whenLive fun s => s.rxWake n.val)

/-- The word of an EYE_CMD (R279). -/
def eyeWord (op eye phase volt dwell : Nat) : Nat := op + 4 * eye + 16 * phase + 1024 * volt + 262144 * dwell

/-- EYE_MEASURE (R268). -/
def execEyeMeasure (m : Master) (n : Fin 256) (eye : Fin 4) (phase : Fin 64) (volt : Byte) (dwell : Fin 16) (s : State) :
    Host.Outcome State Fault Refusal :=
  finish s (s.viaCmd m (lanePage n.val) 0x6C (eyeWord 1 eye.val phase.val volt.toNat dwell.val) fun s =>
    s.eyeMeasure m n.val eye.val phase.val volt.toNat dwell.val)

/-- EYE_ABANDON (R279). -/
def execEyeAbandon (m : Master) (n : Fin 256) (s : State) : Host.Outcome State Fault Refusal :=
  finish s (s.viaCmd m (lanePage n.val) 0x6C 2 fun s => s.eyeAbandon m n.val)

/-- EYE_DONE (R268). -/
def execEyeDone (n : Fin 256) (errors : Nat) (s : State) : Host.Outcome State Fault Refusal :=
  finish s (s.whenLive fun s => s.eyeEnds n.val errors)

/-- LOOPBACK_WRITE (R277). -/
def execLoopbackWrite (m : Master) (n : Fin 256) (be : Fin 16) (data : Word) (s : State) : Host.Outcome State Fault Refusal :=
  finish s (s.viaPage m (lanePage n.val) 0x68 0 be.val data.toNat fun s => s.loopWrite m n.val 0 be.val data.toNat)

/-- FLEXO_FRAME_RECEIVED (R269): the place of the frame's end in the lane, its alignment marker, and the OTUC frame's
FAS and MFAS where it is read. -/
def execFlexoFrameReceived (n : Fin 256) (place : Nat) (am : Bool) (otuc : Option (List (Bool × Byte))) (s : State) :
    Host.Outcome State Fault Refusal :=
  finish s (s.whenLive fun s => s.flexoReceived n.val place am (otuc.map fun l => l.map fun e => (e.1, e.2.toNat)))

/-- RS_CODEWORD_DECODE (R275): the symbols corrected, none where the codeword is uncorrectable. -/
def execRsCodewordDecode (n : Fin 256) (fixed : Option Nat) (s : State) : Host.Outcome State Fault Refusal :=
  finish s (s.whenLive fun s => s.rsDecode n.val fixed)

/-- SLOT_LANE_FRAME_TRANSMIT (R272). -/
def execSlotLaneFrameTransmit (n : Fin 256) (s : State) : Host.Outcome State Fault Refusal :=
  finish s (s.whenLive fun s => s.slTransmit n.val)

/-- The decoder's corrections: a symbol's index in its frame, and the bits it inverts there (R272). -/
def symbolFixes (l : List (Nat × Fin 1024)) : List (Nat × Nat) := l.map fun e => (e.1, e.2.val)

/-- SLOT_LANE_FRAME_RECEIVED (R274): at the framer's position, or at a hypothesis's. `line` is the symbol before the frame and the
frame's symbols. -/
def execSlotLaneFrameReceived (n : Fin 256) (h : Option (Fin 4)) (cycle : Fin 1153) (line : List (Fin 4))
    (fixes : List (Nat × Fin 1024)) (s : State) : Host.Outcome State Fault Refusal :=
  finish s (s.whenLive fun s =>
    s.slReceived n.val (h.map Fin.val) (s.stampAt cycle.val) (line.map Fin.val) (symbolFixes fixes))

/-- SLOT_LANE_CANDIDATE (R274). -/
def execSlotLaneCandidate (n : Fin 256) (place : Nat) (frame : SlotFrame) (s : State) : Host.Outcome State Fault Refusal :=
  finish s (s.whenLive fun s =>
    s.slCandidate n.val place (s.stampAt frame.cycle.val) (frame.line.map Fin.val) (symbolFixes frame.fixes))

/-- LANE_CTRL_WRITE (R47, R48, R261). -/
def execLaneCtrlWrite (m : Master) (n : Fin 256) (be : Fin 16) (data : Word) (s : State) : Host.Outcome State Fault Refusal :=
  finish s (s.viaPage m (lanePage n.val) 0x44 0 be.val data.toNat fun s => s.laneCtrl m n.val 0 be.val data.toNat)

end Sys2Proof.Machine
end

