-- ==== Sys2Proof/Machine/Line.lean ====
section
/-! DEFINITION. The commands of line coding and framing (spec/05_line_code_framing.md). -/

namespace Sys2Proof.Machine

/-- LDPC_CODEWORD_ENCODE (R109, R113 to R116): codeword `n` of the present line frame. The block builds its payload (R123), so the
row's last operand is empty. -/
def execLdpcCodewordEncode (c : Fin 2) (n : Fin 504) (_empty : Unit) (s : State) : Host.Outcome State Fault Refusal :=
  finish s (s.whenLive fun s => s.encode c.val n.val)

/-- LDPC_CODEWORD_DECODE (R110). -/
def execLdpcCodewordDecode (c : Fin 2) (n : Fin 504) (llr : List (Fin 32)) (s : State) : Host.Outcome State Fault Refusal :=
  finish s (s.whenLive fun s => s.decode c.val n.val (llr.map Fin.val))

/-- LINE_FRAME_TRANSMIT (R118, R120, R290). -/
def execLineFrameTransmit (c : Fin 2) (pay : LinePay) (s : State) : Host.Outcome State Fault Refusal :=
  finish s (s.whenLive fun s => s.lineTransmit c.val pay.half (pay.frames.map fun f => f.map natBytes))

/-- LINE_FRAME_RECEIVED (R121). -/
def execLineFrameReceived (c : Fin 2) (cycle : Fin 1153) (s : State) : Host.Outcome State Fault Refusal :=
  finish s (s.whenLive fun s => s.lineReceived c.val cycle.val)

/-- OTUC_CANDIDATE (R128). -/
def execOtucCandidate (c : Fin 2) (u : Nat) (s : State) : Host.Outcome State Fault Refusal :=
  finish s (s.whenLive fun s => s.otucCandidate c.val u)

/-- HYPOTHESIS_CHECK (R128, R129). -/
def execHypothesisCheck (c : Fin 2) (h : Fin 4) (s : State) : Host.Outcome State Fault Refusal :=
  finish s (s.whenLive fun s => s.otucHypothesis c.val h.val)

/-- OTUC_FRAME_CHECK (R127). -/
def execOtucFrameCheck (c : Fin 2) (s : State) : Host.Outcome State Fault Refusal :=
  finish s (s.whenLive fun s => s.otucFrame c.val)

/-- The labels of a block's dimensions in their order, those of polarisation X and of Y in each period (R289, R292). -/
def byPeriod : List Nat → List Nat → List Nat
  | xi :: xq :: x, yi :: yq :: y => xi :: xq :: yi :: yq :: byPeriod x y
  | _, _ => []

/-- FORERUNNER_FEC_BLOCK (R289 to R293): the labels received on the dimensions of each polarisation, the inner codewords as decoded,
and what the outer decoder corrects, by symbol in the order sent. -/
def execForerunnerFecBlock (c : Fin 2) (blk : Fin 126) (x y : List (Fin 4)) (inner : List Byte)
    (fixes : List (Fin 1632 × Fin 1024)) (s : State) : Host.Outcome State Fault Refusal :=
  finish s (s.whenLive fun s => s.foreBlock c.val blk.val (byPeriod (x.map Fin.val) (y.map Fin.val)) (natBytes inner)
    (fixes.map fun e => (e.1.val, e.2.val)))

end Sys2Proof.Machine
end

