-- ==== Sys2Proof/Machine/ServOps.lean ====
section
/-! DEFINITION. The Fladar console and SVC_MON (spec/17_service_debug.md R450 to R457).

Readings fixed here (notes/assumptions): 2 DESIGN CHOICE, 27 DEDUCED, 93 DEDUCED, 94 DEDUCED, 96 DEDUCED, 115 DESIGN
CHOICE. -/

namespace Sys2Proof.Machine

/-- The service engine runs: VDD_AON is in its window (R447). -/
def State.whenAon (s : State) (f : State → State) : State := if s.dev.aonOn then f s else s

/-! ## SVC_MON (R450 to R452) -/

/-- What SVC_MON puts out: a level in mV, or the four digits of a code, sent in turn with a gap of 0.00 V. -/
inductive MonOut
  | level (mv : Nat)
  | digits (d : List Nat)
deriving DecidableEq, Repr

/-- The view in effect (R450, R452): 6 and 7 act as 0, and the automatic view shows the code while there is a fatal
fault. -/
def State.monView (s : State) : Nat :=
  let v := s.fget F.svc_MON_CTRL_VIEW
  let v := if 5 < v then 0 else v
  if v = 0 then (if s.fget F.dev_FATAL_CODE != 0 then 4 else 3) else v

/-- The code of the fault-code view, 0 for none (R452). -/
def State.monCode (s : State) : Nat :=
  if s.fget F.dev_FATAL_CODE != 0 then s.fget F.dev_FATAL_CODE else s.svc.lastFail

/-- The verdict view's level in mV (R450, R451). -/
def State.verdictMv (s : State) : Nat :=
  if s.sec.cmd.any fun c => c.op == 7 then 600
  else match (if s.svc.updateVerdict = 0 then s.fget F.svc_TEST_STATUS_STATE else s.svc.updateVerdict) with
  | 1 => 600
  | 2 => 300
  | 3 => 900
  | _ => if s.flag F.svc_SVC_STATUS_XO_PRESENT && s.railsIn then 300 else 900

/-- SVC_MON (R450). -/
def State.svcMon (s : State) : MonOut :=
  match s.monView with
  | 1 =>
    let r := s.fget F.svc_MON_CTRL_RAIL
    .level (min 1250 (s.fget (F.svc_RAIL_MV (if 1 ≤ r ∧ r ≤ 10 then r - 1 else 0)) / 2))
  | 2 => .level (let t := s.fget F.svc_TEMP_NOW
                 if 32768 ≤ t then 0 else min 1250 t)
  | 3 => .level s.verdictMv
  | 4 => if s.monCode = 0 then .level 0 else .digits ((List.range 4).map fun k => s.monCode / 16 ^ (3 - k) % 16)
  | _ => .level 0

/-! ## Console commands (R455, R456) -/

/-- A console command is received: it is counted, and opens a session (R474, R475). -/
def State.conBegins (s : State) : State :=
  let s := s.cadd F.svc_CONSOLE_CMDS_C 1
  if s.flag F.svc_SVC_STATUS_SESSION then s else (s.fset F.svc_SVC_STATUS_SESSION 1).raise 0x2A0 3

/-- A console command: those not marked AON answer DOMAIN_OFF in Dormant and in Reset (R456). -/
def State.console (s : State) (aon : Bool) (f : State → State) : State :=
  s.whenAon fun s =>
    let s := s.conBegins
    if aon || s.live then f s else s.emit (.conErr 6)

/-- A command that needs no answer beyond OK. -/
def State.conDone (s : State) : State := s.emit .conOk

/-- STATUS (R456). -/
def State.conStatus (s : State) : State :=
  (s.emit (.conData [modeWord s, s.storedReg .pf0 0 0x58, s.storedReg .pf0 0 0x54, s.storedReg .pf0 0 0x64,
    s.fget F.svc_SVC_STATUS_CLK_SRC, s.fget F.svc_SVC_STATUS_ROOT_LOCK, s.fuses.lifecycle.code])).conDone

/-- RAILS (R456): a line of index, mV and state for each rail. -/
def State.conRails (s : State) : State :=
  ((List.range 10).foldl (fun s i =>
    s.emit (.conData [i + 1, s.fget (F.svc_RAIL_MV i), s.fget (F.svc_RAIL_STATE i)])) s).conDone

/-- TEMP (R456): present and peak, in 0.1 °C, as the register holds them. -/
def State.conTemp (s : State) : State :=
  (s.emit (.conData [s.fget F.svc_TEMP_NOW, s.fget F.svc_TEMP_PEAK])).conDone

/-- DWORDs read one after another for the console, until an error response. -/
def State.conReads (s : State) (addr : Nat) : Nat → State × List Nat × Resp
  | 0 => (s, [], 0)
  | n + 1 =>
    let x := s.readDw .service addr
    if x.2.2 ≠ 0 then (x.1, [], x.2.2)
    else
      let y := x.1.conReads (addr + 4) n
      (y.1, x.2.1 :: y.2.1, y.2.2)

/-- RD (R456): the engine serves pages 0x2A0 and 0x2A1 itself in every mode. -/
def State.conRd (s : State) (p off n : Nat) : State :=
  if n = 0 || 64 < n || off % 4 != 0 || 0x4000 < off + 4 * n then s.emit (.conErr 0x11)
  else if !s.live && !pageAon p then s.emit (.conErr 6)
  else match s.gate .service p false with
    | .drop => s.emit (.conErr 6)
    | .dropLog => (s.logErr 0x270 6 (masterId .service) 0 off).emit (.conErr 6)
    | _ =>
      let x := s.conReads (p * 0x10000 + off) n
      if x.2.2 ≠ 0 then x.1.emit (.conErr 0x12) else (x.1.emit (.conData x.2.1)).conDone

/-- WR (R456, R463): journalled with the response of the matrix. -/
def State.conWr (s : State) (p off data : Nat) : State :=
  if !s.flag F.svc_SVC_CFG_CON_WR_EN then s.emit (.conErr 0x13)
  else if off % 4 != 0 then s.emit (.conErr 0x11)
  else if !s.live && !pageAon p then s.emit (.conErr 6)
  else
    let g := s.gate .service p true
    let resp := match g with
      | .decode => 1
      | .shield => 3
      | _ => 0
    let s := s.regWrite .service p off 0 0xF data
    let s := s.jrnl 13 (masterId .service) 0x2A0 (leBytes 4 p ++ leBytes 4 off ++ leBytes 4 data ++ leBytes 4 resp)
    if resp ≠ 0 then s.emit (.conErr 0x12)
    else if g = .drop || g = .dropLog then s.emit (.conErr 6)
    else if g = .secure then s.emit (.conErr 5)
    else s.conDone

/-- MON (R450, R456). -/
def State.conMon (s : State) (v : MonView) : State :=
  (match v with
    | .rail r => s.fsets [(F.svc_MON_CTRL_VIEW, 1), (F.svc_MON_CTRL_RAIL, r.val + 1)]
    | .temp => s.fset F.svc_MON_CTRL_VIEW 2
    | .verdict => s.fset F.svc_MON_CTRL_VIEW 3
    | .code => s.fset F.svc_MON_CTRL_VIEW 4
    | .auto => s.fset F.svc_MON_CTRL_VIEW 0
    | .off => s.fset F.svc_MON_CTRL_VIEW 5).conDone

/-- EYE (R456): test 2, whose width is printed when it ends. -/
def State.conEyeTest (s : State) (n eye : Nat) : State :=
  if eye = 3 then s.emit (.conErr 0x10)
  else if s.svc.test.isSome then s.emit (.conErr 8)
  else
    let t := ({ s with svc := { s.svc with conEye := true } } : State).testStart .service 2
      { unit := n, full := false, laneLeg := false, eye := eye, console := true }
    if t.svc.test.isSome then t
    else
      let answered := t.out.length != s.out.length
      ({ t with svc := { t.svc with conEye := false } } : State).onlyIf (!answered) fun s => s.emit (.conErr 8)

/-- JRNL (R456): the last `k` records of the ring, oldest first. -/
def State.conJrnl (s : State) (k : Nat) : State :=
  if k = 0 then s.emit (.conErr 0x11)
  else
    let wr := s.fget F.jr_JRNL_WR_SLOT
    let slots := (List.range k).map fun i => (wr + 262080 - k + i) % 262080
    (slots.foldl (fun (s : State) i => match s.svc.mram.find? fun e => e.1 == i with
      | some e => s.emit (.conData (jrnlBytes e.2))
      | none => s) s).conDone

/-- MODE (R456): a MODE_REQ operation; a refused one is logged BAD_COMMAND (R37). -/
def State.conMode (s : State) (op : Nat) : State :=
  if op = 0 || 4 < op then s.emit (.conErr 0x10)
  else
    let s := s.regWrite .service 0 0x44 0 0xF op
    if s.fget F.dev_MODE_REQ_STATUS = 3 then s.emit (.conErr 9) else s.conDone

/-- MBOX (R456): the command waits for the mailbox (R430). -/
def State.conMboxCmd (s : State) (op : Nat) (data : List Nat) : State :=
  if s.domainOff 0x280 || s.dev.mode = .boot then (s.logErr 0x270 6 (masterId .service) 0 0x40).emit (.conErr 6)
  else if op = 0 || 9 < op then (s.log 0x280 9 .service 0x40).emit (.conErr 9)
  else if 4096 < data.length then s.emit (.conErr 0x11)
  else if s.svc.conMbox.isSome || s.svc.conMboxRun then s.emit (.conErr 8)
  else ({ s with svc := { s.svc with conMbox := some (op, data) } } : State).mboxFollow

/-- CLEAR FATAL (R456, R463): the record carries the fault cleared. -/
def State.conClearFatal (s : State) : State :=
  let old := s.storedReg .pf0 0 0x58
  let s := s.fsets [(F.dev_FATAL_CODE, 0), (F.dev_FATAL_CLASS, 0)]
  (s.jrnl 4 (masterId .service) 0xFFFF (leBytes 4 old ++ [0, 0, 0, 0, 1])).conDone

/-- A break on SVC_RXD (R454): the session ends with its command, a running test apart; master 0xD is reset. -/
def State.conBreak (s : State) : State :=
  let s := { s with svc := { s.svc with conMbox := none, conMboxRun := false, conEye := false } }
  (s.fset F.svc_SVC_STATUS_SESSION 0).masterReset .service

/-- A console TEST command starts a test, if CON_TEST_EN allows (R456, R474). -/
def State.conTest (s : State) (num : Nat) (r : TestReq) : State :=
  s.console false fun s =>
    if !s.flag F.svc_SVC_CFG_CON_TEST_EN then s.emit (.conErr 0x13) else s.testStart .service num { r with console := true }

/-- TEST_CMD's data for a test (R474). -/
def testWord (num : Nat) (r : TestReq) : Nat :=
  num + 16 * b2n r.full + 32 * b2n r.laneLeg + 64 * (r.eye % 4) + 256 * (r.unit % 256)

/-- A test is started by the console or through TEST_CMD (R458, R459). -/
def State.startTest (s : State) (m : Master) (num : Nat) (r : TestReq) : State :=
  if m = .service then s.conTest num r
  else s.viaCmd m 0x2A0 0x48 (testWord num r) fun s => s.testStart m num r

end Sys2Proof.Machine
end

