-- ==== Sys2Proof/Machine/PowerOps.lean ====
section
/-! DEFINITION. Rails, temperature, clocks and the power of the always-on domain (spec/02_modes.md R35, R44;
spec/17_service_debug.md R448, R449, R464; spec/18_package_electrical.md R487).

Readings fixed here (notes/assumptions): 4 DESIGN CHOICE, 13 DEDUCED, 16 DEDUCED, 17 DEDUCED, 18 DESIGN CHOICE, 109
DESIGN CHOICE, 113 DESIGN CHOICE. -/

namespace Sys2Proof.Machine

/-! ## The always-on domain (R44, R464, R487) -/

/-- The valid record with the highest SEQ, and its slot (R464). -/
def State.lastRecord (s : State) : Option (Nat × JRec) :=
  s.svc.mram.foldl (fun b e => match b with
    | none => some e
    | some v => if v.2.seq < e.2.seq then some e else some v) none

/-- Everything but what keeps its contents without power: the journal MRAM and its EPOCH store, the boot flash, the fuses, and the
levels of the pins. -/
def State.unpowered (s : State) : State :=
  { State.reset with
    dev := { State.reset.dev with
      mode := .dormant, aonOn := false, rstLow := s.dev.rstLow, perstLow := s.dev.perstLow
      strapSide := s.dev.strapSide, strapSrc := s.dev.strapSrc }
    fuses := s.fuses
    svc := { State.reset.svc with
      mram := s.svc.mram, epochs := s.svc.epochs, badSlots := s.sec.slotsCut ++ s.svc.badSlots }
    dbg := { State.reset.dbg with challengeNo := s.dbg.challengeNo + 1 }
    out := s.out
    free := s.free
    pending := s.pending }

/-- The state of a rail of nominal voltage `nom` at `mv` (R448), with no history. -/
def railOf (nom mv : Nat) : RailState :=
  let d := if mv < nom then nom - mv else mv - nom
  if 2 * mv < nom then .off
  else if 100 * d ≤ 3 * nom then .ok
  else if 100 * d ≤ 5 * nom then .warn
  else if 100 * d ≤ 10 * nom then .out else .fatal

/-- How far out a rail's state is; OFF lies below every other. -/
def railDepth : RailState → Nat
  | .ok => 0 | .warn => 1 | .out => 2 | .fatal => 3 | .off => 4

/-- The rail is back inside the threshold of the state it is in by 0.5 % of nominal (R448). -/
def railBack (old nom mv : Nat) : Bool :=
  let d := if mv < nom then nom - mv else mv - nom
  match old with
  | 0 => 2 * mv ≥ nom && 200 * (2 * mv - nom) ≥ 2 * nom
  | 2 => 200 * d ≤ 5 * nom
  | 3 => 200 * d ≤ 9 * nom
  | 4 => 200 * d ≤ 19 * nom
  | _ => true

/-- The state after a measurement, of a rail whose RAIL_STATE code is `old` (R448): a deeper state at once, but WARN only
once the rail has been outside ±3 % for 1 ms; a lesser one only from inside the threshold by 0.5 %. -/
def railNext (old nom mv : Nat) (held : Bool) : Nat :=
  let st := railOf nom mv
  if st == .warn && !held then old
  else if (if old = 0 then 4 else old - 1) < railDepth st || railBack old nom mv then railCode st
  else old

/-- The first measurement of a rail. -/
def railFirst (s : State) (e : Nat × Nat) : State :=
  s.fsets [(F.svc_RAIL_MV e.1, e.2), (F.svc_RAIL_STATE e.1, railCode (railOf (railNominal e.1) e.2)), (F.svc_RAIL_MIN_MV e.1, e.2)]

/-- The journal resumes after its last record (R464); over an empty ring at slot 0 with SEQ 1, in power cycle 1. -/
def State.journalResumes (s : State) : State :=
  match s.lastRecord with
  | none => s.fsets [(F.jr_JRNL_WR_SLOT, 0), (F.jr_JRNL_SEQ_SEQ, 1), (F.svc_SVC_STATUS_AON_CYCLE, 1)]
  | some (slot, r) => s.fsets [(F.jr_JRNL_WR_SLOT, nextSlot slot), (F.jr_JRNL_SEQ_SEQ, nextSeq r.seq),
      (F.svc_SVC_STATUS_AON_CYCLE, r.aonCycle + 1)]

/-- VDD_AON enters its window (R44 step 1, R464): Dormant, until every rail is found in window. -/
def State.aonApplied (s : State) (xo : Bool) (mv : List Nat) : State :=
  if s.dev.aonOn then s
  else
    let s := s.unpowered
    let s := { s with dev := { s.dev with aonOn := true } }
    let s := s.fsets [(F.svc_SVC_STATUS_XO_PRESENT, b2n xo), (F.svc_SVC_STATUS_CLK_SRC, b2n !xo)]
    let s := ((List.range 10).map fun i => (i, mv.getD i 0)).foldl railFirst s
    let s := s.journalResumes
    let s := s.jrnl 1 hwMaster 0xFFFF ([b2n !xo, 0] ++ (((List.range 10).map fun i => leBytes 2 (mv.getD i 0)).flatten))
    if s.railsIn then s.fullReset 0 else s

/-! ## Rails (R33, R35, R448) -/

/-- A rail-monitor warning (R448): its record, RAIL_WARN, the rail GASP of R366, FAULT bit 3 of R335. -/
def State.railWarning (s : State) (r st mv : Nat) : State :=
  let s := (s.jrnl 11 hwMaster 0x2A0 ([r + 1, st] ++ leBytes 2 mv)).raise 0x2A0 1
  let s := (s.gaspEvent 0 4).gaspEvent 1 4
  { s with twin := { s.twin with fault := s.twin.fault ||| 8 } }

/-- A rail monitor measures rail `r` (from 0), whose state follows (R448): Dormant below the off threshold, a full reset on the return
of every rail after Dormant, and Reset left when the last rail comes into window. VDD_AON only reports. -/
def State.railMoves (s : State) (r mv : Nat) (held : Bool) : State :=
  let old := s.fget (F.svc_RAIL_STATE r)
  let st := railNext old (railNominal r) mv held
  let s := s.fsets [(F.svc_RAIL_STATE r, st), (F.svc_RAIL_MV r, mv), (F.svc_RAIL_MIN_MV r, min mv (s.fget (F.svc_RAIL_MIN_MV r)))]
  if 9 ≤ r then s
  else
    let s := s.onlyIf (old == 1 && (st == 2 || st == 3) && s.live) fun s => s.railWarning r st mv
    if st = 0 then s.toDormant
    else if s.dev.mode = .dormant then (if s.railsIn then s.fullReset 0 else s)
    else s.leaveReset

/-- A rail has been in FATAL for more than 10 µs (R35, R448, R453). -/
def State.railFatal (s : State) (r : Nat) : State :=
  if s.fget (F.svc_RAIL_STATE r) != 4 then s
  else
    let mv := s.fget (F.svc_RAIL_MV r)
    s.fatal 2 (0x2000 + (r + 1) * 0x100 + (if mv < railNominal r then 0x11 else 0x12)) (leBytes 2 (r + 1) ++ leBytes 2 mv)

/-! ## Temperature (R449) -/

/-- The 105 °C condition (R449). -/
def State.therm105 (s : State) (t : Int) : State :=
  if s.svc.therm105 then (if t ≤ 1020 then { s with svc := { s.svc with therm105 := false } } else s)
  else if 1050 ≤ t then
    let s := { s with svc := { s.svc with therm105 := true }, twin := { s.twin with fault := s.twin.fault ||| 8 } }
    (s.jrnl 12 hwMaster 0x2A0 (leBytes 2 (ofSigned 16 t) ++ leBytes 2 1050)).raise 0x2A0 2
  else s

/-- The 110 °C condition (R366, R449). -/
def State.therm110 (s : State) (t : Int) : State :=
  if s.svc.therm110 then (if t ≤ 1070 then { s with svc := { s.svc with therm110 := false } } else s)
  else if 1100 ≤ t then
    (({ s with svc := { s.svc with therm110 := true } } : State).gaspEvent 0 3).gaspEvent 1 3
  else s

/-- MEM_STATUS.TEMP of a stack that is READY (R239): what the stack measures, a free value, taken with the die's. -/
def State.stackTemp (s : State) (i : Nat) : State :=
  s.onlyIf (s.ready (0x2B0 + i)) fun s => (s.fset (F.mem_MEM_STATUS_TEMP i) (Config.freeValue s.free % 256)).tick

/-- The die temperature is read, in 0.1 °C, a millisecond after the last reading (R449). -/
def State.tempSample (s : State) (t : Int) : State :=
  let s := s.svcMs
  let peak := max t (signedOf 16 (s.fget F.svc_TEMP_PEAK))
  let s := s.fsets [(F.svc_TEMP_NOW, ofSigned 16 t), (F.svc_TEMP_PEAK, ofSigned 16 peak)]
  let s := (((List.range 4).foldl State.stackTemp s).therm105 t).therm110 t
  if 1150 ≤ t then s.fatal 3 0x3111 (leBytes 2 (ofSigned 16 t)) else s

/-! ## Clocks (R20, R22, R33) -/

/-- XO_IN is lost (R22): SVC_CLK runs from the RC oscillator. -/
def State.xoLost (s : State) : State :=
  let s := s.fsets [(F.svc_SVC_STATUS_XO_PRESENT, 0), (F.svc_SVC_STATUS_CLK_SRC, 1), (F.svc_SVC_STATUS_ROOT_LOCK, 0)]
  s.fatal 1 0x1111 []

/-- XO_IN is back (R20). -/
def State.xoBack (s : State) : State := s.fsets [(F.svc_SVC_STATUS_XO_PRESENT, 1), (F.svc_SVC_STATUS_CLK_SRC, 0)]

/-- The root PLL locks or loses lock (R22, R33); it cannot lock without XO_IN. -/
def State.rootLock (s : State) (locked : Bool) : State :=
  if locked then
    (if s.flag F.svc_SVC_STATUS_XO_PRESENT then (s.fset F.svc_SVC_STATUS_ROOT_LOCK 1).leaveReset else s)
  else if s.flag F.svc_SVC_STATUS_ROOT_LOCK then (s.fset F.svc_SVC_STATUS_ROOT_LOCK 0).fatal 1 0x1112 []
  else s

/-! ## Reset pins (R39, R41, R33) -/

/-- RESET_N is low (R39); Dormant goes before Reset (R36). -/
def State.resetLow (s : State) : State :=
  let s := { s with dev := { s.dev with rstLow := true } }
  if s.dev.mode = .dormant then s else s.fullReset 1

/-- PERST_N is low (R39, R41). -/
def State.perstFalls (s : State) : State :=
  let s := { s with dev := { s.dev with perstLow := true } }
  if s.dev.mode = .dormant then s
  else if s.flag F.dev_RESET_CFG_PERST_FULL then s.fullReset 2
  else s.dmaCut.perstHost

/-- What keeps the device in Reset (R44): XO_IN, shown as 0, and the rails outside their windows by the index of R448. -/
def State.missingItems (s : State) : List Nat :=
  (if s.flag F.svc_SVC_STATUS_XO_PRESENT then [] else [0]) ++ ((List.range 9).filter fun i =>
    s.fget (F.svc_RAIL_STATE i) != 1 && s.fget (F.svc_RAIL_STATE i) != 2).map (· + 1)

/-- RESET_N or PERST_N is released, with the straps at these levels (R33, R44, R492). Where RESET_N is released too early the service
engine reports the missing items on the console (R44). -/
def State.resetReleased (s : State) (perst side : Bool) (src : Nat) : State :=
  let s := { s with dev := { s.dev with
    strapSide := side, strapSrc := src, rstLow := s.dev.rstLow && perst, perstLow := s.dev.perstLow && !perst } }
  (s.onlyIf (!perst && decide (s.dev.mode = Mode.reset) && !s.missingItems.isEmpty) fun s =>
    s.emit (.conNotice 3 s.missingItems)).leaveReset

/-- The control-firmware watchdog expires (R33, R50): not while it is off, or while a core is in debug halt (R471). -/
def State.watchdogBites (s : State) : State :=
  if serviceFrom s.dev.mode && s.dev.fwRunning && s.fget F.dev_CTLFW_WDOG_TIMEOUT != 0 && !s.anyDebugHalt then
    s.enterService 3
  else s

end Sys2Proof.Machine
end

