-- ==== Sys2Proof/Machine/Modes.lean ====
section
/-! DEFINITION. The commands of modes, reset, power-up and control firmware (spec/02_modes.md). -/

namespace Sys2Proof.Machine

/-- A write of DEVICE.MODE_REQ (R37). -/
def State.reqWrite (s : State) (m : Master) (op : Nat) : State := s.viaCmd m 0 0x44 op fun s => s.modeReq m op

/-- MODE_REQ_ENTER_MAINTENANCE (R37). -/
def execModeReqEnterMaintenance (m : Master) (s : State) : Host.Outcome State Fault Refusal :=
  finish s (s.reqWrite m 1)

/-- MODE_REQ_LEAVE_MAINTENANCE (R37). -/
def execModeReqLeaveMaintenance (m : Master) (s : State) : Host.Outcome State Fault Refusal :=
  finish s (s.reqWrite m 2)

/-- MODE_REQ_ENTER_SERVICE (R37). -/
def execModeReqEnterService (m : Master) (s : State) : Host.Outcome State Fault Refusal :=
  finish s (s.reqWrite m 3)

/-- MODE_REQ_RESTART_FIRMWARE (R50). -/
def execModeReqRestartFirmware (m : Master) (s : State) : Host.Outcome State Fault Refusal :=
  finish s (s.reqWrite m 4)

/-- ROLE_WRITE (R38). -/
def execRoleWrite (m : Master) (role : Fin 4) (s : State) : Host.Outcome State Fault Refusal :=
  finish s (s.viaCmd m 0 0x48 role.val fun s => s.devWrite m 0x48 0 0xF role.val)

/-- BRINGUP_EXIT (R33, R38). -/
def execBringupExit (s : State) : Host.Outcome State Fault Refusal := finish s s.bringUpExit

/-- FULL_RESET_COMMAND (R39, R40). -/
def execFullResetCommand (m : Master) (s : State) : Host.Outcome State Fault Refusal :=
  finish s (s.viaCmd m 0 0x4C 0xD0D00001 fun s => s.fullReset 3)

/-- RESET_N_ASSERTED (R39, R40). -/
def execResetNAsserted (s : State) : Host.Outcome State Fault Refusal := finish s (s.whenAon State.resetLow)

/-- PERST_N_ASSERTED (R39, R41). -/
def execPerstNAsserted (s : State) : Host.Outcome State Fault Refusal := finish s (s.whenAon State.perstFalls)

/-- VDD_AON_APPLIED (R44, R464). -/
def execVddAonApplied (xo : Bool) (mv : List Nat) (s : State) : Host.Outcome State Fault Refusal :=
  finish s (s.aonApplied xo mv)

/-- VDD_AON_LOST (R487). -/
def execVddAonLost (s : State) : Host.Outcome State Fault Refusal := finish s s.unpowered

/-- RAIL_STATE_CHANGE (R33, R448). -/
def execRailStateChange (r : Fin 10) (mv : Fin 4096) (held : Bool) (s : State) : Host.Outcome State Fault Refusal :=
  finish s (s.whenAon fun s => s.railMoves r.val mv.val held)

/-- RAIL_FATAL_TIMEOUT (R35, R448). -/
def execRailFatalTimeout (r : Fin 9) (s : State) : Host.Outcome State Fault Refusal :=
  finish s (s.whenAon fun s => s.railFatal r.val)

/-- TEMPERATURE_SAMPLE (R449). -/
def execTemperatureSample (t : Int) (s : State) : Host.Outcome State Fault Refusal :=
  finish s (s.whenAon fun s => s.tempSample t)

/-- XO_IN_LOSS (R22). -/
def execXoInLoss (s : State) : Host.Outcome State Fault Refusal := finish s (s.whenAon State.xoLost)

/-- ROOT_PLL_LOCK_CHANGE (R22). -/
def execRootPllLockChange (locked : Bool) (s : State) : Host.Outcome State Fault Refusal :=
  finish s (s.whenAon fun s => s.rootLock locked)

/-- WATCHDOG_KICK (R33, R50): the word of CTLFW_WDOG with KICK. -/
def execWatchdogKick (m : Master) (timeout : Fin 65536) (s : State) : Host.Outcome State Fault Refusal :=
  finish s (s.viaCmd m 0 0x60 (2 ^ 31 + timeout.val) fun s => s.wdogWrite m 0 0xF (2 ^ 31 + timeout.val))

/-- WATCHDOG_EXPIRY (R33). -/
def execWatchdogExpiry (s : State) : Host.Outcome State Fault Refusal := finish s s.watchdogBites

/-- BOOT_COMPLETE (R426). -/
def execBootComplete (b : BootInput) (s : State) : Host.Outcome State Fault Refusal := finish s (s.bootComplete b)

/-- A control-firmware command is written (R51). -/
def State.cfwWriteCmd (s : State) (m : Master) (op index : Nat) (data : List Nat) : State :=
  s.viaCmd m 1 0x48 op fun s => s.cfwCall m op index data

/-- CFW_TTI_EXPECT (R51, R52). -/
def execCfwTtiExpect (m : Master) (index : Fin 262144) (data : List Word) (s : State) : Host.Outcome State Fault Refusal :=
  finish s (s.cfwWriteCmd m 1 index.val ((data.map (·.toNat)).take 32))

/-- CFW_POINT_STATUS (R51, R52). -/
def execCfwPointStatus (m : Master) (index : Fin 262144) (s : State) : Host.Outcome State Fault Refusal :=
  finish s (s.cfwWriteCmd m 2 index.val [])

/-- CFW_MSI_STATUS (R51, R52). -/
def execCfwMsiStatus (m : Master) (index : Fin 262144) (s : State) : Host.Outcome State Fault Refusal :=
  finish s (s.cfwWriteCmd m 3 index.val [])

/-- CFW_SD_CFG (R51, R52). -/
def execCfwSdCfg (m : Master) (index : Fin 262144) (data : Word) (s : State) : Host.Outcome State Fault Refusal :=
  finish s (s.cfwWriteCmd m 4 index.val [data.toNat])

/-- CFW_PG_STATUS (R51, R52). -/
def execCfwPgStatus (m : Master) (index : Fin 262144) (s : State) : Host.Outcome State Fault Refusal :=
  finish s (s.cfwWriteCmd m 5 index.val [])

/-- CFW_PM_BINS (R51, R52). -/
def execCfwPmBins (m : Master) (index : Fin 262144) (s : State) : Host.Outcome State Fault Refusal :=
  finish s (s.cfwWriteCmd m 6 index.val [])

/-- CFW_COMMAND_DONE (R51). -/
def execCfwCommandDone (s : State) : Host.Outcome State Fault Refusal := finish s (s.whenLive State.cfwDone)

/-- CFW_PUBLISH (R51, R52). -/
def execCfwPublish (ifVer : Fin 65536) (s : State) : Host.Outcome State Fault Refusal :=
  finish s (s.whenLive fun s => s.cfwPublish ifVer.val)

/-- RESET_N_RELEASED (R33, R44, R492). -/
def execResetNReleased (perst side : Bool) (src : Fin 4) (s : State) : Host.Outcome State Fault Refusal :=
  finish s (s.whenAon fun s => s.resetReleased perst side src.val)

/-- XO_IN_RETURN (R20). -/
def execXoInReturn (s : State) : Host.Outcome State Fault Refusal := finish s (s.whenAon State.xoBack)

/-- WARDEN_INTEGRITY_FAILURE (R35, R453). -/
def execWardenIntegrityFailure (s : State) : Host.Outcome State Fault Refusal :=
  finish s (s.whenLive fun s => s.fatal 4 0x4113 [])

end Sys2Proof.Machine
end

