-- ==== Sys2Proof/Machine/Odu.lean ====
section
/-! DEFINITION. The commands of ODU processing and the context store (spec/06_odu_monitoring.md). -/

namespace Sys2Proof.Machine

/-- The word of a TRIB_CMD (R169). -/
def tribWord (index : Nat) (eg : Bool) (table op : Nat) : Nat := index + 2 ^ 16 * b2n eg + 2 ^ 17 * table + 2 ^ 19 * op

/-- The word of a CTX_CMD (R171). -/
def ctxWord (index op : Nat) : Nat := index + 2 ^ 18 * op

/-- TRIB_READ_ACTIVE (R141). -/
def execTribReadActive (m : Master) (index : Fin 65536) (eg : Bool) (table : Fin 4) (s : State) :
    Host.Outcome State Fault Refusal :=
  finish s (s.viaCmd m 0x40 0x40 (tribWord index.val eg table.val 1) fun s => s.tribCmd m index.val eg table.val 1)

/-- TRIB_WRITE_STAGED (R141). -/
def execTribWriteStaged (m : Master) (index : Fin 65536) (eg : Bool) (table : Fin 4) (s : State) :
    Host.Outcome State Fault Refusal :=
  finish s (s.viaCmd m 0x40 0x40 (tribWord index.val eg table.val 2) fun s => s.tribCmd m index.val eg table.val 2)

/-- TRIB_READ_STAGED (R141). -/
def execTribReadStaged (m : Master) (index : Fin 65536) (eg : Bool) (table : Fin 4) (s : State) :
    Host.Outcome State Fault Refusal :=
  finish s (s.viaCmd m 0x40 0x40 (tribWord index.val eg table.val 3) fun s => s.tribCmd m index.val eg table.val 3)

/-- TRIB_APPLY (R142). -/
def execTribApply (m : Master) (port : Fin 65536) (eg : Bool) (s : State) : Host.Outcome State Fault Refusal :=
  finish s (s.viaCmd m 0x40 0x40 (tribWord port.val eg 0 4) fun s => s.tribCmd m port.val eg 0 4)

/-- TRIB_APPLY_ACTIVATE (R143). -/
def execTribApplyActivate (s : State) : Host.Outcome State Fault Refusal :=
  finish s (s.whenLive State.applyNow)

/-- TRIB_DISCARD (R141). -/
def execTribDiscard (m : Master) (port : Fin 65536) (eg : Bool) (s : State) : Host.Outcome State Fault Refusal :=
  finish s (s.viaCmd m 0x40 0x40 (tribWord port.val eg 0 5) fun s => s.tribCmd m port.val eg 0 5)

/-- ODU_FRAME_RECEIVED (R138, R139, R150, R152 to R160). -/
def execOduFrameReceived (eg : Bool) (g : Fin 65536) (f : OduFrame) (ecc : List EccHit) (s : State) :
    Host.Outcome State Fault Refusal :=
  finish s (s.whenLive fun s => (ecc.foldl State.eccHit s).oduFrame eg g.val f)

/-- DEFECT_PERSISTENCE_EXPIRY (R154). -/
def execDefectPersistenceExpiry (c : PersistCond) (s : State) : Host.Outcome State Fault Refusal :=
  finish s (s.whenLive fun s => s.persists c)

/-- CTX_READ (R149). -/
def execCtxRead (m : Master) (index : Fin 262144) (s : State) : Host.Outcome State Fault Refusal :=
  finish s (s.viaCmd m 0x60 0x40 (ctxWord index.val 1) fun s => s.ctxCmd m index.val 1)

/-- CTX_WRITE_CFG (R149). -/
def execCtxWriteCfg (m : Master) (index : Fin 262144) (s : State) : Host.Outcome State Fault Refusal :=
  finish s (s.viaCmd m 0x60 0x40 (ctxWord index.val 2) fun s => (s.ctxCmd m index.val 2).defects)

/-- CTX_CLEAR_COUNTS (R149). -/
def execCtxClearCounts (m : Master) (index : Fin 262144) (s : State) : Host.Outcome State Fault Refusal :=
  finish s (s.viaCmd m 0x60 0x40 (ctxWord index.val 3) fun s => s.ctxCmd m index.val 3)

/-- CTX_FREE (R149). -/
def execCtxFree (m : Master) (index : Fin 262144) (s : State) : Host.Outcome State Fault Refusal :=
  finish s (s.viaCmd m 0x60 0x40 (ctxWord index.val 4) fun s => s.ctxCmd m index.val 4)

/-- CTX_READ_PM (R165). -/
def execCtxReadPm (m : Master) (index : Fin 262144) (s : State) : Host.Outcome State Fault Refusal :=
  finish s (s.viaCmd m 0x60 0x40 (ctxWord index.val 5) fun s => s.ctxCmd m index.val 5)

/-- CTX_CLEAR_PM (R165). -/
def execCtxClearPm (m : Master) (index : Fin 262144) (s : State) : Host.Outcome State Fault Refusal :=
  finish s (s.viaCmd m 0x60 0x40 (ctxWord index.val 6) fun s => s.ctxCmd m index.val 6)

/-- TICK_BOUNDARY (R161 to R165). -/
def execTickBoundary (s : State) : Host.Outcome State Fault Refusal :=
  finish s (s.whenLive fun s => (s.tickWith State.tickBoundary).ppsOut)

/-- PM_RECORDS_WRITE (R166, R394). -/
def execPmRecordsWrite (s : State) : Host.Outcome State Fault Refusal :=
  finish s (s.whenLive State.pmWrite)

/-- PPS_IN_EDGE (R162). -/
def execPpsInEdge (offset : Int) (s : State) : Host.Outcome State Fault Refusal :=
  finish s (s.whenLive fun s => s.ppsEdge offset)

/-- PPS_IN_LOSS (R162). -/
def execPpsInLoss (s : State) : Host.Outcome State Fault Refusal :=
  finish s (s.whenLive State.ppsLoss)

end Sys2Proof.Machine
end

