-- ==== Sys2Proof/Machine/Protection.lean ====
section
/-! DEFINITION. The commands of protection, skew buffer, bonds and memory stacks (spec/08_protection_skew.md).

Readings fixed here (notes/assumptions): 56 DEDUCED. -/

namespace Sys2Proof.Machine

/-- PROTECTION_EVALUATION (R150, R208 to R212): a confirmation comes before the evaluation (R231). -/
def execProtectionEvaluation (g : Fin 262144) (ecc : List EccHit) (s : State) : Host.Outcome State Fault Refusal :=
  finish s (s.whenLive fun s => (((ecc.foldl State.eccHit s).confirmSpec g.val).pgEval g.val).alignerCheck g.val)

/-- HOLDOFF_EXPIRY (R209). -/
def execHoldoffExpiry (g : Fin 262144) (p : Bool) (s : State) : Host.Outcome State Fault Refusal :=
  finish s (s.whenLive fun s => s.holdoffExpires g.val p)

/-- WTR_EXPIRY (R209). -/
def execWtrExpiry (g : Fin 262144) (s : State) : Host.Outcome State Fault Refusal :=
  finish s (s.whenLive fun s => s.wtrExpires g.val)

/-- The speculation window of a group ends (R231). -/
def State.windowEnds (s : State) (g : Nat) : State :=
  let s := s.confirmSpec g
  if (s.pg g).spec then s.setPg g { s.pg g with specEnd := true } else s

/-- SPECULATION_WINDOW_EXPIRY (R231). -/
def execSpeculationWindowExpiry (g : Fin 262144) (s : State) : Host.Outcome State Fault Refusal :=
  finish s (s.whenLive fun s => s.windowEnds g.val)

/-- GUARD_EXPIRY (R230). -/
def execGuardExpiry (g : Fin 262144) (s : State) : Host.Outcome State Fault Refusal :=
  finish s (s.whenLive fun s => if s.ctxType g.val == 2 && !(s.run g.val).ecc then s.setCtxBits g.val 6 15 1 0 else s)

/-- INDEX_FRAME (R218 to R223): `opu` are the bytes of columns 15 to 3,824, row by row, over which the CRC-32 is formed; `cycle` is the
cycle, in the core frame in progress, of the write of the frame's first word. -/
def execIndexFrame (g : Fin 262144) (p : Bool) (mfas : Byte) (opu : List Byte) (cycle : Fin 1152) (s : State) :
    Host.Outcome State Fault Refusal :=
  finish s (s.whenLive fun s => s.indexFrame g.val p mfas.toNat (crc32 (opu.map BitVec.toNat)) (s.stampAt cycle.val))

/-- FILL_COMPLETE (R220). -/
def execFillComplete (g : Fin 262144) (s : State) : Host.Outcome State Fault Refusal :=
  finish s (s.whenLive fun s => s.fillComplete g.val)

/-- ADMIT (R226). -/
def execAdmitGroup (m : Master) (g : Fin 262144) (s : State) : Host.Outcome State Fault Refusal :=
  finish s (s.viaCmd m 0x90 0x54 (g.val + 2 ^ 18) fun s => s.admitCmd m g.val 1)

/-- RELEASE (R228). -/
def execRelease (m : Master) (g : Fin 262144) (s : State) : Host.Outcome State Fault Refusal :=
  finish s (s.viaCmd m 0x90 0x54 (g.val + 2 * 2 ^ 18) fun s => s.admitCmd m g.val 2)

/-- QUERY (R226). -/
def execQuery (m : Master) (g : Fin 262144) (s : State) : Host.Outcome State Fault Refusal :=
  finish s (s.viaCmd m 0x90 0x54 (g.val + 3 * 2 ^ 18) fun s => s.admitCmd m g.val 3)

/-- CARRIER_BOND_ENABLE (R235). -/
def execCarrierBondEnable (m : Master) (en : Bool) (s : State) : Host.Outcome State Fault Refusal :=
  finish s (s.viaPage m 0x92 0x40 0 0xF (b2n en) fun s => s.carrierBond m en)

/-- SLOT_LANE_BOND_ENABLE (R233). -/
def execSlotLaneBondEnable (m : Master) (j : Fin 128) (data : Word) (s : State) : Host.Outcome State Fault Refusal :=
  finish s (s.viaPage m 0x92 (0x100 + 8 * j.val) 0 0xF data.toNat fun s => s.slotBond m j.val 0 0xF data.toNat)

/-- STACK_READY_LOSS (R217). -/
def execStackReadyLoss (i : Fin 4) (s : State) : Host.Outcome State Fault Refusal :=
  finish s (s.whenLive fun s => s.stackLost i.val)

/-- MTEST_FREE_BLOCKS (R237). -/
def execMtestFreeBlocks (m : Master) (i : Fin 4) (s : State) : Host.Outcome State Fault Refusal :=
  finish s (s.viaCmd m (0x2B0 + i.val) 0x48 1 fun s => s.mtest m i.val 1)

/-- MTEST_WHOLE_STACK (R237). -/
def execMtestWholeStack (m : Master) (i : Fin 4) (s : State) : Host.Outcome State Fault Refusal :=
  finish s (s.viaCmd m (0x2B0 + i.val) 0x48 2 fun s => s.mtest m i.val 2)

/-- MTEST_DONE (R239). -/
def execMtestDone (i : Fin 4) (fail : Option (Fin 16384)) (s : State) : Host.Outcome State Fault Refusal :=
  finish s (s.whenLive fun s => s.mtestDone i.val (fail.map Fin.val))

/-- SCRUB_PASS (R237). -/
def execScrubPass (i : Fin 4) (corr uncorr : Nat) (s : State) : Host.Outcome State Fault Refusal :=
  finish s (s.whenLive fun s => s.scrubPass i.val corr uncorr)

end Sys2Proof.Machine
end

