-- ==== Sys2Proof/Machine/Registers.lean ====
section
/-! DEFINITION. The commands of the register interface and of the common header, and of blocks: enable, disable, reset
and readiness (spec/03_registers.md; spec/02_modes.md R43 to R49).

Readings fixed here (notes/assumptions): 19 DEDUCED. -/

namespace Sys2Proof.Machine

/-- REGISTER_WRITE (R60). -/
def execRegisterWrite (m : Master) (page dw : Fin 4096) (be : Fin 16) (data : Word) (s : State) :
    Host.Outcome State Fault Refusal :=
  finish s (s.regWrite m page.val (4 * dw.val) 0 be.val data.toNat)

/-- SET_ALIAS_WRITE (R62). -/
def execSetAliasWrite (m : Master) (page dw : Fin 4096) (be : Fin 16) (data : Word) (s : State) :
    Host.Outcome State Fault Refusal :=
  finish s (s.regWrite m page.val (4 * dw.val) 1 be.val data.toNat)

/-- CLEAR_ALIAS_WRITE (R62). -/
def execClearAliasWrite (m : Master) (page dw : Fin 4096) (be : Fin 16) (data : Word) (s : State) :
    Host.Outcome State Fault Refusal :=
  finish s (s.regWrite m page.val (4 * dw.val) 2 be.val data.toNat)

/-- TOGGLE_ALIAS_WRITE (R62). -/
def execToggleAliasWrite (m : Master) (page dw : Fin 4096) (be : Fin 16) (data : Word) (s : State) :
    Host.Outcome State Fault Refusal :=
  finish s (s.regWrite m page.val (4 * dw.val) 3 be.val data.toNat)

/-- LOCK_WRITE (R67): a whole-word write of LOCK. -/
def execLockWrite (m : Master) (page : Fin 4096) (data : Word) (s : State) : Host.Outcome State Fault Refusal :=
  finish s (s.viaCmd m page.val 0x28 data.toNat fun s => s.plainWrite m page.val 0x28 0 0xF data.toNat)

/-- INT_FORCE_WRITE (R56). -/
def execIntForceWrite (m : Master) (page : Fin 4096) (data : Word) (s : State) : Host.Outcome State Fault Refusal :=
  finish s (s.viaCmd m page.val 0x18 data.toNat fun s => s.intForce page.val 0 0xF data.toNat)

/-- SNAPSHOT_TAKE (R66): SNAP_CTRL with TAKE, and ON_TICK on page 0x000. -/
def execSnapshotTake (m : Master) (page : Fin 4096) (onTick : Bool) (s : State) : Host.Outcome State Fault Refusal :=
  finish s (s.viaCmd m page.val 0x20 (1 + 2 * b2n onTick) fun s => s.snapCtrl page.val (1 + 2 * b2n onTick))

/-- BLOCK_ENABLE (R49): BLK_CTRL with EN = 1. -/
def execBlockEnable (m : Master) (page : Fin 4096) (s : State) : Host.Outcome State Fault Refusal :=
  finish s (s.viaCmd m page.val 0xC 1 fun s => s.blkCtrl m page.val 0 0xF 1)

/-- BLOCK_DISABLE (R47, R49): BLK_CTRL with EN = 0. -/
def execBlockDisable (m : Master) (page : Fin 4096) (s : State) : Host.Outcome State Fault Refusal :=
  finish s (s.viaCmd m page.val 0xC 0 fun s => s.blkCtrl m page.val 0 0xF 0)

/-- A disable reaches its natural boundary (R47). -/
def State.drained (s : State) (f : DrainFn) : State :=
  match f with
  | .carrier c => s.carDrained c.val
  | .laneDatapath n => s.dpDrained n.val
  | .laneTransmitter n => s.txDrained n.val
  | .dmaChannel k moved hostData => s.chanDrained k.val moved (hostData.map BitVec.toNat)
  | .twinCopy => s.copyDrained
  | .group g => if (s.aligner g.val).releasing then s.releaseNow g.val else s

/-- DRAIN_COMPLETE (R47). -/
def execDrainComplete (f : DrainFn) (s : State) : Host.Outcome State Fault Refusal :=
  finish s (s.whenLive fun s => s.drained f)

/-- The word of BLK_CTRL that resets a block and leaves its EN (R43). -/
def State.resetWord (s : State) (p : Nat) : Nat := b2n (s.enabled p) + 2

/-- BLOCK_RESET (R43). -/
def execBlockReset (m : Master) (page : Fin 4096) (s : State) : Host.Outcome State Fault Refusal :=
  finish s (s.viaCmd m page.val 0xC (s.resetWord page.val) fun s =>
    s.blkCtrl m page.val 0 0xF (s.resetWord page.val))

/-- READY_REACHED (R45, R46). -/
def execReadyReached (page : Fin 4096) (s : State) : Host.Outcome State Fault Refusal :=
  finish s (s.whenLive fun s => s.readyReached page.val)

/-- READY_TIMEOUT (R45). -/
def execReadyTimeout (page : Fin 4096) (s : State) : Host.Outcome State Fault Refusal :=
  finish s (s.whenLive fun s => s.readyMissed page.val)

end Sys2Proof.Machine
end

