-- ==== Sys2Proof/Machine/Security.lean ====
section
/-! DEFINITION. The security commands: mailbox, keys, associations, updates, boot and the secured multiframe
(spec/16_security.md).

Readings fixed here (notes/assumptions): 90 DEDUCED, 115 DESIGN CHOICE. -/

namespace Sys2Proof.Machine

/-! ## Meanings -/

/-- MBOX_CLAIM (R430). -/
def execMboxClaim (m : Master) (s : State) : Host.Outcome State Fault Refusal :=
  finish s (s.viaCmd m 0x280 0x54 1 fun s => s.mboxClaim m)

/-- MBOX_RELEASE (R430). -/
def execMboxRelease (m : Master) (s : State) : Host.Outcome State Fault Refusal :=
  finish s (s.viaCmd m 0x280 0x54 2 fun s => s.mboxFree m)

/-- MBOX_IDLE_TIMEOUT (R430): DONE has been 1 for 1 s with no write from the owner. -/
def execMboxIdleTimeout (s : State) : Host.Outcome State Fault Refusal :=
  finish s (s.whenLive fun s =>
    if s.flag F.sec_MBOX_STATUS_OWNED && s.flag F.sec_MBOX_STATUS_DONE then s.mboxRelease else s)

/-- ATTEST (R429). -/
def execAttest (m : Master) (len : Fin 65536) (s : State) : Host.Outcome State Fault Refusal :=
  finish s (s.viaCmd m 0x280 0x40 (1 + len.val * 65536) fun s => s.mboxIssue m 1 len.val mboxAttest)

/-- KEY_LOAD (R440). -/
def execKeyLoad (m : Master) (len : Fin 65536) (s : State) : Host.Outcome State Fault Refusal :=
  finish s (s.viaCmd m 0x280 0x40 (2 + len.val * 65536) fun s => s.mboxIssue m 2 len.val mboxKeyLoad)

/-- KEY_SWITCH (R441). -/
def execKeySwitch (m : Master) (len : Fin 65536) (s : State) : Host.Outcome State Fault Refusal :=
  finish s (s.viaCmd m 0x280 0x40 (3 + len.val * 65536) fun s => s.mboxIssue m 3 len.val mboxKeySwitch)

/-- KEY_SWITCH_EFFECT (R441): the first multiframe boundary at or after the switch's core-frame or superframe
boundary moves TX_SLOT and raises KEY_SWITCHED. -/
def execKeySwitchEffect (sa : Fin 1024) (s : State) : Host.Outcome State Fault Refusal :=
  finish s (s.whenLive fun s =>
    if s.saEn sa && (s.sa sa).switchSf.isSome && (s.sa sa).switchDue then
      let s := s.setSa sa { s.sa sa with switchSf := none, switchDue := false }
      (s.setCtxBits (saCtx sa) 2 16 1 (1 - s.saTxSlot sa)).raise 0x280 2
    else s)

/-- KEY_ERASE (R440). -/
def execKeyErase (m : Master) (len : Fin 65536) (s : State) : Host.Outcome State Fault Refusal :=
  finish s (s.viaCmd m 0x280 0x40 (4 + len.val * 65536) fun s => s.mboxIssue m 4 len.val mboxKeyErase)

/-- SA_SET (R433). -/
def execSaSet (m : Master) (len : Fin 65536) (s : State) : Host.Outcome State Fault Refusal :=
  finish s (s.viaCmd m 0x280 0x40 (5 + len.val * 65536) fun s => s.mboxIssue m 5 len.val mboxSaSet)

/-- SA_READ (R431). -/
def execSaRead (m : Master) (len : Fin 65536) (s : State) : Host.Outcome State Fault Refusal :=
  finish s (s.viaCmd m 0x280 0x40 (6 + len.val * 65536) fun s => s.mboxIssue m 6 len.val mboxSaRead)

/-- UPDATE (R443). -/
def execUpdate (m : Master) (len : Fin 65536) (flashOk : Bool) (s : State) : Host.Outcome State Fault Refusal :=
  finish s (s.viaCmd m 0x280 0x40 (7 + len.val * 65536) fun s => s.mboxIssue m 7 len.val (mboxUpdate flashOk))

/-- SVN_COMMIT (R427). -/
def execSvnCommit (m : Master) (len : Fin 65536) (s : State) : Host.Outcome State Fault Refusal :=
  finish s (s.viaCmd m 0x280 0x40 (8 + len.val * 65536) fun s => s.mboxIssue m 8 len.val mboxSvnCommit)

/-- LIFECYCLE (R431). -/
def execLifecycle (m : Master) (len : Fin 65536) (s : State) : Host.Outcome State Fault Refusal :=
  finish s (s.viaCmd m 0x280 0x40 (9 + len.val * 65536) fun s => s.mboxIssue m 9 len.val mboxLifecycle)

/-- MBOX_COMMAND_DONE (R430). -/
def execMboxCommandDone (s : State) : Host.Outcome State Fault Refusal :=
  finish s (s.whenLive State.mboxDone)

/-- CORE_RUN_WRITE (R444). -/
def execCoreRunWrite (m : Master) (run : Fin 256) (s : State) : Host.Outcome State Fault Refusal :=
  finish s (s.viaPage m 0x280 0x50 0 0xF run.val fun s => s.coreRun m run.val)

/-! ## The secured multiframe (R434 to R438) -/

/-- The nonce of a multiframe (R435): salt, then SEQ, big-endian. -/
def gcmIv (salt q : Nat) : List Nat := beBytes 4 salt ++ beBytes 8 q

/-- A source's SOH (R435): what it announces and the previous tag, with its CRC. -/
def sohOf (nextSeq nextSlot : Nat) (prev : List Nat) : List Nat :=
  let body := beBytes 8 nextSeq ++ [nextSlot + 16, 0, 0, 0] ++ padTo 16 prev ++ List.replicate 14 0
  body ++ beBytes 2 (crc16 body)

/-- The rows of a multiframe's ODU frames, 3,824 bytes each. -/
def secRows (frames : List (List Nat)) : List (List Nat) := frames.flatMap (pieces 3824 4)

/-- AAD and payload of a multiframe (R435): OPU columns 15 and 16, and 17 to 3,824, of every row. -/
def secParts (frames : List (List Nat)) : List Nat × List Nat :=
  ((secRows frames).flatMap fun r => (r.drop 14).take 2, (secRows frames).flatMap fun r => r.drop 16)

/-- The SOH that lies in a multiframe (R435): in each frame, row 2 columns 1 to 3, row 3 columns 13 and 14, row 4 columns 9 to
14. -/
def secSoh (frames : List (List Nat)) : List Nat :=
  frames.flatMap fun f => slice f 3824 3 ++ slice f (2 * 3824 + 12) 2 ++ slice f (3 * 3824 + 8) 6

/-- A row's first 16 bytes with 11 bytes of SOH put in their places; `r` counts the rows from 0. -/
def rowHead (r : Nat) (row soh : List Nat) : List Nat :=
  match r with
  | 1 => soh.take 3 ++ slice row 3 13
  | 2 => row.take 12 ++ slice soh 3 2 ++ slice row 14 2
  | 3 => row.take 8 ++ slice soh 5 6 ++ slice row 14 2
  | _ => row.take 16

/-- A multiframe's frames with another payload and SOH. -/
def secFrames (frames : List (List Nat)) (payload soh : List Nat) : List (List Nat) :=
  frames.mapIdx fun f bytes =>
    ((pieces 3824 4 bytes).mapIdx fun r row =>
      rowHead r row (slice soh (11 * f) 11) ++ slice payload (3808 * (4 * f + r)) 3808).flatten

/-- Salt of slice `i` + 1 (R435). -/
def saltOf (salt i : Nat) : Nat := (salt + i) % 2 ^ 32

/-- Count in a DWORD of the SA record. -/
def State.saCount (s : State) (a d : Nat) : State :=
  s.onlyIf (!(s.run (saCtx a)).ecc) fun s => s.setCtxDw (saCtx a) d (s.ctxDw (saCtx a) d + 1)

/-- A source's multiframe (R435, R436): SEQ advances, each slice is encrypted, and its SOH announces the next. The sources of the
group insert their overhead after the cipher, so that BIP-8 is over the ciphertext (R434). -/
def State.sealMultiframe (s : State) (a : Nat) (sl : List (List (List Nat))) : State :=
  let q := s.saSeq a + 1
  if s.ctxBits (saCtx a) 6 2 1 == 1 then s
  else if s.saSeq a % 2 ^ 47 = 2 ^ 47 - 1 then
    (s.setCtxBits (saCtx a) 6 2 1 1).raise 0x280 3
  else
    let v := s.sa a
    let k := (s.key a (s.saTxSlot a)).getD Config.noKey
    let nslot := if v.switchSf.isSome && v.switchDue then 1 - s.saTxSlot a else s.saTxSlot a
    let cts := (sl.map secParts).mapIdx fun i x => (x.1, gcmCrypt k.1 (gcmIv (saltOf k.2 i) q) x.2)
    let tags := cts.mapIdx fun i x => gcmTag k.1 (gcmIv (saltOf k.2 i) q) x.1 x.2
    let s := ((s.setSaSeq a q).setSa a { v with prevTags := tags }).saCount a 10
    let out := (sl.zip cts).mapIdx fun i x => secFrames x.1 x.2.2 (sohOf (q + 1) nslot (v.prevTags.getD i Config.noTag))
    let s := s.emits (out.map (.secured a))
    s.onlyIf (!s.saScopePort a && !(s.sourcesOn (s.saGroup a)).isEmpty) fun s =>
      (out.getD 0 []).foldl (fun s f => s.oduLeaves (s.saGroup a) f) s

/-- A sink counts one judged multiframe: `bad` tells an authentication failure (R437, R438). -/
def State.judge (s : State) (a : Nat) (bad : Bool) : State :=
  let v := s.sa a
  let v := if bad then { v with badRun := v.badRun + 1, goodRun := 0 }
    else { v with goodRun := v.goodRun + 1, badRun := 0 }
  let s := (s.setSa a v).onlyIf bad fun s => s.cadd F.sec_AUTH_FAIL_TOTAL_C 1
  let lost := s.ctxBits (saCtx a) 6 0 1 == 1
  if bad && !lost && s.saAuthN a ≤ v.badRun then s.setAuthLost a true
  else if !bad && lost && 3 ≤ v.goodRun then s.setAuthLost a false
  else s

/-- The slot and SEQ that a multiframe announces: those of the first slice whose SOH CRC holds (R437). -/
def announced (sohs : List (List Nat)) : Option (Nat × Nat) :=
  (sohs.find? fun h => crc16 (slice h 0 42) == beAt h 42 2).map fun h => (beAt h 8 1 % 2, beAt h 0 8)

/-- Highest SEQ accepted with a slot and bit 63 (R437). -/
def SaState.highest (v : SaState) (slot q : Nat) : Nat := v.high[2 * slot + q / 2 ^ 63]?.getD 0

/-- The tags of the multiframe that waits have arrived (R437): it is accepted, or a slice does not match. One that
counted as a replay has been judged already. -/
def State.checkTags (s : State) (a : Nat) (sohs : List (List Nat)) : State :=
  match (s.sa a).held with
  | none => s
  | some h =>
    let k := (s.key a h.slot).getD Config.noKey
    let ok := (h.parts.mapIdx fun i x =>
      gcmTag k.1 (gcmIv (saltOf k.2 i) h.seq) x.1 x.2 == slice (sohs.getD i []) 12 16).all id
    let s := s.setSa a { s.sa a with held := none }
    if !ok then
      let s := s.saCount a 11
      if h.replay then s else s.judge a true
    else if h.replay then s
    else
      let v := s.sa a
      let s := s.setSa a { v with high := v.high.set (2 * h.slot + h.seq / 2 ^ 63) (h.seq % 2 ^ 63) }
      (s.setSaSeq a h.seq).judge a false

/-- What a sink passes on of a slice: its frames with zeros for the SOH (R435). -/
def sinkFrames (a : Nat) (x : List (List Nat)) (payload : List Nat) : Out :=
  .secured a (secFrames x payload (List.replicate 44 0))

/-- A sink's multiframe (R437): the tags of the previous one are checked; this one is decrypted with the slot and SEQ
that the previous one announced. Under an unconfirmed hypothesis nothing is counted or decided (R438). -/
def State.openMultiframe (s : State) (a : Nat) (sl : List (List (List Nat))) (confirmed : Bool) : State :=
  let v := s.sa a
  let sohs := sl.map secSoh
  let parts := sl.map secParts
  let now := v.next.getD (v.last.1, (v.last.2 + 1) % 2 ^ 64)
  let s := s.onlyIf confirmed fun s => (s.checkTags a sohs).saCount a 10
  let s := s.setSa a { s.sa a with held := none, last := now, next := announced sohs }
  match s.key a now.1 with
  | none =>
    let s := s.onlyIf confirmed fun s => (s.saCount a 13).judge a true
    s.emits (sl.map fun x => sinkFrames a x (secParts x).2)
  | some k =>
    let hi := (s.sa a).highest now.1 now.2
    let replay := decide (now.2 % 2 ^ 63 ≤ hi) && decide (0 < hi)
    let s := s.onlyIf (confirmed && replay) fun s => ((s.saCount a 12).cadd F.sec_REPLAY_TOTAL_C 1).judge a true
    let s := s.setCtxBits (saCtx a) 6 1 1 now.1
    let s := s.setSa a { s.sa a with
      opened := true
      held := if confirmed then some { slot := now.1, seq := now.2, replay := replay, parts := parts } else none }
    s.emits (sl.mapIdx fun i x => sinkFrames a x (gcmCrypt k.1 (gcmIv (saltOf k.2 i) now.2) (secParts x).2))

/-- The frames of a slice. -/
def sliceFrames (x : SecSlice) : List (List Nat) := x.frames.map fun f => f.map BitVec.toNat

/-- SECURED_MULTIFRAME (R437): a source encrypts, a sink decrypts; words of an unconfirmed hypothesis leave no
count (R438). -/
def execSecuredMultiframe (sa : Fin 1024) (slices : List SecSlice) (confirmed : Bool) (s : State) :
    Host.Outcome State Fault Refusal :=
  finish s (s.whenLive fun s =>
    if !s.saEn sa then s
    else if s.saSource sa then s.sealMultiframe sa (slices.map sliceFrames)
    else s.openMultiframe sa (slices.map sliceFrames) confirmed)

end Sys2Proof.Machine
end

