-- ==== Sys2Proof/Machine/Service.lean ====
section
/-! DEFINITION. The commands of the console, the tests and the field journal (spec/17_service_debug.md). -/

namespace Sys2Proof.Machine

/-- A test's arguments. -/
def testArgs (unit : Nat) (full leg : Bool) (eye : Nat) : TestReq :=
  { unit := unit, full := full, laneLeg := leg, eye := eye, console := false }

/-- CONSOLE_BREAK (R454). -/
def execConsoleBreak (s : State) : Host.Outcome State Fault Refusal :=
  finish s (s.whenAon State.conBreak)

/-- FLADAR_STATUS (R456). -/
def execFladarStatus (s : State) : Host.Outcome State Fault Refusal :=
  finish s (s.console true State.conStatus)

/-- FLADAR_RAILS (R456). -/
def execFladarRails (s : State) : Host.Outcome State Fault Refusal :=
  finish s (s.console true State.conRails)

/-- FLADAR_TEMP (R456). -/
def execFladarTemp (s : State) : Host.Outcome State Fault Refusal :=
  finish s (s.console true State.conTemp)

/-- FLADAR_RD (R456). -/
def execFladarRd (page : Fin 4096) (off : Fin 16384) (n : Fin 65) (s : State) : Host.Outcome State Fault Refusal :=
  finish s (s.console (pageAon page.val) fun s => s.conRd page.val off.val n.val)

/-- FLADAR_WR (R456). -/
def execFladarWr (page : Fin 4096) (off : Fin 16384) (data : Word) (s : State) : Host.Outcome State Fault Refusal :=
  finish s (s.console (pageAon page.val) fun s => s.conWr page.val off.val data.toNat)

/-- FLADAR_MON (R456). -/
def execFladarMon (v : MonView) (s : State) : Host.Outcome State Fault Refusal :=
  finish s (s.console true fun s => s.conMon v)

/-- FLADAR_EYE (R456). -/
def execFladarEye (n : Fin 256) (eye : Fin 4) (s : State) : Host.Outcome State Fault Refusal :=
  finish s (s.console false fun s => s.conEyeTest n.val eye.val)

/-- FLADAR_JRNL (R456). -/
def execFladarJrnl (k : Fin 257) (s : State) : Host.Outcome State Fault Refusal :=
  finish s (s.console true fun s => s.conJrnl k.val)

/-- FLADAR_MODE (R456). -/
def execFladarMode (op : Fin 8) (s : State) : Host.Outcome State Fault Refusal :=
  finish s (s.console false fun s => s.conMode op.val)

/-- FLADAR_MBOX (R456). -/
def execFladarMbox (op : Fin 16) (data : List Byte) (s : State) : Host.Outcome State Fault Refusal :=
  finish s (s.console false fun s => s.conMboxCmd op.val (natBytes data))

/-- FLADAR_RESET (R39, R456). -/
def execFladarReset (s : State) : Host.Outcome State Fault Refusal :=
  finish s (s.console false fun s => (s.conDone).fullReset 4)

/-- FLADAR_CLEAR_FATAL (R456). -/
def execFladarClearFatal (s : State) : Host.Outcome State Fault Refusal :=
  finish s (s.console true State.conClearFatal)

/-- FLADAR_ACK (R457). -/
def execFladarAck (s : State) : Host.Outcome State Fault Refusal :=
  finish s (s.console true fun s => s.attnRelease.conDone)

/-- FLADAR_ECHO (R456). -/
def execFladarEcho (on : Bool) (s : State) : Host.Outcome State Fault Refusal :=
  finish s (s.console true fun s => (s.fput F.svc_SVC_STATUS_ECHO on).conDone)

/-- ATTN_CLR (R457). -/
def execAttnClr (m : Master) (s : State) : Host.Outcome State Fault Refusal :=
  finish s (s.viaCmd m 0x2A0 0x58 1 State.attnRelease)

/-- TEST_RAILS (R458). -/
def execTestRails (m : Master) (s : State) : Host.Outcome State Fault Refusal :=
  finish s (s.startTest m 1 (testArgs 0 false false 1))

/-- TEST_EYE (R458). -/
def execTestEye (m : Master) (n : Fin 256) (eye : Fin 4) (s : State) : Host.Outcome State Fault Refusal :=
  finish s (s.startTest m 2 (testArgs n.val false false eye.val))

/-- TEST_CTXMEM (R458). -/
def execTestCtxmem (m : Master) (s : State) : Host.Outcome State Fault Refusal :=
  finish s (s.startTest m 3 (testArgs 0 false false 1))

/-- TEST_CORE (R460). -/
def execTestCore (m : Master) (lane : Option (Fin 256)) (s : State) : Host.Outcome State Fault Refusal :=
  finish s (s.startTest m 4 (testArgs ((lane.map Fin.val).getD 0) false lane.isSome 1))

/-- TEST_LANE (R458). -/
def execTestLane (m : Master) (n : Fin 256) (s : State) : Host.Outcome State Fault Refusal :=
  finish s (s.startTest m 5 (testArgs n.val false false 1))

/-- TEST_MEM (R458). -/
def execTestMem (m : Master) (i : Fin 4) (full : Bool) (s : State) : Host.Outcome State Fault Refusal :=
  finish s (s.startTest m 6 (testArgs i.val full false 1))

/-- TEST_CONV (R458). -/
def execTestConv (m : Master) (c : Fin 2) (s : State) : Host.Outcome State Fault Refusal :=
  finish s (s.startTest m 7 (testArgs c.val false false 1))

/-- TEST_FGCAL (R458). -/
def execTestFgcal (m : Master) (c : Fin 2) (s : State) : Host.Outcome State Fault Refusal :=
  finish s (s.startTest m 8 (testArgs c.val false false 1))

/-- TEST_EZ (R458). -/
def execTestEz (m : Master) (s : State) : Host.Outcome State Fault Refusal :=
  finish s (s.startTest m 9 (testArgs 0 false false 1))

/-- TEST_ABORT (R459). -/
def execTestAbort (m : Master) (s : State) : Host.Outcome State Fault Refusal :=
  finish s (if m = .service then s.console false fun s => s.testStop.conDone
    else s.viaCmd m 0x2A0 0x48 0x10000 State.testStop)

/-- TEST_END (R459). -/
def execTestEnd (r : TestResult) (s : State) : Host.Outcome State Fault Refusal :=
  finish s (s.whenLive fun s => s.testDone r)

/-- JOURNAL_RECORD_WRITE (R464). -/
def execJournalRecordWrite (s : State) : Host.Outcome State Fault Refusal :=
  finish s (s.whenAon State.jrnlNext)

/-- JRNL_WRITE_USER (R474). -/
def execJrnlWriteUser (m : Master) (s : State) : Host.Outcome State Fault Refusal :=
  finish s (s.viaCmd m 0x2A1 0x48 1 fun s => s.userRecord m 1)

end Sys2Proof.Machine
end

