-- ==== Sys2Proof/Machine/SlotCore.lean ====
section
/-! DEFINITION. The connection-memory commands (spec/07_slot_core.md R184 to R191, R200). -/

namespace Sys2Proof.Machine

/-- The page and offset of an entry in the window (R184). -/
def cmPlace (e : Nat) : Nat × Nat := (0x82 + e / 3840, 0x400 + 4 * (e % 3840))

/-- CM_ENTRY_WRITE (R184, R185). -/
def execCmEntryWrite (m : Master) (e : Fin 46080) (region : Fin 4) (be : Fin 16) (data : Word) (s : State) :
    Host.Outcome State Fault Refusal :=
  let a := cmPlace e.val
  finish s (s.viaPage m a.1 a.2 region.val be.val data.toNat fun s => s.cmWrite m a.1 a.2 region.val be.val data.toNat)

/-- CM_COPY (R187). -/
def execCmCopy (m : Master) (s : State) : Host.Outcome State Fault Refusal :=
  finish s (s.viaCmd m 0x80 0x48 1 fun s => s.cmCmd m 1 false)

/-- CM_FILL (R187). -/
def execCmFill (m : Master) (s : State) : Host.Outcome State Fault Refusal :=
  finish s (s.viaCmd m 0x80 0x48 2 fun s => s.cmCmd m 2 false)

/-- CM_VERIFY (R188). -/
def execCmVerify (m : Master) (s : State) : Host.Outcome State Fault Refusal :=
  finish s (s.viaCmd m 0x80 0x48 3 fun s => s.cmCmd m 3 false)

/-- CM_VERIFY_DONE (R188). -/
def execCmVerifyDone (bad : List Nat) (s : State) : Host.Outcome State Fault Refusal :=
  finish s (s.whenLive fun s => (s.verifyDone bad).coreTestStep)

/-- CM_ARM (R189). -/
def execCmArm (m : Master) (atSf : Bool) (s : State) : Host.Outcome State Fault Refusal :=
  finish s (s.viaCmd m 0x80 0x48 (4 + 8 * b2n atSf) fun s => s.cmCmd m 4 atSf)

/-- CM_DISARM (R191). -/
def execCmDisarm (m : Master) (s : State) : Host.Outcome State Fault Refusal :=
  finish s (s.viaCmd m 0x80 0x48 5 fun s => s.cmCmd m 5 false)

/-- CM_TEST (R200). -/
def execCmTest (m : Master) (s : State) : Host.Outcome State Fault Refusal :=
  finish s (s.viaCmd m 0x80 0x48 6 fun s => s.cmCmd m 6 false)

/-- CM_OPERATION_DONE (R187, R200). -/
def execCmOperationDone (fail : Option (Fin 46080)) (s : State) : Host.Outcome State Fault Refusal :=
  finish s (s.whenLive fun s => (s.cmOpDone (fail.map Fin.val)).coreTestStep)

end Sys2Proof.Machine
end

