-- ==== Sys2Proof/Machine/Timing.lean ====
section
/-! DEFINITION. The commands of timing (spec/11_timing.md): nothing evaluates before Boot is over (R319).

Readings fixed here (notes/assumptions): 2 DESIGN CHOICE. -/

namespace Sys2Proof.Machine

/-- Apply an effect once timing is READY (R319). -/
def State.whenBooted (s : State) (f : State → State) : State := if s.booted then f s else s

/-- REFERENCE_SELECTION (R305, R306, R312, R316): `off` is the offset the DPLL's loop tracks. -/
def execReferenceSelection (off : Int) (s : State) : Host.Outcome State Fault Refusal :=
  finish s (s.whenBooted fun s => s.evalSelection off)

/-- REFERENCE_FAILURE (R302). -/
def execReferenceFailure (r : Fin 9) (gross : Bool) (s : State) : Host.Outcome State Fault Refusal :=
  finish s (s.whenBooted fun s => s.refFails r.val gross)

/-- REFERENCE_SAMPLE (R303): the mean offset of the second, in 10^-12. -/
def execReferenceSample (r : Fin 9) (off : Int) (s : State) : Host.Outcome State Fault Refusal :=
  finish s (s.whenBooted fun s => s.refSample r.val off)

/-- REFERENCE_WTR_EXPIRY (R304). -/
def execReferenceWtrExpiry (r : Fin 9) (s : State) : Host.Outcome State Fault Refusal :=
  finish s (s.whenBooted fun s => s.refWtrExpires r.val)

/-- ACQUISITION_LOCKED (R311). -/
def execAcquisitionLocked (s : State) : Host.Outcome State Fault Refusal :=
  finish s (s.whenBooted State.acqLocked)

/-- ACQUISITION_TIMEOUT (R311). -/
def execAcquisitionTimeout (s : State) : Host.Outcome State Fault Refusal :=
  finish s (s.whenBooted State.acqTimeout)

/-- HISTORY_SAMPLE (R313): the output's mean offset of the second, in 10^-12. -/
def execHistorySample (off : Int) (s : State) : Host.Outcome State Fault Refusal :=
  finish s (s.whenBooted fun s => s.historySample off)

/-- HOLD_LIMIT_EXPIRY (R314). -/
def execHoldLimitExpiry (s : State) : Host.Outcome State Fault Refusal :=
  finish s (s.whenBooted State.holdLimitExpires)

/-- BOLERO_COMPLETE (R314). -/
def execBoleroComplete (s : State) : Host.Outcome State Fault Refusal :=
  finish s (s.whenBooted State.boleroEnds)

/-- REFERENCE_FAILURE_END (R302). -/
def execReferenceFailureEnd (r : Fin 9) (s : State) : Host.Outcome State Fault Refusal :=
  finish s (s.whenBooted fun s => s.refFailEnds r.val)

end Sys2Proof.Machine
end

