-- ==== Sys2Proof/Machine/Twin.lean ====
section
/-! DEFINITION. The commands of the twin block (spec/12_twin.md).

Readings fixed here (notes/assumptions): 2 DESIGN CHOICE, 77 DEDUCED, 115 DESIGN CHOICE. -/

namespace Sys2Proof.Machine

/-- An event of the Emzal link or the interlock, which are powered only in the TWIN role (R323). -/
def State.whenPaired (s : State) (f : State → State) : State := if s.paired then f s else s

/-- The link machine goes from state `a` to state `b` (R326). -/
def State.linkStep (s : State) (a b : Nat) : State := if s.link = a then s.setLink b else s

/-- The retry interval ends (R326): to LISTEN, but not while SIDE_CONFLICT is 1. -/
def State.retryEnds (s : State) : State :=
  if s.flag F.twin_TWIN_STATUS_SIDE_CONFLICT then s else s.linkStep 0 1

/-- EMZAL_RETRY_EXPIRY (R326). -/
def execEmzalRetryExpiry (s : State) : Host.Outcome State Fault Refusal :=
  finish s (s.whenPaired State.retryEnds)

/-- A signal is heard whose frames carry `side` (R326, R331). -/
def State.callHeard (s : State) (side : Bool) : State :=
  let s := { s with twin := { s.twin with heard := true } }
  if s.link != 1 then s
  else if side = s.sideB then ((s.fset F.twin_TWIN_STATUS_SIDE_CONFLICT 1).raise 0x250 9).setLink 0
  else s.setLink 2

/-- EMZAL_CALL_HEARD (R326). -/
def execEmzalCallHeard (side : Bool) (s : State) : Host.Outcome State Fault Refusal :=
  finish s (s.whenPaired fun s => s.callHeard side)

/-- 10 ms pass in LISTEN (R326): side A starts unasked, side B sends a call. -/
def State.listenPasses (s : State) : State :=
  if !s.sideB then s.linkStep 1 2 else if s.link = 1 then s.ezTrain 1 else s

/-- EMZAL_LISTEN_TIMEOUT (R326). -/
def execEmzalListenTimeout (s : State) : Host.Outcome State Fault Refusal :=
  finish s (s.whenPaired State.listenPasses)

/-- EMZAL_SOLO_END (R326). -/
def execEmzalSoloEnd (s : State) : Host.Outcome State Fault Refusal :=
  finish s (s.whenPaired fun s => s.linkStep 2 3)

/-- EMZAL_SOLO_B_END (R326). -/
def execEmzalSoloBEnd (s : State) : Host.Outcome State Fault Refusal :=
  finish s (s.whenPaired fun s => s.linkStep 3 4)

/-- EMZAL_ALIGNMENT_CODEWORD (R325, R326): good, or one missed where it was due. -/
def execEmzalAlignmentCodeword (k : Fin 4) (header : Fin 1048576) (cell : List Nat) (arrival : Nat) (erle : Fin 256)
    (corr uncorr : Nat) (s : State) : Host.Outcome State Fault Refusal :=
  finish s (s.whenPaired fun s => s.ezCodeword k.val header.val cell arrival erle.val corr uncorr)

/-- The link comes UP (R326). -/
def State.linkComesUp (s : State) : State :=
  if s.link = 4 && s.ezAligned && s.twin.partnerAligned then
    { s with twin := { s.twin with upAge := 0, grace := false } }.setLink 5
  else s

/-- EMZAL_LINK_UP (R326, R353). -/
def execEmzalLinkUp (s : State) : Host.Outcome State Fault Refusal :=
  finish s (s.whenPaired State.linkComesUp)

/-- EMZAL_DUPLEX_TIMEOUT (R326). -/
def execEmzalDuplexTimeout (s : State) : Host.Outcome State Fault Refusal :=
  finish s (s.whenPaired fun s => if s.link = 4 then s.linkDown else s)

/-- The link is lost on a lane (R326). -/
def State.linkLost (s : State) (k : Nat) (sigLost : Bool) : State :=
  let s := s.onlyIf sigLost fun s => s.fset (F.ez_EZ_STATUS_SIG k) 0
  if s.linkUp then s.linkDown else s

/-- EMZAL_LINK_LOSS (R326). -/
def execEmzalLinkLoss (k : Fin 4) (sigLost : Bool) (s : State) : Host.Outcome State Fault Refusal :=
  finish s (s.whenPaired fun s => s.linkLost k.val sigLost)

/-- The grace of a lost link ends (R351, R353): a standby becomes stale. -/
def State.graceEnds (s : State) : State :=
  if s.twin.grace then
    let s := { s with twin := { s.twin with grace := false } }
    s.onlyIf (s.dev.twinRole == 2) fun s => s.toStale 1
  else s

/-- LINK_GRACE_EXPIRY (R351, R353). -/
def execLinkGraceExpiry (s : State) : Host.Outcome State Fault Refusal :=
  finish s (s.whenPaired State.graceEnds)

/-- PARTNER_READING_CHANGE (R328 to R330). -/
def execPartnerReadingChange (a b : PinClass) (held : Bool) (s : State) : Host.Outcome State Fault Refusal :=
  finish s (s.whenPaired fun s => s.readPartner a b held)

/-- CLAIM_WATCH_EXPIRY (R330). -/
def execClaimWatchExpiry (s : State) : Host.Outcome State Fault Refusal :=
  finish s (s.whenPaired State.claimEnds)

/-- DISCOVERY_TIMEOUT (R331): the outcome is taken at the next superframe boundary. -/
def execDiscoveryTimeout (s : State) : Host.Outcome State Fault Refusal :=
  finish s (s.whenPaired fun s => if s.twin.discovering then { s with twin := { s.twin with timedOut := true } } else s)

/-- A message arrived whole, and the CRCs of its header cell and its trailer are right (R333 to R335). -/
def waltzIntact (c : WaltzCheck) (msg : WaltzMsg) : Bool :=
  c.whole && c.crc == crc32 ((headerCell msg).take 60) && c.trailer == messageCrc msg

/-- A message arrives; one that announces HANDOVER counts as a host command (R329, R332, R333). -/
def State.messageIn (s : State) (tRx : Int) (intact : Bool) (msg : WaltzMsg) : State :=
  let s := s.waltzHeard tRx intact msg
  if s.linkUp && intact && msg.hdr.handover then s.commandTakeover else s

/-- WALTZ_MESSAGE_RECEIVED (R332, R333). -/
def execWaltzMessageReceived (tRx : Int) (check : WaltzCheck) (msg : WaltzMsg) (s : State) : Host.Outcome State Fault Refusal :=
  finish s (s.whenPaired fun s => s.messageIn tRx (waltzIntact check msg) msg)

/-- TWIN_HANDOVER (R349, R351). -/
def execTwinHandover (m : Master) (s : State) : Host.Outcome State Fault Refusal :=
  finish s (s.viaCmd m 0x250 0x44 1 fun s => s.cmdHandover m)

/-- TWIN_TAKEOVER (R329). -/
def execTwinTakeover (m : Master) (s : State) : Host.Outcome State Fault Refusal :=
  finish s (s.viaCmd m 0x250 0x44 2 fun s => s.cmdTakeover m)

/-- TWIN_RESYNC (R345). -/
def execTwinResync (m : Master) (s : State) : Host.Outcome State Fault Refusal :=
  finish s (s.viaCmd m 0x250 0x44 3 fun s => s.cmdResync m)

/-- TWIN_CLEAR (R356). -/
def execTwinClear (m : Master) (s : State) : Host.Outcome State Fault Refusal :=
  finish s (s.viaCmd m 0x250 0x44 4 State.cmdClear)

/-- The partner has not become ACTIVE after a handover (R352). -/
def State.handoverFails (s : State) : State :=
  if s.twin.sw = .handedOver && s.reading != 1 then
    (({ s with twin := { s.twin with sw := .idle } } : State).raise 0x250 8).commandTakeover
  else s

/-- HANDOVER_FAIL_TIMEOUT (R352). -/
def execHandoverFailTimeout (s : State) : Host.Outcome State Fault Refusal :=
  finish s (s.whenPaired State.handoverFails)

/-- RESYNC_RETRY_EXPIRY (R345). -/
def execResyncRetryExpiry (s : State) : Host.Outcome State Fault Refusal :=
  finish s (s.whenPaired fun s => if s.twin.resync = 6 && s.dev.twinRole = 3 && s.linkUp then s.startResync else s)

/-- COPY_EN_WRITE (R356): the bit is set, or cleared. -/
def execCopyEnWrite (m : Master) (en : Bool) (s : State) : Host.Outcome State Fault Refusal :=
  finish s (s.viaPage m 0x250 0x40 (if en then 1 else 2) 0xF 32 fun s => s.copyEnWrite en)

end Sys2Proof.Machine
end

