-- ==== Sys2Proof/Machine/Dispatch.lean ====
section
/-! DEFINITION. One arm per command: its meaning, or its rejection by name. -/

namespace Sys2Proof.Machine

/-- The effect of a command on everything but the queue. -/
def exec (i : Instr) (s : State) : Host.Outcome State Fault Refusal :=
  match i with
  | .registerWrite m page dw be data => Sys2Proof.Machine.execRegisterWrite m page dw be data s
  | .setAliasWrite m page dw be data => Sys2Proof.Machine.execSetAliasWrite m page dw be data s
  | .clearAliasWrite m page dw be data => Sys2Proof.Machine.execClearAliasWrite m page dw be data s
  | .toggleAliasWrite m page dw be data => Sys2Proof.Machine.execToggleAliasWrite m page dw be data s
  | .lockWrite m page data => Sys2Proof.Machine.execLockWrite m page data s
  | .intForceWrite m page data => Sys2Proof.Machine.execIntForceWrite m page data s
  | .snapshotTake m page onTick => Sys2Proof.Machine.execSnapshotTake m page onTick s
  | .blockEnable m page => Sys2Proof.Machine.execBlockEnable m page s
  | .blockDisable m page => Sys2Proof.Machine.execBlockDisable m page s
  | .drainComplete f => Sys2Proof.Machine.execDrainComplete f s
  | .blockReset m page => Sys2Proof.Machine.execBlockReset m page s
  | .readyReached page => Sys2Proof.Machine.execReadyReached page s
  | .readyTimeout page => Sys2Proof.Machine.execReadyTimeout page s
  | .modeReqEnterMaintenance m => Sys2Proof.Machine.execModeReqEnterMaintenance m s
  | .modeReqLeaveMaintenance m => Sys2Proof.Machine.execModeReqLeaveMaintenance m s
  | .modeReqEnterService m => Sys2Proof.Machine.execModeReqEnterService m s
  | .modeReqRestartFirmware m => Sys2Proof.Machine.execModeReqRestartFirmware m s
  | .roleWrite m role => Sys2Proof.Machine.execRoleWrite m role s
  | .bringupExit => Sys2Proof.Machine.execBringupExit s
  | .fullResetCommand m => Sys2Proof.Machine.execFullResetCommand m s
  | .resetNAsserted => Sys2Proof.Machine.execResetNAsserted s
  | .perstNAsserted => Sys2Proof.Machine.execPerstNAsserted s
  | .vddAonApplied xo mv => Sys2Proof.Machine.execVddAonApplied xo mv s
  | .vddAonLost => Sys2Proof.Machine.execVddAonLost s
  | .railStateChange r mv held => Sys2Proof.Machine.execRailStateChange r mv held s
  | .railFatalTimeout r => Sys2Proof.Machine.execRailFatalTimeout r s
  | .temperatureSample t => Sys2Proof.Machine.execTemperatureSample t s
  | .xoInLoss => Sys2Proof.Machine.execXoInLoss s
  | .rootPllLockChange locked => Sys2Proof.Machine.execRootPllLockChange locked s
  | .watchdogKick m timeout => Sys2Proof.Machine.execWatchdogKick m timeout s
  | .watchdogExpiry => Sys2Proof.Machine.execWatchdogExpiry s
  | .bootComplete b => Sys2Proof.Machine.execBootComplete b s
  | .cfwTtiExpect m index data => Sys2Proof.Machine.execCfwTtiExpect m index data s
  | .cfwPointStatus m index => Sys2Proof.Machine.execCfwPointStatus m index s
  | .cfwMsiStatus m index => Sys2Proof.Machine.execCfwMsiStatus m index s
  | .cfwSdCfg m index data => Sys2Proof.Machine.execCfwSdCfg m index data s
  | .cfwPgStatus m index => Sys2Proof.Machine.execCfwPgStatus m index s
  | .cfwPmBins m index => Sys2Proof.Machine.execCfwPmBins m index s
  | .cfwCommandDone => Sys2Proof.Machine.execCfwCommandDone s
  | .cfwPublish ifVer => Sys2Proof.Machine.execCfwPublish ifVer s
  | .carrierRateWrite m c slot be data => Sys2Proof.Machine.execCarrierRateWrite m c slot be data s
  | .rateEvaluationDone c => Sys2Proof.Machine.execRateEvaluationDone c s
  | .carrierEnable m c => Sys2Proof.Machine.execCarrierEnable m c s
  | .enginePowerOn m c => Sys2Proof.Machine.execEnginePowerOn m c s
  | .enginePowered c => Sys2Proof.Machine.execEnginePowered c s
  | .enginePowerOff m c => Sys2Proof.Machine.execEnginePowerOff m c s
  | .txEnableWrite m c be data => Sys2Proof.Machine.execTxEnableWrite m c be data s
  | .foregroundCalibration m c => Sys2Proof.Machine.execForegroundCalibration m c s
  | .converterLoopTest m c => Sys2Proof.Machine.execConverterLoopTest m c s
  | .calibrationDone c fail ms res => Sys2Proof.Machine.execCalibrationDone c fail ms res s
  | .backgroundCalibration c k gain time => Sys2Proof.Machine.execBackgroundCalibration c k gain time s
  | .carrierSigFall c => Sys2Proof.Machine.execCarrierSigFall c s
  | .carrierSigRise c => Sys2Proof.Machine.execCarrierSigRise c s
  | .freezeExpiry c => Sys2Proof.Machine.execFreezeExpiry c s
  | .rxStageAdvance c est => Sys2Proof.Machine.execRxStageAdvance c est s
  | .adcPowerStep c db => Sys2Proof.Machine.execAdcPowerStep c db s
  | .precursorWindowEnd pilots0 wrong0 pilots1 wrong1 => Sys2Proof.Machine.execPrecursorWindowEnd pilots0 wrong0 pilots1 wrong1 s
  | .adcClipCheck c est clipped samples => Sys2Proof.Machine.execAdcClipCheck c est clipped samples s
  | .captureArm m c data => Sys2Proof.Machine.execCaptureArm m c data s
  | .captureAbort m c => Sys2Proof.Machine.execCaptureAbort m c s
  | .captureTrigger c cycle before after => Sys2Proof.Machine.execCaptureTrigger c cycle before after s
  | .captureCopyDone c => Sys2Proof.Machine.execCaptureCopyDone c s
  | .histogramDone c cycle x y => Sys2Proof.Machine.execHistogramDone c cycle x y s
  | .feCommand m c data => Sys2Proof.Machine.execFeCommand m c data s
  | .feTransactionDone c ack bytes => Sys2Proof.Machine.execFeTransactionDone c ack bytes s
  | .ldpcCodewordEncode c n empty => Sys2Proof.Machine.execLdpcCodewordEncode c n empty s
  | .ldpcCodewordDecode c n llr => Sys2Proof.Machine.execLdpcCodewordDecode c n llr s
  | .lineFrameTransmit c pay => Sys2Proof.Machine.execLineFrameTransmit c pay s
  | .lineFrameReceived c cycle => Sys2Proof.Machine.execLineFrameReceived c cycle s
  | .otucCandidate c u => Sys2Proof.Machine.execOtucCandidate c u s
  | .hypothesisCheck c h => Sys2Proof.Machine.execHypothesisCheck c h s
  | .otucFrameCheck c => Sys2Proof.Machine.execOtucFrameCheck c s
  | .tribReadActive m index eg table => Sys2Proof.Machine.execTribReadActive m index eg table s
  | .tribWriteStaged m index eg table => Sys2Proof.Machine.execTribWriteStaged m index eg table s
  | .tribReadStaged m index eg table => Sys2Proof.Machine.execTribReadStaged m index eg table s
  | .tribApply m port eg => Sys2Proof.Machine.execTribApply m port eg s
  | .tribApplyActivate => Sys2Proof.Machine.execTribApplyActivate s
  | .tribDiscard m port eg => Sys2Proof.Machine.execTribDiscard m port eg s
  | .oduFrameReceived eg g f ecc => Sys2Proof.Machine.execOduFrameReceived eg g f ecc s
  | .defectPersistenceExpiry c => Sys2Proof.Machine.execDefectPersistenceExpiry c s
  | .ctxRead m index => Sys2Proof.Machine.execCtxRead m index s
  | .ctxWriteCfg m index => Sys2Proof.Machine.execCtxWriteCfg m index s
  | .ctxClearCounts m index => Sys2Proof.Machine.execCtxClearCounts m index s
  | .ctxFree m index => Sys2Proof.Machine.execCtxFree m index s
  | .ctxReadPm m index => Sys2Proof.Machine.execCtxReadPm m index s
  | .ctxClearPm m index => Sys2Proof.Machine.execCtxClearPm m index s
  | .tickBoundary => Sys2Proof.Machine.execTickBoundary s
  | .pmRecordsWrite => Sys2Proof.Machine.execPmRecordsWrite s
  | .ppsInEdge offset => Sys2Proof.Machine.execPpsInEdge offset s
  | .ppsInLoss => Sys2Proof.Machine.execPpsInLoss s
  | .coreFrameBoundary f => Sys2Proof.Machine.execCoreFrameBoundary f s
  | .superframeBoundary f => Sys2Proof.Machine.execSuperframeBoundary f s
  | .cmEntryWrite m e region be data => Sys2Proof.Machine.execCmEntryWrite m e region be data s
  | .cmCopy m => Sys2Proof.Machine.execCmCopy m s
  | .cmFill m => Sys2Proof.Machine.execCmFill m s
  | .cmVerify m => Sys2Proof.Machine.execCmVerify m s
  | .cmVerifyDone bad => Sys2Proof.Machine.execCmVerifyDone bad s
  | .cmArm m atSf => Sys2Proof.Machine.execCmArm m atSf s
  | .cmDisarm m => Sys2Proof.Machine.execCmDisarm m s
  | .cmTest m => Sys2Proof.Machine.execCmTest m s
  | .cmOperationDone fail => Sys2Proof.Machine.execCmOperationDone fail s
  | .protectionEvaluation g ecc => Sys2Proof.Machine.execProtectionEvaluation g ecc s
  | .holdoffExpiry g p => Sys2Proof.Machine.execHoldoffExpiry g p s
  | .wtrExpiry g => Sys2Proof.Machine.execWtrExpiry g s
  | .speculationWindowExpiry g => Sys2Proof.Machine.execSpeculationWindowExpiry g s
  | .guardExpiry g => Sys2Proof.Machine.execGuardExpiry g s
  | .indexFrame g p mfas opu cycle => Sys2Proof.Machine.execIndexFrame g p mfas opu cycle s
  | .fillComplete g => Sys2Proof.Machine.execFillComplete g s
  | .admitGroup m g => Sys2Proof.Machine.execAdmitGroup m g s
  | .release m g => Sys2Proof.Machine.execRelease m g s
  | .query m g => Sys2Proof.Machine.execQuery m g s
  | .carrierBondEnable m en => Sys2Proof.Machine.execCarrierBondEnable m en s
  | .slotLaneBondEnable m j data => Sys2Proof.Machine.execSlotLaneBondEnable m j data s
  | .stackReadyLoss k => Sys2Proof.Machine.execStackReadyLoss k s
  | .mtestFreeBlocks m k => Sys2Proof.Machine.execMtestFreeBlocks m k s
  | .mtestWholeStack m k => Sys2Proof.Machine.execMtestWholeStack m k s
  | .mtestDone k fail => Sys2Proof.Machine.execMtestDone k fail s
  | .scrubPass k corr uncorr => Sys2Proof.Machine.execScrubPass k corr uncorr s
  | .octetPllWrite m k b be data => Sys2Proof.Machine.execOctetPllWrite m k b be data s
  | .octetPllLock k b => Sys2Proof.Machine.execOctetPllLock k b s
  | .laneEnable m n => Sys2Proof.Machine.execLaneEnable m n s
  | .txFirWrite m n be data => Sys2Proof.Machine.execTxFirWrite m n be data s
  | .laneSigFall n => Sys2Proof.Machine.execLaneSigFall n s
  | .laneSigRise n => Sys2Proof.Machine.execLaneSigRise n s
  | .cdrLockFall n held => Sys2Proof.Machine.execCdrLockFall n held s
  | .cdrLockRise n => Sys2Proof.Machine.execCdrLockRise n s
  | .trainingFrameReceived n seen next later => Sys2Proof.Machine.execTrainingFrameReceived n seen next later s
  | .trainingFrameSent n next => Sys2Proof.Machine.execTrainingFrameSent n next s
  | .equaliserConverged n dc peak dfe => Sys2Proof.Machine.execEqualiserConverged n dc peak dfe s
  | .noAckTimeout n => Sys2Proof.Machine.execNoAckTimeout n s
  | .trainingTimeout n => Sys2Proof.Machine.execTrainingTimeout n s
  | .trainingBackoffExpiry n => Sys2Proof.Machine.execTrainingBackoffExpiry n s
  | .trainStart m n => Sys2Proof.Machine.execTrainStart m n s
  | .trainAbort m n => Sys2Proof.Machine.execTrainAbort m n s
  | .trainResetBackoff m n => Sys2Proof.Machine.execTrainResetBackoff m n s
  | .idleHoldExpiry n => Sys2Proof.Machine.execIdleHoldExpiry n s
  | .txModeRequest m n mode => Sys2Proof.Machine.execTxModeRequest m n mode s
  | .sleepWarmupDone n => Sys2Proof.Machine.execSleepWarmupDone n s
  | .galopReceived n => Sys2Proof.Machine.execGalopReceived n s
  | .galopWaitTimeout n => Sys2Proof.Machine.execGalopWaitTimeout n s
  | .rxSleepWrite m n on => Sys2Proof.Machine.execRxSleepWrite m n on s
  | .rxWakeDone n => Sys2Proof.Machine.execRxWakeDone n s
  | .eyeMeasure m n eye phase volt dwell => Sys2Proof.Machine.execEyeMeasure m n eye phase volt dwell s
  | .eyeAbandon m n => Sys2Proof.Machine.execEyeAbandon m n s
  | .eyeDone n errors => Sys2Proof.Machine.execEyeDone n errors s
  | .loopbackWrite m n be data => Sys2Proof.Machine.execLoopbackWrite m n be data s
  | .flexoFrameReceived n place am otuc => Sys2Proof.Machine.execFlexoFrameReceived n place am otuc s
  | .rsCodewordDecode n fixed => Sys2Proof.Machine.execRsCodewordDecode n fixed s
  | .slotLaneFrameTransmit n => Sys2Proof.Machine.execSlotLaneFrameTransmit n s
  | .slotLaneFrameReceived n h cycle line fixes => Sys2Proof.Machine.execSlotLaneFrameReceived n h cycle line fixes s
  | .slotLaneCandidate n place frame => Sys2Proof.Machine.execSlotLaneCandidate n place frame s
  | .forerunnerFrameReceived n h line => Sys2Proof.Machine.execForerunnerFrameReceived n h line s
  | .forerunnerCandidate n place line => Sys2Proof.Machine.execForerunnerCandidate n place line s
  | .forerunnerBlockComplete n k empty more => Sys2Proof.Machine.execForerunnerBlockComplete n k empty more s
  | .forerunnerFrameStart cycle => Sys2Proof.Machine.execForerunnerFrameStart s cycle
  | .framePulseEdge cycle long => Sys2Proof.Machine.execFramePulseEdge cycle long s
  | .framePulseLoss => Sys2Proof.Machine.execFramePulseLoss s
  | .squelchHoldExpiry => Sys2Proof.Machine.execSquelchHoldExpiry s
  | .forerunnerFecBlock c blk x y inner fixes => Sys2Proof.Machine.execForerunnerFecBlock c blk x y inner fixes s
  | .referenceSelection off => Sys2Proof.Machine.execReferenceSelection off s
  | .referenceFailure r gross => Sys2Proof.Machine.execReferenceFailure r gross s
  | .referenceSample r off => Sys2Proof.Machine.execReferenceSample r off s
  | .referenceWtrExpiry r => Sys2Proof.Machine.execReferenceWtrExpiry r s
  | .acquisitionLocked => Sys2Proof.Machine.execAcquisitionLocked s
  | .acquisitionTimeout => Sys2Proof.Machine.execAcquisitionTimeout s
  | .historySample off => Sys2Proof.Machine.execHistorySample off s
  | .holdLimitExpiry => Sys2Proof.Machine.execHoldLimitExpiry s
  | .boleroComplete => Sys2Proof.Machine.execBoleroComplete s
  | .emzalRetryExpiry => Sys2Proof.Machine.execEmzalRetryExpiry s
  | .emzalCallHeard side => Sys2Proof.Machine.execEmzalCallHeard side s
  | .emzalListenTimeout => Sys2Proof.Machine.execEmzalListenTimeout s
  | .emzalSoloEnd => Sys2Proof.Machine.execEmzalSoloEnd s
  | .emzalSoloBEnd => Sys2Proof.Machine.execEmzalSoloBEnd s
  | .emzalAlignmentCodeword k header cell arrival erle corr uncorr => Sys2Proof.Machine.execEmzalAlignmentCodeword k header cell arrival erle corr uncorr s
  | .emzalLinkUp => Sys2Proof.Machine.execEmzalLinkUp s
  | .emzalDuplexTimeout => Sys2Proof.Machine.execEmzalDuplexTimeout s
  | .emzalLinkLoss k sigLost => Sys2Proof.Machine.execEmzalLinkLoss k sigLost s
  | .linkGraceExpiry => Sys2Proof.Machine.execLinkGraceExpiry s
  | .partnerReadingChange a b held => Sys2Proof.Machine.execPartnerReadingChange a b held s
  | .claimWatchExpiry => Sys2Proof.Machine.execClaimWatchExpiry s
  | .discoveryTimeout => Sys2Proof.Machine.execDiscoveryTimeout s
  | .waltzMessageReceived tRx check msg => Sys2Proof.Machine.execWaltzMessageReceived tRx check msg s
  | .twinHandover m => Sys2Proof.Machine.execTwinHandover m s
  | .twinTakeover m => Sys2Proof.Machine.execTwinTakeover m s
  | .twinResync m => Sys2Proof.Machine.execTwinResync m s
  | .twinClear m => Sys2Proof.Machine.execTwinClear m s
  | .handoverFailTimeout => Sys2Proof.Machine.execHandoverFailTimeout s
  | .resyncRetryExpiry => Sys2Proof.Machine.execResyncRetryExpiry s
  | .copyEnWrite m en => Sys2Proof.Machine.execCopyEnWrite m en s
  | .labelSendUser m c len => Sys2Proof.Machine.execLabelSendUser m c len s
  | .labelGasp m c code => Sys2Proof.Machine.execLabelGasp m c code s
  | .labelAbort m c => Sys2Proof.Machine.execLabelAbort m c s
  | .identPeriodExpiry c => Sys2Proof.Machine.execIdentPeriodExpiry c s
  | .labelPacketSent c => Sys2Proof.Machine.execLabelPacketSent c s
  | .labelCandidate x sf c netid time => Sys2Proof.Machine.execLabelCandidate x sf c netid time s
  | .labelHeaderDecoded x header corrected => Sys2Proof.Machine.execLabelHeaderDecoded x header corrected s
  | .labelSymbolBoundary x => Sys2Proof.Machine.execLabelSymbolBoundary x s
  | .labelPacketEnd x now bytes corrected rate snr depth => Sys2Proof.Machine.execLabelPacketEnd x now bytes corrected rate snr depth s
  | .rxqPop m x => Sys2Proof.Machine.execRxqPop m x s
  | .rxqFlush m x => Sys2Proof.Machine.execRxqFlush m x s
  | .pcieLinkChange gen width => Sys2Proof.Machine.execPcieLinkChange gen width s
  | .functionLevelReset pf1 => Sys2Proof.Machine.execFunctionLevelReset pf1 s
  | .intRearm m vec pf1 => Sys2Proof.Machine.execIntRearm m vec pf1 s
  | .msixUnmask pf1 vec => Sys2Proof.Machine.execMsixUnmask pf1 vec s
  | .busMasterChange pf1 bme d3hot => Sys2Proof.Machine.execBusMasterChange pf1 bme d3hot s
  | .dmaTailWrite m k tail => Sys2Proof.Machine.execDmaTailWrite m k tail s
  | .dmaDescriptorStart k d => Sys2Proof.Machine.execDmaDescriptorStart k d s
  | .dmaDescriptorDone k hostData how => Sys2Proof.Machine.execDmaDescriptorDone k hostData how s
  | .dmaChannelDisable m k => Sys2Proof.Machine.execDmaChannelDisable m k s
  | .eventRingCoalesce => Sys2Proof.Machine.execEventRingCoalesce s
  | .busRequest r busy beats => Sys2Proof.Machine.execBusRequest r busy beats s
  | .ageLimitExpiry id => Sys2Proof.Machine.execAgeLimitExpiry id s
  | .masterReset m => Sys2Proof.Machine.execMasterReset m s
  | .counterOverflow k => Sys2Proof.Machine.execCounterOverflow k s
  | .sampleRecordWrite k payload => Sys2Proof.Machine.execSampleRecordWrite k payload s
  | .freezeWrite m frozen halt => Sys2Proof.Machine.execFreezeWrite m frozen halt s
  | .mboxClaim m => Sys2Proof.Machine.execMboxClaim m s
  | .mboxRelease m => Sys2Proof.Machine.execMboxRelease m s
  | .mboxIdleTimeout => Sys2Proof.Machine.execMboxIdleTimeout s
  | .attest m len => Sys2Proof.Machine.execAttest m len s
  | .keyLoad m len => Sys2Proof.Machine.execKeyLoad m len s
  | .keySwitch m len => Sys2Proof.Machine.execKeySwitch m len s
  | .keySwitchEffect sa => Sys2Proof.Machine.execKeySwitchEffect sa s
  | .keyErase m len => Sys2Proof.Machine.execKeyErase m len s
  | .saSet m len => Sys2Proof.Machine.execSaSet m len s
  | .saRead m len => Sys2Proof.Machine.execSaRead m len s
  | .update m len flashOk => Sys2Proof.Machine.execUpdate m len flashOk s
  | .svnCommit m len => Sys2Proof.Machine.execSvnCommit m len s
  | .lifecycle m len => Sys2Proof.Machine.execLifecycle m len s
  | .mboxCommandDone => Sys2Proof.Machine.execMboxCommandDone s
  | .coreRunWrite m run => Sys2Proof.Machine.execCoreRunWrite m run s
  | .securedMultiframe sa slices confirmed => Sys2Proof.Machine.execSecuredMultiframe sa slices confirmed s
  | .consoleBreak => Sys2Proof.Machine.execConsoleBreak s
  | .fladarStatus => Sys2Proof.Machine.execFladarStatus s
  | .fladarRails => Sys2Proof.Machine.execFladarRails s
  | .fladarTemp => Sys2Proof.Machine.execFladarTemp s
  | .fladarRd page off n => Sys2Proof.Machine.execFladarRd page off n s
  | .fladarWr page off data => Sys2Proof.Machine.execFladarWr page off data s
  | .fladarMon v => Sys2Proof.Machine.execFladarMon v s
  | .fladarEye n eye => Sys2Proof.Machine.execFladarEye n eye s
  | .fladarJrnl k => Sys2Proof.Machine.execFladarJrnl k s
  | .fladarMode op => Sys2Proof.Machine.execFladarMode op s
  | .fladarMbox op data => Sys2Proof.Machine.execFladarMbox op data s
  | .fladarReset => Sys2Proof.Machine.execFladarReset s
  | .fladarClearFatal => Sys2Proof.Machine.execFladarClearFatal s
  | .fladarAck => Sys2Proof.Machine.execFladarAck s
  | .fladarEcho on => Sys2Proof.Machine.execFladarEcho on s
  | .attnClr m => Sys2Proof.Machine.execAttnClr m s
  | .testRails m => Sys2Proof.Machine.execTestRails m s
  | .testEye m n eye => Sys2Proof.Machine.execTestEye m n eye s
  | .testCtxmem m => Sys2Proof.Machine.execTestCtxmem m s
  | .testCore m lane => Sys2Proof.Machine.execTestCore m lane s
  | .testLane m n => Sys2Proof.Machine.execTestLane m n s
  | .testMem m k full => Sys2Proof.Machine.execTestMem m k full s
  | .testConv m c => Sys2Proof.Machine.execTestConv m c s
  | .testFgcal m c => Sys2Proof.Machine.execTestFgcal m c s
  | .testEz m => Sys2Proof.Machine.execTestEz m s
  | .testAbort m => Sys2Proof.Machine.execTestAbort m s
  | .testEnd r => Sys2Proof.Machine.execTestEnd r s
  | .journalRecordWrite => Sys2Proof.Machine.execJournalRecordWrite s
  | .jrnlWriteUser m => Sys2Proof.Machine.execJrnlWriteUser m s
  | .debugLineReset => Sys2Proof.Machine.execDebugLineReset s
  | .debugFrame wr tag reg data crc => Sys2Proof.Machine.execDebugFrame wr tag reg data crc s
  | .dbgBusRead tag autoinc => Sys2Proof.Machine.execDbgBusRead tag autoinc s
  | .dbgBusWrite tag autoinc => Sys2Proof.Machine.execDbgBusWrite tag autoinc s
  | .dbgBusDone => Sys2Proof.Machine.execDbgBusDone s
  | .tokenWrite tag data => Sys2Proof.Machine.execTokenWrite tag data s
  | .unlockSubmit tag => Sys2Proof.Machine.execUnlockSubmit tag s
  | .unlockDone => Sys2Proof.Machine.execUnlockDone s
  | .unlockRelock tag => Sys2Proof.Machine.execUnlockRelock tag s
  | .cpuHalt tag => Sys2Proof.Machine.execCpuHalt tag s
  | .cpuResume tag => Sys2Proof.Machine.execCpuResume tag s
  | .cpuStep tag => Sys2Proof.Machine.execCpuStep tag s
  | .cpuHaltAll tag => Sys2Proof.Machine.execCpuHaltAll tag s
  | .cpuResumeAll tag => Sys2Proof.Machine.execCpuResumeAll tag s
  | .regCmdRead tag => Sys2Proof.Machine.execRegCmdRead tag s
  | .regCmdWrite tag => Sys2Proof.Machine.execRegCmdWrite tag s
  | .breakpointHit k b => Sys2Proof.Machine.execBreakpointHit k b s
  | .dbgOffWrite m => Sys2Proof.Machine.execDbgOffWrite m s
  | .jtagInstruction ir => Sys2Proof.Machine.execJtagInstruction ir s
  | .resetNReleased perst side src => Sys2Proof.Machine.execResetNReleased perst side src s
  | .xoInReturn => Sys2Proof.Machine.execXoInReturn s
  | .referenceFailureEnd r => Sys2Proof.Machine.execReferenceFailureEnd r s
  | .wardenIntegrityFailure => Sys2Proof.Machine.execWardenIntegrityFailure s
  | .laneCtrlWrite m n be data => Sys2Proof.Machine.execLaneCtrlWrite m n be data s

end Sys2Proof.Machine
end

