-- ==== Sys2Proof/WellFormed.lean ====
section
/-! DEFINITION. Commands whose operands the spec admits: what the operand types themselves do not bound.

Readings fixed here (notes/assumptions): 115 DESIGN CHOICE. -/

namespace Sys2Proof

/-- A number is a DWORD. -/
def isDword (n : Nat) : Bool := decide (n < 2 ^ 32)

/-- A burst is one to 64 DWORDs, with four byte enables, and for a write a DWORD of data, in each beat (R53, R54, R70, R401). -/
def BusOp.wf : BusOp → Bool
  | .read l => decide (1 ≤ l.length) && decide (l.length ≤ 64) && l.all fun b => decide (b < 16)
  | .write l => decide (1 ≤ l.length) && decide (l.length ≤ 64) && l.all fun b => decide (b.1 < 16) && isDword b.2

/-- A burst's address is of 40 bits (R398, R401); a PCI Express request is DWORD-aligned, while an internal master's access may
cross a DWORD boundary (R70). -/
def BusReq.wf (r : BusReq) : Bool :=
  r.op.wf && (r.addr % 4 == 0 || !(r.master == .pf0 || r.master == .pf1)) && decide (r.addr < 2 ^ if r.master == .warden then 32 else 40)

/-- A descriptor's fields have their widths (R389). -/
def Descriptor.wf (d : Descriptor) : Bool :=
  decide (d.hostAddr < 2 ^ 64) && decide (d.devAddr < 2 ^ 64) && isDword d.len && isDword d.ctrl

/-- Changed fuse bits lie in their items, of 4, 64, 256, 256, 64 and 64 bits, and no two copies of an item have the same bit changed,
the lifecycle apart: their majority stands (R420). -/
def fusesWf (l : List FuseFlip) : Bool :=
  l.all fun f => decide (f.bit.val < [4, 64, 256, 256, 64, 64].getD f.item.val 0) &&
    !(f.item.val != 0 && l.any fun g => g.item == f.item && g.bit == f.bit && g.copy != f.copy)

/-- A received ODU frame has seven layers of overhead: path and TCM1 to TCM6 (R152). -/
def OduFrame.wf (f : OduFrame) : Bool := f.layers.length == 7

/-- A core frame's words stand at slot units, 64 of each (R173). -/
def CoreFrame.wf (f : CoreFrame) : Bool :=
  (f.words.all fun e => decide (e.1 < 46080) && e.2.length == 64) &&
  (f.flips.all fun e => decide (e.1 < 46080) && decide (e.2.1 < 64)) &&
  (f.cmBad.all fun u => decide (u < 46080)) && (f.prbs.all fun e => decide (e.1 < 256))

/-- A Waltz message keeps its ceilings (R334): 8,333 journal records, slot units and ports that exist. -/
def WaltzMsg.wf (w : WaltzMsg) : Bool :=
  decide (w.recs.length ≤ 8333) && (w.ports.all fun e => decide (e.1 < 258)) &&
  (w.mappers.all fun e => decide (e.1 < 46080)) && (w.sigs.all fun e => decide (e.1 < 46080) && decide (e.2 < 65536)) &&
  w.tags.all fun e => decide (e.1 < 46080) && decide (e.2 < 256)

/-- The operands of a command lie in the ranges the spec gives. -/
def Instr.wf (i : Instr) : Bool :=
  match i with
  | .busRequest r _ _ => r.wf
  | .bootComplete b => fusesWf b.fuses
  | .dmaDescriptorStart _ d => d.wf
  | .oduFrameReceived _ _ f _ => f.wf
  | .coreFrameBoundary f => f.wf
  | .superframeBoundary f => f.wf
  | .securedMultiframe _ l _ => l.all fun x => x.frames.length == 4 && x.frames.all fun f => f.length == 15296
  | .waltzMessageReceived _ _ w => w.wf
  | .emzalAlignmentCodeword _ _ cell _ _ _ _ => cell.length == 64 && cell.all fun b => decide (b < 256)
  | .vddAonApplied _ mv => mv.length == 10 && mv.all fun v => decide (v < 4096)
  | .cfwTtiExpect _ _ data => data.length == 17
  | .cmVerifyDone bad => bad.all fun u => decide (u < 46080)
  | .fladarRd _ off n => off.val % 4 == 0 && decide (1 ≤ n.val)
  | .fladarWr _ off _ => off.val % 4 == 0
  | .fladarJrnl k => decide (1 ≤ k.val)
  | .fladarMbox _ data => decide (data.length ≤ 4096)
  | .ldpcCodewordDecode _ _ llr => llr.length == 12288
  | .lineFrameTransmit _ p => p.frames.all fun f => f.all fun slice => slice.length == 15296
  | .forerunnerFecBlock _ _ x y inner _ => x.length == 4352 && y.length == 4352 && inner.length == 2176
  | _ => true

end Sys2Proof
end

