-- ==== Sys2Proof/Safety.lean ====
section
/-! DEFINITION. What counts as a sound state and a completed command, in the terms the statements use.

Readings fixed here (notes/assumptions): 5 DESIGN CHOICE. -/

namespace Sys2Proof.Machine

/-- The memory stacks' store is in its canonical form: addresses rise strictly, and no entry equals the zero that an
unlisted address reads as (R214). -/
abbrev Memory.wf (m : Memory) : Bool := spWf 0 m

/-- The addressed stores of the block are in their canonical forms: memory stacks, context store, control SRAM, counters
and their holding registers. -/
def State.storesWf (s : State) : Bool :=
  Memory.wf s.mem && spWf 0 s.ctx && Memory.wf s.sram && spWf 0 s.ctrs && spWf 0 s.hold && spSorted s.fields

/-- How far a device's life has come (R421): DEVELOPMENT, then PRODUCTION, then FIELD_RETURN. -/
def Lifecycle.rank : Lifecycle → Nat
  | .development => 0
  | .production => 1
  | .fieldReturn => 2

/-- Every fuse that `a` shows blown is blown in `b` (R421, R427). -/
def Fuses.within (a b : Fuses) : Bool :=
  decide (a.lifecycle.rank ≤ b.lifecycle.rank) && decide (a.manMin ≤ b.manMin) && decide (a.ctlMin ≤ b.ctlMin)

/-- The addressed stores are in their canonical forms, and every fuse of `u` is blown. -/
def State.sound (u : Fuses) (s : State) : Bool := s.storesWf && u.within s.fuses

/-- Every command that waits is well formed. -/
def State.queueWf (s : State) : Bool := s.pending.all Instr.wf

/-- An access by `m` to page `p` that reaches it: nothing of R54, R72, R74, R76 and R405 stands between. -/
abbrev State.reaches (s : State) (m : Master) (p : Nat) : Prop := s.gate m p true = .go

/-- `c` in `s` completes with the effect that leaves `t`, and with what follows every command's effect (`settle`). -/
def yields (c : Instr) (s t : State) : Prop := exec c s = .next (settle s t)

/-- A write in `s` completes with the effect that leaves `t`, beside which the active twin may have journalled it for its
partner (R340). -/
def writes (c : Instr) (s t : State) : Prop :=
  ∃ t', (t' = t ∨ ∃ b, t' = t.twinRecord b) ∧ exec c s = .next (settle s t')

/-- A command completed: its outcome is a next state, neither a fault nor a refusal. -/
def completes (o : Host.Outcome State Fault Refusal) : Prop := ∃ t, o = .next t

/-- The block's outcome after `n` steps. -/
def runSteps (n : Nat) (s : State) : Host.Outcome State Fault Refusal := Sys2Proof.core.run n s

end Sys2Proof.Machine
end

