-- ==== Sys2Proof/Certificates/Slice0/Obligations.lean ====
section
/-! DEFINITION. The statements for the provers. -/

section
open Sys2Proof Sys2Proof.Machine

/-- R56, R60, R62: a register write and its three aliases that reach a page have the effect of a write there, in their region, which
the page's error log names where the write is the first to log an error. -/
def Obligations.RegisterWritesReachTheirPage : Prop :=
  ∀ (s : State) (m : Master) (p dw : Fin 4096) (be : Fin 16) (d : Word), s.reaches m p.val →
    writes (.registerWrite m p dw be d) s
      (aliasLogged p.val 0 s (s.pageWrite m p.val (4 * dw.val) 0 be.val d.toNat)) ∧
    writes (.setAliasWrite m p dw be d) s
      (aliasLogged p.val 1 s (s.pageWrite m p.val (4 * dw.val) 1 be.val d.toNat)) ∧
    writes (.clearAliasWrite m p dw be d) s
      (aliasLogged p.val 2 s (s.pageWrite m p.val (4 * dw.val) 2 be.val d.toNat)) ∧
    writes (.toggleAliasWrite m p dw be d) s
      (aliasLogged p.val 3 s (s.pageWrite m p.val (4 * dw.val) 3 be.val d.toNat))

/-- R56, R66, R67: LOCK, INT_FORCE and SNAP_CTRL of a page's header do what the header says. -/
def Obligations.HeaderCommandsComplete : Prop :=
  ∀ (s : State) (m : Master) (p : Fin 4096) (d : Word) (onTick : Bool), s.reaches m p.val →
    writes (.lockWrite m p d) s (s.plainWrite m p.val 0x28 0 0xF d.toNat) ∧
    writes (.intForceWrite m p d) s
      (s.fset (F.hdr_INT_STATUS_INT p.val)
        (s.fget (F.hdr_INT_STATUS_INT p.val) ||| (d.toNat &&& (eventMask p.val + 0xF0000000)))) ∧
    (p.val ≠ 0 → writes (.snapshotTake m p onTick) s ((s.holdPages (· == p.val)).bumpSnap p.val)) ∧
    (p.val = 0 → writes (.snapshotTake m p onTick) s ((s.fput (F.hdr_SNAP_CTRL_ON_TICK 0) onTick).snapAll))

/-- R43, R47, R49: BLK_CTRL enables, disables and resets a block that has an enable; a block that is enabled outside
Maintenance refuses its reset. -/
def Obligations.BlockControlCompletes : Prop :=
  ∀ (s : State) (m : Master) (p : Fin 4096), s.reaches m p.val → hasEnable p.val = true →
    writes (.blockEnable m p) s (s.blkEnable m p.val true) ∧
    writes (.blockDisable m p) s (s.blkEnable m p.val false) ∧
    writes (.blockReset m p) s ((s.blkEnable m p.val (s.enabled p.val)).blkReset m p.val) ∧
    (0x2B0 ≤ p.val → p.val < 0x2B4 →
      writes (.blockEnable m p) s (s.fset (enFl p.val) 1) ∧
      (s.enabled p.val = false → s.draining p.val = false → writes (.blockReset m p) s (s.resetBlock p.val)) ∧
      (s.enabled p.val = true → s.dev.mode ≠ .maintenance →
        writes (.blockReset m p) s ((s.fset (enFl p.val) 1).logErr p.val 3 (masterId m) 0 0xC)))

/-- R43, R45 to R47: readiness, its bound and the end of a drain. -/
def Obligations.ReadinessEventsComplete : Prop :=
  ∀ (s : State) (p : Fin 4096) (f : DrainFn), s.live = true →
    yields (.drainComplete f) s (s.drained f) ∧
    yields (.readyReached p) s (s.readyReached p.val) ∧
    (s.readyAwaited p.val = true → yields (.readyTimeout p) s
      ((s.setFault p.val).jrnl 6 hwMaster p.val
        (leBytes 4 p.val ++ leBytes 4 ((s.setFault p.val).storedReg .warden p.val 8))))

/-- R37: with no transition in progress, each mode request is accepted in the modes of R33 and pends; Service is entered at once
when no control core is in debug halt, and restarted firmware is released from its first core. That a restart needs a valid manifest
and pends until the first kick is the model's choice (log entry 113). -/
def Obligations.ModeRequestsAccepted : Prop :=
  ∀ (s : State) (m : Master), s.reaches m 0 → s.transiting = false →
    (maintFromOk s.dev.mode = true → yields (.modeReqEnterMaintenance m) s
      { s.fset F.dev_MODE_REQ_STATUS 1 with dev := { s.dev with req := .enterMaint, reqBy := masterId m } }) ∧
    (s.dev.mode = .maintenance → yields (.modeReqLeaveMaintenance m) s
      { s.fset F.dev_MODE_REQ_STATUS 1 with dev := { s.dev with req := .leaveMaint, reqBy := masterId m } }) ∧
    (serviceFrom s.dev.mode = true → yields (.modeReqEnterService m) s
      ({ s.fset F.dev_MODE_REQ_STATUS 1 with dev := { s.dev with req := .enterService, reqBy := masterId m } } :
        State).serviceIfHalted) ∧
    (s.dev.mode = .service → s.sec.run.keys ≠ [] → yields (.modeReqRestartFirmware m) s
      { (s.fset F.dev_MODE_REQ_STATUS 1).fset F.sec_CTL_CORE_CTRL_RUN 1 with
        dev := { s.dev with fwRestarting := true, reqBy := masterId m } })

/-- R38, R39, R40, R50, R51: ROLE, the full-reset command, the watchdog's kick, and the commands of control firmware while
it runs and none is in progress. -/
def Obligations.DevicePageCommandsComplete : Prop :=
  ∀ (s : State) (m : Master) (role : Fin 4) (timeout : Fin 65536), s.reaches m 0 →
    (let t := s.plainWrite m 0 0x48 0 0xF role.val
     yields (.roleWrite m role) s
      (t.onlyIf ((s.fget F.dev_ROLE_ROLE == 2) != (t.fget F.dev_ROLE_ROLE == 2)) State.linkDown)) ∧
    yields (.fullResetCommand m) s (s.fullReset 3) ∧
    (s.dev.mode ≠ .service → yields (.watchdogKick m timeout) s
      (s.plainWrite m 0 0x60 0 0xF (2 ^ 31 + timeout.val)))

/-- R51, R52: a command of control firmware is accepted while it runs and none is in progress: ARG takes the index, DATA the
input, and the command waits for its end. Control firmware ends its command, and publishes. -/
def Obligations.FirmwareCommandsComplete : Prop :=
  ∀ (s : State) (m : Master) (x : Fin 262144) (w : Word) (l : List Word) (v : Fin 65536) (c : CfwCmd),
    (s.live = true →
      (s.cfw.cmd = some c →
        let t := s.cfwDone
        yields .cfwCommandDone s t ∧ t.cfw.cmd = none ∧ t.fget F.cfw_RESULT_RESULT = (s.cfwRun c).2.1 % 16 ∧
          bitOf (t.fget (F.hdr_INT_STATUS_INT 1)) 0 = true) ∧
      yields (.cfwPublish v) s (s.cfwPublish v.val)) ∧
    (s.reaches m 1 → s.dev.fwRunning = true → s.cfw.cmd = none →
    (let t := (List.range ((l.map (·.toNat)).take 32).length).foldl (fun (s : State) d =>
        s.fset (F.cfw_DATA_DATA d) (((l.map (·.toNat)).take 32).getD d 0)) (s.fset F.cfw_ARG_INDEX x.val)
     yields (.cfwTtiExpect m x l) s
      { t with cfw := { t.cfw with cmd := some { op := 1, index := t.fget F.cfw_ARG_INDEX
                                                 data := (List.range 32).map fun d => t.fget (F.cfw_DATA_DATA d) } } }) ∧
    (let t := (s.fset F.cfw_ARG_INDEX x.val).fset (F.cfw_DATA_DATA 0) w.toNat
     yields (.cfwSdCfg m x w) s
      { t with cfw := { t.cfw with cmd := some { op := 4, index := t.fget F.cfw_ARG_INDEX
                                                 data := (List.range 32).map fun d => t.fget (F.cfw_DATA_DATA d) } } }) ∧
    (∀ e ∈ [(Instr.cfwPointStatus m x, 2), (.cfwMsiStatus m x, 3), (.cfwPgStatus m x, 5), (.cfwPmBins m x, 6)],
      let t := s.fset F.cfw_ARG_INDEX x.val
      yields e.1 s
        { t with cfw := { t.cfw with cmd := some { op := e.2, index := t.fget F.cfw_ARG_INDEX
                                                   data := (List.range 32).map fun d => t.fget (F.cfw_DATA_DATA d) } } }))

/-- R33, R39 to R41, R44: reset pins. RESET_N low and, where PERST_FULL is set, PERST_N low reset the device outside Dormant;
PERST_N low otherwise resets the host interface alone; a released source lets the device leave Reset, and RESET_N released with a
rail or XO_IN missing is reported, as a notice of the model's own kind 3 (log entry 113). -/
def Obligations.ResetPinsComplete : Prop :=
  ∀ (s : State) (perst side : Bool) (src : Fin 4), s.dev.aonOn = true →
    (s.dev.mode ≠ .dormant →
      yields .resetNAsserted s (({ s with dev := { s.dev with rstLow := true } } : State).fullReset 1) ∧
      (s.flag F.dev_RESET_CFG_PERST_FULL = true → yields .perstNAsserted s
        (({ s with dev := { s.dev with perstLow := true } } : State).fullReset 2)) ∧
      (s.flag F.dev_RESET_CFG_PERST_FULL = false → yields .perstNAsserted s
        (({ s with dev := { s.dev with perstLow := true } } : State).dmaCut.perstHost))) ∧
    (let t : State := { s with dev := { s.dev with
      strapSide := side, strapSrc := src.val, rstLow := s.dev.rstLow && perst, perstLow := s.dev.perstLow && !perst } }
     (perst = true ∨ s.dev.mode ≠ .reset ∨ t.missingItems = [] → yields (.resetNReleased perst side src) s t.leaveReset) ∧
     (perst = false → s.dev.mode = .reset → t.missingItems ≠ [] →
      yields (.resetNReleased perst side src) s (t.emit (.conNotice 3 t.missingItems)).leaveReset))

/-- R20, R22, R33, R35, R44, R448, R449, R487: power, rails, temperature and clocks. -/
def Obligations.PowerEventsComplete : Prop :=
  ∀ (s : State) (xo : Bool) (mv : List Nat) (r : Fin 10) (r9 : Fin 9) (held : Bool) (v : Fin 4096) (t : Int),
    (s.dev.aonOn = false → yields (.vddAonApplied xo mv) s (s.aonApplied xo mv)) ∧
    yields .vddAonLost s s.unpowered ∧
    (s.dev.aonOn = true →
      yields (.railStateChange r v held) s (s.railMoves r.val v.val held) ∧
      (s.fget (F.svc_RAIL_STATE r9.val) = 4 → yields (.railFatalTimeout r9) s (s.railFatal r9.val)) ∧
      yields (.temperatureSample t) s (s.tempSample t) ∧
      yields .xoInReturn s (s.fsets [(F.svc_SVC_STATUS_XO_PRESENT, 1), (F.svc_SVC_STATUS_CLK_SRC, 0)]) ∧
      (s.flag F.svc_SVC_STATUS_XO_PRESENT = true →
        yields (.rootPllLockChange true) s (s.fset F.svc_SVC_STATUS_ROOT_LOCK 1).leaveReset) ∧
      (s.flag F.svc_SVC_STATUS_ROOT_LOCK = true →
        yields (.rootPllLockChange false) s ((s.fset F.svc_SVC_STATUS_ROOT_LOCK 0).fatal 1 0x1112 [])) ∧
      (s.live = true →
        yields .xoInLoss s ((s.fsets [(F.svc_SVC_STATUS_XO_PRESENT, 0), (F.svc_SVC_STATUS_CLK_SRC, 1),
          (F.svc_SVC_STATUS_ROOT_LOCK, 0)]).fatal 1 0x1111 []) ∧
        yields .wardenIntegrityFailure s (s.fatal 4 0x4113 [])))

/-- R33, R38, R426, R50: Boot ends, Bring-up is left by its role, and the watchdog takes a device whose firmware hangs into
Service. -/
def Obligations.BootAndBringUpComplete : Prop :=
  ∀ (s : State) (b : BootInput),
    (s.dev.mode = .boot →
      (b.romOk = true → b.sramOk = true → fusesBad b.fuses = false → lifecycleValid b.fuses s.fuses.lifecycle = true →
        yields (.bootComplete b) s (s.trySlots b (slotOrder (s.fget F.dev_BOOT_SRC)))) ∧
      (b.romOk = false → yields (.bootComplete b) s ((s.fatal 4 0x4111 []).setReady 0x280 true)) ∧
      (b.romOk = true → b.sramOk = false → yields (.bootComplete b) s ((s.fatal 4 0x4112 []).setReady 0x280 true)) ∧
      (b.romOk = true → b.sramOk = true → fusesBad b.fuses = true →
        yields (.bootComplete b) s ((s.fatal 5 0x5111 []).setReady 0x280 true))) ∧
    (s.dev.mode = .bringUp → s.ready 0x80 = true →
      (s.fget F.dev_ROLE_ROLE = 1 → let t := s.setMode .standalone 1 hwMaster
        yields .bringupExit s t ∧ t.dev.mode = .standalone ∧ t.dev.broughtUp = true) ∧
      (s.fget F.dev_ROLE_ROLE = 3 → let t := s.setMode .forerunner 1 hwMaster
        yields .bringupExit s t ∧ t.dev.mode = .forerunner ∧ t.dev.broughtUp = true)) ∧
    (serviceFrom s.dev.mode = true → s.dev.fwRunning = true → s.fget F.dev_CTLFW_WDOG_TIMEOUT ≠ 0 →
      s.anyDebugHalt = false → yields .watchdogExpiry s (s.enterService 3))

/-- R81, R82, R98, R100: a disabled carrier takes its rate mode, and CALC is set; its enable starts a calibration when the
engine is on and the mode admissible; the engine goes on and off. -/
def Obligations.CarrierControlCompletes : Prop :=
  ∀ (s : State) (m : Master) (c : Fin 2) (slot : Bool) (be : Fin 16) (d : Word), s.reaches m (carPage c.val) →
    (s.enabled (carPage c.val) = false → s.draining (carPage c.val) = false →
      writes (.carrierRateWrite m c slot be d) s ((s.plainWrite m (carPage c.val) (if slot then 0x44 else 0x40) 0 be.val
        d.toNat).fset (F.car_CFG_STATUS_CALC c.val) 1)) ∧
    (s.enabled (carPage c.val) = true ∨ s.draining (carPage c.val) = true →
      writes (.carrierRateWrite m c slot be d) s (s.logErr (carPage c.val) 0xA (masterId m) 0 (if slot then 0x44 else 0x40))) ∧
    (s.enabled (carPage c.val) = false → s.engine c.val = true → s.flag (F.car_CFG_STATUS_CALC c.val) = false →
      s.draining (carPage c.val) = false → s.flag (F.car_CFG_STATUS_VALID c.val) = true → (s.car c.val).cal = none →
      writes (.carrierEnable m c) s ((s.fset (enFl (carPage c.val)) 1).calStart c.val .enable).defects) ∧
    writes (.enginePowerOn m c) s (s.fset (F.car_PWR_CTRL_ENGINE_ON c.val) 1) ∧
    (s.enabled (carPage c.val) = false → s.draining (carPage c.val) = false → (s.car c.val).cal = none →
      ∃ t : State, s.engineWrite m c.val false = t.defects ∧ writes (.enginePowerOff m c) s t.defects ∧
        t.fget (F.car_PWR_CTRL_ENGINE_PWR c.val) = 0 ∧
        t.fget (F.car_PWR_CTRL_ENGINE_ON c.val) = 0 ∧ t.fget (F.car_RX_STATUS_SIG c.val) = 0) ∧
    writes (.txEnableWrite m c be d) s (s.txWrite m c.val 0 be.val d.toNat)

/-- R97, R101, R104, R105: calibration, loop test, capture and the front-end bus take their commands when nothing stands
against them. -/
def Obligations.CarrierCommandsComplete : Prop :=
  ∀ (s : State) (m : Master) (c : Fin 2) (d : Word),
    (s.reaches m (carPage c.val + 2) → (s.car c.val).cal = none → s.enabled (carPage c.val) = true →
      s.dev.mode = .maintenance →
      writes (.foregroundCalibration m c) s (s.calStart c.val .foreground) ∧
      writes (.converterLoopTest m c) s (s.calStart c.val .loop)) ∧
    (s.reaches m (carPage c.val + 5) →
      (bitsOf d.toNat 2 3 < 5 → bitsOf d.toNat 5 3 < 6 → bitOf d.toNat 1 = false → s.capBusy c.val = false →
        s.ready (0x2B0 + c.val) = true → let t := s.capCmd m c.val (setBits d.toNat 0 1 1); writes (.captureArm m c d) s t ∧
        t.fget (F.cap_CAPTURE_STATUS_STATE c.val) = (if bitOf d.toNat 11 then 3 else 1)) ∧
      writes (.captureAbort m c) s ((s.fsets [(F.cap_CAPTURE_CTRL_POINT c.val, 0), (F.cap_CAPTURE_CTRL_TRIG c.val, 0),
        (F.cap_CAPTURE_CTRL_PRE c.val, 0), (F.cap_CAPTURE_CTRL_HIST c.val, 0)]).capAbort c.val)) ∧
    (s.reaches m (carPage c.val + 1) → bitsOf d.toNat 0 2 ≠ 0 → bitsOf d.toNat 0 2 ≠ 3 → bitsOf d.toNat 16 6 ≠ 0 →
      bitsOf d.toNat 16 6 ≤ 32 → s.flag (F.fe_FE_STATUS_BUSY c.val) = false →
      let t := s.feCmd m c.val d.toNat; writes (.feCommand m c d) s t ∧ t.flag (F.fe_FE_STATUS_BUSY c.val) = true ∧
        (t.car c.val).fe = some (bitsOf d.toNat 0 2, bitsOf d.toNat 8 7, bitsOf d.toNat 16 6))

/-- R81, R91, R92, R96, R97, R98: the rate evaluation, the engine, calibrations and the receive chain take their events. After FREEZE
expires the chain waits for a signal, or searches at once; frozen stages take no estimates. -/
def Obligations.CarrierEventsComplete : Prop :=
  ∀ (s : State) (c : Fin 2) (fail : Byte) (ms : Fin 65536) (res : List (Nat × Int)) (k : Fin 8) (gain time : Int)
    (est : DspEst), s.live = true →
    (s.flag (F.car_CFG_STATUS_CALC c.val) = true →
      yields (.rateEvaluationDone c) s (((s.rateEvaluate c.val).raise (carPage c.val) 8).carHeld c.val)) ∧
    (s.flag (F.car_PWR_CTRL_ENGINE_ON c.val) = true →
      yields (.enginePowered c) s (s.fset (F.car_PWR_CTRL_ENGINE_PWR c.val) 1)) ∧
    yields (.calibrationDone c fail ms res) s (s.calEnd c.val fail.toNat ms.val res) ∧
    (s.engine c.val = true →
      let o := spGet {} (s.car c.val).conv k.val
      let n := ConvCorr.mk (o.gain + max (-5) (min 5 gain)) (o.time + max (-5) (min 5 time))
      yields (.backgroundCalibration c k gain time) s
        (s.setCar c.val { s.car c.val with conv := spPut {} (s.car c.val).conv k.val n })) ∧
    yields (.carrierSigFall c) s
      ((s.carSigFall c.val).onlyIf (s.flag (F.car_RX_STATUS_SIG c.val)) fun s => s.gaspEvent c.val 2) ∧
    (s.flag (F.car_RX_STATUS_SIG c.val) = false → s.engine c.val = true →
      ∃ t : State, s.carSigRise c.val = t.defects ∧ yields (.carrierSigRise c) s t.defects ∧
        t.flag (F.car_RX_STATUS_SIG c.val) = true ∧
        t.flag (F.car_RX_STATUS_FROZEN c.val) = false) ∧
    (s.flag (F.car_RX_STATUS_FROZEN c.val) = true → let t := s.freezeExpires c.val; yields (.freezeExpiry c) s t ∧
      t.fget (F.car_RX_STATUS_STAGE c.val) = (if s.flag (F.car_RX_STATUS_SIG c.val) then 2 else 1) ∧ t.flag (F.car_RX_STATUS_CD_LOCK c.val) = false ∧
      t.flag (F.car_RX_STATUS_FO_LOCK c.val) = false) ∧
    yields (.rxStageAdvance c est) s (if s.flag (F.car_RX_STATUS_FROZEN c.val) then s else (s.setEstimates c.val est).stageDone c.val)

/-- R101 to R103, R105, R229: precursors, converter clipping, captures, histograms and the front-end bus. A capture whose trigger has
occurred keeps its samples on either side of it. -/
def Obligations.CarrierChecksComplete : Prop :=
  ∀ (s : State) (c : Fin 2) (db clipped samples p0 w0 p1 w1 : Nat) (est : DspEst) (cycle : Fin 1153) (data after : List Byte)
    (x y : List Nat) (ack : Bool) (at_ : CapSight), s.live = true →
    yields (.adcPowerStep c db) s (s.powerStep c.val db) ∧
    yields (.precursorWindowEnd p0 w0 p1 w1) s ((s.judgeWindow 0 p0 w0).judgeWindow 1 p1 w1).precWindowEnds ∧
    (s.engine c.val = true → s.flag (F.car_RX_STATUS_FROZEN c.val) = false → 2 ≤ s.fget (F.car_RX_STATUS_STAGE c.val) →
      yields (.adcClipCheck c est clipped samples) s
        ((s.setEstimates c.val est).onlyIf (decide (samples < 10000 * clipped)) fun s => s.raise (carPage c.val) 9)) ∧
    (s.fget (F.cap_CAPTURE_STATUS_STATE c.val) = 1 → (s.car c.val).cap.seen = some at_ →
      let t := s.capTrigger c.val cycle.val (natBytes data) (natBytes after)
      yields (.captureTrigger c cycle data after) s t ∧ t.fget (F.cap_CAPTURE_STATUS_STATE c.val) = 2 ∧
      (t.car c.val).cap.data = capSamples (s.car c.val).cap.ctl (natBytes data) (natBytes after)) ∧
    (s.fget (F.cap_CAPTURE_STATUS_STATE c.val) = 2 →
      yields (.captureCopyDone c) s (s.capStore c.val ((s.car c.val).cap.hdr ++ (s.car c.val).cap.data))) ∧
    (s.fget (F.cap_CAPTURE_STATUS_STATE c.val) = 3 → (s.car c.val).cap.seen = some at_ →
      yields (.histogramDone c cycle x y) s (s.capStore c.val (capHeader c.val
        ((s.car c.val).cap.ctl - bitsOf (s.car c.val).cap.ctl 5 3 * 32) at_ 4096 32768 cycle.val ++ histBytes x ++ histBytes y))) ∧
    yields (.feTransactionDone c ack data) s (s.feDone c.val ack (natBytes data))

/-- R88, R109 to R128, R131, R290 to R293: codewords, line frames and OTUC frames. A transmit chain that runs sends: an unbonded
carrier its own frame, with its OTUCn units and its pilots, two bonded carriers together with equal FC and D, a MODE 1 carrier the
forerunner's frame. A receiver with pilot lock decodes. -/
def Obligations.LineCommandsComplete : Prop :=
  ∀ (s : State) (c : Fin 2) (n : Fin 504) (llr : List (Fin 32)) (half u : Nat) (frames : List (List (List Byte)))
    (cycle : Fin 1153) (h : Fin 4) (blk : Fin 126) (x y : List (Fin 4)) (inner : List Byte)
    (fixes : List (Fin 1632 × Fin 1024)), s.live = true →
    (s.sendsFrames c.val = true →
      yields (.ldpcCodewordEncode c n ()) s (s.emit (.codeword c.val n.val
        (shapeEnergy (composition (shapeM (codewordH (s.hCode c.val) n.val)))) (s.fget (F.car_TX_CTRL_LEVEL c.val))
        (encodeCodeword (s.hCode c.val) n.val (padBits (payloadBits (s.hCode c.val) n.val)
          (bitsOfBytes (if n.val = 0 then (s.car c.val).txOh
            else sentPayload (s.hCode c.val) (s.car c.val).txD (s.car c.val).txData n.val)))))) ∧
      (s.carBonded = false → let t := s.lineTransmit c.val half (frames.map fun f => f.map natBytes)
        yields (.lineFrameTransmit c ⟨half, frames⟩) s t ∧ (t.car c.val).txFc = ((s.car c.val).txFc + 1) % 2 ^ 32 ∧
        t.out = .lineFrame c.val (t.car c.val).txOh (t.payEnergy c.val) (t.fget (F.car_TX_CTRL_LEVEL c.val)) (pilots 6144) :: s.out)) ∧
    (s.sendsFrames 0 = true → s.sendsFrames 1 = true → s.carBonded = true →
      let t := s.lineTransmit c.val half (frames.map fun f => f.map natBytes)
      yields (.lineFrameTransmit c ⟨half, frames⟩) s t ∧ (t.car 0).txFc = (t.car 1).txFc ∧ (t.car 0).txD = (t.car 1).txD) ∧
    (s.txRuns c.val = true → s.foreMode c.val = true →
      yields (.lineFrameTransmit c ⟨half, frames⟩) s ((s.txFill c.val (frames.map fun f => f.map natBytes)).foreSend c.val)) ∧
    yields (.ldpcCodewordDecode c n llr) s (s.decode c.val n.val (llr.map Fin.val)) ∧
    yields (.lineFrameReceived c cycle) s (s.lineReceived c.val cycle.val) ∧
    yields (.otucCandidate c u) s (s.otucCandidate c.val u) ∧
    yields (.hypothesisCheck c h) s (s.otucHypothesis c.val h.val) ∧
    yields (.otucFrameCheck c) s (s.otucFrame c.val) ∧
    yields (.forerunnerFecBlock c blk x y inner fixes) s
      (s.foreBlock c.val blk.val (byPeriod (x.map Fin.val) (y.map Fin.val)) (natBytes inner) (fixes.map fun e => (e.1.val, e.2.val)))

/-- R141, R142, R169: tributary-map commands on an index in range, with no APPLY being checked. An APPLY whose check passes
waits for its activation. -/
def Obligations.TributaryCommandsComplete : Prop :=
  ∀ (s : State) (m : Master) (i : Fin 65536) (eg : Bool) (table : Fin 3), s.reaches m 0x40 → s.odu.applying = none →
    (i.val ≤ (if table.val = 2 then 257 else 46079) →
      writes (.tribReadActive m i eg (table.castLE (by decide))) s ((s.tribLoad (s.active eg) table.val i.val).tribEnd 0 0) ∧
      writes (.tribReadStaged m i eg (table.castLE (by decide))) s ((s.tribLoad (s.staged eg) table.val i.val).tribEnd 0 0) ∧
      writes (.tribWriteStaged m i eg (table.castLE (by decide))) s ((s.setStaged eg ((s.staged eg).write table.val i.val
        (s.fget (F.odu_TRIB_DATA_DATA 0)) (s.fget (F.odu_TRIB_DATA_DATA 1)) (s.fget (F.odu_TRIB_DATA_DATA 2))
        (s.fget (F.odu_TRIB_DATA_DATA 3)))).tribEnd 0 0)) ∧
    (i.val ≤ 257 →
      ((s.applyCheck eg i.val).1 = 0 → writes (.tribApply m i eg) s
        { s.fset F.odu_TRIB_STATUS_DONE 0 with odu := { s.odu with applying := some (eg, i.val, masterId m) } }) ∧
      writes (.tribDiscard m i eg) s
        ((s.setStaged eg (copyPort (s.ownedSu i.val) i.val (s.active eg) (s.staged eg))).tribEnd 0 0))

/-- R138 to R166: activation, ODU frames, persistence, the tick and PPS. -/
def Obligations.OduEventsComplete : Prop :=
  ∀ (s : State) (eg : Bool) (g : Fin 65536) (f : OduFrame) (ecc : List EccHit) (c : PersistCond) (offset : Int),
    s.live = true →
    (∀ p k, s.odu.applying = some (eg, p, k) → ∃ t : State, s.applyNow = t.defects ∧ yields .tribApplyActivate s t.defects ∧
      t.active eg = copyPort (s.ownedSu p) p (s.staged eg) (s.active eg) ∧ t.odu.applying = none ∧
      t.flag F.odu_TRIB_STATUS_DONE = true) ∧
    yields (.oduFrameReceived eg g f ecc) s ((ecc.foldl State.eccHit s).oduFrame eg g.val f) ∧
    yields (.defectPersistenceExpiry c) s (s.persists c) ∧
    yields .tickBoundary s ((s.tickWith State.tickBoundary).ppsOut) ∧
    (s.odu.recordsDue = true →
      let t := s.pmWrite
      yields .pmRecordsWrite s t ∧ t.odu.recordsDue = false ∧ t.odu.records = []) ∧
    yields (.ppsInEdge offset) s (s.ppsEdge offset) ∧
    (s.flag F.odu_TICK_STATUS_PPS_PRESENT = true → let t := s.ppsLoss; yields .ppsInLoss s t ∧
      t.flag F.odu_TICK_STATUS_PPS_PRESENT = false ∧ t.flag F.odu_TICK_STATUS_PPS_ALIGNED = false)

/-- R149, R165, R172: context commands on contexts below the secure range, or of the Warden; each counts an update. -/
def Obligations.ContextCommandsComplete : Prop :=
  ∀ (s : State) (m : Master) (x : Fin 262144), s.reaches m 0x60 →
    let u := s.cadd F.ctx_UPDATES_C 1
    (x.val < 261120 ∨ m = .warden →
      writes (.ctxRead m x) s ((u.ctxLoad ((List.range 16).map (u.ctxDw x.val))).ctxEnd (if (u.run x.val).ecc then 6 else 0)) ∧
      (u.cfgResult (u.withConfig x.val ((List.range 6).map fun i => u.fget (F.ctx_CTX_DATA_DATA i))) m x.val = 0 →
        let t := s.ctxCmd m x.val 2; writes (.ctxWriteCfg m x) s t.defects ∧ t.fget F.ctx_CTX_STATUS_RESULT = 0 ∧
          t.flag F.ctx_CTX_STATUS_DONE = true) ∧
      writes (.ctxClearCounts m x) s
        ((((List.range 5).foldl (fun s i => s.setCtxDw x.val (10 + i) 0) u).setCtxBits x.val 15 3 1 1).ctxEnd 0) ∧
      (u.ctxEn x.val = false → u.slotGroupHeld x.val = false → u.odu.activeI.names x.val = false →
        u.odu.activeE.names x.val = false → u.pgNames x.val = false →
        writes (.ctxFree m x) s ((u.setCtxBits x.val 0 0 4 0).ctxEnd 0))) ∧
    (x.val < 8192 →
      writes (.ctxReadPm m x) s ((u.ctxLoad (pmWords (spGet {} u.odu.pm x.val))).ctxEnd 0) ∧
      let t := s.ctxCmd m x.val 6; writes (.ctxClearPm m x) s t ∧ (spGet {} t.odu.pm x.val).counts = [0, 0, 0, 0, 0, 0] ∧
        (∀ y, y ≠ x.val → spGet {} t.odu.pm y = spGet {} s.odu.pm y))

/-- R185, R187 to R191, R200: the connection memory takes writes of its standby page and its commands in the states that
permit them. -/
def Obligations.ConnectionMemoryCommandsComplete : Prop :=
  ∀ (s : State) (m : Master) (e : Fin 46080) (region : Fin 4) (be : Fin 16) (d : Word) (atSf : Bool),
    (s.reaches m (cmPlace e.val).1 → s.cmView.2 = false →
      (s.cmState = 0 → writes (.cmEntryWrite m e region be d) s (s.setCmPage s.cmView.1 ((s.cmPage s.cmView.1).put e.val
        (mergeField region.val ((s.cmPage s.cmView.1).entry e.val) (bitsOf d.toNat 0 18) (bitsOf (beMask be.val) 0 18))))) ∧
      (s.cmState = 4 → writes (.cmEntryWrite m e region be d) s
        (s.logErr (cmPlace e.val).1 0xB (masterId m) region.val (cmPlace e.val).2))) ∧
    (s.reaches m 0x80 →
      (s.cmIdle = true →
        writes (.cmCopy m) s (({ s with core := { s.core with op := 1 } } : State).setCmState 1) ∧
        writes (.cmFill m) s (({ s with core := { s.core with op := 2 } } : State).setCmState 1) ∧
        (s.shadowOk = true → writes (.cmTest m) s (({ s with core := { s.core with op := 6 } } : State).setCmState 1)) ∧
        writes (.cmVerify m) s ((s.setCmState 2).fset F.core_CM_STATUS_INVALIDATED 0)) ∧
      (s.cmState = 3 → s.dev.mode ≠ .twinActive → writes (.cmArm m false) s
        ((({ s with core := { s.core with arm := some none } } : State).setCmState 4).cmEnd 0)) ∧
      (s.cmState = 4 → writes (.cmDisarm m) s
        ((({ s with core := { s.core with arm := none } } : State).setCmState 3).cmEnd 0)) ∧
      (s.cmState ≠ 3 → writes (.cmArm m atSf) s ((s.logErr 0x80 0xC (masterId m) 0 0x48).cmEnd 2)))

/-- R186 to R188, R200, R173, R175: a command of the connection memory ends in its state; a boundary ends a core frame, and
after core frame 31, or where the event says so, begins a superframe. -/
def Obligations.ConnectionMemoryEventsComplete : Prop :=
  ∀ (s : State) (bad : List Nat) (fail : Option (Fin 46080)) (f : CoreFrame), s.live = true →
    (s.cmState = 2 → yields (.cmVerifyDone bad) s
      ((s.setCmPage (!s.activeB) { s.cmStandby with
        bad := (s.cmStandby.bad ++ bad.filter (· < numSu)).eraseDups }).verifyEnds).coreTestStep) ∧
    (s.cmState = 1 → s.core.op = 1 → yields (.cmOperationDone fail) s (State.coreTestStep
      ((({ (s.setCmPage (!s.activeB) s.cmActive).fset F.core_CM_STATUS_RESULT 0 with
        core := { (s.setCmPage (!s.activeB) s.cmActive).core with op := 0 } } : State).setCmState 0).raise 0x80 2))) ∧
    yields (.coreFrameBoundary f) s (s.frameBoundary f (decide (31 ≤ s.fget F.core_CORE_STATUS_FRAME))) ∧
    yields (.superframeBoundary f) s (s.frameBoundary f true)

/-- R208 to R212, R218 to R223, R230, R231: evaluation, holdoff, wait-to-restore, speculation, guard, index frames and fill. -/
def Obligations.ProtectionEventsComplete : Prop :=
  ∀ (s : State) (g : Fin 262144) (ecc : List EccHit) (p : Bool) (mfas : Byte) (opu : List Byte) (cycle : Fin 1152),
    s.live = true →
    yields (.protectionEvaluation g ecc) s ((((ecc.foldl State.eccHit s).confirmSpec g.val).pgEval g.val).alignerCheck g.val) ∧
    yields (.holdoffExpiry g p) s (s.holdoffExpires g.val p) ∧
    yields (.wtrExpiry g) s (s.wtrExpires g.val) ∧
    yields (.speculationWindowExpiry g) s (s.windowEnds g.val) ∧
    (s.ctxType g.val = 2 → (s.run g.val).ecc = false → yields (.guardExpiry g) s (s.setCtxBits g.val 6 15 1 0)) ∧
    ((s.run g.val).ecc = true → yields (.guardExpiry g) s s) ∧
    yields (.indexFrame g p mfas opu cycle) s
      (s.indexFrame g.val p mfas.toNat (crc32 (opu.map BitVec.toNat)) (s.stampAt cycle.val)) ∧
    yields (.fillComplete g) s (s.fillComplete g.val)

/-- R226, R228, R233, R235: admission where the check passes, release of an admitted group, a query, and bonds whose lanes
or carriers may bond. -/
def Obligations.SkewBufferCommandsComplete : Prop :=
  ∀ (s : State) (m : Master) (g : Fin 262144) (en : Bool) (j : Fin 128) (d : Word),
    (s.reaches m 0x90 → s.flag F.prot_ADMIT_STATUS_DONE = true →
      (let a : Aligner := { blocks := (s.admitCheck g.val).2, su := (s.groupLoad g.val).1, index := (s.groupLoad g.val).2 }
       (s.admitCheck g.val).1 = 0 → writes (.admitGroup m g) s
        (((s.setAligner g.val a).setAstate g.val 1).admitEnd 0 (s.admitCheck g.val).2)) ∧
      (s.ctxType g.val = 2 → s.admitted g.val = true → writes (.release m g) s
        ((s.releaseBegins g.val true).fset F.prot_ADMIT_STATUS_DONE 0)) ∧
      writes (.query m g) s (s.admitEnd (s.admitCheck g.val).1 (s.admitCheck g.val).2)) ∧
    (s.reaches m 0x92 →
      (s.enabled 0x10 = false → s.enabled 0x20 = false →
        (s.carBonded = false → s.bondRefusal = 0 → writes (.carrierBondEnable m true) s
          (((({ s with prot :=
              { s.prot with bondBlocks := some (s.admission 2560 1000 0).2, bondTime := [[], []], bondUnits := [[], []]
                            bondPairs := [] } } : State).fset F.bond_CBOND_CTRL_EN 1).showBondMismatch 0).showBondMismatch 1).defects) ∧
        (s.carBonded = en → writes (.carrierBondEnable m en) s s)) ∧
      (let w := s.mergedWord 0x92 (0x100 + 8 * j.val) 0 0xF d.toNat
       bitOf w 13 = true → s.bondValid j.val (bitsOf w 0 8) (bitsOf w 8 5) = true →
       s.flag (F.bond_SLB_CFG_EN j.val) = false →
       let t := s.plainWrite m 0x92 (0x100 + 8 * j.val) 0 0xF d.toNat
       writes (.slotLaneBondEnable m j d) s (((s.bondLanes j.val ++ t.bondLanes j.val).foldl laneAfresh (t.bondAfresh j.val)).defects)))

/-- R217, R237, R239: a memory test starts on a READY stack that runs none, in the modes that permit it; stacks take their
events. -/
def Obligations.StackCommandsComplete : Prop :=
  ∀ (s : State) (m : Master) (i : Fin 4) (fail : Option (Fin 16384)) (corr uncorr : Nat),
    (s.reaches m (0x2B0 + i.val) → s.ready (0x2B0 + i.val) = true → s.fget (F.mem_MTEST_STATUS_STATE i.val) ≠ 1 →
      (s.shadowOk = true → writes (.mtestFreeBlocks m i) s
        (({ s with prot := { s.prot with mtest := spPut 0 s.prot.mtest i.val 1 } } : State).fsets
          [(F.mem_MTEST_STATUS_STATE i.val, 1), (F.mem_MTEST_STATUS_FAIL_BLK i.val, 0)])) ∧
      (s.dev.mode = .maintenance → bitOf (s.fget F.prot_SKEW_CFG_STACKS) i.val = false → writes (.mtestWholeStack m i) s
        (({ s with prot := { s.prot with mtest := spPut 0 s.prot.mtest i.val 2 } } : State).fsets
          [(F.mem_MTEST_STATUS_STATE i.val, 1), (F.mem_MTEST_STATUS_FAIL_BLK i.val, 0)]))) ∧
    (s.live = true →
      yields (.stackReadyLoss i) s (s.stackLost i.val) ∧
      (s.fget (F.mem_MTEST_STATUS_STATE i.val) = 1 →
        let t := s.mtestDone i.val (fail.map Fin.val)
        yields (.mtestDone i fail) s t ∧
        t.fget (F.mem_MTEST_STATUS_STATE i.val) = (if fail.isNone then 2 else 3) ∧
        bitOf (t.fget (F.hdr_INT_STATUS_INT (0x2B0 + i.val))) 1 = true) ∧
      (s.ready (0x2B0 + i.val) = true → s.flag (F.mem_SCRUB_CFG_SCRUB_EN i.val) = true →
        yields (.scrubPass i corr uncorr) s
          (((((s.cadd (F.mem_SCRUB_PASSES_C i.val) 1).cadd (F.mem_ECC_CORR_C i.val) corr).cadd (F.mem_ECC_UNCORR_C i.val)
            uncorr).cadd (F.mem_RD_BYTES_C i.val) (2 ^ 35)).onlyIf (uncorr != 0) fun s => s.raise (0x2B0 + i.val) 0)))

/-- R245, R246, R261, R264, R267, R277: octet PLLs, a lane's enable and its control registers. -/
def Obligations.LaneControlCompletes : Prop :=
  ∀ (s : State) (m : Master) (k : Fin 32) (b : Bool) (n : Fin 256) (be : Fin 16) (d : Word) (mode : Fin 4) (on : Bool),
    (s.reaches m (0x200 + k.val) →
      writes (.octetPllWrite m k b be d) s (s.pllWrite m k.val b 0 be.val d.toNat)) ∧
    (s.reaches m (lanePage n.val) →
      (s.enabled (0x100 + n.val) = false → s.draining (0x100 + n.val) = false → s.laneRateOk n.val = true →
        (let v := s.lane n.val
         writes (.laneEnable m n) s (((s.setLane n.val { txMode := s.fget (F.lane_LANE_CTRL_TX_MODE n.val), fails := v.fails,
                                                         fresh := v.fresh, loaded := v.loaded }).fset
           (enFl (0x100 + n.val)) 1).defects))) ∧
      (s.enabled (0x100 + n.val) = false → s.draining (0x100 + n.val) = false → s.laneRateOk n.val = false →
        writes (.laneEnable m n) s (s.logErr (0x100 + n.val) 0xC (masterId m) 0 0xC)) ∧
      writes (.txFirWrite m n be d) s (s.firWrite m n.val 0 be.val d.toNat) ∧
      writes (.laneCtrlWrite m n be d) s (s.laneCtrl m n.val 0 be.val d.toNat) ∧
      writes (.txModeRequest m n mode) s
        (s.laneCtrl m n.val 0 0xF (setBits (s.mergedWord (lanePage n.val) 0x44 0 0 0) 2 2 mode.val)) ∧
      writes (.rxSleepWrite m n on) s
        (s.laneCtrl m n.val 0 0xF (setBits (s.mergedWord (lanePage n.val) 0x44 0 0 0) 4 1 (b2n on))) ∧
      ((bitsOf (s.mergedWord (0x100 + n.val) 0x68 0 be.val d.toNat) 0 4 = 0 ∨ (s.laneUnused n.val = false ∧ s.dev.mode = .maintenance) ∨
          (s.laneUnused n.val = true ∧ s.shadowOk = true)) →
        let w := s.plainWrite m (0x100 + n.val) 0x68 0 be.val d.toNat
        let t := w.onlyIf (s.prbsOn n.val != w.prbsOn n.val) fun s => s.emit (.prbsGen n.val (s.prbsOn n.val))
        writes (.loopbackWrite m n be d) s
          (if s.loopSel n.val = w.loopSel n.val then
              t.onlyIf (t.dev.mode == .maintenance && !t.lightAllowed) fun s => s.trainEval n.val
            else (t.setLane n.val { t.lane n.val with looped := [] }).trainEval n.val)))

/-- R254 to R263: a lane's training: frames, timers and commands, in the states that they concern. -/
def Obligations.LaneTrainingCompletes : Prop :=
  ∀ (s : State) (m : Master) (n : Fin 256) (seen : MarkerSeen) (first : Option MarkerSeen) (later : List MarkerSeen) (next : Option (Fin 128))
    (dc : Fin 32) (peak : Fin 64) (dfe : Byte),
    (s.reaches m (lanePage n.val) →
      (s.trainState n.val = 5 → writes (.trainStart m n) s ((s.startAttempt n.val).trainEval n.val)) ∧
      (s.attempting n.val = true → writes (.trainAbort m n) s (s.trainFails n.val 6)) ∧
      writes (.trainResetBackoff m n) s
        ((s.setLane n.val { s.lane n.val with fails := 0 }).fset (F.lane_TRAIN_STATUS_BACKOFF n.val) 0)) ∧
    (s.live = true →
      yields (.trainingFrameReceived n seen first later) s (s.trainSeen n.val seen (first.toList ++ later)) ∧
      yields (.trainingFrameSent n next) s (s.trainSend n.val (next.map Fin.val)) ∧
      yields (.equaliserConverged n dc peak dfe) s (s.eqConverged n.val dc.val peak.val dfe.toNat) ∧
      (s.attempting n.val = true → (s.lane n.val).outstanding = true →
        yields (.noAckTimeout n) s (s.lcadd n.val (F.lane_NO_ACK_C n.val) 1)) ∧
      (s.attempting n.val = true → yields (.trainingTimeout n) s (s.trainFails n.val (s.timeoutReason n.val))) ∧
      (s.trainState n.val = 5 → s.flag (F.lane_TRAIN_CFG_RETRY_EN n.val) = true →
        yields (.trainingBackoffExpiry n) s ((s.startAttempt n.val).applyTx n.val)) ∧
      (s.flag (F.lane_RX_STATUS_FROZEN n.val) = true → s.flag (F.lane_RX_STATUS_RX_ASLEEP n.val) = false →
        s.trainState n.val = 4 → yields (.idleHoldExpiry n) s
          (((s.setLane n.val { s.lane n.val with fell := false }).startAttempt n.val).applyTx n.val)))

/-- R245, R248, R249, R264, R266 to R268: a lane's signal, clock, Galop, sleep and eye scan. -/
def Obligations.LaneSignalCompletes : Prop :=
  ∀ (s : State) (m : Master) (k : Fin 32) (b : Bool) (n : Fin 256) (held : Bool) (eye : Fin 4) (phase : Fin 64) (volt : Byte)
    (dwell : Fin 16) (errors : Nat),
    (s.reaches m (lanePage n.val) →
      (s.testsOk = true → s.flag (F.lane_RX_STATUS_RX_ASLEEP n.val) = false → s.attempting n.val = false →
        (s.lane n.val).eye = none →
        let t := s.eyeMeasure m n.val eye.val phase.val volt.toNat dwell.val
        writes (.eyeMeasure m n eye phase volt dwell) s t ∧ t.flag (F.lane_EYE_STATUS_DONE n.val) = false ∧
          (t.lane n.val).eye = some (s.flag (F.lane_RX_STATUS_SIG n.val))) ∧
      (s.flag (F.lane_RX_STATUS_RX_ASLEEP n.val) = false → s.attempting n.val = false → (s.lane n.val).eye.isSome = true →
        writes (.eyeAbandon m n) s
          (((s.setLane n.val { s.lane n.val with eye := none }).fsets
            [(F.lane_EYE_STATUS_DONE n.val, 1), (F.lane_EYE_STATUS_VALID n.val, 0)]).raise (0x100 + n.val) 5))) ∧
    (s.live = true →
      yields (.octetPllLock k b) s (s.pllLocks k.val b) ∧
      yields (.laneSigFall n) s (s.laneSigFall n.val) ∧
      yields (.laneSigRise n) s (s.laneSigRise n.val) ∧
      yields (.cdrLockFall n held) s (s.cdrFall n.val held) ∧
      (s.enabled (0x100 + n.val) = true → s.flag (F.lane_RX_STATUS_SIG n.val) = true →
        yields (.cdrLockRise n) s (s.fset (F.lane_RX_STATUS_CDR_LOCK n.val) 1)) ∧
      (s.fget (F.lane_RX_STATUS_TX_STATE n.val) = 3 → s.txWanted n.val ≠ 0 →
        yields (.sleepWarmupDone n) s (s.setTxState n.val (s.txWanted n.val))) ∧
      (s.flag (F.lane_RX_STATUS_SIG n.val) = true → (s.lane n.val).galopWait = true →
        let t := (s.setLane n.val { s.lane n.val with galopWait := false }).fset (F.lane_RX_STATUS_EQ_CONV n.val) 1
        yields (.galopReceived n) s (if s.framer n.val = 1 then t.enterOof n.val else t)) ∧
      yields (.galopWaitTimeout n) s (s.galopTimeout n.val) ∧
      (s.flag (F.lane_RX_STATUS_RX_ASLEEP n.val) = true → s.flag (F.lane_LANE_CTRL_RX_SLEEP n.val) = false →
        yields (.rxWakeDone n) s ((s.fset (F.lane_RX_STATUS_RX_ASLEEP n.val) 0).laneSigRise n.val)) ∧
      (∀ e, (s.lane n.val).eye = some e → yields (.eyeDone n errors) s
        (((s.setLane n.val { s.lane n.val with eye := none }).fsets [(F.lane_EYE_STATUS_DONE n.val, 1),
          (F.lane_EYE_STATUS_VALID n.val, b2n e), (F.lane_EYE_ERR_ERRORS n.val, min (2 ^ 32 - 1) errors)]).raise
          (0x100 + n.val) 5)))

/-- R269 to R275, R284 to R288, R295: frames of the lanes and of the forerunner slot bus. -/
def Obligations.LaneFramesComplete : Prop :=
  ∀ (s : State) (n : Fin 256) (h : Option (Fin 4)) (cycle : Fin 1153) (line : List (Fin 4)) (fixes : List (Nat × Fin 1024)) (place : Nat)
    (am : Bool) (otuc : Option (List (Bool × Byte))) (fixed : Option Nat) (pl : Fin 1555200) (k : Fin 8)
    (ws : List SlotWord) (long : Bool), s.live = true →
    yields (.flexoFrameReceived n place am otuc) s
      (s.flexoReceived n.val place am (otuc.map fun l => l.map fun e => (e.1, e.2.toNat))) ∧
    yields (.rsCodewordDecode n fixed) s (s.rsDecode n.val fixed) ∧
    yields (.slotLaneFrameTransmit n) s (s.slTransmit n.val) ∧
    yields (.slotLaneFrameReceived n h cycle line fixes) s
      (s.slReceived n.val (h.map Fin.val) (s.stampAt cycle.val) (line.map Fin.val) (symbolFixes fixes)) ∧
    yields (.slotLaneCandidate n place ⟨cycle, line, fixes⟩) s
      (s.slCandidate n.val place (s.stampAt cycle.val) (line.map Fin.val) (symbolFixes fixes)) ∧
    yields (.forerunnerFrameReceived n h ws) s (s.frReceived n.val (h.map Fin.val) (natWords ws)) ∧
    yields (.forerunnerCandidate n pl ws) s (s.frCandidate n.val pl.val (natWords ws)) ∧
    yields (.forerunnerBlockComplete n k () ()) s (s.frBlockDone n.val k.val) ∧
    yields (.forerunnerFrameStart cycle) s (s.frFrameStart cycle.val) ∧
    yields (.framePulseEdge cycle long) s (s.fpEdge cycle.val long) ∧
    yields .framePulseLoss s s.fpLoss ∧
    yields .squelchHoldExpiry s s.fpHoldEnds

/-- R302 to R316: the references and the DPLL, once Boot is over. -/
def Obligations.TimingEventsComplete : Prop :=
  ∀ (s : State) (off : Int) (r : Fin 9) (gross : Bool), s.booted = true →
    yields (.referenceSelection off) s (s.evalSelection off) ∧
    yields (.referenceFailure r gross) s (s.refFails r.val gross) ∧
    yields (.referenceSample r off) s (s.refSample r.val off) ∧
    (let t := s.judgeRef r.val
     t.flag (F.ref_REF_STATUS_VALID r.val) = true → t.flag (F.ref_REF_STATUS_ELIGIBLE r.val) = false →
      yields (.referenceWtrExpiry r) s (t.refEligible r.val)) ∧
    (s.fget F.tim_DPLL_STATUS_STATE = 1 → yields .acquisitionLocked s (s.dpllState 2)) ∧
    yields .acquisitionTimeout s s.acqTimeout ∧
    yields (.historySample off) s (s.historySample off) ∧
    yields .holdLimitExpiry s s.holdLimitExpires ∧
    (s.fget F.tim_DPLL_STATUS_STATE = 4 → yields .boleroComplete s
      (s.fsets [(F.tim_DPLL_STATUS_RAMP, 0), (F.tim_DPLL_FFO_FFO, 0)])) ∧
    yields (.referenceFailureEnd r) s (s.refFailEnds r.val)

/-- R326 to R333, R351 to R353: the Emzal link and the interlock, in the TWIN role. -/
def Obligations.TwinEventsComplete : Prop :=
  ∀ (s : State) (side sigLost held whole : Bool) (k : Fin 4) (header : Fin 1048576) (cell : List Nat)
    (arrival crc trailer : Nat) (erle : Fin 256) (corr uncorr : Nat) (a b : PinClass) (tRx : Int) (msg : WaltzMsg),
    s.paired = true →
    (s.link = 0 → s.flag F.twin_TWIN_STATUS_SIDE_CONFLICT = false → yields .emzalRetryExpiry s (s.setLink 1)) ∧
    (s.link = 1 → side ≠ s.sideB → yields (.emzalCallHeard side) s
      (({ s with twin := { s.twin with heard := true } } : State).setLink 2)) ∧
    (s.link = 1 → yields .emzalListenTimeout s (if s.sideB then s.ezTrain 1 else s.setLink 2)) ∧
    (s.link = 2 → yields .emzalSoloEnd s (s.setLink 3)) ∧
    (s.link = 3 → yields .emzalSoloBEnd s (s.setLink 4)) ∧
    yields (.emzalAlignmentCodeword k header cell arrival erle corr uncorr) s
      (s.ezCodeword k.val header.val cell arrival erle.val corr uncorr) ∧
    (s.link = 4 → s.ezAligned = true → s.twin.partnerAligned = true → yields .emzalLinkUp s
      (({ s with twin := { s.twin with upAge := 0, grace := false } } : State).setLink 5)) ∧
    (s.link = 4 → yields .emzalDuplexTimeout s s.linkDown) ∧
    (s.linkUp = true → yields (.emzalLinkLoss k false) s s.linkDown) ∧
    yields (.emzalLinkLoss k sigLost) s (s.linkLost k.val sigLost) ∧
    (s.twin.grace = true → s.dev.twinRole = 2 → yields .linkGraceExpiry s
      (({ s with twin := { s.twin with grace := false } } : State).toStale 1)) ∧
    yields (.partnerReadingChange a b held) s (s.readPartner a b held) ∧
    yields .claimWatchExpiry s s.claimEnds ∧
    (s.twin.discovering = true → yields .discoveryTimeout s { s with twin := { s.twin with timedOut := true } }) ∧
    yields (.waltzMessageReceived tRx ⟨whole, crc, trailer⟩ msg) s (s.messageIn tRx (waltzIntact ⟨whole, crc, trailer⟩ msg) msg) ∧
    (s.twin.sw = .handedOver → s.reading ≠ 1 → yields .handoverFailTimeout s
      ((({ s with twin := { s.twin with sw := .idle } } : State).raise 0x250 8).commandTakeover)) ∧
    (s.twin.resync = 6 → s.dev.twinRole = 3 → s.linkUp = true → yields .resyncRetryExpiry s s.startResync)

/-- R329, R331, R345, R349, R356: the twin's commands in the modes that take them, with no switchover in progress. -/
def Obligations.TwinCommandsComplete : Prop :=
  ∀ (s : State) (m : Master) (en : Bool), s.reaches m 0x250 →
    (s.dev.mode = .twinActive → s.switching = false → s.partnerEligible = true → s.linkUp = true →
      s.flag F.twin_TWIN_STATUS_INTERLOCK_FAULT = false →
      yields (.twinHandover m) s { s with twin := { s.twin with handoverReq := true } }) ∧
    (s.dev.mode = .twinStandby → s.switching = false → (s.reading = 0 ∨ s.reading = 2) →
      yields (.twinTakeover m) s s.takeOver) ∧
    (s.dev.mode = .twinStale → (s.twin.resync = 0 ∨ s.twin.resync = 6) → s.linkUp = true →
      s.flag F.twin_TWIN_STATUS_SIDE_CONFLICT = false → yields (.twinResync m) s s.startResync) ∧
    yields (.twinClear m) s s.cmdClear ∧
    yields (.copyEnWrite m en) s (s.copyEnWrite en)

/-- R366, R367, R376: LABEL_SEND_USER, LABEL_GASP, LABEL_ABORT, RXQ_POP and RXQ_FLUSH complete. A transmitter that can send takes a
USER of 1 to 64 bytes where none waits, and a GASP; an idle one with nothing before it sends the USER at once, as TYPE 3, or the
GASP, as TYPE 2 with reason 1 and its code. An ABORT marks the IDENT or USER on
the air for its end at the next symbol boundary. A queue loses its head, or all its records. -/
def Obligations.LabelCommandsComplete : Prop :=
  ∀ (s : State) (m : Master) (c : Fin 2) (len code : Byte) (x : Fin 4),
    (s.reaches m (lblPage c.val) →
      (1 ≤ len.toNat → len.toNat ≤ 64 → s.lblCanSend c.val = true → s.flag (F.lbl_LBL_TX_CFG_EN c.val) = true →
        (s.ltx c.val).user = none → yields (.labelSendUser m c len) s
          ((s.setLtx c.val { s.ltx c.val with
            user := some (((List.range 16).flatMap fun i => leBytes 4 (s.fget (F.lbl_LBL_TXBUF_DATA c.val i))).take
              len.toNat) }).lblNext c.val)) ∧
      (s.lblCanSend c.val = true → s.flag (F.lbl_LBL_TX_CFG_EN c.val) = true →
        yields (.labelGasp m c code) s (s.gaspDue c.val 1 code.toNat)) ∧
      (s.lblCanSend c.val = true → s.flag (F.lbl_LBL_TX_CFG_EN c.val) = true → s.ltx c.val = {} →
        let netid := s.fget (F.lbl_LBL_TX_CFG_NETID c.val)
        let depth := max 5 (min 40 (s.fget (F.lbl_LBL_TX_CFG_DEPTH c.val)))
        (1 ≤ len.toNat → len.toNat ≤ 64 → ∃ t, exec (.labelSendUser m c len) s = .next (settle s t) ∧
          let bytes := ((List.range 16).flatMap fun i => leBytes 4 (s.fget (F.lbl_LBL_TXBUF_DATA c.val i))).take len.toNat
          let sf := lblSf (s.fget (F.lbl_LBL_TX_CFG_SF c.val))
          (t.ltx c.val).cur = some ⟨2, bytes, sf⟩ ∧
          t.out = .label c.val 2 bytes sf depth (lblSymbols sf netid 3 bytes) :: s.out) ∧
        (∃ t, exec (.labelGasp m c code) s = .next (settle s t) ∧
          let bytes := beBytes 8 Config.serial ++ [c.val] ++ [1, code.toNat, s.dev.mode.code]
          let sf := lblSf (s.fget (F.lbl_LBL_TX_CFG_GASP_SF c.val))
          (t.ltx c.val).cur = some ⟨3, bytes, sf⟩ ∧
          t.out = .label c.val 3 bytes sf depth (lblSymbols sf netid 2 bytes) :: s.out)) ∧
      (s.lblCanSend c.val = false → yields (.labelGasp m c code) s
        ((s.fset (F.lbl_LBL_TX_STATUS_RESULT c.val) 1).logErr (lblPage c.val) 0xA (masterId m) 0 0x50)) ∧
      (∀ p, (s.ltx c.val).cur = some p → p.kind ≠ 3 → (s.ltx c.val).cut = none → yields (.labelAbort m c) s
        (s.setLtx c.val { s.ltx c.val with cut := some false })) ∧
      ((s.ltx c.val).cur = none → yields (.labelAbort m c) s s)) ∧
    (s.reaches m (rxPage x.val) →
      exec (.rxqPop m x) s = .next (settle s (s.setLrx x.val { s.lrx x.val with queue := (s.lrx x.val).queue.drop 1 })) ∧
      exec (.rxqFlush m x) s = .next (settle s (s.setLrx x.val { s.lrx x.val with queue := [] })))

/-- R365 to R373: the label channel's events. -/
def Obligations.LabelEventsComplete : Prop :=
  ∀ (s : State) (c : Fin 2) (x : Fin 4) (sf : Fin 6) (cc : Fin 65536) (netid : Fin 128) (time now : Nat)
    (header : Fin 16777216) (corrected : Bool) (bytes : List Byte) (rate snr : Int) (depth : Fin 65536), s.live = true →
    (s.fget (F.lbl_LBL_TX_CFG_PERIOD c.val) ≠ 0 → s.lblCanSend c.val = true → s.flag (F.lbl_LBL_TX_CFG_EN c.val) = true →
      yields (.identPeriodExpiry c) s ((s.setLtx c.val { s.ltx c.val with ident := true }).lblNext c.val)) ∧
    yields (.labelPacketSent c) s (s.lblSent c.val) ∧
    yields (.labelCandidate x sf cc netid time) s (s.lblCandidate x.val (7 + sf.val) cc.val netid.val time) ∧
    yields (.labelHeaderDecoded x header corrected) s (s.lblHeaderDecoded x.val header.val corrected) ∧
    yields (.labelSymbolBoundary x) s (s.lblBoundary x.val) ∧
    yields (.labelPacketEnd x now bytes corrected rate snr depth) s
      (s.lblPacketEnd x.val now (bytes.map BitVec.toNat) corrected rate snr depth.val)

/-- R378 to R395: the link, resets, interrupt messages and DMA channels. -/
def Obligations.HostCommandsComplete : Prop :=
  ∀ (s : State) (m : Master) (gen : Fin 8) (width : Fin 32) (pf1 bme d3 : Bool) (vec : Fin 2048) (v : Option (Fin 2048))
    (k : Fin 16) (tail : Fin 65536) (d : Descriptor) (hostData : List Byte) (how : DmaEnd),
    (s.live = true →
      yields (.pcieLinkChange gen width) s ((s.onlyIf (gen.val == 0) State.dmaCut).linkChange gen.val width.val) ∧
      yields (.functionLevelReset pf1) s
        (((s.onlyIf (!pf1) State.dmaCut).funcReset pf1).raise 0x260 (if pf1 then 3 else 2)) ∧
      yields (.msixUnmask pf1 v) s (s.msixUnmask (b2n pf1) (v.map Fin.val)) ∧
      yields (.busMasterChange pf1 bme d3) s (s.busMaster pf1 bme d3) ∧
      (s.flag (F.dma_CH_CFG_EN k.val) = true → s.fget (F.dma_CH_STATUS_STATE k.val) = 1 → (s.chan k.val).job = none →
        s.chPending k.val = true → s.dmaReady = true →
        (s.descRefused d = none → yields (.dmaDescriptorStart k d) s
          (s.setChan k.val { s.chan k.val with job := some { d := d } })) ∧
        (∀ st, s.descRefused d = some st → yields (.dmaDescriptorStart k d) s
          (s.descEnd k.val (bitOf d.ctrl 1) st 0))) ∧
      yields (.dmaDescriptorDone k hostData how) s (s.descDone k.val (hostData.map BitVec.toNat) how) ∧
      yields .eventRingCoalesce s s.announceEvents) ∧
    (s.reaches m 0x260 → vec.val < 64 →
      (requestedVectors s (b2n pf1)).contains vec.val = true → (s.pf (b2n pf1)).unmasked.contains vec.val = true →
      s.msgReady (b2n pf1) = true → yields (.intRearm m vec pf1) s
        ((s.emit (.msix (b2n pf1) vec.val ((s.pf (b2n pf1)).message vec.val).1 ((s.pf (b2n pf1)).message vec.val).2)).cadd
          F.pcie_MSIX_SENT_C 1)) ∧
    (s.reaches m 0x261 →
      yields (.dmaTailWrite m k tail) s (s.chanTail k.val tail.val) ∧
      (s.flag (F.dma_CH_CFG_EN k.val) = true → yields (.dmaChannelDisable m k) s (s.chanDisable k.val)))

/-- R401, R406, R411 to R414: the bus matrix, its masters' resets and the event counters. -/
def Obligations.BusCommandsComplete : Prop :=
  ∀ (s : State) (r : BusReq) (busy : Bool) (beats : Option Nat) (id : Nat) (m : Master) (k : Fin 32)
    (payload : List Word) (frozen halt : Bool),
    (s.live = true →
      yields (.busRequest r busy beats) s (s.busRequest (splitReq (s.reached r)) busy beats) ∧
      yields (.ageLimitExpiry id) s (s.ageRequest id) ∧
      (m ≠ .warden → yields (.masterReset m) s (s.masterReset m)) ∧
      yields (.counterOverflow k) s (s.counterPasses k.val) ∧
      yields (.sampleRecordWrite k payload) s (s.sampleWrite k.val (payload.map BitVec.toNat))) ∧
    (s.reaches m 0x272 → yields (.freezeWrite m frozen halt) s
      (aliasLogged 0x272 0 s (s.pageWrite m 0x272 0x40 0 0xF (b2n frozen + 2 * b2n halt))))

/-- R427 to R431, R433, R439 to R443: the owner of the mailbox, with no command in progress, has its command run; what it
answers waits for Warden. -/
def Obligations.MailboxCommandsComplete : Prop :=
  ∀ (s : State) (m : Master) (len : Fin 65536) (flashOk : Bool), s.reaches m 0x280 → s.mboxOwnedBy m = true →
    s.flag F.sec_MBOX_STATUS_DONE = true →
    ∀ e ∈ [(Instr.attest m len, 1, mboxAttest), (.keyLoad m len, 2, mboxKeyLoad), (.keySwitch m len, 3, mboxKeySwitch),
        (.keyErase m len, 4, mboxKeyErase), (.saSet m len, 5, mboxSaSet), (.saRead m len, 6, mboxSaRead),
        (.update m len flashOk, 7, mboxUpdate flashOk), (.svnCommit m len, 8, mboxSvnCommit),
        (.lifecycle m len, 9, mboxLifecycle)],
      let r := e.2.2 s (s.mboxInput (min len.val 4096))
      yields e.1 s (({ r.st with sec := { r.st.sec with
        cmd := some { op := e.2.1, master := masterId m, result := r.result, out := r.out, start := r.start, slot := r.slot } } } : State).fset
          F.sec_MBOX_STATUS_DONE 0)

/-- R430, R441, R443, R444: claiming and releasing the mailbox, the end of its command, key switches, cores and multiframes. -/
def Obligations.SecurityCommandsComplete : Prop :=
  ∀ (s : State) (m : Master) (sa : Fin 1024) (run : Fin 256) (slices : List SecSlice) (confirmed : Bool),
    (s.reaches m 0x280 →
      yields (.mboxClaim m) s (s.mboxClaim m) ∧
      (s.mboxOwnedBy m = true → yields (.mboxRelease m) s s.mboxRelease) ∧
      (m = .warden ∨ isCore m = true → yields (.coreRunWrite m run) s
        (((List.range 8).foldl (fun (t : State) k =>
          if bitOf (s.fget F.sec_CTL_CORE_CTRL_RUN) k && !bitOf run.val k then t.coreReset k else t)
          (s.fset F.sec_CTL_CORE_CTRL_RUN run.val)).serviceIfHalted.allHalted (s.fget F.sec_CTL_CORE_CTRL_RUN)))) ∧
    (s.live = true →
      (s.flag F.sec_MBOX_STATUS_OWNED = true → s.flag F.sec_MBOX_STATUS_DONE = true →
        yields .mboxIdleTimeout s s.mboxRelease) ∧
      yields .mboxCommandDone s s.mboxDone ∧
      (s.saEn sa = true → (s.sa sa).switchSf.isSome = true → (s.sa sa).switchDue = true →
        yields (.keySwitchEffect sa) s
          (((s.setSa sa { s.sa sa with switchSf := none, switchDue := false }).setCtxBits (saCtx sa) 2 16 1
            (1 - s.saTxSlot sa)).raise 0x280 2)) ∧
      (s.saEn sa = true →
        (s.saSource sa = true → yields (.securedMultiframe sa slices confirmed) s
          (s.sealMultiframe sa (slices.map sliceFrames))) ∧
        (s.saSource sa = false → yields (.securedMultiframe sa slices confirmed) s
          (s.openMultiframe sa (slices.map sliceFrames) confirmed))))

/-- R450, R454 to R457: the console's commands, with the always-on domain powered; each is counted, and one opens a session. -/
def Obligations.ConsoleCommandsComplete : Prop :=
  ∀ (s : State) (page : Fin 4096) (off : Fin 16384) (n : Fin 65) (d : Word) (v : MonView) (lane : Fin 256) (eye : Fin 4)
    (k : Fin 257) (op : Fin 8) (mop : Fin 16) (data : List Byte) (on : Bool), s.dev.aonOn = true →
    yields .consoleBreak s s.conBreak ∧
    yields .fladarStatus s s.conBegins.conStatus ∧
    yields .fladarRails s s.conBegins.conRails ∧
    yields .fladarTemp s s.conBegins.conTemp ∧
    (pageAon page.val = true ∨ s.live = true →
      yields (.fladarRd page off n) s (s.conBegins.conRd page.val off.val n.val) ∧
      yields (.fladarWr page off d) s (s.conBegins.conWr page.val off.val d.toNat)) ∧
    yields (.fladarMon v) s (s.conBegins.conMon v) ∧
    yields (.fladarJrnl k) s (s.conBegins.conJrnl k.val) ∧
    yields .fladarClearFatal s s.conBegins.conClearFatal ∧
    yields .fladarAck s s.conBegins.attnRelease.conDone ∧
    yields (.fladarEcho on) s (s.conBegins.fput F.svc_SVC_STATUS_ECHO on).conDone ∧
    (s.live = true →
      yields (.fladarEye lane eye) s (s.conBegins.conEyeTest lane.val eye.val) ∧
      yields (.fladarMode op) s (s.conBegins.conMode op.val) ∧
      yields (.fladarMbox mop data) s (s.conBegins.conMboxCmd mop.val (natBytes data)) ∧
      yields .fladarReset s (s.conBegins.conDone.fullReset 4))

/-- R458, R459: a test that nothing refuses starts: TEST_STATUS shows it running, and it begins in its block. -/
def Obligations.TestsStart : Prop :=
  ∀ (s : State) (m : Master) (n : Fin 256) (eye : Fin 4) (lane : Option (Fin 256)) (i : Fin 4) (full : Bool) (c : Fin 2),
    s.reaches m 0x2A0 → m ≠ .service → s.svc.test = none →
    ∀ e ∈ [(Instr.testRails m, 1, testArgs 0 false false 1), (.testEye m n eye, 2, testArgs n.val false false eye.val),
        (.testCtxmem m, 3, testArgs 0 false false 1),
        (.testCore m lane, 4, testArgs ((lane.map Fin.val).getD 0) false lane.isSome 1),
        (.testLane m n, 5, testArgs n.val false false 1), (.testMem m i full, 6, testArgs i.val full false 1),
        (.testConv m c, 7, testArgs c.val false false 1), (.testFgcal m c, 8, testArgs c.val false false 1),
        (.testEz m, 9, testArgs 0 false false 1)],
      s.testPermitted e.2.1 e.2.2 = true → s.domainOff (testPage e.2.1 e.2.2.unit) = false →
      (e.2.1 = 4 → (s.coreTestUnit e.2.2).isSome = true) → s.testBlockBusy e.2.1 e.2.2 = false →
      ∃ t : TestRun, t.num = e.2.1 ∧ t.req = e.2.2 ∧
        yields e.1 s ((({ s with svc := { s.svc with test := some t, updateVerdict := 0 } } : State).fsets
          [(F.svc_TEST_STATUS_STATE, 1), (F.svc_TEST_STATUS_TEST, e.2.1), (F.svc_TEST_STATUS_CODE, 0)]).testBegins e.2.1 e.2.2)

/-- R443, R457, R459, R462, R464, R474: abort and end of a test, SVC_ATTN_N, and the field journal; and the verdict view of SVC_MON
while an UPDATE runs and after it ends (that it then stands until the next test is the model's choice, log entry 115). -/
def Obligations.ServiceEventsComplete : Prop :=
  ∀ (s : State) (m : Master) (r : TestResult),
    (s.reaches m 0x2A0 → yields (.attnClr m) s s.attnRelease ∧ (m ≠ .service → yields (.testAbort m) s s.testStop)) ∧
    (s.dev.aonOn = true → s.live = true → yields (.testAbort .service) s s.conBegins.testStop.conDone) ∧
    (s.reaches m 0x2A1 → yields (.jrnlWriteUser m) s (s.userRecord m 1)) ∧
    (s.live = true → yields (.testEnd r) s (s.testDone r)) ∧
    (s.dev.aonOn = true → yields .journalRecordWrite s s.jrnlNext) ∧
    (s.fget F.svc_MON_CTRL_VIEW = 3 →
      ((s.sec.cmd.any fun c => c.op == 7) = true → s.svcMon = .level 600) ∧
      ((s.sec.cmd.any fun c => c.op == 7) = false →
        (s.svc.updateVerdict = 2 → s.svcMon = .level 300) ∧ (s.svc.updateVerdict = 3 → s.svcMon = .level 900)))

/-- R466 to R471: the debug port, open and with the rights that a frame asks, and no access in progress, does what the frame
asks and answers. -/
def Obligations.DebugFramesComplete : Prop :=
  ∀ (s : State) (tag : Fin 8) (autoinc : Bool) (d : Word) (wr : Bool) (reg : Fin 128) (crc : Fin 65536), s.live = true →
    let s1 := s.cadd F.dbg_DBG_FRAMES_C 1
    (crc.val = dbgCrc wr tag.val reg.val d.toNat → yields (.debugFrame wr tag reg d crc) s (s1.dbgFrame wr tag.val reg.val d.toNat)) ∧
    (crc.val ≠ dbgCrc wr tag.val reg.val d.toNat → yields (.debugFrame wr tag reg d crc) s
      ((({ s1 with dbg := { s1.dbg with errCheck := true } } : State).cadd F.dbg_DBG_CRC_ERR_C 1).dbgSay tag.val .check)) ∧
    (s.dbgOff = false →
      yields (.tokenWrite tag d) s ((s1.tokenWrite d.toNat).dbgSay tag.val .done) ∧
      yields (.unlockSubmit tag) s (s1.unlockSubmit tag.val) ∧
      yields (.unlockRelock tag) s (({ s1 with dbg := { s1.dbg with rights := 0 } } : State).dbgSay tag.val .done) ∧
      (s.dbg.busOp = none →
        (bitOf s.dbg.rights 1 = true → yields (.dbgBusRead tag autoinc) s
          (({ s1 with dbg := { s1.dbg with busOp := some (false, autoinc, tag.val) } } : State).dbgSay tag.val .done)) ∧
        (bitOf s.dbg.rights 2 = true → yields (.dbgBusWrite tag autoinc) s
          (({ s1 with dbg := { s1.dbg with busOp := some (true, autoinc, tag.val) } } : State).dbgSay tag.val .done))) ∧
      (bitOf s.dbg.rights 0 = true →
        (s.cpuInReset s.dbg.cpuSel = false →
          yields (.cpuHalt tag) s ((s1.cpuHalt s.dbg.cpuSel 1).dbgSay tag.val .done) ∧
          yields (.cpuResume tag) s ((s1.cpuRun s.dbg.cpuSel).serviceIfHalted.dbgSay tag.val .done) ∧
          yields (.cpuStep tag) s ((s1.cpuStop s.dbg.cpuSel 3).dbgSay tag.val .done)) ∧
        yields (.cpuHaltAll tag) s (((List.range 8).foldl (fun s j => s.cpuHalt j 1) s1).dbgSay tag.val .done) ∧
        yields (.cpuResumeAll tag) s (((List.range 8).foldl State.cpuRun s1).serviceIfHalted.dbgSay tag.val .done) ∧
        ((s.cpu s.dbg.cpuSel).halted = true → regNumOk s.dbg.regNum = true →
          yields (.regCmdRead tag) s (({ s1 with dbg := { s1.dbg with
            regVal := s1.cpuReg s.dbg.cpuSel s.dbg.regNum } } : State).dbgSay tag.val .done) ∧
          (s.dbg.regNum ≠ 0x1000 → yields (.regCmdWrite tag) s
            ((s1.setCpu s.dbg.cpuSel { s.cpu s.dbg.cpuSel with
              regs := spSet (s.cpu s.dbg.cpuSel).regs s.dbg.regNum s.dbg.regVal }).dbgSay tag.val .done)))))

/-- R465, R467, R468, R469, R471, R472: the debug port's events, DBG_OFF and the TAP. -/
def Obligations.DebugEventsComplete : Prop :=
  ∀ (s : State) (m : Master) (k : Fin 8) (b : Fin 4) (ir : Fin 256),
    (s.live = true →
      yields .debugLineReset s (s.masterReset .debug) ∧
      yields .dbgBusDone s s.busDone ∧
      yields .unlockDone s s.unlockDone ∧
      (s.cpuInReset k.val = false → (s.cpu k.val).halted = false → ((s.cpu k.val).bps.getD b.val {}).ctl % 8 ≠ 0 →
        bitOf ((s.cpu k.val).bps.getD b.val {}).ctl 3 = false → yields (.breakpointHit k b) s (s.cpuStop k.val 2))) ∧
    (s.reaches m 0x2A2 → yields (.dbgOffWrite m) s (aliasLogged 0x2A2 0 s (s.pageWrite m 0x2A2 0x44 0 0xF 1))) ∧
    yields (.jtagInstruction ir) s { s with dbg := { s.dbg with tap := tapOf ir.val } }

/-- R37, R51, R73, R169, R351, R459, R467, R468, R471: commands that the block turns away. A second mode request; a firmware
command while control firmware does not run; a tributary-map command while an APPLY is checked, or out of range; a twin
command in a mode that does not take it; a HANDOVER or TAKEOVER while a switchover proceeds; a test while another runs or in a mode that permits none; and a debug frame to a
register behind a right that is not granted or, with DBG_OFF set, to any register from 2 on. -/
def Obligations.CommandsRefused : Prop :=
  ∀ (s : State) (m : Master),
    (s.reaches m 0 → s.dev.req ≠ .none →
      ∀ c ∈ [Instr.modeReqEnterMaintenance m, .modeReqLeaveMaintenance m, .modeReqEnterService m,
          .modeReqRestartFirmware m],
        yields c s ((s.fset F.dev_MODE_REQ_STATUS 3).logErr 0 9 (masterId m) 0 0x44)) ∧
    (s.reaches m 1 → s.dev.fwRunning = false → ∀ x : Fin 262144,
      yields (.cfwPointStatus m x) s (s.logErr 1 8 (masterId m) 0 0x48)) ∧
    (s.reaches m 0x40 → ∀ (i : Fin 65536) (eg : Bool) (table : Fin 3),
      ∀ e ∈ [(Instr.tribReadActive m i eg (table.castLE (by decide)), table.val),
          (.tribWriteStaged m i eg (table.castLE (by decide)), table.val),
          (.tribReadStaged m i eg (table.castLE (by decide)), table.val), (.tribApply m i eg, 2), (.tribDiscard m i eg, 2)],
        (s.odu.applying.isSome = true → writes e.1 s (s.logErr 0x40 8 (masterId m) 0 0x40)) ∧
        (s.odu.applying = none → (if e.2 = 2 then 257 else 46079) < i.val → writes e.1 s (s.tribEnd 3 0))) ∧
    (s.reaches m 0x250 →
      ∀ e ∈ [(Instr.twinHandover m, Mode.twinActive), (.twinTakeover m, .twinStandby), (.twinResync m, .twinStale)],
        s.dev.mode ≠ e.2 → (e.2 = .twinStale ∨ s.switching = false) → yields e.1 s (s.logErr 0x250 0xC (masterId m) 0 0x44)) ∧
    (s.reaches m 0x250 → s.switching = true → ∀ c ∈ [Instr.twinHandover m, .twinTakeover m],
      yields c s (s.logErr 0x250 8 (masterId m) 0 0x44)) ∧
    (s.reaches m 0x2A0 → m ≠ .service →
      (s.svc.test.isSome = true → yields (.testRails m) s (s.logErr 0x2A0 8 (masterId m) 0 0x48)) ∧
      (s.svc.test = none → s.testsOk = false → yields (.testRails m) s (s.logErr 0x2A0 3 (masterId m) 0 0x48))) ∧
    (∀ (tag : Fin 8) (reg : Fin 128) (d : Word) (wr : Bool) (crc : Fin 65536), s.live = true →
      crc.val = dbgCrc wr tag.val reg.val d.toNat →
      ((s.dbgOff = true ∧ 2 ≤ reg.val) ∨ ∃ l, dbgReg reg.val = some l ∧ s.dbgRight l = false) →
      yields (.debugFrame wr tag reg d crc) s ((s.cadd F.dbg_DBG_FRAMES_C 1).dbgSay tag.val .denied))

/-- R54, R72, R74, R76, R404: what a register write or alias write meets that does not reach its page. Dormant: nothing,
except the service port's at the always-on pages. An unmapped page: a DECODE response, for a host function an unsupported
request (but for PF1 its user counter page, 0x3FF, where writes are dropped: R384). PF1: nothing. In Reset nothing and in Boot ERR_LOG 6 of page 0x270, except the Warden's, those of page 0x000 and
the service port's at the always-on pages. A page whose domain is off: ERR_LOG 6 of page 0x270. A block in reset: a RESET
response. A secure page: ERR_LOG 5 there, but for its read-only CAP_ID and BLK_INFO. -/
def Obligations.UnreachedWritesAreAnswered : Prop :=
  ∀ (s : State) (m : Master) (p dw : Fin 4096) (be : Fin 16) (d : Word),
    ∀ e ∈ [(Instr.registerWrite m p dw be d, 0), (.setAliasWrite m p dw be d, 1), (.clearAliasWrite m p dw be d, 2),
        (.toggleAliasWrite m p dw be d, 3)],
      let addr := p.val * 0x10000 + e.2 * 0x4000 + 4 * dw.val
      let freed := m = .warden ∨ p.val = 0 ∨ (m = .service ∧ pageAon p.val = true)
      (s.dev.mode = .dormant → ¬ (m = .service ∧ pageAon p.val = true) → yields e.1 s s) ∧
      (s.dev.mode ≠ .dormant → m = .pf1 → p.val = 0x3FF → yields e.1 s s) ∧
      (s.dev.mode ≠ .dormant → pageMapped p.val = false → ¬ (m = .pf1 ∧ p.val = 0x3FF) → yields e.1 s
        (if m = .pf0 ∨ m = .pf1 then (s.mxError 0xA (masterId m) addr).cadd F.pcie_UR_SENT_C 1
          else s.mxError 0xA (masterId m) addr)) ∧
      (s.dev.mode ≠ .dormant → pageMapped p.val = true →
        (m = .pf1 → yields e.1 s s) ∧
        (m ≠ .pf1 →
          (s.dev.mode = .reset → ¬ freed → yields e.1 s s) ∧
          (s.dev.mode = .boot → ¬ freed → yields e.1 s (s.logErr 0x270 6 (masterId m) e.2 (4 * dw.val))) ∧
          ((s.dev.mode ≠ .reset ∧ s.dev.mode ≠ .boot) ∨ freed →
            (s.domainOff p.val = true → yields e.1 s (s.logErr 0x270 6 (masterId m) e.2 (4 * dw.val))) ∧
            (s.domainOff p.val = false →
              (s.bus.shield.contains (basePage p.val) = true → yields e.1 s (s.mxError 0xB (masterId m) addr)) ∧
              (s.bus.shield.contains (basePage p.val) = false → pageSecure p.val = true → m ≠ .warden →
                yields e.1 s (if dw.val < 2 then s else s.logErr p.val 5 (masterId m) e.2 (4 * dw.val)))))))

/-- A step takes the command that has waited longest: it is that command's effect, the rest of the queue waiting on. With no
command waiting the block idles: the model's choice (assumption log). -/
def Obligations.StepRunsTheFront : Prop :=
  ∀ s : State,
    (∀ (c : Instr) (q : List Instr), s.pending = c :: q → step s = exec c { s with pending := q }) ∧
    (s.pending = [] → step s = .next s)

/-- R33, R39, R60, R65: the reset state. Every field holds its reset value, every counter is zero, the stores are empty (the
model's choice where the spec gives RAM no contents, assumption log), nothing waits, and the state is sound. -/
def Obligations.ResetIsSound : Prop :=
  State.reset.sound {} = true ∧ State.reset.queueWf = true ∧ State.reset.pending = [] ∧
  (∀ f : Fl, State.reset.fget f = f.rst) ∧ (∀ c : Ct, State.reset.cget c = 0) ∧
  (∀ stack off, State.reset.memByte stack off = 0) ∧ State.reset.dev.mode = .reset

/-- R214, R421, R427: every step keeps the addressed stores in their canonical forms, blows no fuse back, keeps every command
that waits, and adds none. -/
def Obligations.EveryStepKeepsSound : Prop :=
  ∀ (u : Fuses) (s s' : State), s.sound u = true → step s = .next s' →
    s'.sound u = true ∧ s'.pending = s.pending.drop 1 ∧ (s.queueWf = true → s'.queueWf = true)

/-- Every queue empties: after as many steps as commands wait, none waits, and no step has stopped. -/
def Obligations.EveryQueueEmpties : Prop :=
  ∀ s : State, ∃ t, runSteps s.pending.length s = .next t ∧ t.pending = []

/-- R64, R99, R261, R300, R330, R367, R386, R455: beside the mode entered, PERST_N held low, the twin's resynchronisation and takeover,
a test whose block loses power or whose mode ends, a reference whose source comes or goes and the one that a twin leaves, which `u`
takes in, what follows every command's effect touches only the lanes, the label transmitters and receivers, their pages' registers
and counters, the host functions' pending bits, MSIX_SENT, the record of outputs, the console notices held back (nothing of the two
is lost) and the model's free-value index (where no command waits for the mailbox). With none of those events `u` is what the effect
left. -/
def Obligations.SettleLeavesTheRest : Prop :=
  ∀ s t : State, let u := (modeFollows s t).perstFollow.twinFollow.testFollow.timingFollow.leavesTwin
    (t.dev.mode = s.dev.mode → t.dev.perstLow = false → t.twin.resync = 0 → t.dev.mode ≠ .twinStale →
      t.dev.mode ≠ .twinStandby → t.svc.test = none → (∀ r, r < 9 → 4 ≤ r → t.srcFail r = t.flag (F.ref_REF_STATUS_SRC_FAIL r)) →
      t.fget F.tim_DPLL_STATUS_SEL_REF ≠ 8 → u = t) ∧
    (u.dbg.unlockWait = false → u.svc.conMbox = none →
    ∃ lanes lblTx lblRx pf0 pf1 fields ctrs outs sent notices free,
      settle s t = { u with
        lanes := lanes, lblTx := lblTx, lblRx := lblRx, host := { u.host with pf0 := pf0, pf1 := pf1 }
        fields := fields, ctrs := ctrs, out := sent, svc := { u.svc with notices := notices }, free := free, pending := s.pending } ∧
      (sent ++ notices).Perm (outs ++ u.out ++ u.svc.notices) ∧
      (u.svc.notices = [] → (∀ x ∈ outs ++ u.out, isNotice x = false) → sent = outs ++ u.out ∧ notices = []) ∧
      (∀ d k, ¬ (0x100 ≤ k / 0x80000 ∧ k / 0x80000 < 0x200) → k / 0x80000 ≠ 0x1C → k / 0x80000 ≠ 0x2C →
        spGet d fields k = spGet d u.fields k) ∧
      (∀ k, ¬ (0x100 ≤ k / 0x4000 ∧ k / 0x4000 < 0x200) → k / 0x4000 ≠ 0x1C → k / 0x4000 ≠ 0x2C → k / 0x4000 ≠ 0x260 →
        spGet 0 ctrs k = spGet 0 u.ctrs k))

/-- R62: the bits of a field after a write in each region: the register region replaces the bits of the bytes written, SET
sets, CLEAR clears and TOGGLE inverts those that the data names. -/
def Obligations.AliasRegionsWriteBits : Prop :=
  ∀ (old d k i : Nat),
    (mergeField 0 old d k).testBit i = (if k.testBit i then d.testBit i else old.testBit i) ∧
    (mergeField 1 old d k).testBit i = (old.testBit i || (d.testBit i && k.testBit i)) ∧
    (mergeField 2 old d k).testBit i = (old.testBit i && !(d.testBit i && k.testBit i)) ∧
    (mergeField 3 old d k).testBit i = (old.testBit i != (d.testBit i && k.testBit i))

/-- R64: a page requests an interrupt while INT_STATUS AND INT_ENABLE is non-zero, on each destination that INT_VECTOR
enables: the vectors requested of a function are exactly those that such pages name for it. -/
def Obligations.RequestedVectorsExact : Prop :=
  ∀ (s : State) (v : Nat), spSorted s.fields = true →
    (v ∈ requestedVectors s 0 ↔ ∃ p, s.fget (F.hdr_INT_STATUS_INT p) &&& s.fget (F.hdr_INT_ENABLE_EN p) ≠ 0 ∧
      s.flag (F.hdr_INT_VECTOR_TO_PF0 p) = true ∧ s.fget (F.hdr_INT_VECTOR_VEC0 p) = v) ∧
    (v ∈ requestedVectors s 1 ↔ ∃ p, s.fget (F.hdr_INT_STATUS_INT p) &&& s.fget (F.hdr_INT_ENABLE_EN p) ≠ 0 ∧
      s.flag (F.hdr_INT_VECTOR_TO_PF1 p) = true ∧ s.fget (F.hdr_INT_VECTOR_VEC1 p) = v)

/-- R82: CARRIER.RATE and CARRIER.SLOT take writes, of the register, of its aliases and by CARRIER_RATE_WRITE, only while EN and DRAINING are 0;
otherwise every field of the block's page outside its common header, and of every other page, stays as it was. -/
def Obligations.RateFrozenWhileEnabled : Prop :=
  ∀ (s : State) (m : Master) (c : Fin 2) (slot : Bool) (dw p : Fin 4096) (be : Fin 16) (d : Word),
    p.val = carPage c.val → 4 * dw.val = (if slot then 0x44 else 0x40) → s.reaches m p.val →
    ∀ e ∈ [(Instr.registerWrite m p dw be d, 0, aliasLogged p.val 0 s), (.setAliasWrite m p dw be d, 1, aliasLogged p.val 1 s),
        (.clearAliasWrite m p dw be d, 2, aliasLogged p.val 2 s), (.toggleAliasWrite m p dw be d, 3, aliasLogged p.val 3 s),
        (.carrierRateWrite m c slot be d, 0, id)],
      (s.enabled p.val = true ∨ s.draining p.val = true → ∃ t : State, writes e.1 s t ∧
        (∀ k x, k < p.val * 0x80000 ∨ p.val * 0x80000 + 0x34 * 32 ≤ k → spGet x t.fields k = spGet x s.fields k) ∧
        t = e.2.2 (s.logErr p.val 0xA (masterId m) e.2.1 (4 * dw.val)) ∧
        (s.flag (F.hdr_ERR_LOG_VALID p.val) = false → t.fget (F.hdr_ERR_LOG_CODE p.val) = 0xA) ∧
        (s.flag (F.hdr_ERR_LOG_VALID p.val) = true → t.fget (F.hdr_ERR_LOG_OVERFLOW p.val) = 1)) ∧
      (s.enabled p.val = false → s.draining p.val = false → writes e.1 s
        (e.2.2 ((s.plainWrite m p.val (4 * dw.val) e.2.1 be.val d.toNat).fset (F.car_CFG_STATUS_CALC c.val) 1)))

/-- R75: an error finds no entry in its page's log: the entry is taken in full; a further one leaves it and sets OVERFLOW.
Each sets INT_STATUS.ERR, and no other field changes. -/
def Obligations.ErrorLogTakesTheFirst : Prop :=
  ∀ (s : State) (p code master region off : Nat), code < 16 → master < 16 → region < 4 → off < 0x4000 → off % 4 = 0 →
    let t := s.logErr p code master region off
    (s.flag (F.hdr_ERR_LOG_VALID p) = false →
      t.fget (F.hdr_ERR_LOG_CODE p) = code ∧ t.fget (F.hdr_ERR_LOG_MASTER p) = master ∧
      t.fget (F.hdr_ERR_LOG_ALIAS p) = region ∧ 4 * t.fget (F.hdr_ERR_LOG_OFFSET_DW p) = off ∧
      t.fget (F.hdr_ERR_LOG_OVERFLOW p) = s.fget (F.hdr_ERR_LOG_OVERFLOW p)) ∧
    (s.flag (F.hdr_ERR_LOG_VALID p) = true →
      t.fget (F.hdr_ERR_LOG_CODE p) = s.fget (F.hdr_ERR_LOG_CODE p) ∧
      t.fget (F.hdr_ERR_LOG_MASTER p) = s.fget (F.hdr_ERR_LOG_MASTER p) ∧
      t.fget (F.hdr_ERR_LOG_ALIAS p) = s.fget (F.hdr_ERR_LOG_ALIAS p) ∧
      t.fget (F.hdr_ERR_LOG_OFFSET_DW p) = s.fget (F.hdr_ERR_LOG_OFFSET_DW p) ∧
      t.flag (F.hdr_ERR_LOG_OVERFLOW p) = true) ∧
    t.flag (F.hdr_ERR_LOG_VALID p) = true ∧ bitOf (t.fget (F.hdr_INT_STATUS_INT p)) 30 = true ∧
    (∀ k x, k ≠ p * 0x80000 + 0x10 * 32 → k / 32 ≠ p * 0x4000 + 0x30 → spGet x t.fields k = spGet x s.fields k)

/-- R190: an armed immediate swap makes the standby page active: the pages exchange, nothing stays armed, the state is STAGED,
and SWAP_SEQ, SWAP_LAST_SF, SWAP_LAST_FRAME and the interrupt bit say so. -/
def Obligations.SwapExchangesPages : Prop :=
  ∀ (s : State) (sf frame : Nat), s.core.arm = some none →
    let t := s.swapDue sf frame
    t.cmActive = s.cmStandby ∧ t.cmStandby = s.cmActive ∧ t.core.arm = none ∧ t.cmState = 0 ∧
    t.fget F.core_SWAP_SEQ_SEQ = (s.fget F.core_SWAP_SEQ_SEQ + 1) % 2 ^ 32 ∧
    t.fget F.core_SWAP_LAST_SF_SF = sf % 2 ^ 32 ∧ t.fget F.core_SWAP_LAST_FRAME_FRAME = frame % 32 ∧
    bitOf (t.fget (F.hdr_INT_STATUS_INT 0x80)) 0 = true

/-- R185: a write of a connection-memory entry through a window on the standby page, in STAGED, changes that entry of that page:
no other entry of it, and nothing of the active page. -/
def Obligations.ConnectionMemoryWriteFrame : Prop :=
  ∀ (s : State) (m : Master) (e : Fin 46080) (region : Fin 4) (be : Fin 16) (d : Word), s.reaches m (cmPlace e.val).1 →
    s.cmView.2 = false → s.cmState = 0 → ∃ t : State, writes (.cmEntryWrite m e region be d) s t ∧
      (t.cmPage s.cmView.1).entry e.val = mergeField region.val ((s.cmPage s.cmView.1).entry e.val) (bitsOf d.toNat 0 18)
        (bitsOf (beMask be.val) 0 18) % 2 ^ 18 ∧
      (∀ u, u ≠ e.val → (t.cmPage s.cmView.1).entry u = (s.cmPage s.cmView.1).entry u) ∧
      t.cmPage (!s.cmView.1) = s.cmPage (!s.cmView.1) ∧ t.fields = s.fields ∧ t.ctrs = s.ctrs ∧ t.mem = s.mem ∧
      t.ctx = s.ctx

/-- R214: the memory stacks: a read after a write gives the bytes written, every other byte stays, and the canonical form is
kept. -/
def Obligations.MemoryStoreLaws : Prop :=
  ∀ (s : State) (stack off : Nat) (l : List Nat),
    (s.memWrite stack off l).memRead stack off l.length = l.map (· % 256) ∧
    (∀ k, k < memKey stack off ∨ memKey stack off + l.length ≤ k → spGet 0 (s.memWrite stack off l).mem k = spGet 0 s.mem k) ∧
    (Memory.wf s.mem = true → Memory.wf (s.memWrite stack off l).mem = true)

/-- R388, R390, R391: a permitted DMA descriptor to a READY memory stack that ends well writes its LEN bytes where its device address says and
no other byte of any stack, and its channel shows status 1 with no descriptor in progress. -/
def Obligations.DmaWritesOnlyItsBytes : Prop :=
  ∀ (s : State) (k : Fin 16) (hostData : List Byte) (d : Descriptor), s.live = true →
    (∃ j, (s.chan k.val).job = some j ∧ j.d = d) → s.fget (F.dma_CH_STATUS_STATE k.val) = 1 → d.ctrl % 2 = 0 →
    d.devAddr / 2 ^ 62 = 1 → s.descRefused d = none → s.ready (0x2B0 + bitsOf d.devAddr 35 2) = true →
    s.bus.shield.contains (0x2B0 + bitsOf d.devAddr 35 2) = false → d.len ≤ hostData.length →
    ∃ t : State, yields (.dmaDescriptorDone k hostData .ok) s t ∧
      (∀ i, i < d.len → t.memByte (bitsOf d.devAddr 35 2) (d.devAddr % 2 ^ 35 + i) = (hostData.getD i 0).toNat) ∧
      (∀ a, a < memKey (bitsOf d.devAddr 35 2) (d.devAddr % 2 ^ 35) ∨
          memKey (bitsOf d.devAddr 35 2) (d.devAddr % 2 ^ 35) + d.len ≤ a → spGet 0 t.mem a = spGet 0 s.mem a) ∧
      t.fget (F.dma_CH_STATUS_LAST k.val) = 1 ∧ (t.chan k.val).job = none

/-- R35, R422: a fatal fault takes a live device into Quarantine, records its code and class, and zeroes every key. -/
def Obligations.FatalEntersQuarantine : Prop :=
  ∀ (s : State) (cls code : Nat) (detail : List Nat), s.live = true → cls < 8 → code < 65536 →
    let t := s.fatal cls code detail
    t.dev.mode = .quarantine ∧ t.fget F.dev_FATAL_CODE = code ∧ t.fget F.dev_FATAL_CLASS = cls ∧
    (∀ a slot, t.key a slot = none) ∧ yields .wardenIntegrityFailure s (s.fatal 4 0x4113 [])

/-- R34, R99, R264: outside the modes that carry traffic no laser is lit and no lane sends data. -/
def Obligations.OutputsDarkOutsideTraffic : Prop :=
  ∀ s : State, s.dev.mode ∈ [Mode.dormant, .reset, .boot, .bringUp, .twinStandby, .twinStale, .quarantine] →
    (∀ c, s.laser c = false) ∧ (∀ n, s.laneHeld n = true ∧ s.txWanted n ≠ 0)

/-- R367: a label transmitter has a packet on the air only while its laser is lit and its transmit chain runs, after whatever
command; a packet whose light or chain ends stops at once and counts in TX_CUT. -/
def Obligations.LabelSendsOnlyWithLight : Prop :=
  (∀ (i : Instr) (s t : State) (c : Fin 2), exec i s = .next t → (t.ltx c.val).cur.isSome = true →
    t.laser c.val = true ∧ t.txRuns c.val = true) ∧
  (∀ (s : State) (c : Fin 2), (s.ltx c.val).cur.isSome = true → ¬ (s.laser c.val = true ∧ s.txRuns c.val = true) →
    ((s.lblFollow c.val).ltx c.val).cur = none ∧ (s.lblFollow c.val).out = .labelStop c.val :: s.out ∧
    (s.lblFollow c.val).cget (F.lbl_TX_CUT_C c.val) = (s.cget (F.lbl_TX_CUT_C c.val) + 1) % 2 ^ (F.lbl_TX_CUT_C c.val).w)

/-- R451: the verdict view shows the last test: 0.60 V running, 0.30 V passed, 0.90 V failed; with none run, 0.30 V while XO_IN
is present and every non-AON rail is in its window (its state 1, OK, or 2, WARN), 0.90 V otherwise. The automatic view
shows it while no fatal code stands. The states in which R443 gives the view to an UPDATE, running or ended since the last test,
are in ServiceEventsComplete. -/
def Obligations.ServiceMonitorShowsTheVerdict : Prop :=
  ∀ s : State, s.fget F.svc_MON_CTRL_VIEW = 3 ∨ (s.fget F.svc_MON_CTRL_VIEW = 0 ∧ s.fget F.dev_FATAL_CODE = 0) →
    (s.sec.cmd.any fun c => c.op == 7) = false → s.svc.updateVerdict = 0 →
    (s.fget F.svc_TEST_STATUS_STATE = 1 → s.svcMon = .level 600) ∧
    (s.fget F.svc_TEST_STATUS_STATE = 2 → s.svcMon = .level 300) ∧
    (s.fget F.svc_TEST_STATUS_STATE = 3 → s.svcMon = .level 900) ∧
    (s.fget F.svc_TEST_STATUS_STATE = 0 →
      (s.flag F.svc_SVC_STATUS_XO_PRESENT = true →
        (∀ r, r < 9 → s.fget (F.svc_RAIL_STATE r) = 1 ∨ s.fget (F.svc_RAIL_STATE r) = 2) → s.svcMon = .level 300) ∧
      (s.flag F.svc_SVC_STATUS_XO_PRESENT = false → s.svcMon = .level 900) ∧
      (∀ r, r < 9 → s.fget (F.svc_RAIL_STATE r) ≠ 1 → s.fget (F.svc_RAIL_STATE r) ≠ 2 → s.svcMon = .level 900))

end
end

