-- ==== Sys2Proof/Laws/Sparse.lean ====
section
/-! SUPPORT. Laws of sparse maps: what a read gives after a write, and that every operation keeps the canonical form. -/

namespace Sys2Proof.Machine

variable {β : Type}

/-- A key that is erased reads as the unlisted value. -/
theorem spGet_spErase_self (d : β) (m : SparseMap β) (k : Nat) : spGet d (spErase k m) k = d := by
  induction m with
  | nil => rfl
  | cons e m ih => simp only [spErase]; split <;> simp_all [spGet]

/-- Erasing a key leaves the others. -/
theorem spGet_spErase_other (d : β) (m : SparseMap β) {j k : Nat} (h : j ≠ k) :
    spGet d (spErase k m) j = spGet d m j := by
  induction m with
  | nil => rfl
  | cons e m ih => simp only [spErase]; split <;> simp_all [spGet]; intro h'; omega

/-- A key that is inserted where it is not listed reads as what was inserted. -/
theorem spGet_spInsert_self (d v : β) (m : SparseMap β) (k : Nat) :
    spGet d (spInsert k v (spErase k m)) k = v := by
  induction m with
  | nil => simp [spErase, spInsert, spGet]
  | cons e m ih =>
    simp only [spErase]
    split
    · exact ih
    · simp only [spInsert]
      split <;> simp_all [spGet]

/-- Inserting a key leaves the others. -/
theorem spGet_spInsert_other (d v : β) (m : SparseMap β) {j k : Nat} (h : j ≠ k) :
    spGet d (spInsert k v m) j = spGet d m j := by
  induction m with
  | nil => simp [spInsert, spGet, Ne.symm h]
  | cons e m ih => simp only [spInsert]; split <;> simp_all [spGet, Ne.symm h]

/-- A read after a write gives the value written. -/
@[simp] theorem spGet_spSet_self (d v : β) (m : SparseMap β) (k : Nat) : spGet d (spSet m k v) k = v :=
  spGet_spInsert_self d v m k

/-- A write leaves every other key. -/
theorem spGet_spSet_other (d v : β) (m : SparseMap β) {j k : Nat} (h : j ≠ k) :
    spGet d (spSet m k v) j = spGet d m j := by
  rw [spSet, spGet_spInsert_other d v _ h, spGet_spErase_other d m h]

/-- A read after a write to a store that lists no unlisted value. -/
@[simp] theorem spGet_spPut_self [DecidableEq β] (d v : β) (m : SparseMap β) (k : Nat) :
    spGet d (spPut d m k v) k = v := by
  unfold spPut
  split
  · rw [spGet_spErase_self]; simp_all
  · exact spGet_spSet_self d v m k

/-- Such a write leaves every other key. -/
theorem spGet_spPut_other [DecidableEq β] (d v : β) (m : SparseMap β) {j k : Nat} (h : j ≠ k) :
    spGet d (spPut d m k v) j = spGet d m j := by
  unfold spPut
  split
  · exact spGet_spErase_other d m h
  · exact spGet_spSet_other d v m h

/-- A dropped key reads as the unlisted value, a kept one as before. -/
theorem spGet_spDrop (d : β) (p : Nat → Bool) (m : SparseMap β) (k : Nat) :
    spGet d (spDrop p m) k = if p k then d else spGet d m k := by
  induction m with
  | nil => simp [spDrop, spGet]
  | cons e m ih =>
    simp only [spDrop]
    split
    · rw [ih]; simp only [spGet]; split <;> rename_i h1 h2 <;> simp_all
      intro h3; simp_all
    · simp only [spGet]; split
      · rename_i h1 h2; subst h2; simp_all
      · exact ih

/-! ## The canonical form -/

/-- A key bound moves down. -/
theorem spAbove_mono {i j : Nat} (h : i ≤ j) : (m : SparseMap β) → spAbove j m = true → spAbove i m = true
  | [], _ => rfl
  | (k, _) :: m, hm => by
    simp only [spAbove, Bool.and_eq_true, decide_eq_true_eq] at hm ⊢
    exact ⟨by omega, hm.2⟩

/-- Erasing keeps the order. -/
theorem spAbove_spErase (k : Nat) : (m : SparseMap β) → (i : Nat) → spAbove i m = true → spAbove i (spErase k m) = true
  | [], _, _ => rfl
  | (j, v) :: m, i, h => by
    simp only [spAbove, Bool.and_eq_true, decide_eq_true_eq] at h
    simp only [spErase]
    split
    · exact spAbove_spErase k m i (spAbove_mono (by omega) m h.2)
    · simp only [spAbove, Bool.and_eq_true, decide_eq_true_eq]
      exact ⟨h.1, spAbove_spErase k m j h.2⟩

/-- What is left after erasing a key from the larger keys lists keys other than it. -/
theorem spAbove_spInsert (k : Nat) (v : β) : (m : SparseMap β) → (i : Nat) → i < k → spAbove i m = true →
    (∀ u, (k, u) ∉ m) → spAbove i (spInsert k v m) = true
  | [], i, h, _, _ => by simp [spInsert, spAbove, h]
  | (j, u) :: m, i, h, hm, hk => by
    simp only [spAbove, Bool.and_eq_true, decide_eq_true_eq] at hm
    simp only [spInsert]
    split
    · simp only [spAbove, Bool.and_eq_true, decide_eq_true_eq]; exact ⟨h, by omega, hm.2⟩
    · simp only [spAbove, Bool.and_eq_true, decide_eq_true_eq]
      have hne : j ≠ k := by intro hj; subst hj; exact hk u (by simp)
      exact ⟨hm.1, spAbove_spInsert k v m j (by omega) hm.2 (fun w hw => hk w (by simp [hw]))⟩

/-- An erased key is not listed. -/
theorem not_mem_spErase (k : Nat) : (m : SparseMap β) → ∀ u, (k, u) ∉ spErase k m
  | [], u => by simp [spErase]
  | (j, v) :: m, u => by
    simp only [spErase]
    split
    · exact not_mem_spErase k m u
    · intro h
      rcases List.mem_cons.mp h with h | h
      · simp_all
      · exact not_mem_spErase k m u h

/-- A map whose keys rise has keys above no number in particular: its first key starts it. -/
theorem spSorted_of_spAbove : (m : SparseMap β) → (i : Nat) → spAbove i m = true → spSorted m = true
  | [], _, _ => rfl
  | (_, _) :: _, _, h => by
    simp only [spAbove, Bool.and_eq_true] at h
    exact h.2

/-- Erasing keeps rising keys. -/
theorem spSorted_spErase (k : Nat) : (m : SparseMap β) → spSorted m = true → spSorted (spErase k m) = true
  | [], _ => rfl
  | (j, v) :: m, h => by
    simp only [spErase]
    split
    · exact spSorted_of_spAbove _ j (spAbove_spErase k m j h)
    · exact spAbove_spErase k m j h

/-- Inserting a key that is not listed keeps rising keys. -/
theorem spSorted_spInsert (k : Nat) (v : β) (m : SparseMap β) (h : spSorted m = true) (hk : ∀ u, (k, u) ∉ m) :
    spSorted (spInsert k v m) = true := by
  cases m with
  | nil => rfl
  | cons e m =>
    obtain ⟨j, u⟩ := e
    have hm : spAbove j m = true := h
    simp only [spInsert]
    split
    · rename_i hkj
      simp only [spSorted, spAbove, Bool.and_eq_true, decide_eq_true_eq]
      exact ⟨hkj, hm⟩
    · have hne : j ≠ k := by intro hj; subst hj; exact hk u (by simp)
      exact spAbove_spInsert k v m j (by omega) hm (fun w hw => hk w (by simp [hw]))

/-- A write keeps rising keys. -/
theorem spSorted_spSet (m : SparseMap β) (k : Nat) (v : β) (h : spSorted m = true) : spSorted (spSet m k v) = true :=
  spSorted_spInsert k v _ (spSorted_spErase k m h) (not_mem_spErase k m)

/-- Erasing leaves no unlisted value. -/
theorem spNoDefault_spErase [DecidableEq β] (d : β) (k : Nat) : (m : SparseMap β) → spNoDefault d m = true →
    spNoDefault d (spErase k m) = true
  | [], _ => rfl
  | (j, v) :: m, h => by
    simp only [spNoDefault, Bool.and_eq_true] at h
    simp only [spErase]
    split
    · exact spNoDefault_spErase d k m h.2
    · simp only [spNoDefault, Bool.and_eq_true]; exact ⟨h.1, spNoDefault_spErase d k m h.2⟩

/-- Inserting another value lists no unlisted value. -/
theorem spNoDefault_spInsert [DecidableEq β] (d : β) (k : Nat) (v : β) (hv : v ≠ d) : (m : SparseMap β) →
    spNoDefault d m = true → spNoDefault d (spInsert k v m) = true
  | [], _ => by simp [spInsert, spNoDefault, hv]
  | (j, u) :: m, h => by
    simp only [spInsert]
    split
    · simp only [spNoDefault, Bool.and_eq_true] at h ⊢; exact ⟨by simpa using hv, h⟩
    · simp only [spNoDefault, Bool.and_eq_true] at h ⊢; exact ⟨h.1, spNoDefault_spInsert d k v hv m h.2⟩

/-- A write that removes an entry equal to the unlisted value keeps the canonical form. -/
theorem spWf_spPut [DecidableEq β] (d : β) (m : SparseMap β) (k : Nat) (v : β) (h : spWf d m = true) :
    spWf d (spPut d m k v) = true := by
  simp only [spWf, Bool.and_eq_true] at h ⊢
  unfold spPut
  split
  · exact ⟨spSorted_spErase k m h.1, spNoDefault_spErase d k m h.2⟩
  · rename_i hv
    exact ⟨spSorted_spSet m k v h.1, spNoDefault_spInsert d k v hv _ (spNoDefault_spErase d k m h.2)⟩

/-- Dropping keys keeps the order. -/
theorem spAbove_spDrop (p : Nat → Bool) : (m : SparseMap β) → (i : Nat) → spAbove i m = true →
    spAbove i (spDrop p m) = true
  | [], _, _ => rfl
  | (j, v) :: m, i, h => by
    simp only [spAbove, Bool.and_eq_true, decide_eq_true_eq] at h
    simp only [spDrop]
    split
    · exact spAbove_spDrop p m i (spAbove_mono (by omega) m h.2)
    · simp only [spAbove, Bool.and_eq_true, decide_eq_true_eq]
      exact ⟨h.1, spAbove_spDrop p m j h.2⟩

/-- Dropping keys keeps rising keys. -/
theorem spSorted_spDrop (p : Nat → Bool) : (m : SparseMap β) → spSorted m = true → spSorted (spDrop p m) = true
  | [], _ => rfl
  | (j, v) :: m, h => by
    simp only [spDrop]
    split
    · exact spSorted_of_spAbove _ j (spAbove_spDrop p m j h)
    · exact spAbove_spDrop p m j h

/-- Dropping keys leaves no unlisted value. -/
theorem spNoDefault_spDrop [DecidableEq β] (d : β) (p : Nat → Bool) : (m : SparseMap β) → spNoDefault d m = true →
    spNoDefault d (spDrop p m) = true
  | [], _ => rfl
  | (j, v) :: m, h => by
    simp only [spNoDefault, Bool.and_eq_true] at h
    simp only [spDrop]
    split
    · exact spNoDefault_spDrop d p m h.2
    · simp only [spNoDefault, Bool.and_eq_true]; exact ⟨h.1, spNoDefault_spDrop d p m h.2⟩

/-- Dropping keys keeps the canonical form. -/
theorem spWf_spDrop [DecidableEq β] (d : β) (p : Nat → Bool) (m : SparseMap β) (h : spWf d m = true) :
    spWf d (spDrop p m) = true := by
  simp only [spWf, Bool.and_eq_true] at h ⊢
  exact ⟨spSorted_spDrop p m h.1, spNoDefault_spDrop d p m h.2⟩

end Sys2Proof.Machine
end

