-- ==== Sys2Proof/Laws/Gate.lean ====
section
/-! SUPPORT. What a write to a page comes to: its effect where the page can be reached, beside which the active twin may
journal it; and the responses where it cannot. -/

namespace Sys2Proof.Machine

variable {s : State} {m : Master} {p : Nat}

/-- Journalling changes nothing but the twin block, and takes at most one record. -/
theorem mirror_cases (s t : State) (m : Master) (p off region be data : Nat) :
    s.mirror m p off region be data t = t ∨ ∃ b, s.mirror m p off region be data t = t.twinRecord b := by
  unfold State.mirror
  repeat' split
  all_goals first | exact .inl rfl | exact .inr ⟨_, rfl⟩

/-- Writes to pages that are not copied are not journalled. -/
theorem mirror_uncopied (s t : State) (m : Master) (off region be data : Nat) (hc : copiedPage p = false) :
    s.mirror m p off region be data t = t := by
  unfold State.mirror
  simp [hc]

/-- A write that reaches its page takes effect; the active twin may journal it. -/
theorem viaPage_reaches (h : s.reaches m p) (off region be data : Nat) (f : State → State) :
    s.viaPage m p off region be data f = f s ∨ ∃ b, s.viaPage m p off region be data f = (f s).twinRecord b := by
  unfold State.viaPage
  rw [h]
  dsimp only
  split
  · exact .inl rfl
  · exact mirror_cases _ _ _ _ _ _ _ _

/-- A write that reaches a page that is not copied takes effect. -/
theorem viaPage_uncopied (h : s.reaches m p) (hc : copiedPage p = false) (off region be data : Nat) (f : State → State) :
    s.viaPage m p off region be data f = f s := by
  unfold State.viaPage
  rw [h]
  dsimp only
  split
  · rfl
  · exact mirror_uncopied _ _ _ _ _ _ _ hc

/-- The same, for a command register. -/
theorem viaCmd_uncopied (h : s.reaches m p) (hc : copiedPage p = false) (off data : Nat) (f : State → State) :
    s.viaCmd m p off data f = f s := viaPage_uncopied h hc off 0 0xF data f

/-- A command whose effect goes through a page's gate. -/
theorem writes_of_viaPage {c : Instr} {t : State} {off region be data : Nat} {f : State → State}
    (hc : exec c s = finish s (s.viaPage m p off region be data f)) (h : s.reaches m p) (ht : f s = t) : writes c s t :=
  ht ▸ ⟨_, viaPage_reaches h off region be data f, hc⟩

/-- A command register's command that reaches its page. -/
theorem writes_of_viaCmd {c : Instr} {t : State} {off data : Nat} {f : State → State}
    (hc : exec c s = finish s (s.viaCmd m p off data f)) (h : s.reaches m p) (ht : f s = t) : writes c s t :=
  writes_of_viaPage hc h ht

/-- The same for a page that is not copied. -/
theorem yields_of_viaPage {c : Instr} {t : State} {off region be data : Nat} {f : State → State}
    (hc : exec c s = finish s (s.viaPage m p off region be data f)) (h : s.reaches m p) (hp : copiedPage p = false)
    (ht : f s = t) : yields c s t := by
  unfold yields
  rw [hc, viaPage_uncopied h hp, ht]
  rfl

/-- A command register's command that reaches a page that is not copied. -/
theorem yields_of_viaCmd {c : Instr} {t : State} {off data : Nat} {f : State → State}
    (hc : exec c s = finish s (s.viaCmd m p off data f)) (h : s.reaches m p) (hp : copiedPage p = false) (ht : f s = t) :
    yields c s t := yields_of_viaPage hc h hp ht

/-- An event in the powered, released device. -/
theorem yields_of_live {c : Instr} {t : State} {f : State → State} (hc : exec c s = finish s (s.whenLive f))
    (h : s.live = true) (ht : f s = t) : yields c s t := by
  unfold yields
  rw [hc, State.whenLive, if_pos h, ht]
  rfl

/-- An event once Boot is over. -/
theorem yields_of_booted {c : Instr} {t : State} {f : State → State} (hc : exec c s = finish s (s.whenBooted f))
    (h : s.booted = true) (ht : f s = t) : yields c s t := by
  unfold yields
  rw [hc, State.whenBooted, if_pos h, ht]
  rfl

/-- An event of a device with a partner. -/
theorem yields_of_paired {c : Instr} {t : State} {f : State → State} (hc : exec c s = finish s (s.whenPaired f))
    (h : s.paired = true) (ht : f s = t) : yields c s t := by
  unfold yields
  rw [hc, State.whenPaired, if_pos h, ht]
  rfl

/-- An event of the always-on domain. -/
theorem yields_of_aon {c : Instr} {t : State} {f : State → State} (hc : exec c s = finish s (s.whenAon f))
    (h : s.dev.aonOn = true) (ht : f s = t) : yields c s t := by
  unfold yields
  rw [hc, State.whenAon, if_pos h, ht]
  rfl

end Sys2Proof.Machine
end

