-- ==== Sys2Proof/Laws/Sound.lean ====
section
/-! SUPPORT. The sound states (stores in canonical form, blown fuses blown): how soundness reads over record updates,
conditions and folds, and the operations that write the stores or the fuses. -/

namespace Sys2Proof.Machine

variable {u : Fuses} {s : State}

/-- Soundness in terms of the fields it looks at. -/
def soundParts (u : Fuses) (f c h : SparseMap Nat) (fu : Fuses) (m : Memory) (x : SparseMap Nat) (r : Memory) : Bool :=
  (Memory.wf m && spWf 0 x && Memory.wf r && spWf 0 c && spWf 0 h && spSorted f) && u.within fu

/-- A record of fields is sound when the parts are. -/
@[simp ↓] theorem sound_mk (fields ctrs hold : SparseMap Nat) (dev : Dev) (cfw : Cfw) (host : HostIf) (bus : Bus) (sec : Sec)
    (fuses : Fuses) (svc : Svc) (dbg : Dbg) (twin : Twin) (carriers : SparseMap Carrier) (reels : SparseMap Reel)
    (lanes : SparseMap Lane) (slIn slOut : SparseMap (List Nat)) (fore : Fore) (tim : Timing) (lblTx : SparseMap LblTx)
    (lblRx : SparseMap LblRx) (odu : Odu) (core : Core) (prot : Prot) (mem : Memory) (ctx : SparseMap Nat)
    (sram : Memory) (out : List Out) (free : Nat) (pending : List Instr) :
    State.sound u ⟨fields, ctrs, hold, dev, cfw, host, bus, sec, fuses, svc, dbg, twin, carriers, reels, lanes, slIn, slOut,
      fore, tim, lblTx, lblRx, odu, core, prot, mem, ctx, sram, out, free, pending⟩ =
      soundParts u fields ctrs hold fuses mem ctx sram := rfl

/-- The parts of a state are sound when it is. -/
@[simp ↓] theorem soundParts_self (s : State) :
    soundParts u s.fields s.ctrs s.hold s.fuses s.mem s.ctx s.sram = s.sound u := rfl

/-- The parts, one by one. -/
theorem sound_iff : s.sound u = true ↔
    Memory.wf s.mem = true ∧ spWf 0 s.ctx = true ∧ Memory.wf s.sram = true ∧ spWf 0 s.ctrs = true ∧
      spWf 0 s.hold = true ∧ spSorted s.fields = true ∧ u.within s.fuses = true := by
  simp [State.sound, State.storesWf, and_assoc]

/-- Either way sound. -/
@[simp ↓] theorem sound_ite {c : Prop} [Decidable c] (a b : State) (ha : a.sound u = true) (hb : b.sound u = true) :
    (if c then a else b).sound u = true := by split <;> assumption

/-- Either way sound, of a state that carries something beside it. -/
@[simp ↓] theorem sound_ite_fst {β : Type} {c : Prop} [Decidable c] (a b : State × β) (ha : a.1.sound u = true)
    (hb : b.1.sound u = true) : (if c then a else b).1.sound u = true := by split <;> assumption

/-- A fold of steps that keep soundness. -/
@[simp ↓] theorem sound_foldl {α : Type} (f : State → α → State) (l : List α) (s : State)
    (hf : ∀ s x, s.sound u = true → (f s x).sound u = true) (h : s.sound u = true) : (l.foldl f s).sound u = true := by
  induction l generalizing s with
  | nil => exact h
  | cons x l ih => exact ih _ (hf s x h)

/-- A fold that carries something beside the state. -/
@[simp ↓] theorem sound_foldl_fst {α β : Type} (f : State × β → α → State × β) (l : List α) (p : State × β)
    (hf : ∀ p x, p.1.sound u = true → (f p x).1.sound u = true) (h : p.1.sound u = true) :
    (l.foldl f p).1.sound u = true := by
  induction l generalizing p with
  | nil => exact h
  | cons x l ih => exact ih _ (hf p x h)

/-! ## Operations that write the stores -/

/-- A field is written. -/
@[simp ↓] theorem State.fset_sound (f : Fl) (v : Nat) (h : s.sound u = true) : (s.fset f v).sound u = true := by
  rw [sound_iff] at h ⊢
  exact ⟨h.1, h.2.1, h.2.2.1, h.2.2.2.1, h.2.2.2.2.1, spSorted_spSet _ _ _ h.2.2.2.2.2.1, h.2.2.2.2.2.2⟩

/-- A counter adds. -/
@[simp ↓] theorem State.cadd_sound (c : Ct) (n : Nat) (h : s.sound u = true) : (s.cadd c n).sound u = true := by
  rw [sound_iff] at h ⊢
  exact ⟨h.1, h.2.1, h.2.2.1, spWf_spPut 0 _ _ _ h.2.2.2.1, h.2.2.2.2⟩

/-- A counter is written. -/
@[simp ↓] theorem State.cset_sound (c : Ct) (n : Nat) (h : s.sound u = true) : (s.cset c n).sound u = true := by
  rw [sound_iff] at h ⊢
  exact ⟨h.1, h.2.1, h.2.2.1, spWf_spPut 0 _ _ _ h.2.2.2.1, h.2.2.2.2⟩

/-- Several fields are written. -/
@[simp ↓] theorem State.fsets_sound (l : List (Fl × Nat)) (h : s.sound u = true) : (s.fsets l).sound u = true := by
  induction l generalizing s with
  | nil => exact h
  | cons e l ih => exact ih (State.fset_sound _ _ h)

/-- Fields of a store are dropped. -/
theorem sound_of_fields (f : SparseMap Nat) (hf : spSorted f = true) (h : s.sound u = true) :
    ({ s with fields := f } : State).sound u = true := by
  rw [sound_iff] at h ⊢
  exact ⟨h.1, h.2.1, h.2.2.1, h.2.2.2.1, h.2.2.2.2.1, hf, h.2.2.2.2.2.2⟩

/-- A run of writes keeps rising keys. -/
theorem spSorted_foldl_spSet (l : List (Nat × Nat)) (m : SparseMap Nat) (h : spSorted m = true) :
    spSorted (l.foldl (fun m e => spSet m e.1 e.2) m) = true := by
  induction l generalizing m with
  | nil => exact h
  | cons e l ih => exact ih _ (spSorted_spSet _ _ _ h)

/-- A run of writes of listed values keeps the canonical form. -/
theorem spNoDefault_foldl_spSet (l : List (Nat × Nat)) (m : SparseMap Nat) (hl : ∀ e ∈ l, e.2 ≠ 0)
    (h : spNoDefault 0 m = true) : spNoDefault 0 (l.foldl (fun m e => spSet m e.1 e.2) m) = true := by
  induction l generalizing m with
  | nil => exact h
  | cons e l ih =>
    exact ih _ (fun x hx => hl x (by simp [hx]))
      (spNoDefault_spInsert 0 _ _ (hl e (by simp)) _ (spNoDefault_spErase 0 _ m h))

/-- No listed value is the unlisted one. -/
theorem ne_of_mem_noDefault : (m : SparseMap Nat) → spNoDefault 0 m = true → ∀ e ∈ m, e.2 ≠ 0
  | (_, v) :: m, h, e, he => by
    simp only [spNoDefault, Bool.and_eq_true, decide_eq_true_eq] at h
    rcases List.mem_cons.mp he with he | he
    · subst he; exact h.1
    · exact ne_of_mem_noDefault m h.2 e he

/-- The holding registers take the counters of some pages (R66). -/
@[simp ↓] theorem State.holdPages_sound (p : Nat → Bool) (h : s.sound u = true) : (s.holdPages p).sound u = true := by
  rw [sound_iff] at h ⊢
  refine ⟨h.1, h.2.1, h.2.2.1, h.2.2.2.1, ?_, h.2.2.2.2.2⟩
  have hc := h.2.2.2.1
  have hk := spWf_spDrop 0 (fun k => p (ctrPage k)) s.hold h.2.2.2.2.1
  simp only [Memory.wf, spWf, Bool.and_eq_true] at hc hk ⊢
  refine ⟨spSorted_foldl_spSet _ _ hk.1, spNoDefault_foldl_spSet _ _ (fun e he => ?_) hk.2⟩
  exact ne_of_mem_noDefault _ hc.2 e (List.mem_filter.mp he).1

/-- Saved fields are put back. -/
@[simp ↓] theorem State.restore_sound (l : List (Nat × Nat)) (h : s.sound u = true) : (s.restore l).sound u = true :=
  sound_of_fields _ (spSorted_foldl_spSet l _ (sound_iff.mp h).2.2.2.2.2.1) h

/-- A page's header is left out. -/
@[simp ↓] theorem State.sansHeader_sound (p : Nat) (h : s.sound u = true) : (s.sansHeader p).sound u = true :=
  sound_of_fields _ (spSorted_spDrop _ _ (sound_iff.mp h).2.2.2.2.2.1) h

/-- A page's fields return to reset. -/
@[simp ↓] theorem State.dropFields_sound (p lo : Nat) (keep : Bool) (h : s.sound u = true) :
    (s.dropFields p lo keep).sound u = true :=
  sound_of_fields _ (spSorted_spDrop _ _ (sound_iff.mp h).2.2.2.2.2.1) h

/-- The mailbox is released. -/
@[simp ↓] theorem State.mboxRelease_sound (h : s.sound u = true) : s.mboxRelease.sound u = true :=
  State.fset_sound _ _ (sound_of_fields _ (spSorted_spDrop _ _ (sound_iff.mp h).2.2.2.2.2.1) h)

/-- A page's counters return to zero. -/
@[simp ↓] theorem State.dropCounters_sound (p : Nat) (h : s.sound u = true) : (s.dropCounters p).sound u = true := by
  rw [sound_iff] at h ⊢
  exact ⟨h.1, h.2.1, h.2.2.1, spWf_spDrop 0 _ _ h.2.2.2.1, spWf_spDrop 0 _ _ h.2.2.2.2.1, h.2.2.2.2.2⟩

/-- Bytes placed in a store. -/
theorem memFill_wf (stack : Nat) (l : List Nat) (m : Memory) (off : Nat) (h : Memory.wf m = true) :
    Memory.wf (memFill stack m off l) = true := by
  induction l generalizing m off with
  | nil => exact h
  | cons b l ih => exact ih _ _ (spWf_spPut 0 _ _ _ h)

/-- A memory stack is written. -/
@[simp ↓] theorem State.memWrite_sound (stack off : Nat) (l : List Nat) (h : s.sound u = true) :
    (s.memWrite stack off l).sound u = true := by
  refine State.cadd_sound _ _ ?_
  rw [sound_iff] at h ⊢
  exact ⟨memFill_wf stack l s.mem off h.1, h.2⟩

/-- Bytes of a stack are lost. -/
@[simp ↓] theorem State.memClear_sound (stack lo hi : Nat) (h : s.sound u = true) :
    (s.memClear stack lo hi).sound u = true := by
  rw [sound_iff] at h ⊢
  exact ⟨spWf_spDrop 0 _ _ h.1, h.2⟩

/-- A byte of the control SRAM is written. -/
theorem sound_of_sram (k : Nat) (b : Byte) (h : s.sound u = true) :
    ({ s with sram := spPut 0 s.sram k b } : State).sound u = true := by
  rw [sound_iff] at h ⊢
  exact ⟨h.1, h.2.1, spWf_spPut 0 _ _ _ h.2.2.1, h.2.2.2⟩

/-- An image enters the control SRAM. -/
@[simp ↓] theorem State.sramLoad_sound (off : Nat) (l : List Nat) (h : s.sound u = true) :
    (s.sramLoad off l).sound u = true := by
  induction l generalizing s off with
  | nil => exact h
  | cons b l ih => exact ih _ (sound_of_sram off (BitVec.ofNat 8 b) h)

/-- A context's DWORD is written. -/
@[simp ↓] theorem State.setCtxDw_sound (x d v : Nat) (h : s.sound u = true) : (s.setCtxDw x d v).sound u = true := by
  rw [sound_iff] at h ⊢
  exact ⟨h.1, spWf_spPut 0 _ _ _ h.2.1, h.2.2⟩

/-- An image begins. -/
@[simp ↓] theorem State.imageBegins_sound (h : s.sound u = true) : s.imageBegins.sound u = true := by
  rw [sound_iff] at h ⊢
  exact ⟨h.1, spWf_spDrop 0 _ _ h.2.1, h.2.2.1, h.2.2.2.1, h.2.2.2.2.1, spSorted_spDrop _ _ h.2.2.2.2.2.1, h.2.2.2.2.2.2⟩

/-- Only the always-on domain keeps its state. -/
@[simp ↓] theorem State.aonOnly_sound (m : Mode) (h : s.sound u = true) : (s.aonOnly m).sound u = true := by
  refine State.fsets_sound _ ?_
  rw [sound_iff] at h ⊢
  exact ⟨rfl, rfl, rfl, spWf_spDrop 0 _ _ h.2.2.2.1, spWf_spDrop 0 _ _ h.2.2.2.2.1, spSorted_spDrop _ _ h.2.2.2.2.2.1,
    h.2.2.2.2.2.2⟩

/-- Nothing is powered. -/
@[simp ↓] theorem State.unpowered_sound (h : s.sound u = true) : s.unpowered.sound u = true := by
  rw [sound_iff] at h ⊢
  exact ⟨rfl, rfl, rfl, rfl, rfl, rfl, h.2.2.2.2.2.2⟩

end Sys2Proof.Machine
end

