-- ==== Sys2Proof/Laws/SoundBasic.lean ====
section
/-! SUPPORT. Soundness of the operations of registers, gates, contexts, protection and alignment. -/

namespace Sys2Proof.Machine

/-! ## Machine/Ops.lean -/

/-- `State.fput` keeps soundness. -/
@[simp ↓] theorem State.fput_sound {fz : Fuses} (s : State) (f : Fl) (b : Bool) (hs : s.sound fz = true) :
    ((State.fput s f b)).sound fz = true := by
  simp (maxDischargeDepth := 99) +contextual [State.fput, *]

/-- `State.onlyIf` keeps soundness. -/
@[simp ↓] theorem State.onlyIf_sound {fz : Fuses} (s : State) (b : Bool) (f : State → State) (hs : s.sound fz = true) (hf : ∀ s, s.sound fz = true → (f s).sound fz = true) :
    ((State.onlyIf s b f)).sound fz = true := by
  simp (maxDischargeDepth := 99) +contextual [State.onlyIf, *]

/-- `State.emit` keeps soundness. -/
@[simp ↓] theorem State.emit_sound {fz : Fuses} (s : State) (o : Out) (hs : s.sound fz = true) :
    ((State.emit s o)).sound fz = true := by
  simp (maxDischargeDepth := 99) +contextual [State.emit, *]

/-- `State.emits` keeps soundness. -/
@[simp ↓] theorem State.emits_sound {fz : Fuses} (s : State) (l : List Out) (hs : s.sound fz = true) :
    ((State.emits s l)).sound fz = true := by
  simp (maxDischargeDepth := 99) +contextual [State.emits, *]

/-- `State.tick` keeps soundness. -/
@[simp ↓] theorem State.tick_sound {fz : Fuses} (s : State) (hs : s.sound fz = true) :
    ((State.tick s)).sound fz = true := by
  simp (maxDischargeDepth := 99) +contextual [State.tick, *]

/-- `State.whenLive` keeps soundness. -/
@[simp ↓] theorem State.whenLive_sound {fz : Fuses} (s : State) (f : State → State) (hs : s.sound fz = true) (hf : ∀ s, s.sound fz = true → (f s).sound fz = true) :
    ((State.whenLive s f)).sound fz = true := by
  simp (maxDischargeDepth := 99) +contextual [State.whenLive, *]

/-- `State.raise` keeps soundness. -/
@[simp ↓] theorem State.raise_sound {fz : Fuses} (s : State) (p : Nat) (bit : Nat) (hs : s.sound fz = true) :
    ((State.raise s p bit)).sound fz = true := by
  simp (maxDischargeDepth := 99) +contextual [State.raise, *]

/-- `State.logErr` keeps soundness. -/
@[simp ↓] theorem State.logErr_sound {fz : Fuses} (s : State) (p : Nat) (code : Nat) (master : Nat) (al : Nat) (off : Nat) (hs : s.sound fz = true) :
    ((State.logErr s p code master al off)).sound fz = true := by
  simp (maxDischargeDepth := 99) +contextual [State.logErr, *]

/-- `State.log` keeps soundness. -/
@[simp ↓] theorem State.log_sound {fz : Fuses} (s : State) (p : Nat) (code : Nat) (m : Master) (off : Nat) (hs : s.sound fz = true) :
    ((State.log s p code m off)).sound fz = true := by
  simp (maxDischargeDepth := 99) +contextual [State.log, *]

/-- `State.lockViol` keeps soundness. -/
@[simp ↓] theorem State.lockViol_sound {fz : Fuses} (s : State) (p : Nat) (master : Nat) (al : Nat) (off : Nat) (hs : s.sound fz = true) :
    ((State.lockViol s p master al off)).sound fz = true := by
  simp (maxDischargeDepth := 99) +contextual [State.lockViol, *]

/-- `State.setReady` keeps soundness. -/
@[simp ↓] theorem State.setReady_sound {fz : Fuses} (s : State) (p : Nat) (b : Bool) (hs : s.sound fz = true) :
    ((State.setReady s p b)).sound fz = true := by
  simp (maxDischargeDepth := 99) +contextual [State.setReady, *]

/-- `State.setFault` keeps soundness. -/
@[simp ↓] theorem State.setFault_sound {fz : Fuses} (s : State) (p : Nat) (hs : s.sound fz = true) :
    ((State.setFault s p)).sound fz = true := by
  simp (maxDischargeDepth := 99) +contextual [State.setFault, *]

/-- `State.mxError` keeps soundness. -/
@[simp ↓] theorem State.mxError_sound {fz : Fuses} (s : State) (code : Nat) (master : Nat) (addr : Nat) (hs : s.sound fz = true) :
    ((State.mxError s code master addr)).sound fz = true := by
  simp (maxDischargeDepth := 99) +contextual [State.mxError, *]

/-- `State.jrnlDrop` keeps soundness. -/
@[simp ↓] theorem State.jrnlDrop_sound {fz : Fuses} (s : State) (hs : s.sound fz = true) :
    ((State.jrnlDrop s)).sound fz = true := by
  simp (maxDischargeDepth := 99) +contextual [State.jrnlDrop, *]

/-- `State.jrnl` keeps soundness. -/
@[simp ↓] theorem State.jrnl_sound {fz : Fuses} (s : State) (typ : Nat) (master : Nat) (page : Nat) (body : List Nat) (hs : s.sound fz = true) :
    ((State.jrnl s typ master page body)).sound fz = true := by
  simp (maxDischargeDepth := 99) +contextual [State.jrnl, *]

/-! ## Machine/Gate.lean -/

/-- `State.twinRecord` keeps soundness. -/
@[simp ↓] theorem State.twinRecord_sound {fz : Fuses} (s : State) (b : TwinBody) (hs : s.sound fz = true) :
    ((State.twinRecord s b)).sound fz = true := by
  simp (maxDischargeDepth := 99) +contextual [State.twinRecord, *]

/-- `State.twinRecordLater` keeps soundness. -/
@[simp ↓] theorem State.twinRecordLater_sound {fz : Fuses} (s : State) (b : TwinBody) (hs : s.sound fz = true) :
    ((State.twinRecordLater s b)).sound fz = true := by
  simp (maxDischargeDepth := 99) +contextual [State.twinRecordLater, *]

/-- `State.twinNote` keeps soundness. -/
@[simp ↓] theorem State.twinNote_sound {fz : Fuses} (s : State) (b : TwinBody) (hs : s.sound fz = true) :
    ((State.twinNote s b)).sound fz = true := by
  simp (maxDischargeDepth := 99) +contextual [State.twinNote, *]

/-- `State.mirror` keeps soundness. -/
@[simp ↓] theorem State.mirror_sound {fz : Fuses} (s : State) (m : Master) (p : Nat) (off : Nat) (region : Nat) (be : Nat) (data : Nat) (s' : State) (hs' : s'.sound fz = true) :
    ((State.mirror s m p off region be data s')).sound fz = true := by
  simp (maxDischargeDepth := 99) +contextual [State.mirror, *]

/-- `State.errCleared` keeps soundness. -/
@[simp ↓] theorem State.errCleared_sound {fz : Fuses} (s : State) (p : Nat) (hs : s.sound fz = true) :
    ((State.errCleared s p)).sound fz = true := by
  simp (maxDischargeDepth := 99) +contextual [State.errCleared, *]

/-- `State.viaPage` keeps soundness. -/
@[simp ↓] theorem State.viaPage_sound {fz : Fuses} (s : State) (m : Master) (p : Nat) (off : Nat) (region : Nat) (be : Nat) (data : Nat) (f : State → State) (hs : s.sound fz = true) (hf : ∀ s, s.sound fz = true → (f s).sound fz = true) :
    ((State.viaPage s m p off region be data f)).sound fz = true := by
  unfold State.viaPage
  repeat' first
    | (extract_lets +onlyGivenNames x
       have hx : State.sound fz x = true := by
         simp only [x]
         repeat' split
         all_goals simp (maxDischargeDepth := 99) +contextual [*]
       clear_value x)
    | (extract_lets +onlyGivenNames x
       have hx : State.sound fz x.1 = true := by
         simp only [x]
         repeat' split
         all_goals simp (maxDischargeDepth := 99) +contextual [*]
       clear_value x)
    | (extract_lets +onlyGivenNames x
       have hx : ∀ s a, State.sound fz s = true → State.sound fz (x s a) = true := by
         intro s a hs
         simp only [x]
         simp (maxDischargeDepth := 99) +contextual [*]
       clear_value x)
    | (extract_lets +onlyGivenNames x; clear_value x)
    | split
  all_goals simp (maxDischargeDepth := 99) +contextual [*]

/-- `State.viaCmd` keeps soundness. -/
@[simp ↓] theorem State.viaCmd_sound {fz : Fuses} (s : State) (m : Master) (p : Nat) (off : Nat) (data : Nat) (f : State → State) (hs : s.sound fz = true) (hf : ∀ s, s.sound fz = true → (f s).sound fz = true) :
    ((State.viaCmd s m p off data f)).sound fz = true := by
  simp (maxDischargeDepth := 99) +contextual [State.viaCmd, *]

/-- `State.setPf` keeps soundness. -/
@[simp ↓] theorem State.setPf_sound {fz : Fuses} (s : State) (pf : Nat) (v : PfState) (hs : s.sound fz = true) :
    ((State.setPf s pf v)).sound fz = true := by
  simp (maxDischargeDepth := 99) +contextual [State.setPf, *]

/-- `State.sendMsix` keeps soundness. -/
@[simp ↓] theorem State.sendMsix_sound {fz : Fuses} (s : State) (pf : Nat) (v : Nat) (hs : s.sound fz = true) :
    ((State.sendMsix s pf v)).sound fz = true := by
  simp (maxDischargeDepth := 99) +contextual [State.sendMsix, *]

/-- `State.vectorRise` keeps soundness. -/
@[simp ↓] theorem State.vectorRise_sound {fz : Fuses} (pf : Nat) (s : State) (v : Nat) (hs : s.sound fz = true) :
    ((State.vectorRise pf s v)).sound fz = true := by
  simp (maxDischargeDepth := 99) +contextual [State.vectorRise, *]

/-- `msixOf` keeps soundness. -/
@[simp ↓] theorem msixOf_sound {fz : Fuses} (pf : Nat) (s : State) (s' : State) (hs' : s'.sound fz = true) :
    ((msixOf pf s s')).sound fz = true := by
  simp (maxDischargeDepth := 99) +contextual [msixOf, *]

/-- `interrupts` keeps soundness. -/
@[simp ↓] theorem interrupts_sound {fz : Fuses} (s : State) (s' : State) (hs' : s'.sound fz = true) :
    ((interrupts s s')).sound fz = true := by
  simp (maxDischargeDepth := 99) +contextual [interrupts, *]

/-! ## Machine/RegBase.lean -/

/-- `State.writeFields` keeps soundness. -/
@[simp ↓] theorem State.writeFields_sound {fz : Fuses} (s0 : State) (m : Master) (p : Nat) (off : Nat) (region : Nat) (be : Nat) (data : Nat) (x0 : List FieldSpec) (x1 : State) (hx1 : x1.sound fz = true) :
    ((State.writeFields s0 m p off region be data x0 x1)).sound fz = true := by
  induction x0 generalizing x1 with
  | nil => exact hx1
  | cons f l ih =>
    unfold State.writeFields
    refine ih _ ?_
    simp (maxDischargeDepth := 99) [*]

/-- `State.plainWrite` keeps soundness. -/
@[simp ↓] theorem State.plainWrite_sound {fz : Fuses} (s : State) (m : Master) (p : Nat) (off : Nat) (region : Nat) (be : Nat) (data : Nat) (hs : s.sound fz = true) :
    ((State.plainWrite s m p off region be data)).sound fz = true := by
  unfold State.plainWrite
  repeat' first
    | (extract_lets +onlyGivenNames x
       have hx : State.sound fz x = true := by
         simp only [x]
         repeat' split
         all_goals simp (maxDischargeDepth := 99) +contextual [*]
       clear_value x)
    | (extract_lets +onlyGivenNames x
       have hx : State.sound fz x.1 = true := by
         simp only [x]
         repeat' split
         all_goals simp (maxDischargeDepth := 99) +contextual [*]
       clear_value x)
    | (extract_lets +onlyGivenNames x
       have hx : ∀ s a, State.sound fz s = true → State.sound fz (x s a) = true := by
         intro s a hs
         simp only [x]
         simp (maxDischargeDepth := 99) +contextual [*]
       clear_value x)
    | (extract_lets +onlyGivenNames x; clear_value x)
    | split
  all_goals simp (maxDischargeDepth := 99) +contextual [*]

/-! ## Machine/CountOps.lean -/

/-- `State.overflowed` keeps soundness. -/
@[simp ↓] theorem State.overflowed_sound {fz : Fuses} (s : State) (txn : Option SampleTxn) (k : Nat) (hs : s.sound fz = true) :
    ((State.overflowed s txn k)).sound fz = true := by
  simp (maxDischargeDepth := 99) +contextual [State.overflowed, *]

/-- `countStep` keeps soundness. -/
@[simp ↓] theorem countStep_sound {fz : Fuses} (s0 : State) (txn : Option SampleTxn) (f : Nat → Nat) (p : State × Bool) (k : Nat) (hp : p.1.sound fz = true) :
    ((countStep s0 txn f p k).1).sound fz = true := by
  simp (maxDischargeDepth := 99) +contextual [countStep, *]

/-- `State.count` keeps soundness. -/
@[simp ↓] theorem State.count_sound {fz : Fuses} (s : State) (txn : Option SampleTxn) (f : Nat → Nat) (hs : s.sound fz = true) :
    ((State.count s txn f)).sound fz = true := by
  simp (maxDischargeDepth := 99) +contextual [State.count, *]

/-- `State.busEvents` keeps soundness. -/
@[simp ↓] theorem State.busEvents_sound {fz : Fuses} (s : State) (r : BusReq) (txn : SampleTxn) (l : List (Nat × Nat)) (hs : s.sound fz = true) :
    ((State.busEvents s r txn l)).sound fz = true := by
  simp (maxDischargeDepth := 99) +contextual [State.busEvents, *]

/-- `State.sampleTxn` keeps soundness. -/
@[simp ↓] theorem State.sampleTxn_sound {fz : Fuses} (s : State) (t : SampleTxn) (hs : s.sound fz = true) :
    ((State.sampleTxn s t)).sound fz = true := by
  simp (maxDischargeDepth := 99) +contextual [State.sampleTxn, *]

/-- `State.timeEvents` keeps soundness. -/
@[simp ↓] theorem State.timeEvents_sound {fz : Fuses} (s : State) (cycles : Nat) (us : Nat) (hs : s.sound fz = true) :
    ((State.timeEvents s cycles us)).sound fz = true := by
  simp (maxDischargeDepth := 99) +contextual [State.timeEvents, *]

/-- `State.counterPasses` keeps soundness. -/
@[simp ↓] theorem State.counterPasses_sound {fz : Fuses} (s : State) (k : Nat) (hs : s.sound fz = true) :
    ((State.counterPasses s k)).sound fz = true := by
  simp (maxDischargeDepth := 99) +contextual [State.counterPasses, *]

/-- `State.freezeOnHalt` keeps soundness. -/
@[simp ↓] theorem State.freezeOnHalt_sound {fz : Fuses} (s : State) (hs : s.sound fz = true) :
    ((State.freezeOnHalt s)).sound fz = true := by
  simp (maxDischargeDepth := 99) +contextual [State.freezeOnHalt, *]

/-! ## Machine/SysOps.lean -/

/-- `State.memCounted` keeps soundness. -/
@[simp ↓] theorem State.memCounted_sound {fz : Fuses} (s : State) (stack : Nat) (n : Nat) (hs : s.sound fz = true) :
    ((State.memCounted s stack n)).sound fz = true := by
  simp (maxDischargeDepth := 99) +contextual [State.memCounted, *]

/-- `State.memWriteBe` keeps soundness. -/
@[simp ↓] theorem State.memWriteBe_sound {fz : Fuses} (s : State) (stack : Nat) (off : Nat) (be : Nat) (data : Nat) (hs : s.sound fz = true) :
    ((State.memWriteBe s stack off be data)).sound fz = true := by
  simp (maxDischargeDepth := 99) +contextual [State.memWriteBe, *]

/-- `State.tearBurst` keeps soundness. -/
@[simp ↓] theorem State.tearBurst_sound {fz : Fuses} (s : State) (b : InProgress) (hs : s.sound fz = true) :
    ((State.tearBurst s b)).sound fz = true := by
  unfold State.tearBurst
  repeat' first
    | (extract_lets +onlyGivenNames x
       have hx : State.sound fz x = true := by
         simp only [x]
         repeat' split
         all_goals simp (maxDischargeDepth := 99) +contextual [*]
       clear_value x)
    | (extract_lets +onlyGivenNames x
       have hx : State.sound fz x.1 = true := by
         simp only [x]
         repeat' split
         all_goals simp (maxDischargeDepth := 99) +contextual [*]
       clear_value x)
    | (extract_lets +onlyGivenNames x
       have hx : ∀ s a, State.sound fz s = true → State.sound fz (x s a) = true := by
         intro s a hs
         simp only [x]
         simp (maxDischargeDepth := 99) +contextual [*]
       clear_value x)
    | (extract_lets +onlyGivenNames x; clear_value x)
    | split
  all_goals simp (maxDischargeDepth := 99) +contextual [*]

/-- `State.masterReset` keeps soundness. -/
@[simp ↓] theorem State.masterReset_sound {fz : Fuses} (s : State) (m : Master) (hs : s.sound fz = true) :
    ((State.masterReset s m)).sound fz = true := by
  simp (maxDischargeDepth := 99) +contextual [State.masterReset, *]

/-! ## Machine/SecOps.lean -/

/-- `State.copyImage` keeps soundness. -/
@[simp ↓] theorem State.copyImage_sound {fz : Fuses} (s : State) (c : Option (Nat × List Nat)) (hs : s.sound fz = true) :
    ((State.copyImage s c)).sound fz = true := by
  unfold State.copyImage
  repeat' first
    | (extract_lets +onlyGivenNames x
       have hx : State.sound fz x = true := by
         simp only [x]
         repeat' split
         all_goals simp (maxDischargeDepth := 99) +contextual [*]
       clear_value x)
    | (extract_lets +onlyGivenNames x
       have hx : State.sound fz x.1 = true := by
         simp only [x]
         repeat' split
         all_goals simp (maxDischargeDepth := 99) +contextual [*]
       clear_value x)
    | (extract_lets +onlyGivenNames x
       have hx : ∀ s a, State.sound fz s = true → State.sound fz (x s a) = true := by
         intro s a hs
         simp only [x]
         simp (maxDischargeDepth := 99) +contextual [*]
       clear_value x)
    | (extract_lets +onlyGivenNames x; clear_value x)
    | split
  all_goals simp (maxDischargeDepth := 99) +contextual [*]

/-- `State.showSec` keeps soundness. -/
@[simp ↓] theorem State.showSec_sound {fz : Fuses} (s : State) (hs : s.sound fz = true) :
    ((State.showSec s)).sound fz = true := by
  simp (maxDischargeDepth := 99) +contextual [State.showSec, *]

/-- `State.setSa` keeps soundness. -/
@[simp ↓] theorem State.setSa_sound {fz : Fuses} (s : State) (a : Nat) (v : SaState) (hs : s.sound fz = true) :
    ((State.setSa s a v)).sound fz = true := by
  simp (maxDischargeDepth := 99) +contextual [State.setSa, *]

/-- `State.setCtxBits` keeps soundness. -/
@[simp ↓] theorem State.setCtxBits_sound {fz : Fuses} (s : State) (x : Nat) (d : Nat) (lo : Nat) (w : Nat) (v : Nat) (hs : s.sound fz = true) :
    ((State.setCtxBits s x d lo w v)).sound fz = true := by
  simp (maxDischargeDepth := 99) +contextual [State.setCtxBits, *]

/-- `State.setSaSeq` keeps soundness. -/
@[simp ↓] theorem State.setSaSeq_sound {fz : Fuses} (s : State) (a : Nat) (q : Nat) (hs : s.sound fz = true) :
    ((State.setSaSeq s a q)).sound fz = true := by
  simp (maxDischargeDepth := 99) +contextual [State.setSaSeq, *]

/-- `State.showKeys` keeps soundness. -/
@[simp ↓] theorem State.showKeys_sound {fz : Fuses} (s : State) (a : Nat) (hs : s.sound fz = true) :
    ((State.showKeys s a)).sound fz = true := by
  simp (maxDischargeDepth := 99) +contextual [State.showKeys, *]

/-- `State.setKey` keeps soundness. -/
@[simp ↓] theorem State.setKey_sound {fz : Fuses} (s : State) (a : Nat) (slot : Nat) (k : Option (List Nat × Nat)) (hs : s.sound fz = true) :
    ((State.setKey s a slot k)).sound fz = true := by
  simp (maxDischargeDepth := 99) +contextual [State.setKey, *]

/-- `State.clearKeys` keeps soundness. -/
@[simp ↓] theorem State.clearKeys_sound {fz : Fuses} (s : State) (a : Nat) (hs : s.sound fz = true) :
    ((State.clearKeys s a)).sound fz = true := by
  simp (maxDischargeDepth := 99) +contextual [State.clearKeys, *]

/-- `State.keyWordWrite` keeps soundness. -/
@[simp ↓] theorem State.keyWordWrite_sound {fz : Fuses} (s : State) (a : Nat) (slot : Nat) (w : Nat) (be : Nat) (data : Nat) (hs : s.sound fz = true) :
    ((State.keyWordWrite s a slot w be data)).sound fz = true := by
  unfold State.keyWordWrite
  repeat' first
    | (extract_lets +onlyGivenNames x
       have hx : State.sound fz x = true := by
         simp only [x]
         repeat' split
         all_goals simp (maxDischargeDepth := 99) +contextual [*]
       clear_value x)
    | (extract_lets +onlyGivenNames x
       have hx : State.sound fz x.1 = true := by
         simp only [x]
         repeat' split
         all_goals simp (maxDischargeDepth := 99) +contextual [*]
       clear_value x)
    | (extract_lets +onlyGivenNames x
       have hx : ∀ s a, State.sound fz s = true → State.sound fz (x s a) = true := by
         intro s a hs
         simp only [x]
         simp (maxDischargeDepth := 99) +contextual [*]
       clear_value x)
    | (extract_lets +onlyGivenNames x; clear_value x)
    | split
  all_goals simp (maxDischargeDepth := 99) +contextual [*]

/-- `State.clearAllKeys` keeps soundness. -/
@[simp ↓] theorem State.clearAllKeys_sound {fz : Fuses} (s : State) (hs : s.sound fz = true) :
    ((State.clearAllKeys s)).sound fz = true := by
  simp (maxDischargeDepth := 99) +contextual [State.clearAllKeys, *]

/-- `State.setAuthLost` keeps soundness. -/
@[simp ↓] theorem State.setAuthLost_sound {fz : Fuses} (s : State) (a : Nat) (b : Bool) (hs : s.sound fz = true) :
    ((State.setAuthLost s a b)).sound fz = true := by
  simp (maxDischargeDepth := 99) +contextual [State.setAuthLost, *]

/-- `State.saOff` keeps soundness. -/
@[simp ↓] theorem State.saOff_sound {fz : Fuses} (s : State) (a : Nat) (hs : s.sound fz = true) :
    ((State.saOff s a)).sound fz = true := by
  simp (maxDischargeDepth := 99) +contextual [State.saOff, *]

/-! ## Machine/SvcOps.lean -/

/-- `State.attnRelease` keeps soundness. -/
@[simp ↓] theorem State.attnRelease_sound {fz : Fuses} (s : State) (hs : s.sound fz = true) :
    ((State.attnRelease s)).sound fz = true := by
  simp (maxDischargeDepth := 99) +contextual [State.attnRelease, *]

/-- `State.endTest` keeps soundness. -/
@[simp ↓] theorem State.endTest_sound {fz : Fuses} (s : State) (t : TestRun) (pass : Bool) (code : Nat) (detail : Nat) (hs : s.sound fz = true) :
    ((State.endTest s t pass code detail)).sound fz = true := by
  simp (maxDischargeDepth := 99) +contextual [State.endTest, *]

/-- `State.abortTest` keeps soundness. -/
@[simp ↓] theorem State.abortTest_sound {fz : Fuses} (s : State) (hs : s.sound fz = true) :
    ((State.abortTest s)).sound fz = true := by
  unfold State.abortTest
  repeat' first
    | (extract_lets +onlyGivenNames x
       have hx : State.sound fz x = true := by
         simp only [x]
         repeat' split
         all_goals simp (maxDischargeDepth := 99) +contextual [*]
       clear_value x)
    | (extract_lets +onlyGivenNames x
       have hx : State.sound fz x.1 = true := by
         simp only [x]
         repeat' split
         all_goals simp (maxDischargeDepth := 99) +contextual [*]
       clear_value x)
    | (extract_lets +onlyGivenNames x
       have hx : ∀ s a, State.sound fz s = true → State.sound fz (x s a) = true := by
         intro s a hs
         simp only [x]
         simp (maxDischargeDepth := 99) +contextual [*]
       clear_value x)
    | (extract_lets +onlyGivenNames x; clear_value x)
    | split
  all_goals simp (maxDischargeDepth := 99) +contextual [*]

/-- `State.abortIntrusive` keeps soundness. -/
@[simp ↓] theorem State.abortIntrusive_sound {fz : Fuses} (s : State) (hs : s.sound fz = true) :
    ((State.abortIntrusive s)).sound fz = true := by
  unfold State.abortIntrusive
  repeat' first
    | (extract_lets +onlyGivenNames x
       have hx : State.sound fz x = true := by
         simp only [x]
         repeat' split
         all_goals simp (maxDischargeDepth := 99) +contextual [*]
       clear_value x)
    | (extract_lets +onlyGivenNames x
       have hx : State.sound fz x.1 = true := by
         simp only [x]
         repeat' split
         all_goals simp (maxDischargeDepth := 99) +contextual [*]
       clear_value x)
    | (extract_lets +onlyGivenNames x
       have hx : ∀ s a, State.sound fz s = true → State.sound fz (x s a) = true := by
         intro s a hs
         simp only [x]
         simp (maxDischargeDepth := 99) +contextual [*]
       clear_value x)
    | (extract_lets +onlyGivenNames x; clear_value x)
    | split
  all_goals simp (maxDischargeDepth := 99) +contextual [*]

/-- `State.dropTest` keeps soundness. -/
@[simp ↓] theorem State.dropTest_sound {fz : Fuses} (s : State) (hs : s.sound fz = true) :
    ((State.dropTest s)).sound fz = true := by
  unfold State.dropTest
  repeat' first
    | (extract_lets +onlyGivenNames x
       have hx : State.sound fz x = true := by
         simp only [x]
         repeat' split
         all_goals simp (maxDischargeDepth := 99) +contextual [*]
       clear_value x)
    | (extract_lets +onlyGivenNames x
       have hx : State.sound fz x.1 = true := by
         simp only [x]
         repeat' split
         all_goals simp (maxDischargeDepth := 99) +contextual [*]
       clear_value x)
    | (extract_lets +onlyGivenNames x
       have hx : ∀ s a, State.sound fz s = true → State.sound fz (x s a) = true := by
         intro s a hs
         simp only [x]
         simp (maxDischargeDepth := 99) +contextual [*]
       clear_value x)
    | (extract_lets +onlyGivenNames x; clear_value x)
    | split
  all_goals simp (maxDischargeDepth := 99) +contextual [*]

/-- `State.announceEvents` keeps soundness. -/
@[simp ↓] theorem State.announceEvents_sound {fz : Fuses} (s : State) (hs : s.sound fz = true) :
    ((State.announceEvents s)).sound fz = true := by
  simp (maxDischargeDepth := 99) +contextual [State.announceEvents, *]

/-- `State.postEvent` keeps soundness. -/
@[simp ↓] theorem State.postEvent_sound {fz : Fuses} (s : State) (code : Nat) (scope : Nat) (index : Nat) (dw : Nat) (hs : s.sound fz = true) :
    ((State.postEvent s code scope index dw)).sound fz = true := by
  simp (maxDischargeDepth := 99) +contextual [State.postEvent, *]

/-! ## Machine/TribOps.lean -/

/-- `State.setStaged` keeps soundness. -/
@[simp ↓] theorem State.setStaged_sound {fz : Fuses} (s : State) (eg : Bool) (t : TribTables) (hs : s.sound fz = true) :
    ((State.setStaged s eg t)).sound fz = true := by
  simp (maxDischargeDepth := 99) +contextual [State.setStaged, *]

/-- `State.setActive` keeps soundness. -/
@[simp ↓] theorem State.setActive_sound {fz : Fuses} (s : State) (eg : Bool) (t : TribTables) (hs : s.sound fz = true) :
    ((State.setActive s eg t)).sound fz = true := by
  simp (maxDischargeDepth := 99) +contextual [State.setActive, *]

/-- `State.tribEnd` keeps soundness. -/
@[simp ↓] theorem State.tribEnd_sound {fz : Fuses} (s : State) (result : Nat) (fail : Nat) (hs : s.sound fz = true) :
    ((State.tribEnd s result fail)).sound fz = true := by
  simp (maxDischargeDepth := 99) +contextual [State.tribEnd, *]

/-- `State.tribLoad` keeps soundness. -/
@[simp ↓] theorem State.tribLoad_sound {fz : Fuses} (s : State) (t : TribTables) (table : Nat) (i : Nat) (hs : s.sound fz = true) :
    ((State.tribLoad s t table i)).sound fz = true := by
  simp (maxDischargeDepth := 99) +contextual [State.tribLoad, *]

/-- `State.tribCmd` keeps soundness. -/
@[simp ↓] theorem State.tribCmd_sound {fz : Fuses} (s : State) (m : Master) (index : Nat) (eg : Bool) (table : Nat) (op : Nat) (hs : s.sound fz = true) :
    ((State.tribCmd s m index eg table op)).sound fz = true := by
  unfold State.tribCmd
  repeat' first
    | (extract_lets +onlyGivenNames x
       have hx : State.sound fz x = true := by
         simp only [x]
         repeat' split
         all_goals simp (maxDischargeDepth := 99) +contextual [*]
       clear_value x)
    | (extract_lets +onlyGivenNames x
       have hx : State.sound fz x.1 = true := by
         simp only [x]
         repeat' split
         all_goals simp (maxDischargeDepth := 99) +contextual [*]
       clear_value x)
    | (extract_lets +onlyGivenNames x
       have hx : ∀ s a, State.sound fz s = true → State.sound fz (x s a) = true := by
         intro s a hs
         simp only [x]
         simp (maxDischargeDepth := 99) +contextual [*]
       clear_value x)
    | (extract_lets +onlyGivenNames x; clear_value x)
    | split
  all_goals simp (maxDischargeDepth := 99) +contextual [*]

/-! ## Machine/CtxOps.lean -/

/-- `State.setRun` keeps soundness. -/
@[simp ↓] theorem State.setRun_sound {fz : Fuses} (s : State) (x : Nat) (r : PointRun) (hs : s.sound fz = true) :
    ((State.setRun s x r)).sound fz = true := by
  simp (maxDischargeDepth := 99) +contextual [State.setRun, *]

/-- `State.setPg` keeps soundness. -/
@[simp ↓] theorem State.setPg_sound {fz : Fuses} (s : State) (g : Nat) (v : PgState) (hs : s.sound fz = true) :
    ((State.setPg s g v)).sound fz = true := by
  simp (maxDischargeDepth := 99) +contextual [State.setPg, *]

/-- `State.setAligner` keeps soundness. -/
@[simp ↓] theorem State.setAligner_sound {fz : Fuses} (s : State) (g : Nat) (v : Aligner) (hs : s.sound fz = true) :
    ((State.setAligner s g v)).sound fz = true := by
  simp (maxDischargeDepth := 99) +contextual [State.setAligner, *]

/-- `State.withConfig` keeps soundness. -/
@[simp ↓] theorem State.withConfig_sound {fz : Fuses} (s : State) (x : Nat) (d : List Nat) (hs : s.sound fz = true) :
    ((State.withConfig s x d)).sound fz = true := by
  simp (maxDischargeDepth := 99) +contextual [State.withConfig, *]

/-- `State.ctxEnd` keeps soundness. -/
@[simp ↓] theorem State.ctxEnd_sound {fz : Fuses} (s : State) (r : Nat) (hs : s.sound fz = true) :
    ((State.ctxEnd s r)).sound fz = true := by
  simp (maxDischargeDepth := 99) +contextual [State.ctxEnd, *]

/-- `State.ctxRefuse` keeps soundness. -/
@[simp ↓] theorem State.ctxRefuse_sound {fz : Fuses} (s : State) (m : Master) (r : Nat) (hs : s.sound fz = true) :
    ((State.ctxRefuse s m r)).sound fz = true := by
  simp (maxDischargeDepth := 99) +contextual [State.ctxRefuse, *]

/-- `State.ctxLoad` keeps soundness. -/
@[simp ↓] theorem State.ctxLoad_sound {fz : Fuses} (s : State) (l : List Nat) (hs : s.sound fz = true) :
    ((State.ctxLoad s l)).sound fz = true := by
  simp (maxDischargeDepth := 99) +contextual [State.ctxLoad, *]

/-- `State.ctxRead` keeps soundness. -/
@[simp ↓] theorem State.ctxRead_sound {fz : Fuses} (s : State) (m : Master) (x : Nat) (hs : s.sound fz = true) :
    ((State.ctxRead s m x)).sound fz = true := by
  simp (maxDischargeDepth := 99) +contextual [State.ctxRead, *]

/-- `State.releaseBegins` keeps soundness. -/
@[simp ↓] theorem State.releaseBegins_sound {fz : Fuses} (s : State) (g : Nat) (asked : Bool) (hs : s.sound fz = true) :
    ((State.releaseBegins s g asked)).sound fz = true := by
  simp (maxDischargeDepth := 99) +contextual [State.releaseBegins, *]

/-- `State.ctxStarts` keeps soundness. -/
@[simp ↓] theorem State.ctxStarts_sound {fz : Fuses} (s0 : State) (s : State) (x : Nat) (hs : s.sound fz = true) :
    ((State.ctxStarts s0 s x)).sound fz = true := by
  simp (maxDischargeDepth := 99) +contextual [State.ctxStarts, *]

/-- `State.ctxWriteCfg` keeps soundness. -/
@[simp ↓] theorem State.ctxWriteCfg_sound {fz : Fuses} (s : State) (m : Master) (x : Nat) (hs : s.sound fz = true) :
    ((State.ctxWriteCfg s m x)).sound fz = true := by
  simp (maxDischargeDepth := 99) +contextual [State.ctxWriteCfg, *]

/-- `State.ctxClearCounts` keeps soundness. -/
@[simp ↓] theorem State.ctxClearCounts_sound {fz : Fuses} (s : State) (m : Master) (x : Nat) (hs : s.sound fz = true) :
    ((State.ctxClearCounts s m x)).sound fz = true := by
  simp (maxDischargeDepth := 99) +contextual [State.ctxClearCounts, *]

/-- `State.ctxFree` keeps soundness. -/
@[simp ↓] theorem State.ctxFree_sound {fz : Fuses} (s : State) (m : Master) (x : Nat) (hs : s.sound fz = true) :
    ((State.ctxFree s m x)).sound fz = true := by
  simp (maxDischargeDepth := 99) +contextual [State.ctxFree, *]

/-- `State.ctxCmd` keeps soundness. -/
@[simp ↓] theorem State.ctxCmd_sound {fz : Fuses} (s : State) (m : Master) (x : Nat) (op : Nat) (hs : s.sound fz = true) :
    ((State.ctxCmd s m x op)).sound fz = true := by
  unfold State.ctxCmd
  repeat' first
    | (extract_lets +onlyGivenNames x
       have hx : State.sound fz x = true := by
         simp only [x]
         repeat' split
         all_goals simp (maxDischargeDepth := 99) +contextual [*]
       clear_value x)
    | (extract_lets +onlyGivenNames x
       have hx : State.sound fz x.1 = true := by
         simp only [x]
         repeat' split
         all_goals simp (maxDischargeDepth := 99) +contextual [*]
       clear_value x)
    | (extract_lets +onlyGivenNames x
       have hx : ∀ s a, State.sound fz s = true → State.sound fz (x s a) = true := by
         intro s a hs
         simp only [x]
         simp (maxDischargeDepth := 99) +contextual [*]
       clear_value x)
    | (extract_lets +onlyGivenNames x; clear_value x)
    | split
  all_goals simp (maxDischargeDepth := 99) +contextual [*]

/-! ## Machine/ProtOps.lean -/

/-- `State.recordSwitch` keeps soundness. -/
@[simp ↓] theorem State.recordSwitch_sound {fz : Fuses} (s : State) (g : Nat) (led : Bool) (hs : s.sound fz = true) :
    ((State.recordSwitch s g led)).sound fz = true := by
  simp (maxDischargeDepth := 99) +contextual [State.recordSwitch, *]

/-- `State.showTimers` keeps soundness. -/
@[simp ↓] theorem State.showTimers_sound {fz : Fuses} (s : State) (g : Nat) (hs : s.sound fz = true) :
    ((State.showTimers s g)).sound fz = true := by
  simp (maxDischargeDepth := 99) +contextual [State.showTimers, *]

/-- `State.setRequest` keeps soundness. -/
@[simp ↓] theorem State.setRequest_sound {fz : Fuses} (s : State) (g : Nat) (code : Nat) (remote : Bool) (pos : Bool) (hs : s.sound fz = true) :
    ((State.setRequest s g code remote pos)).sound fz = true := by
  simp (maxDischargeDepth := 99) +contextual [State.setRequest, *]

/-- `State.pgEval` keeps soundness. -/
@[simp ↓] theorem State.pgEval_sound {fz : Fuses} (s : State) (g : Nat) (hs : s.sound fz = true) :
    ((State.pgEval s g)).sound fz = true := by
  simp (maxDischargeDepth := 99) +contextual [State.pgEval, *]

/-- `State.precursor` keeps soundness. -/
@[simp ↓] theorem State.precursor_sound {fz : Fuses} (s : State) (p : Nat) (bit : Nat) (hs : s.sound fz = true) :
    ((State.precursor s p bit)).sound fz = true := by
  simp (maxDischargeDepth := 99) +contextual [State.precursor, *]

/-- `State.precWindowEnds` keeps soundness. -/
@[simp ↓] theorem State.precWindowEnds_sound {fz : Fuses} (s : State) (hs : s.sound fz = true) :
    ((State.precWindowEnds s)).sound fz = true := by
  simp (maxDischargeDepth := 99) +contextual [State.precWindowEnds, *]

/-- `State.precSwitch` keeps soundness. -/
@[simp ↓] theorem State.precSwitch_sound {fz : Fuses} (s : State) (g : Nat) (hs : s.sound fz = true) :
    ((State.precSwitch s g)).sound fz = true := by
  simp (maxDischargeDepth := 99) +contextual [State.precSwitch, *]

/-- `State.confirmSpec` keeps soundness. -/
@[simp ↓] theorem State.confirmSpec_sound {fz : Fuses} (s : State) (g : Nat) (hs : s.sound fz = true) :
    ((State.confirmSpec s g)).sound fz = true := by
  simp (maxDischargeDepth := 99) +contextual [State.confirmSpec, *]

/-- `State.confirmSpecs` keeps soundness. -/
@[simp ↓] theorem State.confirmSpecs_sound {fz : Fuses} (s : State) (hs : s.sound fz = true) :
    ((State.confirmSpecs s)).sound fz = true := by
  simp (maxDischargeDepth := 99) +contextual [State.confirmSpecs, *]

/-- `State.selectorBoundary` keeps soundness. -/
@[simp ↓] theorem State.selectorBoundary_sound {fz : Fuses} (s : State) (g : Nat) (hs : s.sound fz = true) :
    ((State.selectorBoundary s g)).sound fz = true := by
  simp (maxDischargeDepth := 99) +contextual [State.selectorBoundary, *]

/-- `State.pgMs` keeps soundness. -/
@[simp ↓] theorem State.pgMs_sound {fz : Fuses} (n : Nat) (s : State) (g : Nat) (hs : s.sound fz = true) :
    ((State.pgMs n s g)).sound fz = true := by
  simp (maxDischargeDepth := 99) +contextual [State.pgMs, *]

/-- `State.holdoffExpires` keeps soundness. -/
@[simp ↓] theorem State.holdoffExpires_sound {fz : Fuses} (s : State) (g : Nat) (p : Bool) (hs : s.sound fz = true) :
    ((State.holdoffExpires s g p)).sound fz = true := by
  simp (maxDischargeDepth := 99) +contextual [State.holdoffExpires, *]

/-- `State.wtrExpires` keeps soundness. -/
@[simp ↓] theorem State.wtrExpires_sound {fz : Fuses} (s : State) (g : Nat) (hs : s.sound fz = true) :
    ((State.wtrExpires s g)).sound fz = true := by
  simp (maxDischargeDepth := 99) +contextual [State.wtrExpires, *]

/-! ## Machine/AlignOps.lean -/

/-- `State.admitEnd` keeps soundness. -/
@[simp ↓] theorem State.admitEnd_sound {fz : Fuses} (s : State) (result : Nat) (need : Nat) (hs : s.sound fz = true) :
    ((State.admitEnd s result need)).sound fz = true := by
  simp (maxDischargeDepth := 99) +contextual [State.admitEnd, *]

/-- `State.ctxUpdate` keeps soundness. -/
@[simp ↓] theorem State.ctxUpdate_sound {fz : Fuses} (s : State) (x : Nat) (f : State → State) (hs : s.sound fz = true) (hf : ∀ s, s.sound fz = true → (f s).sound fz = true) :
    ((State.ctxUpdate s x f)).sound fz = true := by
  simp (maxDischargeDepth := 99) +contextual [State.ctxUpdate, *]

/-- `State.setAlignBits` keeps soundness. -/
@[simp ↓] theorem State.setAlignBits_sound {fz : Fuses} (s : State) (g : Nat) (i : Nat) (lo : Nat) (n : Nat) (v : Nat) (hs : s.sound fz = true) :
    ((State.setAlignBits s g i lo n v)).sound fz = true := by
  simp (maxDischargeDepth := 99) +contextual [State.setAlignBits, *]

/-- `State.setAlignDw` keeps soundness. -/
@[simp ↓] theorem State.setAlignDw_sound {fz : Fuses} (s : State) (g : Nat) (i : Nat) (v : Nat) (hs : s.sound fz = true) :
    ((State.setAlignDw s g i v)).sound fz = true := by
  simp (maxDischargeDepth := 99) +contextual [State.setAlignDw, *]

/-- `State.showAligner` keeps soundness. -/
@[simp ↓] theorem State.showAligner_sound {fz : Fuses} (s : State) (g : Nat) (hs : s.sound fz = true) :
    ((State.showAligner s g)).sound fz = true := by
  simp (maxDischargeDepth := 99) +contextual [State.showAligner, *]

/-- `State.setAstate` keeps soundness. -/
@[simp ↓] theorem State.setAstate_sound {fz : Fuses} (s : State) (g : Nat) (new : Nat) (hs : s.sound fz = true) :
    ((State.setAstate s g new)).sound fz = true := by
  simp (maxDischargeDepth := 99) +contextual [State.setAstate, *]

/-- `State.alignLost` keeps soundness. -/
@[simp ↓] theorem State.alignLost_sound {fz : Fuses} (s : State) (g : Nat) (hs : s.sound fz = true) :
    ((State.alignLost s g)).sound fz = true := by
  simp (maxDischargeDepth := 99) +contextual [State.alignLost, *]

/-- `State.alignerCheck` keeps soundness. -/
@[simp ↓] theorem State.alignerCheck_sound {fz : Fuses} (s : State) (g : Nat) (hs : s.sound fz = true) :
    ((State.alignerCheck s g)).sound fz = true := by
  simp (maxDischargeDepth := 99) +contextual [State.alignerCheck, *]

/-- `State.alignerChecks` keeps soundness. -/
@[simp ↓] theorem State.alignerChecks_sound {fz : Fuses} (s : State) (hs : s.sound fz = true) :
    ((State.alignerChecks s)).sound fz = true := by
  simp (maxDischargeDepth := 99) +contextual [State.alignerChecks, *]

/-- `State.residual` keeps soundness. -/
@[simp ↓] theorem State.residual_sound {fz : Fuses} (s : State) (g : Nat) (hs : s.sound fz = true) :
    ((State.residual s g)).sound fz = true := by
  simp (maxDischargeDepth := 99) +contextual [State.residual, *]

/-- `State.alignConfirm` keeps soundness. -/
@[simp ↓] theorem State.alignConfirm_sound {fz : Fuses} (s : State) (g : Nat) (p : Bool) (off : Nat) (hs : s.sound fz = true) :
    ((State.alignConfirm s g p off)).sound fz = true := by
  simp (maxDischargeDepth := 99) +contextual [State.alignConfirm, *]

/-- `State.searchFrame` keeps soundness. -/
@[simp ↓] theorem State.searchFrame_sound {fz : Fuses} (s : State) (g : Nat) (p : Bool) (time : Nat) (ms : List IndexEntry) (hs : s.sound fz = true) :
    ((State.searchFrame s g p time ms)).sound fz = true := by
  unfold State.searchFrame
  repeat' first
    | (extract_lets +onlyGivenNames x
       have hx : State.sound fz x = true := by
         simp only [x]
         repeat' split
         all_goals simp (maxDischargeDepth := 99) +contextual [*]
       clear_value x)
    | (extract_lets +onlyGivenNames x
       have hx : State.sound fz x.1 = true := by
         simp only [x]
         repeat' split
         all_goals simp (maxDischargeDepth := 99) +contextual [*]
       clear_value x)
    | (extract_lets +onlyGivenNames x
       have hx : ∀ s a, State.sound fz s = true → State.sound fz (x s a) = true := by
         intro s a hs
         simp only [x]
         simp (maxDischargeDepth := 99) +contextual [*]
       clear_value x)
    | (extract_lets +onlyGivenNames x; clear_value x)
    | split
  all_goals simp (maxDischargeDepth := 99) +contextual [*]

/-- `State.alignOutcome` keeps soundness. -/
@[simp ↓] theorem State.alignOutcome_sound {fz : Fuses} (s : State) (g : Nat) (hit : Bool) (off : Int) (hs : s.sound fz = true) :
    ((State.alignOutcome s g hit off)).sound fz = true := by
  simp (maxDischargeDepth := 99) +contextual [State.alignOutcome, *]

/-- `State.alignCheckpoint` keeps soundness. -/
@[simp ↓] theorem State.alignCheckpoint_sound {fz : Fuses} (s : State) (g : Nat) (p : Bool) (hs : s.sound fz = true) :
    ((State.alignCheckpoint s g p)).sound fz = true := by
  simp (maxDischargeDepth := 99) +contextual [State.alignCheckpoint, *]

/-- `State.heldFrame` keeps soundness. -/
@[simp ↓] theorem State.heldFrame_sound {fz : Fuses} (s : State) (g : Nat) (p : Bool) (time : Nat) (prov : Bool) (ms : List IndexEntry) (hs : s.sound fz = true) :
    ((State.heldFrame s g p time prov ms)).sound fz = true := by
  simp (maxDischargeDepth := 99) +contextual [State.heldFrame, *]

/-- `State.indexFrame` keeps soundness. -/
@[simp ↓] theorem State.indexFrame_sound {fz : Fuses} (s : State) (g : Nat) (p : Bool) (mfas : Nat) (crc : Nat) (time : Nat) (hs : s.sound fz = true) :
    ((State.indexFrame s g p mfas crc time)).sound fz = true := by
  simp (maxDischargeDepth := 99) +contextual [State.indexFrame, *]

/-- `State.alignerTakes` keeps soundness. -/
@[simp ↓] theorem State.alignerTakes_sound {fz : Fuses} (s : State) (g : Nat) (p : Bool) (hs : s.sound fz = true) :
    ((State.alignerTakes s g p)).sound fz = true := by
  unfold State.alignerTakes
  repeat' first
    | (extract_lets +onlyGivenNames x
       have hx : State.sound fz x = true := by
         simp only [x]
         repeat' split
         all_goals simp (maxDischargeDepth := 99) +contextual [*]
       clear_value x)
    | (extract_lets +onlyGivenNames x
       have hx : State.sound fz x.1 = true := by
         simp only [x]
         repeat' split
         all_goals simp (maxDischargeDepth := 99) +contextual [*]
       clear_value x)
    | (extract_lets +onlyGivenNames x
       have hx : ∀ s a, State.sound fz s = true → State.sound fz (x s a) = true := by
         intro s a hs
         simp only [x]
         simp (maxDischargeDepth := 99) +contextual [*]
       clear_value x)
    | (extract_lets +onlyGivenNames x; clear_value x)
    | split
  all_goals simp (maxDischargeDepth := 99) +contextual [*]

/-- `State.alignerReturns` keeps soundness. -/
@[simp ↓] theorem State.alignerReturns_sound {fz : Fuses} (s : State) (g : Nat) (p : Bool) (hs : s.sound fz = true) :
    ((State.alignerReturns s g p)).sound fz = true := by
  unfold State.alignerReturns
  repeat' first
    | (extract_lets +onlyGivenNames x
       have hx : State.sound fz x = true := by
         simp only [x]
         repeat' split
         all_goals simp (maxDischargeDepth := 99) +contextual [*]
       clear_value x)
    | (extract_lets +onlyGivenNames x
       have hx : State.sound fz x.1 = true := by
         simp only [x]
         repeat' split
         all_goals simp (maxDischargeDepth := 99) +contextual [*]
       clear_value x)
    | (extract_lets +onlyGivenNames x
       have hx : ∀ s a, State.sound fz s = true → State.sound fz (x s a) = true := by
         intro s a hs
         simp only [x]
         simp (maxDischargeDepth := 99) +contextual [*]
       clear_value x)
    | (extract_lets +onlyGivenNames x; clear_value x)
    | split
  all_goals simp (maxDischargeDepth := 99) +contextual [*]

/-- `State.fillComplete` keeps soundness. -/
@[simp ↓] theorem State.fillComplete_sound {fz : Fuses} (s : State) (g : Nat) (hs : s.sound fz = true) :
    ((State.fillComplete s g)).sound fz = true := by
  simp (maxDischargeDepth := 99) +contextual [State.fillComplete, *]

/-- `State.releaseNow` keeps soundness. -/
@[simp ↓] theorem State.releaseNow_sound {fz : Fuses} (s : State) (g : Nat) (hs : s.sound fz = true) :
    ((State.releaseNow s g)).sound fz = true := by
  simp (maxDischargeDepth := 99) +contextual [State.releaseNow, *]

/-- `State.admitCmd` keeps soundness. -/
@[simp ↓] theorem State.admitCmd_sound {fz : Fuses} (s : State) (m : Master) (g : Nat) (op : Nat) (hs : s.sound fz = true) :
    ((State.admitCmd s m g op)).sound fz = true := by
  unfold State.admitCmd
  repeat' first
    | (extract_lets +onlyGivenNames x
       have hx : State.sound fz x = true := by
         simp only [x]
         repeat' split
         all_goals simp (maxDischargeDepth := 99) +contextual [*]
       clear_value x)
    | (extract_lets +onlyGivenNames x
       have hx : State.sound fz x.1 = true := by
         simp only [x]
         repeat' split
         all_goals simp (maxDischargeDepth := 99) +contextual [*]
       clear_value x)
    | (extract_lets +onlyGivenNames x
       have hx : ∀ s a, State.sound fz s = true → State.sound fz (x s a) = true := by
         intro s a hs
         simp only [x]
         simp (maxDischargeDepth := 99) +contextual [*]
       clear_value x)
    | (extract_lets +onlyGivenNames x; clear_value x)
    | split
  all_goals simp (maxDischargeDepth := 99) +contextual [*]

/-- `State.skewLost` keeps soundness. -/
@[simp ↓] theorem State.skewLost_sound {fz : Fuses} (s : State) (hs : s.sound fz = true) :
    ((State.skewLost s)).sound fz = true := by
  simp (maxDischargeDepth := 99) +contextual [State.skewLost, *]

/-- `State.skewTraffic` keeps soundness. -/
@[simp ↓] theorem State.skewTraffic_sound {fz : Fuses} (s : State) (wrote : Nat) (wrote' : Nat) (got : Nat) (got' : Nat) (hs : s.sound fz = true) :
    ((State.skewTraffic s wrote wrote' got got')).sound fz = true := by
  simp (maxDischargeDepth := 99) +contextual [State.skewTraffic, *]

/-- `State.bufferedFrame` keeps soundness. -/
@[simp ↓] theorem State.bufferedFrame_sound {fz : Fuses} (s : State) (g : Nat) (w : Bool × List Nat) (p : Bool × List Nat) (bad : List Nat) (hs : s.sound fz = true) :
    ((State.bufferedFrame s g w p bad).1).sound fz = true := by
  simp (maxDischargeDepth := 99) +contextual [State.bufferedFrame, *]

/-- `State.copyResolve` keeps soundness. -/
@[simp ↓] theorem State.copyResolve_sound {fz : Fuses} (s : State) (g : Nat) (p : Bool) (taken : Bool) (hs : s.sound fz = true) :
    ((State.copyResolve s g p taken)).sound fz = true := by
  simp (maxDischargeDepth := 99) +contextual [State.copyResolve, *]

/-- `State.bondResolve` keeps soundness. -/
@[simp ↓] theorem State.bondResolve_sound {fz : Fuses} (s : State) (taken : Bool) (hs : s.sound fz = true) :
    ((State.bondResolve s taken)).sound fz = true := by
  simp (maxDischargeDepth := 99) +contextual [State.bondResolve, *]

/-- `State.leadEnds` keeps soundness. -/
@[simp ↓] theorem State.leadEnds_sound {fz : Fuses} (s : State) (p : Nat) (taken : Bool) (hs : s.sound fz = true) :
    ((State.leadEnds s p taken)).sound fz = true := by
  simp (maxDischargeDepth := 99) +contextual [State.leadEnds, *]

/-! ## Machine/Snap.lean -/

/-- `State.bumpSnap` keeps soundness. -/
@[simp ↓] theorem State.bumpSnap_sound {fz : Fuses} (s : State) (p : Nat) (hs : s.sound fz = true) :
    ((State.bumpSnap s p)).sound fz = true := by
  simp (maxDischargeDepth := 99) +contextual [State.bumpSnap, *]

/-- `State.snapPage` keeps soundness. -/
@[simp ↓] theorem State.snapPage_sound {fz : Fuses} (s : State) (p : Nat) (hs : s.sound fz = true) :
    ((State.snapPage s p)).sound fz = true := by
  simp (maxDischargeDepth := 99) +contextual [State.snapPage, *]

/-- `State.snapAll` keeps soundness. -/
@[simp ↓] theorem State.snapAll_sound {fz : Fuses} (s : State) (hs : s.sound fz = true) :
    ((State.snapAll s)).sound fz = true := by
  simp (maxDischargeDepth := 99) +contextual [State.snapAll, *]

/-- `State.snapshot` keeps soundness. -/
@[simp ↓] theorem State.snapshot_sound {fz : Fuses} (s : State) (p : Nat) (hs : s.sound fz = true) :
    ((State.snapshot s p)).sound fz = true := by
  simp (maxDischargeDepth := 99) +contextual [State.snapshot, *]

end Sys2Proof.Machine
end

