-- ==== Sys2Proof/Laws/SoundData.lean ====
section
/-! SUPPORT. Soundness of the operations of ODU processing, slot core, carriers, lanes, timing and label channel. -/

namespace Sys2Proof.Machine

/-! ## Machine/OduOps.lean -/

/-- `State.showTx` keeps soundness. -/
@[simp ↓] theorem State.showTx_sound {fz : Fuses} (s : State) (x : Nat) (hs : s.sound fz = true) :
    ((State.showTx s x)).sound fz = true := by
  simp (maxDischargeDepth := 99) +contextual [State.showTx, *]

/-- `State.noteFlags` keeps soundness. -/
@[simp ↓] theorem State.noteFlags_sound {fz : Fuses} (s : State) (x : Nat) (hs : s.sound fz = true) :
    ((State.noteFlags s x)).sound fz = true := by
  simp (maxDischargeDepth := 99) +contextual [State.noteFlags, *]

/-- `State.setDefects` keeps soundness. -/
@[simp ↓] theorem State.setDefects_sound {fz : Fuses} (s : State) (x : Nat) (d : Nat) (hs : s.sound fz = true) :
    ((State.setDefects s x d)).sound fz = true := by
  simp (maxDischargeDepth := 99) +contextual [State.setDefects, *]

/-- `State.restartRuns` keeps soundness. -/
@[simp ↓] theorem State.restartRuns_sound {fz : Fuses} (s : State) (x : Nat) (hs : s.sound fz = true) :
    ((State.restartRuns s x)).sound fz = true := by
  simp (maxDischargeDepth := 99) +contextual [State.restartRuns, *]

/-- `State.settlePoint` keeps soundness. -/
@[simp ↓] theorem State.settlePoint_sound {fz : Fuses} (s : State) (x : Nat) (hs : s.sound fz = true) :
    ((State.settlePoint s x)).sound fz = true := by
  unfold State.settlePoint
  repeat' first
    | (extract_lets +onlyGivenNames x
       have hx : State.sound fz x = true := by
         simp only [x]
         repeat' split
         all_goals simp (maxDischargeDepth := 99) +contextual [*]
       clear_value x)
    | (extract_lets +onlyGivenNames x
       have hx : State.sound fz x.1 = true := by
         simp only [x]
         repeat' split
         all_goals simp (maxDischargeDepth := 99) +contextual [*]
       clear_value x)
    | (extract_lets +onlyGivenNames x
       have hx : ∀ s a, State.sound fz s = true → State.sound fz (x s a) = true := by
         intro s a hs
         simp only [x]
         simp (maxDischargeDepth := 99) +contextual [*]
       clear_value x)
    | (extract_lets +onlyGivenNames x; clear_value x)
    | split
  all_goals simp (maxDischargeDepth := 99) +contextual [*]

/-- `State.settlePort` keeps soundness. -/
@[simp ↓] theorem State.settlePort_sound {fz : Fuses} (s : State) (p : Nat) (hs : s.sound fz = true) :
    ((State.settlePort s p)).sound fz = true := by
  simp (maxDischargeDepth := 99) +contextual [State.settlePort, *]

/-- `State.settleGroup` keeps soundness. -/
@[simp ↓] theorem State.settleGroup_sound {fz : Fuses} (eg : Bool) (s : State) (g : Nat) (hs : s.sound fz = true) :
    ((State.settleGroup eg s g)).sound fz = true := by
  simp (maxDischargeDepth := 99) +contextual [State.settleGroup, *]

/-- `State.defects` keeps soundness. -/
@[simp ↓] theorem State.defects_sound {fz : Fuses} (s : State) (hs : s.sound fz = true) :
    ((State.defects s)).sound fz = true := by
  simp (maxDischargeDepth := 99) +contextual [State.defects, *]

/-- `State.eccHit` keeps soundness. -/
@[simp ↓] theorem State.eccHit_sound {fz : Fuses} (s : State) (h : EccHit) (hs : s.sound fz = true) :
    ((State.eccHit s h)).sound fz = true := by
  simp (maxDischargeDepth := 99) +contextual [State.eccHit, *]

/-- `State.setTracker` keeps soundness. -/
@[simp ↓] theorem State.setTracker_sound {fz : Fuses} (s : State) (eg : Bool) (g : Nat) (t : Tracker) (hs : s.sound fz = true) :
    ((State.setTracker s eg g t)).sound fz = true := by
  simp (maxDischargeDepth := 99) +contextual [State.setTracker, *]

/-- `State.pointStat` keeps soundness. -/
@[simp ↓] theorem State.pointStat_sound {fz : Fuses} (s : State) (x : Nat) (o : LayerOh) (hs : s.sound fz = true) :
    ((State.pointStat s x o)).sound fz = true := by
  simp (maxDischargeDepth := 99) +contextual [State.pointStat, *]

/-- `State.pointCounts` keeps soundness. -/
@[simp ↓] theorem State.pointCounts_sound {fz : Fuses} (s : State) (x : Nat) (o : LayerOh) (hs : s.sound fz = true) :
    ((State.pointCounts s x o)).sound fz = true := by
  simp (maxDischargeDepth := 99) +contextual [State.pointCounts, *]

/-- `State.pointAps` keeps soundness. -/
@[simp ↓] theorem State.pointAps_sound {fz : Fuses} (s : State) (x : Nat) (mfas : Nat) (aps : Nat) (hs : s.sound fz = true) :
    ((State.pointAps s x mfas aps)).sound fz = true := by
  simp (maxDischargeDepth := 99) +contextual [State.pointAps, *]

/-- `State.pointTti` keeps soundness. -/
@[simp ↓] theorem State.pointTti_sound {fz : Fuses} (s : State) (x : Nat) (mfas : Nat) (b : Byte) (hs : s.sound fz = true) :
    ((State.pointTti s x mfas b)).sound fz = true := by
  simp (maxDischargeDepth := 99) +contextual [State.pointTti, *]

/-- `pointFrame` keeps soundness. -/
@[simp ↓] theorem pointFrame_sound {fz : Fuses} (f : OduFrame) (s : State) (e : Nat × Nat) (hs : s.sound fz = true) :
    ((pointFrame f s e)).sound fz = true := by
  unfold pointFrame
  repeat' first
    | (extract_lets +onlyGivenNames x
       have hx : State.sound fz x = true := by
         simp only [x]
         repeat' split
         all_goals simp (maxDischargeDepth := 99) +contextual [*]
       clear_value x)
    | (extract_lets +onlyGivenNames x
       have hx : State.sound fz x.1 = true := by
         simp only [x]
         repeat' split
         all_goals simp (maxDischargeDepth := 99) +contextual [*]
       clear_value x)
    | (extract_lets +onlyGivenNames x
       have hx : ∀ s a, State.sound fz s = true → State.sound fz (x s a) = true := by
         intro s a hs
         simp only [x]
         simp (maxDischargeDepth := 99) +contextual [*]
       clear_value x)
    | (extract_lets +onlyGivenNames x; clear_value x)
    | split
  all_goals simp (maxDischargeDepth := 99) +contextual [*]

/-- `State.takeJc` keeps soundness. -/
@[simp ↓] theorem State.takeJc_sound {fz : Fuses} (s : State) (jc : Fin 46080 × Option (Nat × Nat)) (hs : s.sound fz = true) :
    ((State.takeJc s jc)).sound fz = true := by
  unfold State.takeJc
  repeat' first
    | (extract_lets +onlyGivenNames x
       have hx : State.sound fz x = true := by
         simp only [x]
         repeat' split
         all_goals simp (maxDischargeDepth := 99) +contextual [*]
       clear_value x)
    | (extract_lets +onlyGivenNames x
       have hx : State.sound fz x.1 = true := by
         simp only [x]
         repeat' split
         all_goals simp (maxDischargeDepth := 99) +contextual [*]
       clear_value x)
    | (extract_lets +onlyGivenNames x
       have hx : ∀ s a, State.sound fz s = true → State.sound fz (x s a) = true := by
         intro s a hs
         simp only [x]
         simp (maxDischargeDepth := 99) +contextual [*]
       clear_value x)
    | (extract_lets +onlyGivenNames x; clear_value x)
    | split
  all_goals simp (maxDischargeDepth := 99) +contextual [*]

/-- `State.parentFrame` keeps soundness. -/
@[simp ↓] theorem State.parentFrame_sound {fz : Fuses} (s : State) (g : Nat) (f : OduFrame) (hs : s.sound fz = true) :
    ((State.parentFrame s g f)).sound fz = true := by
  unfold State.parentFrame
  repeat' first
    | (extract_lets +onlyGivenNames x
       have hx : State.sound fz x = true := by
         simp only [x]
         repeat' split
         all_goals simp (maxDischargeDepth := 99) +contextual [*]
       clear_value x)
    | (extract_lets +onlyGivenNames x
       have hx : State.sound fz x.1 = true := by
         simp only [x]
         repeat' split
         all_goals simp (maxDischargeDepth := 99) +contextual [*]
       clear_value x)
    | (extract_lets +onlyGivenNames x
       have hx : ∀ s a, State.sound fz s = true → State.sound fz (x s a) = true := by
         intro s a hs
         simp only [x]
         simp (maxDischargeDepth := 99) +contextual [*]
       clear_value x)
    | (extract_lets +onlyGivenNames x; clear_value x)
    | split
  all_goals simp (maxDischargeDepth := 99) +contextual [*]

/-- `State.sendMsi` keeps soundness. -/
@[simp ↓] theorem State.sendMsi_sound {fz : Fuses} (s : State) (p : Nat) (hs : s.sound fz = true) :
    ((State.sendMsi s p)).sound fz = true := by
  simp (maxDischargeDepth := 99) +contextual [State.sendMsi, *]

/-- `State.oduFrame` keeps soundness. -/
@[simp ↓] theorem State.oduFrame_sound {fz : Fuses} (s : State) (eg : Bool) (g : Nat) (f : OduFrame) (hs : s.sound fz = true) :
    ((State.oduFrame s eg g f)).sound fz = true := by
  simp (maxDischargeDepth := 99) +contextual [State.oduFrame, *]

/-- `State.setPortDef` keeps soundness. -/
@[simp ↓] theorem State.setPortDef_sound {fz : Fuses} (s : State) (p : Nat) (d : Nat) (hs : s.sound fz = true) :
    ((State.setPortDef s p d)).sound fz = true := by
  simp (maxDischargeDepth := 99) +contextual [State.setPortDef, *]

/-- `State.persists` keeps soundness. -/
@[simp ↓] theorem State.persists_sound {fz : Fuses} (s : State) (c : PersistCond) (hs : s.sound fz = true) :
    ((State.persists s c)).sound fz = true := by
  unfold State.persists
  repeat' first
    | (extract_lets +onlyGivenNames x
       have hx : State.sound fz x = true := by
         simp only [x]
         repeat' split
         all_goals simp (maxDischargeDepth := 99) +contextual [*]
       clear_value x)
    | (extract_lets +onlyGivenNames x
       have hx : State.sound fz x.1 = true := by
         simp only [x]
         repeat' split
         all_goals simp (maxDischargeDepth := 99) +contextual [*]
       clear_value x)
    | (extract_lets +onlyGivenNames x
       have hx : ∀ s a, State.sound fz s = true → State.sound fz (x s a) = true := by
         intro s a hs
         simp only [x]
         simp (maxDischargeDepth := 99) +contextual [*]
       clear_value x)
    | (extract_lets +onlyGivenNames x; clear_value x)
    | split
  all_goals simp (maxDischargeDepth := 99) +contextual [*]

/-- `closePoint` keeps soundness. -/
@[simp ↓] theorem closePoint_sound {fz : Fuses} (seq : Nat) (s : State) (x : Nat) (hs : s.sound fz = true) :
    ((closePoint seq s x)).sound fz = true := by
  simp (maxDischargeDepth := 99) +contextual [closePoint, *]

/-- `closeMapper` keeps soundness. -/
@[simp ↓] theorem closeMapper_sound {fz : Fuses} (s : State) (x : Nat) (hs : s.sound fz = true) :
    ((closeMapper s x)).sound fz = true := by
  simp (maxDischargeDepth := 99) +contextual [closeMapper, *]

/-- `closeGroup` keeps soundness. -/
@[simp ↓] theorem closeGroup_sound {fz : Fuses} (s : State) (g : Nat) (hs : s.sound fz = true) :
    ((closeGroup s g)).sound fz = true := by
  simp (maxDischargeDepth := 99) +contextual [closeGroup, *]

/-- `closeSa` keeps soundness. -/
@[simp ↓] theorem closeSa_sound {fz : Fuses} (s : State) (x : Nat) (hs : s.sound fz = true) :
    ((closeSa s x)).sound fz = true := by
  simp (maxDischargeDepth := 99) +contextual [closeSa, *]

/-- `State.tickBoundary` keeps soundness. -/
@[simp ↓] theorem State.tickBoundary_sound {fz : Fuses} (s : State) (hs : s.sound fz = true) :
    ((State.tickBoundary s)).sound fz = true := by
  simp (maxDischargeDepth := 99) +contextual [State.tickBoundary, *]

/-- `coldRecord` keeps soundness. -/
@[simp ↓] theorem coldRecord_sound {fz : Fuses} (seq : Nat) (s : State) (e : Nat × List Nat) (hs : s.sound fz = true) :
    ((coldRecord seq s e)).sound fz = true := by
  simp (maxDischargeDepth := 99) +contextual [coldRecord, *]

/-- `pmSlots` keeps soundness. -/
@[simp ↓] theorem pmSlots_sound {fz : Fuses} (base : Nat) (size : Nat) (prod : Nat) (s : State) (e : Nat × List Nat) (hs : s.sound fz = true) :
    ((pmSlots base size prod s e)).sound fz = true := by
  simp (maxDischargeDepth := 99) +contextual [pmSlots, *]

/-- `State.pmExport` keeps soundness. -/
@[simp ↓] theorem State.pmExport_sound {fz : Fuses} (s : State) (hs : s.sound fz = true) :
    ((State.pmExport s)).sound fz = true := by
  simp (maxDischargeDepth := 99) +contextual [State.pmExport, *]

/-- `State.pmWrite` keeps soundness. -/
@[simp ↓] theorem State.pmWrite_sound {fz : Fuses} (s : State) (hs : s.sound fz = true) :
    ((State.pmWrite s)).sound fz = true := by
  simp (maxDischargeDepth := 99) +contextual [State.pmWrite, *]

/-- `State.ppsEdge` keeps soundness. -/
@[simp ↓] theorem State.ppsEdge_sound {fz : Fuses} (s : State) (offset : Int) (hs : s.sound fz = true) :
    ((State.ppsEdge s offset)).sound fz = true := by
  simp (maxDischargeDepth := 99) +contextual [State.ppsEdge, *]

/-- `State.ppsLoss` keeps soundness. -/
@[simp ↓] theorem State.ppsLoss_sound {fz : Fuses} (s : State) (hs : s.sound fz = true) :
    ((State.ppsLoss s)).sound fz = true := by
  simp (maxDischargeDepth := 99) +contextual [State.ppsLoss, *]

/-! ## Machine/ReelOps.lean -/

/-- `State.setLane` keeps soundness. -/
@[simp ↓] theorem State.setLane_sound {fz : Fuses} (s : State) (n : Nat) (v : Lane) (hs : s.sound fz = true) :
    ((State.setLane s n v)).sound fz = true := by
  simp (maxDischargeDepth := 99) +contextual [State.setLane, *]

/-- `State.lcadd` keeps soundness. -/
@[simp ↓] theorem State.lcadd_sound {fz : Fuses} (s : State) (n : Nat) (c : Ct) (k : Nat) (hs : s.sound fz = true) :
    ((State.lcadd s n c k)).sound fz = true := by
  simp (maxDischargeDepth := 99) +contextual [State.lcadd, *]

/-- `State.showBondProv` keeps soundness. -/
@[simp ↓] theorem State.showBondProv_sound {fz : Fuses} (s : State) (n : Nat) (hs : s.sound fz = true) :
    ((State.showBondProv s n)).sound fz = true := by
  unfold State.showBondProv
  repeat' first
    | (extract_lets +onlyGivenNames x
       have hx : State.sound fz x = true := by
         simp only [x]
         repeat' split
         all_goals simp (maxDischargeDepth := 99) +contextual [*]
       clear_value x)
    | (extract_lets +onlyGivenNames x
       have hx : State.sound fz x.1 = true := by
         simp only [x]
         repeat' split
         all_goals simp (maxDischargeDepth := 99) +contextual [*]
       clear_value x)
    | (extract_lets +onlyGivenNames x
       have hx : ∀ s a, State.sound fz s = true → State.sound fz (x s a) = true := by
         intro s a hs
         simp only [x]
         simp (maxDischargeDepth := 99) +contextual [*]
       clear_value x)
    | (extract_lets +onlyGivenNames x; clear_value x)
    | split
  all_goals simp (maxDischargeDepth := 99) +contextual [*]

/-- `State.setLates` keeps soundness. -/
@[simp ↓] theorem State.setLates_sound {fz : Fuses} (s : State) (l : List (Nat × Nat)) (hs : s.sound fz = true) :
    ((State.setLates s l)).sound fz = true := by
  simp (maxDischargeDepth := 99) +contextual [State.setLates, *]

/-- `State.slbAlign` keeps soundness. -/
@[simp ↓] theorem State.slbAlign_sound {fz : Fuses} (s : State) (n : Nat) (hs : s.sound fz = true) :
    ((State.slbAlign s n)).sound fz = true := by
  unfold State.slbAlign
  repeat' first
    | (extract_lets +onlyGivenNames x
       have hx : State.sound fz x = true := by
         simp only [x]
         repeat' split
         all_goals simp (maxDischargeDepth := 99) +contextual [*]
       clear_value x)
    | (extract_lets +onlyGivenNames x
       have hx : State.sound fz x.1 = true := by
         simp only [x]
         repeat' split
         all_goals simp (maxDischargeDepth := 99) +contextual [*]
       clear_value x)
    | (extract_lets +onlyGivenNames x
       have hx : ∀ s a, State.sound fz s = true → State.sound fz (x s a) = true := by
         intro s a hs
         simp only [x]
         simp (maxDischargeDepth := 99) +contextual [*]
       clear_value x)
    | (extract_lets +onlyGivenNames x; clear_value x)
    | split
  all_goals simp (maxDischargeDepth := 99) +contextual [*]

/-- `State.lateBack` keeps soundness. -/
@[simp ↓] theorem State.lateBack_sound {fz : Fuses} (s : State) (n : Nat) (c : LateCheck) (hs : s.sound fz = true) :
    ((State.lateBack s n c)).sound fz = true := by
  unfold State.lateBack
  repeat' first
    | (extract_lets +onlyGivenNames x
       have hx : State.sound fz x = true := by
         simp only [x]
         repeat' split
         all_goals simp (maxDischargeDepth := 99) +contextual [*]
       clear_value x)
    | (extract_lets +onlyGivenNames x
       have hx : State.sound fz x.1 = true := by
         simp only [x]
         repeat' split
         all_goals simp (maxDischargeDepth := 99) +contextual [*]
       clear_value x)
    | (extract_lets +onlyGivenNames x
       have hx : ∀ s a, State.sound fz s = true → State.sound fz (x s a) = true := by
         intro s a hs
         simp only [x]
         simp (maxDischargeDepth := 99) +contextual [*]
       clear_value x)
    | (extract_lets +onlyGivenNames x; clear_value x)
    | split
  all_goals simp (maxDischargeDepth := 99) +contextual [*]

/-- `State.provCounts` keeps soundness. -/
@[simp ↓] theorem State.provCounts_sound {fz : Fuses} (s : State) (n : Nat) (v : Lane) (hs : s.sound fz = true) :
    ((State.provCounts s n v)).sound fz = true := by
  simp (maxDischargeDepth := 99) +contextual [State.provCounts, *]

/-- `State.laneResolve` keeps soundness. -/
@[simp ↓] theorem State.laneResolve_sound {fz : Fuses} (s : State) (n : Nat) (taken : Bool) (hs : s.sound fz = true) :
    ((State.laneResolve s n taken)).sound fz = true := by
  unfold State.laneResolve
  repeat' first
    | (extract_lets +onlyGivenNames x
       have hx : State.sound fz x = true := by
         simp only [x]
         repeat' split
         all_goals simp (maxDischargeDepth := 99) +contextual [*]
       clear_value x)
    | (extract_lets +onlyGivenNames x
       have hx : State.sound fz x.1 = true := by
         simp only [x]
         repeat' split
         all_goals simp (maxDischargeDepth := 99) +contextual [*]
       clear_value x)
    | (extract_lets +onlyGivenNames x
       have hx : ∀ s a, State.sound fz s = true → State.sound fz (x s a) = true := by
         intro s a hs
         simp only [x]
         simp (maxDischargeDepth := 99) +contextual [*]
       clear_value x)
    | (extract_lets +onlyGivenNames x; clear_value x)
    | split
  all_goals simp (maxDischargeDepth := 99) +contextual [*]

/-- `State.showReel` keeps soundness. -/
@[simp ↓] theorem State.showReel_sound {fz : Fuses} (s : State) (p : Nat) (hs : s.sound fz = true) :
    ((State.showReel s p)).sound fz = true := by
  unfold State.showReel
  extract_lets r held c s1
  split
  · simp [*]
  · refine sound_foldl _ _ _ (fun s k h => ?_) ?_
    · split <;> simp [*]
    · simp [s1, *]

/-- `State.setReelAs` keeps soundness. -/
@[simp ↓] theorem State.setReelAs_sound {fz : Fuses} (s : State) (p : Nat) (r : Reel) (taken : Bool) (hs : s.sound fz = true) :
    ((State.setReelAs s p r taken)).sound fz = true := by
  simp (maxDischargeDepth := 99) +contextual [State.setReelAs, *]

/-- `State.setReel` keeps soundness. -/
@[simp ↓] theorem State.setReel_sound {fz : Fuses} (s : State) (p : Nat) (r : Reel) (hs : s.sound fz = true) :
    ((State.setReel s p r)).sound fz = true := by
  simp (maxDischargeDepth := 99) +contextual [State.setReel, *]

/-- `State.setFramer` keeps soundness. -/
@[simp ↓] theorem State.setFramer_sound {fz : Fuses} (s : State) (p : Nat) (new : Nat) (hs : s.sound fz = true) :
    ((State.setFramer s p new)).sound fz = true := by
  simp (maxDischargeDepth := 99) +contextual [State.setFramer, *]

/-- `State.enterOof` keeps soundness. -/
@[simp ↓] theorem State.enterOof_sound {fz : Fuses} (s : State) (p : Nat) (hs : s.sound fz = true) :
    ((State.enterOof s p)).sound fz = true := by
  simp (maxDischargeDepth := 99) +contextual [State.enterOof, *]

/-- `State.frmIdle` keeps soundness. -/
@[simp ↓] theorem State.frmIdle_sound {fz : Fuses} (s : State) (p : Nat) (hs : s.sound fz = true) :
    ((State.frmIdle s p)).sound fz = true := by
  simp (maxDischargeDepth := 99) +contextual [State.frmIdle, *]

/-- `State.candidate` keeps soundness. -/
@[simp ↓] theorem State.candidate_sound {fz : Fuses} (s : State) (p : Nat) (pos : Nat) (mark : Nat) (hs : s.sound fz = true) :
    ((State.candidate s p pos mark)).sound fz = true := by
  simp (maxDischargeDepth := 99) +contextual [State.candidate, *]

/-- `State.confirmHyp` keeps soundness. -/
@[simp ↓] theorem State.confirmHyp_sound {fz : Fuses} (s : State) (p : Nat) (h : Hyp) (hs : s.sound fz = true) :
    ((State.confirmHyp s p h)).sound fz = true := by
  simp (maxDischargeDepth := 99) +contextual [State.confirmHyp, *]

/-- `State.hypCheck` keeps soundness. -/
@[simp ↓] theorem State.hypCheck_sound {fz : Fuses} (s : State) (p : Nat) (k : Nat) (next : Nat) (mark : Nat) (ok : Bool) (hs : s.sound fz = true) :
    ((State.hypCheck s p k next mark ok)).sound fz = true := by
  unfold State.hypCheck
  repeat' first
    | (extract_lets +onlyGivenNames x
       have hx : State.sound fz x = true := by
         simp only [x]
         repeat' split
         all_goals simp (maxDischargeDepth := 99) +contextual [*]
       clear_value x)
    | (extract_lets +onlyGivenNames x
       have hx : State.sound fz x.1 = true := by
         simp only [x]
         repeat' split
         all_goals simp (maxDischargeDepth := 99) +contextual [*]
       clear_value x)
    | (extract_lets +onlyGivenNames x
       have hx : ∀ s a, State.sound fz s = true → State.sound fz (x s a) = true := by
         intro s a hs
         simp only [x]
         simp (maxDischargeDepth := 99) +contextual [*]
       clear_value x)
    | (extract_lets +onlyGivenNames x; clear_value x)
    | split
  all_goals simp (maxDischargeDepth := 99) +contextual [*]

/-- `State.sliceErrors` keeps soundness. -/
@[simp ↓] theorem State.sliceErrors_sound {fz : Fuses} (s : State) (c : Nat) (fasBad : Nat) (mfasBad : Nat) (n : Nat) (hs : s.sound fz = true) :
    ((State.sliceErrors s c fasBad mfasBad n)).sound fz = true := by
  simp (maxDischargeDepth := 99) +contextual [State.sliceErrors, *]

/-- `State.otucCheck` keeps soundness. -/
@[simp ↓] theorem State.otucCheck_sound {fz : Fuses} (s : State) (p : Nat) (l : List SliceSight) (hs : s.sound fz = true) :
    ((State.otucCheck s p l)).sound fz = true := by
  simp (maxDischargeDepth := 99) +contextual [State.otucCheck, *]

/-! ## Machine/CmOps.lean -/

/-- `State.setCmPage` keeps soundness. -/
@[simp ↓] theorem State.setCmPage_sound {fz : Fuses} (s : State) (b : Bool) (p : CmPage) (hs : s.sound fz = true) :
    ((State.setCmPage s b p)).sound fz = true := by
  simp (maxDischargeDepth := 99) +contextual [State.setCmPage, *]

/-- `State.setCmState` keeps soundness. -/
@[simp ↓] theorem State.setCmState_sound {fz : Fuses} (s : State) (n : Nat) (hs : s.sound fz = true) :
    ((State.setCmState s n)).sound fz = true := by
  simp (maxDischargeDepth := 99) +contextual [State.setCmState, *]

/-- `State.cmInvalidate` keeps soundness. -/
@[simp ↓] theorem State.cmInvalidate_sound {fz : Fuses} (s : State) (hs : s.sound fz = true) :
    ((State.cmInvalidate s)).sound fz = true := by
  simp (maxDischargeDepth := 99) +contextual [State.cmInvalidate, *]

/-- `State.cmWrite` keeps soundness. -/
@[simp ↓] theorem State.cmWrite_sound {fz : Fuses} (s : State) (m : Master) (p : Nat) (off : Nat) (region : Nat) (be : Nat) (data : Nat) (hs : s.sound fz = true) :
    ((State.cmWrite s m p off region be data)).sound fz = true := by
  simp (maxDischargeDepth := 99) +contextual [State.cmWrite, *]

/-- `State.cmEccEvent` keeps soundness. -/
@[simp ↓] theorem State.cmEccEvent_sound {fz : Fuses} (s : State) (hs : s.sound fz = true) :
    ((State.cmEccEvent s)).sound fz = true := by
  simp (maxDischargeDepth := 99) +contextual [State.cmEccEvent, *]

/-- `State.cmRead` keeps soundness. -/
@[simp ↓] theorem State.cmRead_sound {fz : Fuses} (s : State) (p : Nat) (off : Nat) (hs : s.sound fz = true) :
    ((State.cmRead s p off).1).sound fz = true := by
  simp (maxDischargeDepth := 99) +contextual [State.cmRead, *]

/-- `State.verifyEnds` keeps soundness. -/
@[simp ↓] theorem State.verifyEnds_sound {fz : Fuses} (s : State) (hs : s.sound fz = true) :
    ((State.verifyEnds s)).sound fz = true := by
  simp (maxDischargeDepth := 99) +contextual [State.verifyEnds, *]

/-- `State.verifyDone` keeps soundness. -/
@[simp ↓] theorem State.verifyDone_sound {fz : Fuses} (s : State) (bad : List Nat) (hs : s.sound fz = true) :
    ((State.verifyDone s bad)).sound fz = true := by
  simp (maxDischargeDepth := 99) +contextual [State.verifyDone, *]

/-- `State.cmEnd` keeps soundness. -/
@[simp ↓] theorem State.cmEnd_sound {fz : Fuses} (s : State) (r : Nat) (hs : s.sound fz = true) :
    ((State.cmEnd s r)).sound fz = true := by
  simp (maxDischargeDepth := 99) +contextual [State.cmEnd, *]

/-- `State.cmStart` keeps soundness. -/
@[simp ↓] theorem State.cmStart_sound {fz : Fuses} (s : State) (m : Master) (op : Nat) (hs : s.sound fz = true) :
    ((State.cmStart s m op)).sound fz = true := by
  simp (maxDischargeDepth := 99) +contextual [State.cmStart, *]

/-- `State.cmVerify` keeps soundness. -/
@[simp ↓] theorem State.cmVerify_sound {fz : Fuses} (s : State) (m : Master) (hs : s.sound fz = true) :
    ((State.cmVerify s m)).sound fz = true := by
  simp (maxDischargeDepth := 99) +contextual [State.cmVerify, *]

/-- `State.cmArm` keeps soundness. -/
@[simp ↓] theorem State.cmArm_sound {fz : Fuses} (s : State) (m : Master) (atSf : Bool) (hs : s.sound fz = true) :
    ((State.cmArm s m atSf)).sound fz = true := by
  simp (maxDischargeDepth := 99) +contextual [State.cmArm, *]

/-- `State.cmDisarm` keeps soundness. -/
@[simp ↓] theorem State.cmDisarm_sound {fz : Fuses} (s : State) (m : Master) (hs : s.sound fz = true) :
    ((State.cmDisarm s m)).sound fz = true := by
  simp (maxDischargeDepth := 99) +contextual [State.cmDisarm, *]

/-- `State.cmCmd` keeps soundness. -/
@[simp ↓] theorem State.cmCmd_sound {fz : Fuses} (s : State) (m : Master) (op : Nat) (atSf : Bool) (hs : s.sound fz = true) :
    ((State.cmCmd s m op atSf)).sound fz = true := by
  unfold State.cmCmd
  repeat' first
    | (extract_lets +onlyGivenNames x
       have hx : State.sound fz x = true := by
         simp only [x]
         repeat' split
         all_goals simp (maxDischargeDepth := 99) +contextual [*]
       clear_value x)
    | (extract_lets +onlyGivenNames x
       have hx : State.sound fz x.1 = true := by
         simp only [x]
         repeat' split
         all_goals simp (maxDischargeDepth := 99) +contextual [*]
       clear_value x)
    | (extract_lets +onlyGivenNames x
       have hx : ∀ s a, State.sound fz s = true → State.sound fz (x s a) = true := by
         intro s a hs
         simp only [x]
         simp (maxDischargeDepth := 99) +contextual [*]
       clear_value x)
    | (extract_lets +onlyGivenNames x; clear_value x)
    | split
  all_goals simp (maxDischargeDepth := 99) +contextual [*]

/-- `State.cmOpDone` keeps soundness. -/
@[simp ↓] theorem State.cmOpDone_sound {fz : Fuses} (s : State) (fail : Option Nat) (hs : s.sound fz = true) :
    ((State.cmOpDone s fail)).sound fz = true := by
  unfold State.cmOpDone
  repeat' first
    | (extract_lets +onlyGivenNames x
       have hx : State.sound fz x = true := by
         simp only [x]
         repeat' split
         all_goals simp (maxDischargeDepth := 99) +contextual [*]
       clear_value x)
    | (extract_lets +onlyGivenNames x
       have hx : State.sound fz x.1 = true := by
         simp only [x]
         repeat' split
         all_goals simp (maxDischargeDepth := 99) +contextual [*]
       clear_value x)
    | (extract_lets +onlyGivenNames x
       have hx : ∀ s a, State.sound fz s = true → State.sound fz (x s a) = true := by
         intro s a hs
         simp only [x]
         simp (maxDischargeDepth := 99) +contextual [*]
       clear_value x)
    | (extract_lets +onlyGivenNames x; clear_value x)
    | split
  all_goals simp (maxDischargeDepth := 99) +contextual [*]

/-- `State.restartMapper` keeps soundness. -/
@[simp ↓] theorem State.restartMapper_sound {fz : Fuses} (s : State) (h : Nat) (hs : s.sound fz = true) :
    ((State.restartMapper s h)).sound fz = true := by
  simp (maxDischargeDepth := 99) +contextual [State.restartMapper, *]

/-- `State.swapNow` keeps soundness. -/
@[simp ↓] theorem State.swapNow_sound {fz : Fuses} (s : State) (sf : Nat) (frame : Nat) (hs : s.sound fz = true) :
    ((State.swapNow s sf frame)).sound fz = true := by
  simp (maxDischargeDepth := 99) +contextual [State.swapNow, *]

/-- `State.swapDue` keeps soundness. -/
@[simp ↓] theorem State.swapDue_sound {fz : Fuses} (s : State) (sf : Nat) (frame : Nat) (hs : s.sound fz = true) :
    ((State.swapDue s sf frame)).sound fz = true := by
  unfold State.swapDue
  repeat' first
    | (extract_lets +onlyGivenNames x
       have hx : State.sound fz x = true := by
         simp only [x]
         repeat' split
         all_goals simp (maxDischargeDepth := 99) +contextual [*]
       clear_value x)
    | (extract_lets +onlyGivenNames x
       have hx : State.sound fz x.1 = true := by
         simp only [x]
         repeat' split
         all_goals simp (maxDischargeDepth := 99) +contextual [*]
       clear_value x)
    | (extract_lets +onlyGivenNames x
       have hx : ∀ s a, State.sound fz s = true → State.sound fz (x s a) = true := by
         intro s a hs
         simp only [x]
         simp (maxDischargeDepth := 99) +contextual [*]
       clear_value x)
    | (extract_lets +onlyGivenNames x; clear_value x)
    | split
  all_goals simp (maxDischargeDepth := 99) +contextual [*]

/-- `dropTracker` keeps soundness. -/
@[simp ↓] theorem dropTracker_sound {fz : Fuses} (eg : Bool) (s : State) (g : Nat) (hs : s.sound fz = true) :
    ((dropTracker eg s g)).sound fz = true := by
  simp (maxDischargeDepth := 99) +contextual [dropTracker, *]

/-- `State.applyNow` keeps soundness. -/
@[simp ↓] theorem State.applyNow_sound {fz : Fuses} (s : State) (hs : s.sound fz = true) :
    ((State.applyNow s)).sound fz = true := by
  unfold State.applyNow
  repeat' first
    | (extract_lets +onlyGivenNames x
       have hx : State.sound fz x = true := by
         simp only [x]
         repeat' split
         all_goals simp (maxDischargeDepth := 99) +contextual [*]
       clear_value x)
    | (extract_lets +onlyGivenNames x
       have hx : State.sound fz x.1 = true := by
         simp only [x]
         repeat' split
         all_goals simp (maxDischargeDepth := 99) +contextual [*]
       clear_value x)
    | (extract_lets +onlyGivenNames x
       have hx : ∀ s a, State.sound fz s = true → State.sound fz (x s a) = true := by
         intro s a hs
         simp only [x]
         simp (maxDischargeDepth := 99) +contextual [*]
       clear_value x)
    | (extract_lets +onlyGivenNames x; clear_value x)
    | split
  all_goals simp (maxDischargeDepth := 99) +contextual [*]

/-! ## Machine/OduTx.lean -/

/-- `State.oduLeaves` keeps soundness. -/
@[simp ↓] theorem State.oduLeaves_sound {fz : Fuses} (s : State) (h : Nat) (frame : List Nat) (hs : s.sound fz = true) :
    ((State.oduLeaves s h frame)).sound fz = true := by
  simp (maxDischargeDepth := 99) +contextual [State.oduLeaves, *]

/-- `State.oduSends` keeps soundness. -/
@[simp ↓] theorem State.oduSends_sound {fz : Fuses} (s : State) (h : Nat) (fresh : Bool) (ws : List Nat) (hs : s.sound fz = true) :
    ((State.oduSends s h fresh ws)).sound fz = true := by
  simp (maxDischargeDepth := 99) +contextual [State.oduSends, *]

/-! ## Machine/SlotOps.lean -/

/-- `State.gen` keeps soundness. -/
@[simp ↓] theorem State.gen_sound {fz : Fuses} (s : State) (k : Nat) (hs : s.sound fz = true) :
    ((State.gen s k).1).sound fz = true := by
  unfold State.gen
  repeat' first
    | (extract_lets +onlyGivenNames x
       have hx : State.sound fz x = true := by
         simp only [x]
         repeat' split
         all_goals simp (maxDischargeDepth := 99) +contextual [*]
       clear_value x)
    | (extract_lets +onlyGivenNames x
       have hx : State.sound fz x.1 = true := by
         simp only [x]
         repeat' split
         all_goals simp (maxDischargeDepth := 99) +contextual [*]
       clear_value x)
    | (extract_lets +onlyGivenNames x
       have hx : ∀ s a, State.sound fz s = true → State.sound fz (x s a) = true := by
         intro s a hs
         simp only [x]
         simp (maxDischargeDepth := 99) +contextual [*]
       clear_value x)
    | (extract_lets +onlyGivenNames x; clear_value x)
    | split
  all_goals simp (maxDischargeDepth := 99) +contextual [*]

/-- `State.setGen` keeps soundness. -/
@[simp ↓] theorem State.setGen_sound {fz : Fuses} (s : State) (k : Nat) (g : Gen) (hs : s.sound fz = true) :
    ((State.setGen s k g)).sound fz = true := by
  simp (maxDischargeDepth := 99) +contextual [State.setGen, *]

/-- `State.aisFrame` keeps soundness. -/
@[simp ↓] theorem State.aisFrame_sound {fz : Fuses} (s : State) (k : Nat) (kind : Nat) (flex : Nat) (su : Nat) (hs : s.sound fz = true) :
    ((State.aisFrame s k kind flex su).1).sound fz = true := by
  simp (maxDischargeDepth := 99) +contextual [State.aisFrame, *]

/-- `ingressGroup` keeps soundness. -/
@[simp ↓] theorem ingressGroup_sound {fz : Fuses} (f : CoreFrame) (p : State × SparseMap (List Nat)) (g : Nat) (hp : p.1.sound fz = true) :
    ((ingressGroup f p g).1).sound fz = true := by
  simp (maxDischargeDepth := 99) +contextual [ingressGroup, *]

/-- `State.bufferedOut` keeps soundness. -/
@[simp ↓] theorem State.bufferedOut_sound {fz : Fuses} (s : State) (g : Nat) (su : Nat) (direct : List (List Nat)) (words : List Nat) (hs : s.sound fz = true) :
    ((State.bufferedOut s g su direct words).1).sound fz = true := by
  simp (maxDischargeDepth := 99) +contextual [State.bufferedOut, *]

/-- `selectGroup` keeps soundness. -/
@[simp ↓] theorem selectGroup_sound {fz : Fuses} (f : CoreFrame) (p : State × SparseMap (List Nat)) (g : Nat) (hp : p.1.sound fz = true) :
    ((selectGroup f p g).1).sound fz = true := by
  simp (maxDischargeDepth := 99) +contextual [selectGroup, *]

/-- `setMapBit` keeps soundness. -/
@[simp ↓] theorem setMapBit_sound {fz : Fuses} (f : Nat → Fl) (s : State) (u : Nat) (hs : s.sound fz = true) :
    ((setMapBit f s u)).sound fz = true := by
  simp (maxDischargeDepth := 99) +contextual [setMapBit, *]

/-- `writeParity` keeps soundness. -/
@[simp ↓] theorem writeParity_sound {fz : Fuses} (s : State) (b : Nat × Nat) (hs : s.sound fz = true) :
    ((writeParity s b)).sound fz = true := by
  simp (maxDischargeDepth := 99) +contextual [writeParity, *]

/-- `readParity` keeps soundness. -/
@[simp ↓] theorem readParity_sound {fz : Fuses} (s : State) (b : Nat × Nat) (hs : s.sound fz = true) :
    ((readParity s b)).sound fz = true := by
  simp (maxDischargeDepth := 99) +contextual [readParity, *]

/-- `checkWord` keeps soundness. -/
@[simp ↓] theorem checkWord_sound {fz : Fuses} (k : Nat) (s : State) (w : Nat) (hs : s.sound fz = true) :
    ((checkWord k s w)).sound fz = true := by
  unfold checkWord
  repeat' first
    | (extract_lets +onlyGivenNames x
       have hx : State.sound fz x = true := by
         simp only [x]
         repeat' split
         all_goals simp (maxDischargeDepth := 99) +contextual [*]
       clear_value x)
    | (extract_lets +onlyGivenNames x
       have hx : State.sound fz x.1 = true := by
         simp only [x]
         repeat' split
         all_goals simp (maxDischargeDepth := 99) +contextual [*]
       clear_value x)
    | (extract_lets +onlyGivenNames x
       have hx : ∀ s a, State.sound fz s = true → State.sound fz (x s a) = true := by
         intro s a hs
         simp only [x]
         simp (maxDischargeDepth := 99) +contextual [*]
       clear_value x)
    | (extract_lets +onlyGivenNames x; clear_value x)
    | split
  all_goals simp (maxDischargeDepth := 99) +contextual [*]

/-- `State.runCheckers` keeps soundness. -/
@[simp ↓] theorem State.runCheckers_sound {fz : Fuses} (s : State) (side : Bool) (m : SparseMap (List Nat)) (hs : s.sound fz = true) :
    ((State.runCheckers s side m)).sound fz = true := by
  simp (maxDischargeDepth := 99) +contextual [State.runCheckers, *]

/-- `State.writeSide` keeps soundness. -/
@[simp ↓] theorem State.writeSide_sound {fz : Fuses} (s : State) (f : CoreFrame) (hs : s.sound fz = true) :
    ((State.writeSide s f)).sound fz = true := by
  simp (maxDischargeDepth := 99) +contextual [State.writeSide, *]

/-- `State.testWords` keeps soundness. -/
@[simp ↓] theorem State.testWords_sound {fz : Fuses} (s : State) (u : Nat) (valid : List Bool) (hs : s.sound fz = true) :
    ((State.testWords s u valid).1).sound fz = true := by
  simp (maxDischargeDepth := 99) +contextual [State.testWords, *]

/-- `State.endTestMode` keeps soundness. -/
@[simp ↓] theorem State.endTestMode_sound {fz : Fuses} (s : State) (u : Nat) (hs : s.sound fz = true) :
    ((State.endTestMode s u)).sound fz = true := by
  simp (maxDischargeDepth := 99) +contextual [State.endTestMode, *]

/-- `groupUnit` keeps soundness. -/
@[simp ↓] theorem groupUnit_sound {fz : Fuses} (forced : Bool) (p : State × SparseMap (List Nat)) (x : Nat × List Nat) (hp : p.1.sound fz = true) :
    ((groupUnit forced p x).1).sound fz = true := by
  unfold groupUnit
  repeat' first
    | (extract_lets +onlyGivenNames x
       have hx : State.sound fz x = true := by
         simp only [x]
         repeat' split
         all_goals simp (maxDischargeDepth := 99) +contextual [*]
       clear_value x)
    | (extract_lets +onlyGivenNames x
       have hx : State.sound fz x.1 = true := by
         simp only [x]
         repeat' split
         all_goals simp (maxDischargeDepth := 99) +contextual [*]
       clear_value x)
    | (extract_lets +onlyGivenNames x
       have hx : ∀ s a, State.sound fz s = true → State.sound fz (x s a) = true := by
         intro s a hs
         simp only [x]
         simp (maxDischargeDepth := 99) +contextual [*]
       clear_value x)
    | (extract_lets +onlyGivenNames x; clear_value x)
    | split
  all_goals simp (maxDischargeDepth := 99) +contextual [*]

/-- `egressGroup` keeps soundness. -/
@[simp ↓] theorem egressGroup_sound {fz : Fuses} (p : State × SparseMap (List Nat)) (h : Nat) (hp : p.1.sound fz = true) :
    ((egressGroup p h).1).sound fz = true := by
  simp (maxDischargeDepth := 99) +contextual [egressGroup, *]

/-- `looseUnit` keeps soundness. -/
@[simp ↓] theorem looseUnit_sound {fz : Fuses} (p : State × SparseMap (List Nat)) (u : Nat) (hp : p.1.sound fz = true) :
    ((looseUnit p u).1).sound fz = true := by
  unfold looseUnit
  repeat' first
    | (extract_lets +onlyGivenNames x
       have hx : State.sound fz x = true := by
         simp only [x]
         repeat' split
         all_goals simp (maxDischargeDepth := 99) +contextual [*]
       clear_value x)
    | (extract_lets +onlyGivenNames x
       have hx : State.sound fz x.1 = true := by
         simp only [x]
         repeat' split
         all_goals simp (maxDischargeDepth := 99) +contextual [*]
       clear_value x)
    | (extract_lets +onlyGivenNames x
       have hx : ∀ s a, State.sound fz s = true → State.sound fz (x s a) = true := by
         intro s a hs
         simp only [x]
         simp (maxDischargeDepth := 99) +contextual [*]
       clear_value x)
    | (extract_lets +onlyGivenNames x; clear_value x)
    | split
  all_goals simp (maxDischargeDepth := 99) +contextual [*]

/-- `State.mapperSends` keeps soundness. -/
@[simp ↓] theorem State.mapperSends_sound {fz : Fuses} (s : State) (h : Nat) (was : EgMapper) (v : EgMapper) (valid : List Nat) (hs : s.sound fz = true) :
    ((State.mapperSends s h was v valid)).sound fz = true := by
  unfold State.mapperSends
  repeat' first
    | (extract_lets +onlyGivenNames x
       have hx : State.sound fz x = true := by
         simp only [x]
         repeat' split
         all_goals simp (maxDischargeDepth := 99) +contextual [*]
       clear_value x)
    | (extract_lets +onlyGivenNames x
       have hx : State.sound fz x.1 = true := by
         simp only [x]
         repeat' split
         all_goals simp (maxDischargeDepth := 99) +contextual [*]
       clear_value x)
    | (extract_lets +onlyGivenNames x
       have hx : ∀ s a, State.sound fz s = true → State.sound fz (x s a) = true := by
         intro s a hs
         simp only [x]
         simp (maxDischargeDepth := 99) +contextual [*]
       clear_value x)
    | (extract_lets +onlyGivenNames x; clear_value x)
    | split
  all_goals simp (maxDischargeDepth := 99) +contextual [*]

/-- `mapperFrame` keeps soundness. -/
@[simp ↓] theorem mapperFrame_sound {fz : Fuses} (m : SparseMap (List Nat)) (bad : List (Nat × Nat)) (s : State) (h : Nat) (hs : s.sound fz = true) :
    ((mapperFrame m bad s h)).sound fz = true := by
  simp (maxDischargeDepth := 99) +contextual [mapperFrame, *]

/-- `monitorProv` keeps soundness. -/
@[simp ↓] theorem monitorProv_sound {fz : Fuses} (s : State) (x : Nat) (hs : s.sound fz = true) :
    ((monitorProv s x)).sound fz = true := by
  unfold monitorProv
  repeat' first
    | (extract_lets +onlyGivenNames x
       have hx : State.sound fz x = true := by
         simp only [x]
         repeat' split
         all_goals simp (maxDischargeDepth := 99) +contextual [*]
       clear_value x)
    | (extract_lets +onlyGivenNames x
       have hx : State.sound fz x.1 = true := by
         simp only [x]
         repeat' split
         all_goals simp (maxDischargeDepth := 99) +contextual [*]
       clear_value x)
    | (extract_lets +onlyGivenNames x
       have hx : ∀ s a, State.sound fz s = true → State.sound fz (x s a) = true := by
         intro s a hs
         simp only [x]
         simp (maxDischargeDepth := 99) +contextual [*]
       clear_value x)
    | (extract_lets +onlyGivenNames x; clear_value x)
    | split
  all_goals simp (maxDischargeDepth := 99) +contextual [*]

/-- `State.readSide` keeps soundness. -/
@[simp ↓] theorem State.readSide_sound {fz : Fuses} (s : State) (hs : s.sound fz = true) :
    ((State.readSide s)).sound fz = true := by
  simp (maxDischargeDepth := 99) +contextual [State.readSide, *]

/-- `State.cmErrors` keeps soundness. -/
@[simp ↓] theorem State.cmErrors_sound {fz : Fuses} (s : State) (f : CoreFrame) (hs : s.sound fz = true) :
    ((State.cmErrors s f)).sound fz = true := by
  simp (maxDischargeDepth := 99) +contextual [State.cmErrors, *]

/-- `State.selfChecks` keeps soundness. -/
@[simp ↓] theorem State.selfChecks_sound {fz : Fuses} (s : State) (f : CoreFrame) (hs : s.sound fz = true) :
    ((State.selfChecks s f)).sound fz = true := by
  simp (maxDischargeDepth := 99) +contextual [State.selfChecks, *]

/-- `State.failsDue` keeps soundness. -/
@[simp ↓] theorem State.failsDue_sound {fz : Fuses} (s : State) (hs : s.sound fz = true) :
    ((State.failsDue s)).sound fz = true := by
  simp (maxDischargeDepth := 99) +contextual [State.failsDue, *]

/-- `State.skewErrors` keeps soundness. -/
@[simp ↓] theorem State.skewErrors_sound {fz : Fuses} (s : State) (f : CoreFrame) (hs : s.sound fz = true) :
    ((State.skewErrors s f)).sound fz = true := by
  simp (maxDischargeDepth := 99) +contextual [State.skewErrors, *]

/-- `State.drainPort` keeps soundness. -/
@[simp ↓] theorem State.drainPort_sound {fz : Fuses} (s : State) (p : Nat) (hs : s.sound fz = true) :
    ((State.drainPort s p)).sound fz = true := by
  simp (maxDischargeDepth := 99) +contextual [State.drainPort, *]

/-- `State.voidLanes` keeps soundness. -/
@[simp ↓] theorem State.voidLanes_sound {fz : Fuses} (s : State) (p : Nat) (hs : s.sound fz = true) :
    ((State.voidLanes s p)).sound fz = true := by
  simp (maxDischargeDepth := 99) +contextual [State.voidLanes, *]

/-- `State.voidPort` keeps soundness. -/
@[simp ↓] theorem State.voidPort_sound {fz : Fuses} (s : State) (p : Nat) (hs : s.sound fz = true) :
    ((State.voidPort s p)).sound fz = true := by
  simp (maxDischargeDepth := 99) +contextual [State.voidPort, *]

/-- `State.drainStep` keeps soundness. -/
@[simp ↓] theorem State.drainStep_sound {fz : Fuses} (s : State) (hs : s.sound fz = true) :
    ((State.drainStep s)).sound fz = true := by
  simp (maxDischargeDepth := 99) +contextual [State.drainStep, *]

/-! ## Machine/BondOps.lean -/

/-- `State.setCar` keeps soundness. -/
@[simp ↓] theorem State.setCar_sound {fz : Fuses} (s : State) (c : Nat) (v : Carrier) (hs : s.sound fz = true) :
    ((State.setCar s c v)).sound fz = true := by
  simp (maxDischargeDepth := 99) +contextual [State.setCar, *]

/-- `State.showBondMismatch` keeps soundness. -/
@[simp ↓] theorem State.showBondMismatch_sound {fz : Fuses} (s : State) (c : Nat) (hs : s.sound fz = true) :
    ((State.showBondMismatch s c)).sound fz = true := by
  simp (maxDischargeDepth := 99) +contextual [State.showBondMismatch, *]

/-- `State.carrierBond` keeps soundness. -/
@[simp ↓] theorem State.carrierBond_sound {fz : Fuses} (s : State) (m : Master) (en : Bool) (hs : s.sound fz = true) :
    ((State.carrierBond s m en)).sound fz = true := by
  simp (maxDischargeDepth := 99) +contextual [State.carrierBond, *]

/-- `State.bondTakes` keeps soundness. -/
@[simp ↓] theorem State.bondTakes_sound {fz : Fuses} (s : State) (f : CoreFrame) (hs : s.sound fz = true) :
    ((State.bondTakes s f)).sound fz = true := by
  simp (maxDischargeDepth := 99) +contextual [State.bondTakes, *]

/-- `State.bondAfresh` keeps soundness. -/
@[simp ↓] theorem State.bondAfresh_sound {fz : Fuses} (s : State) (j : Nat) (hs : s.sound fz = true) :
    ((State.bondAfresh s j)).sound fz = true := by
  simp (maxDischargeDepth := 99) +contextual [State.bondAfresh, *]

/-- `laneAfresh` keeps soundness. -/
@[simp ↓] theorem laneAfresh_sound {fz : Fuses} (s : State) (n : Nat) (hs : s.sound fz = true) :
    ((laneAfresh s n)).sound fz = true := by
  simp (maxDischargeDepth := 99) +contextual [laneAfresh, *]

/-- `State.slotBond` keeps soundness. -/
@[simp ↓] theorem State.slotBond_sound {fz : Fuses} (s : State) (m : Master) (j : Nat) (region : Nat) (be : Nat) (data : Nat) (hs : s.sound fz = true) :
    ((State.slotBond s m j region be data)).sound fz = true := by
  simp (maxDischargeDepth := 99) +contextual [State.slotBond, *]

/-- `State.mtest` keeps soundness. -/
@[simp ↓] theorem State.mtest_sound {fz : Fuses} (s : State) (m : Master) (i : Nat) (op : Nat) (hs : s.sound fz = true) :
    ((State.mtest s m i op)).sound fz = true := by
  simp (maxDischargeDepth := 99) +contextual [State.mtest, *]

/-- `State.mtestDone` keeps soundness. -/
@[simp ↓] theorem State.mtestDone_sound {fz : Fuses} (s : State) (i : Nat) (fail : Option Nat) (hs : s.sound fz = true) :
    ((State.mtestDone s i fail)).sound fz = true := by
  simp (maxDischargeDepth := 99) +contextual [State.mtestDone, *]

/-- `State.scrubPass` keeps soundness. -/
@[simp ↓] theorem State.scrubPass_sound {fz : Fuses} (s : State) (i : Nat) (corr : Nat) (uncorr : Nat) (hs : s.sound fz = true) :
    ((State.scrubPass s i corr uncorr)).sound fz = true := by
  simp (maxDischargeDepth := 99) +contextual [State.scrubPass, *]

/-- `State.stackLost` keeps soundness. -/
@[simp ↓] theorem State.stackLost_sound {fz : Fuses} (s : State) (i : Nat) (hs : s.sound fz = true) :
    ((State.stackLost s i)).sound fz = true := by
  simp (maxDischargeDepth := 99) +contextual [State.stackLost, *]

/-! ## Machine/CarOps.lean -/

/-- `State.rateEvaluate` keeps soundness. -/
@[simp ↓] theorem State.rateEvaluate_sound {fz : Fuses} (s : State) (c : Nat) (hs : s.sound fz = true) :
    ((State.rateEvaluate s c)).sound fz = true := by
  simp (maxDischargeDepth := 99) +contextual [State.rateEvaluate, *]

/-- `State.rateWrite` keeps soundness. -/
@[simp ↓] theorem State.rateWrite_sound {fz : Fuses} (s : State) (m : Master) (c : Nat) (off : Nat) (region : Nat) (be : Nat) (data : Nat) (hs : s.sound fz = true) :
    ((State.rateWrite s m c off region be data)).sound fz = true := by
  simp (maxDischargeDepth := 99) +contextual [State.rateWrite, *]

/-- `State.capAbort` keeps soundness. -/
@[simp ↓] theorem State.capAbort_sound {fz : Fuses} (s : State) (c : Nat) (hs : s.sound fz = true) :
    ((State.capAbort s c)).sound fz = true := by
  simp (maxDischargeDepth := 99) +contextual [State.capAbort, *]

/-- `State.calStart` keeps soundness. -/
@[simp ↓] theorem State.calStart_sound {fz : Fuses} (s : State) (c : Nat) (k : CalKind) (hs : s.sound fz = true) :
    ((State.calStart s c k)).sound fz = true := by
  simp (maxDischargeDepth := 99) +contextual [State.calStart, *]

/-- `State.calCmd` keeps soundness. -/
@[simp ↓] theorem State.calCmd_sound {fz : Fuses} (s : State) (m : Master) (c : Nat) (op : Nat) (hs : s.sound fz = true) :
    ((State.calCmd s m c op)).sound fz = true := by
  simp (maxDischargeDepth := 99) +contextual [State.calCmd, *]

/-- `State.calEnd` keeps soundness. -/
@[simp ↓] theorem State.calEnd_sound {fz : Fuses} (s : State) (c : Nat) (fail : Nat) (ms : Nat) (res : List (Nat × Int)) (hs : s.sound fz = true) :
    ((State.calEnd s c fail ms res)).sound fz = true := by
  unfold State.calEnd
  repeat' first
    | (extract_lets +onlyGivenNames x
       have hx : State.sound fz x = true := by
         simp only [x]
         repeat' split
         all_goals simp (maxDischargeDepth := 99) +contextual [*]
       clear_value x)
    | (extract_lets +onlyGivenNames x
       have hx : State.sound fz x.1 = true := by
         simp only [x]
         repeat' split
         all_goals simp (maxDischargeDepth := 99) +contextual [*]
       clear_value x)
    | (extract_lets +onlyGivenNames x
       have hx : ∀ s a, State.sound fz s = true → State.sound fz (x s a) = true := by
         intro s a hs
         simp only [x]
         simp (maxDischargeDepth := 99) +contextual [*]
       clear_value x)
    | (extract_lets +onlyGivenNames x; clear_value x)
    | split
  all_goals simp (maxDischargeDepth := 99) +contextual [*]

/-- `State.bgCal` keeps soundness. -/
@[simp ↓] theorem State.bgCal_sound {fz : Fuses} (s : State) (c : Nat) (k : Nat) (gain : Int) (time : Int) (hs : s.sound fz = true) :
    ((State.bgCal s c k gain time)).sound fz = true := by
  simp (maxDischargeDepth := 99) +contextual [State.bgCal, *]

/-- `State.capEvent` keeps soundness. -/
@[simp ↓] theorem State.capEvent_sound {fz : Fuses} (s : State) (c : Nat) (trig : Nat) (hs : s.sound fz = true) :
    ((State.capEvent s c trig)).sound fz = true := by
  simp (maxDischargeDepth := 99) +contextual [State.capEvent, *]

/-- `State.lmLost` keeps soundness. -/
@[simp ↓] theorem State.lmLost_sound {fz : Fuses} (s : State) (c : Nat) (hs : s.sound fz = true) :
    ((State.lmLost s c)).sound fz = true := by
  simp (maxDischargeDepth := 99) +contextual [State.lmLost, *]

/-- `State.setLocks` keeps soundness. -/
@[simp ↓] theorem State.setLocks_sound {fz : Fuses} (s : State) (c : Nat) (pilot : Bool) (dsp : Bool) (hs : s.sound fz = true) :
    ((State.setLocks s c pilot dsp)).sound fz = true := by
  simp (maxDischargeDepth := 99) +contextual [State.setLocks, *]

/-- `State.rxStart` keeps soundness. -/
@[simp ↓] theorem State.rxStart_sound {fz : Fuses} (s : State) (c : Nat) (hs : s.sound fz = true) :
    ((State.rxStart s c)).sound fz = true := by
  simp (maxDischargeDepth := 99) +contextual [State.rxStart, *]

/-- `State.rxStop` keeps soundness. -/
@[simp ↓] theorem State.rxStop_sound {fz : Fuses} (s : State) (c : Nat) (hs : s.sound fz = true) :
    ((State.rxStop s c)).sound fz = true := by
  simp (maxDischargeDepth := 99) +contextual [State.rxStop, *]

/-- `State.carSigFall` keeps soundness. -/
@[simp ↓] theorem State.carSigFall_sound {fz : Fuses} (s : State) (c : Nat) (hs : s.sound fz = true) :
    ((State.carSigFall s c)).sound fz = true := by
  simp (maxDischargeDepth := 99) +contextual [State.carSigFall, *]

/-- `State.carSigRise` keeps soundness. -/
@[simp ↓] theorem State.carSigRise_sound {fz : Fuses} (s : State) (c : Nat) (hs : s.sound fz = true) :
    ((State.carSigRise s c)).sound fz = true := by
  simp (maxDischargeDepth := 99) +contextual [State.carSigRise, *]

/-- `State.freezeExpires` keeps soundness. -/
@[simp ↓] theorem State.freezeExpires_sound {fz : Fuses} (s : State) (c : Nat) (hs : s.sound fz = true) :
    ((State.freezeExpires s c)).sound fz = true := by
  simp (maxDischargeDepth := 99) +contextual [State.freezeExpires, *]

/-- `State.setEstimates` keeps soundness. -/
@[simp ↓] theorem State.setEstimates_sound {fz : Fuses} (s : State) (c : Nat) (e : DspEst) (hs : s.sound fz = true) :
    ((State.setEstimates s c e)).sound fz = true := by
  simp (maxDischargeDepth := 99) +contextual [State.setEstimates, *]

/-- `State.foreLock` keeps soundness. -/
@[simp ↓] theorem State.foreLock_sound {fz : Fuses} (s : State) (c : Nat) (hs : s.sound fz = true) :
    ((State.foreLock s c)).sound fz = true := by
  simp (maxDischargeDepth := 99) +contextual [State.foreLock, *]

/-- `State.stageDone` keeps soundness. -/
@[simp ↓] theorem State.stageDone_sound {fz : Fuses} (s : State) (c : Nat) (hs : s.sound fz = true) :
    ((State.stageDone s c)).sound fz = true := by
  unfold State.stageDone
  repeat' first
    | (extract_lets +onlyGivenNames x
       have hx : State.sound fz x = true := by
         simp only [x]
         repeat' split
         all_goals simp (maxDischargeDepth := 99) +contextual [*]
       clear_value x)
    | (extract_lets +onlyGivenNames x
       have hx : State.sound fz x.1 = true := by
         simp only [x]
         repeat' split
         all_goals simp (maxDischargeDepth := 99) +contextual [*]
       clear_value x)
    | (extract_lets +onlyGivenNames x
       have hx : ∀ s a, State.sound fz s = true → State.sound fz (x s a) = true := by
         intro s a hs
         simp only [x]
         simp (maxDischargeDepth := 99) +contextual [*]
       clear_value x)
    | (extract_lets +onlyGivenNames x; clear_value x)
    | split
  all_goals simp (maxDischargeDepth := 99) +contextual [*]

/-- `State.stageAdvance` keeps soundness. -/
@[simp ↓] theorem State.stageAdvance_sound {fz : Fuses} (s : State) (c : Nat) (est : DspEst) (hs : s.sound fz = true) :
    ((State.stageAdvance s c est)).sound fz = true := by
  simp (maxDischargeDepth := 99) +contextual [State.stageAdvance, *]

/-- `State.carEnable` keeps soundness. -/
@[simp ↓] theorem State.carEnable_sound {fz : Fuses} (s : State) (c : Nat) (m : Nat) (al : Nat := 0) (hs : s.sound fz = true) :
    ((State.carEnable s c m al)).sound fz = true := by
  simp (maxDischargeDepth := 99) +contextual [State.carEnable, *]

/-- `State.carHeld` keeps soundness. -/
@[simp ↓] theorem State.carHeld_sound {fz : Fuses} (s : State) (c : Nat) (hs : s.sound fz = true) :
    ((State.carHeld s c)).sound fz = true := by
  unfold State.carHeld
  repeat' first
    | (extract_lets +onlyGivenNames x
       have hx : State.sound fz x = true := by
         simp only [x]
         repeat' split
         all_goals simp (maxDischargeDepth := 99) +contextual [*]
       clear_value x)
    | (extract_lets +onlyGivenNames x
       have hx : State.sound fz x.1 = true := by
         simp only [x]
         repeat' split
         all_goals simp (maxDischargeDepth := 99) +contextual [*]
       clear_value x)
    | (extract_lets +onlyGivenNames x
       have hx : ∀ s a, State.sound fz s = true → State.sound fz (x s a) = true := by
         intro s a hs
         simp only [x]
         simp (maxDischargeDepth := 99) +contextual [*]
       clear_value x)
    | (extract_lets +onlyGivenNames x; clear_value x)
    | split
  all_goals simp (maxDischargeDepth := 99) +contextual [*]

/-- `State.carDisable` keeps soundness. -/
@[simp ↓] theorem State.carDisable_sound {fz : Fuses} (s : State) (c : Nat) (hs : s.sound fz = true) :
    ((State.carDisable s c)).sound fz = true := by
  simp (maxDischargeDepth := 99) +contextual [State.carDisable, *]

/-- `State.carDrained` keeps soundness. -/
@[simp ↓] theorem State.carDrained_sound {fz : Fuses} (s : State) (c : Nat) (hs : s.sound fz = true) :
    ((State.carDrained s c)).sound fz = true := by
  simp (maxDischargeDepth := 99) +contextual [State.carDrained, *]

/-- `State.rateDone` keeps soundness. -/
@[simp ↓] theorem State.rateDone_sound {fz : Fuses} (s : State) (c : Nat) (hs : s.sound fz = true) :
    ((State.rateDone s c)).sound fz = true := by
  simp (maxDischargeDepth := 99) +contextual [State.rateDone, *]

/-- `State.engineWrite` keeps soundness. -/
@[simp ↓] theorem State.engineWrite_sound {fz : Fuses} (s : State) (m : Master) (c : Nat) (on : Bool) (hs : s.sound fz = true) :
    ((State.engineWrite s m c on)).sound fz = true := by
  simp (maxDischargeDepth := 99) +contextual [State.engineWrite, *]

/-- `State.enginePowered` keeps soundness. -/
@[simp ↓] theorem State.enginePowered_sound {fz : Fuses} (s : State) (c : Nat) (hs : s.sound fz = true) :
    ((State.enginePowered s c)).sound fz = true := by
  simp (maxDischargeDepth := 99) +contextual [State.enginePowered, *]

/-- `State.carReady` keeps soundness. -/
@[simp ↓] theorem State.carReady_sound {fz : Fuses} (s : State) (c : Nat) (hs : s.sound fz = true) :
    ((State.carReady s c)).sound fz = true := by
  simp (maxDischargeDepth := 99) +contextual [State.carReady, *]

/-- `State.txAfresh` keeps soundness. -/
@[simp ↓] theorem State.txAfresh_sound {fz : Fuses} (s : State) (c : Nat) (hs : s.sound fz = true) :
    ((State.txAfresh s c)).sound fz = true := by
  simp (maxDischargeDepth := 99) +contextual [State.txAfresh, *]

/-- `State.txWrite` keeps soundness. -/
@[simp ↓] theorem State.txWrite_sound {fz : Fuses} (s : State) (m : Master) (c : Nat) (region : Nat) (be : Nat) (data : Nat) (hs : s.sound fz = true) :
    ((State.txWrite s m c region be data)).sound fz = true := by
  simp (maxDischargeDepth := 99) +contextual [State.txWrite, *]

/-- `State.powerStep` keeps soundness. -/
@[simp ↓] theorem State.powerStep_sound {fz : Fuses} (s : State) (c : Nat) (db : Nat) (hs : s.sound fz = true) :
    ((State.powerStep s c db)).sound fz = true := by
  simp (maxDischargeDepth := 99) +contextual [State.powerStep, *]

/-- `State.judgeWindow` keeps soundness. -/
@[simp ↓] theorem State.judgeWindow_sound {fz : Fuses} (s : State) (c : Nat) (pilots : Nat) (wrong : Nat) (hs : s.sound fz = true) :
    ((State.judgeWindow s c pilots wrong)).sound fz = true := by
  simp (maxDischargeDepth := 99) +contextual [State.judgeWindow, *]

/-- `State.msWindow` keeps soundness. -/
@[simp ↓] theorem State.msWindow_sound {fz : Fuses} (s : State) (c : Nat) (est : DspEst) (clipped : Nat) (samples : Nat) (hs : s.sound fz = true) :
    ((State.msWindow s c est clipped samples)).sound fz = true := by
  simp (maxDischargeDepth := 99) +contextual [State.msWindow, *]

/-- `State.capCmd` keeps soundness. -/
@[simp ↓] theorem State.capCmd_sound {fz : Fuses} (s : State) (m : Master) (c : Nat) (data : Nat) (hs : s.sound fz = true) :
    ((State.capCmd s m c data)).sound fz = true := by
  simp (maxDischargeDepth := 99) +contextual [State.capCmd, *]

/-- `State.capTrigger` keeps soundness. -/
@[simp ↓] theorem State.capTrigger_sound {fz : Fuses} (s : State) (c : Nat) (cycle : Nat) (before : List Nat) (after : List Nat) (hs : s.sound fz = true) :
    ((State.capTrigger s c cycle before after)).sound fz = true := by
  unfold State.capTrigger
  repeat' first
    | (extract_lets +onlyGivenNames x
       have hx : State.sound fz x = true := by
         simp only [x]
         repeat' split
         all_goals simp (maxDischargeDepth := 99) +contextual [*]
       clear_value x)
    | (extract_lets +onlyGivenNames x
       have hx : State.sound fz x.1 = true := by
         simp only [x]
         repeat' split
         all_goals simp (maxDischargeDepth := 99) +contextual [*]
       clear_value x)
    | (extract_lets +onlyGivenNames x
       have hx : ∀ s a, State.sound fz s = true → State.sound fz (x s a) = true := by
         intro s a hs
         simp only [x]
         simp (maxDischargeDepth := 99) +contextual [*]
       clear_value x)
    | (extract_lets +onlyGivenNames x; clear_value x)
    | split
  all_goals simp (maxDischargeDepth := 99) +contextual [*]

/-- `State.ringWrite` keeps soundness. -/
@[simp ↓] theorem State.ringWrite_sound {fz : Fuses} (s : State) (c : Nat) (off : Nat) (x0 : List Nat) (hs : s.sound fz = true) :
    ((State.ringWrite s c off x0)).sound fz = true := by
  induction x0 generalizing s c off
  all_goals simp (maxDischargeDepth := 99) +contextual [State.ringWrite, *]

/-- `State.capStore` keeps soundness. -/
@[simp ↓] theorem State.capStore_sound {fz : Fuses} (s : State) (c : Nat) (record : List Nat) (hs : s.sound fz = true) :
    ((State.capStore s c record)).sound fz = true := by
  simp (maxDischargeDepth := 99) +contextual [State.capStore, *]

/-- `State.capCopied` keeps soundness. -/
@[simp ↓] theorem State.capCopied_sound {fz : Fuses} (s : State) (c : Nat) (hs : s.sound fz = true) :
    ((State.capCopied s c)).sound fz = true := by
  simp (maxDischargeDepth := 99) +contextual [State.capCopied, *]

/-- `State.histDone` keeps soundness. -/
@[simp ↓] theorem State.histDone_sound {fz : Fuses} (s : State) (c : Nat) (cycle : Nat) (x : List Nat) (y : List Nat) (hs : s.sound fz = true) :
    ((State.histDone s c cycle x y)).sound fz = true := by
  unfold State.histDone
  repeat' first
    | (extract_lets +onlyGivenNames x
       have hx : State.sound fz x = true := by
         simp only [x]
         repeat' split
         all_goals simp (maxDischargeDepth := 99) +contextual [*]
       clear_value x)
    | (extract_lets +onlyGivenNames x
       have hx : State.sound fz x.1 = true := by
         simp only [x]
         repeat' split
         all_goals simp (maxDischargeDepth := 99) +contextual [*]
       clear_value x)
    | (extract_lets +onlyGivenNames x
       have hx : ∀ s a, State.sound fz s = true → State.sound fz (x s a) = true := by
         intro s a hs
         simp only [x]
         simp (maxDischargeDepth := 99) +contextual [*]
       clear_value x)
    | (extract_lets +onlyGivenNames x; clear_value x)
    | split
  all_goals simp (maxDischargeDepth := 99) +contextual [*]

/-- `State.feCmd` keeps soundness. -/
@[simp ↓] theorem State.feCmd_sound {fz : Fuses} (s : State) (m : Master) (c : Nat) (data : Nat) (hs : s.sound fz = true) :
    ((State.feCmd s m c data)).sound fz = true := by
  simp (maxDischargeDepth := 99) +contextual [State.feCmd, *]

/-- `State.feDone` keeps soundness. -/
@[simp ↓] theorem State.feDone_sound {fz : Fuses} (s : State) (c : Nat) (ack : Bool) (bytes : List Nat) (hs : s.sound fz = true) :
    ((State.feDone s c ack bytes)).sound fz = true := by
  unfold State.feDone
  repeat' first
    | (extract_lets +onlyGivenNames x
       have hx : State.sound fz x = true := by
         simp only [x]
         repeat' split
         all_goals simp (maxDischargeDepth := 99) +contextual [*]
       clear_value x)
    | (extract_lets +onlyGivenNames x
       have hx : State.sound fz x.1 = true := by
         simp only [x]
         repeat' split
         all_goals simp (maxDischargeDepth := 99) +contextual [*]
       clear_value x)
    | (extract_lets +onlyGivenNames x
       have hx : ∀ s a, State.sound fz s = true → State.sound fz (x s a) = true := by
         intro s a hs
         simp only [x]
         simp (maxDischargeDepth := 99) +contextual [*]
       clear_value x)
    | (extract_lets +onlyGivenNames x; clear_value x)
    | split
  all_goals simp (maxDischargeDepth := 99) +contextual [*]

/-! ## Machine/LaneOps.lean -/

/-- `State.octShow` keeps soundness. -/
@[simp ↓] theorem State.octShow_sound {fz : Fuses} (s : State) (k : Nat) (hs : s.sound fz = true) :
    ((State.octShow s k)).sound fz = true := by
  simp (maxDischargeDepth := 99) +contextual [State.octShow, *]

/-- `State.pllWrite` keeps soundness. -/
@[simp ↓] theorem State.pllWrite_sound {fz : Fuses} (s : State) (m : Master) (k : Nat) (b : Bool) (region : Nat) (be : Nat) (data : Nat) (hs : s.sound fz = true) :
    ((State.pllWrite s m k b region be data)).sound fz = true := by
  simp (maxDischargeDepth := 99) +contextual [State.pllWrite, *]

/-- `State.pllLocks` keeps soundness. -/
@[simp ↓] theorem State.pllLocks_sound {fz : Fuses} (s : State) (k : Nat) (b : Bool) (hs : s.sound fz = true) :
    ((State.pllLocks s k b)).sound fz = true := by
  simp (maxDischargeDepth := 99) +contextual [State.pllLocks, *]

/-- `State.octEnable` keeps soundness. -/
@[simp ↓] theorem State.octEnable_sound {fz : Fuses} (s : State) (m : Master) (k : Nat) (en : Bool) (hs : s.sound fz = true) :
    ((State.octEnable s m k en)).sound fz = true := by
  simp (maxDischargeDepth := 99) +contextual [State.octEnable, *]

/-- `State.setTaps` keeps soundness. -/
@[simp ↓] theorem State.setTaps_sound {fz : Fuses} (s : State) (n : Nat) (l : List Int) (hs : s.sound fz = true) :
    ((State.setTaps s n l)).sound fz = true := by
  simp (maxDischargeDepth := 99) +contextual [State.setTaps, *]

/-- `State.firWrite` keeps soundness. -/
@[simp ↓] theorem State.firWrite_sound {fz : Fuses} (s : State) (m : Master) (n : Nat) (region : Nat) (be : Nat) (data : Nat) (hs : s.sound fz = true) :
    ((State.firWrite s m n region be data)).sound fz = true := by
  simp (maxDischargeDepth := 99) +contextual [State.firWrite, *]

/-- `State.precodeDetected` keeps soundness. -/
@[simp ↓] theorem State.precodeDetected_sound {fz : Fuses} (s : State) (n : Nat) (hs : s.sound fz = true) :
    ((State.precodeDetected s n)).sound fz = true := by
  simp (maxDischargeDepth := 99) +contextual [State.precodeDetected, *]

/-- `State.setPrecodeTx` keeps soundness. -/
@[simp ↓] theorem State.setPrecodeTx_sound {fz : Fuses} (s : State) (n : Nat) (on : Bool) (hs : s.sound fz = true) :
    ((State.setPrecodeTx s n on)).sound fz = true := by
  simp (maxDischargeDepth := 99) +contextual [State.setPrecodeTx, *]

/-- `State.plainPrecode` keeps soundness. -/
@[simp ↓] theorem State.plainPrecode_sound {fz : Fuses} (s : State) (n : Nat) (hs : s.sound fz = true) :
    ((State.plainPrecode s n)).sound fz = true := by
  unfold State.plainPrecode
  repeat' first
    | (extract_lets +onlyGivenNames x
       have hx : State.sound fz x = true := by
         simp only [x]
         repeat' split
         all_goals simp (maxDischargeDepth := 99) +contextual [*]
       clear_value x)
    | (extract_lets +onlyGivenNames x
       have hx : State.sound fz x.1 = true := by
         simp only [x]
         repeat' split
         all_goals simp (maxDischargeDepth := 99) +contextual [*]
       clear_value x)
    | (extract_lets +onlyGivenNames x
       have hx : ∀ s a, State.sound fz s = true → State.sound fz (x s a) = true := by
         intro s a hs
         simp only [x]
         simp (maxDischargeDepth := 99) +contextual [*]
       clear_value x)
    | (extract_lets +onlyGivenNames x; clear_value x)
    | split
  all_goals simp (maxDischargeDepth := 99) +contextual [*]

/-- `State.setTxState` keeps soundness. -/
@[simp ↓] theorem State.setTxState_sound {fz : Fuses} (s : State) (n : Nat) (x : Nat) (hs : s.sound fz = true) :
    ((State.setTxState s n x)).sound fz = true := by
  simp (maxDischargeDepth := 99) +contextual [State.setTxState, *]

/-- `State.sendGalop` keeps soundness. -/
@[simp ↓] theorem State.sendGalop_sound {fz : Fuses} (s : State) (n : Nat) (hs : s.sound fz = true) :
    ((State.sendGalop s n)).sound fz = true := by
  simp (maxDischargeDepth := 99) +contextual [State.sendGalop, *]

/-- `State.setTrain` keeps soundness. -/
@[simp ↓] theorem State.setTrain_sound {fz : Fuses} (s : State) (n : Nat) (x : Nat) (hs : s.sound fz = true) :
    ((State.setTrain s n x)).sound fz = true := by
  simp (maxDischargeDepth := 99) +contextual [State.setTrain, *]

/-- `State.request` keeps soundness. -/
@[simp ↓] theorem State.request_sound {fz : Fuses} (s : State) (n : Nat) (body : Nat) (hs : s.sound fz = true) :
    ((State.request s n body)).sound fz = true := by
  simp (maxDischargeDepth := 99) +contextual [State.request, *]

/-- `State.startStream` keeps soundness. -/
@[simp ↓] theorem State.startStream_sound {fz : Fuses} (s : State) (n : Nat) (hs : s.sound fz = true) :
    ((State.startStream s n)).sound fz = true := by
  simp (maxDischargeDepth := 99) +contextual [State.startStream, *]

/-- `State.startAttempt` keeps soundness. -/
@[simp ↓] theorem State.startAttempt_sound {fz : Fuses} (s : State) (n : Nat) (hs : s.sound fz = true) :
    ((State.startAttempt s n)).sound fz = true := by
  simp (maxDischargeDepth := 99) +contextual [State.startAttempt, *]

/-- `State.applyTx` keeps soundness. -/
@[simp ↓] theorem State.applyTx_sound {fz : Fuses} (s : State) (n : Nat) (hs : s.sound fz = true) :
    ((State.applyTx s n)).sound fz = true := by
  simp (maxDischargeDepth := 99) +contextual [State.applyTx, *]

/-- `State.toData` keeps soundness. -/
@[simp ↓] theorem State.toData_sound {fz : Fuses} (s : State) (n : Nat) (hs : s.sound fz = true) :
    ((State.toData s n)).sound fz = true := by
  simp (maxDischargeDepth := 99) +contextual [State.toData, *]

/-- `State.trainEval` keeps soundness. -/
@[simp ↓] theorem State.trainEval_sound {fz : Fuses} (s : State) (n : Nat) (hs : s.sound fz = true) :
    ((State.trainEval s n)).sound fz = true := by
  unfold State.trainEval
  repeat' first
    | (extract_lets +onlyGivenNames x
       have hx : State.sound fz x = true := by
         simp only [x]
         repeat' split
         all_goals simp (maxDischargeDepth := 99) +contextual [*]
       clear_value x)
    | (extract_lets +onlyGivenNames x
       have hx : State.sound fz x.1 = true := by
         simp only [x]
         repeat' split
         all_goals simp (maxDischargeDepth := 99) +contextual [*]
       clear_value x)
    | (extract_lets +onlyGivenNames x
       have hx : ∀ s a, State.sound fz s = true → State.sound fz (x s a) = true := by
         intro s a hs
         simp only [x]
         simp (maxDischargeDepth := 99) +contextual [*]
       clear_value x)
    | (extract_lets +onlyGivenNames x; clear_value x)
    | split
  all_goals simp (maxDischargeDepth := 99) +contextual [*]

/-- `State.tapsNoted` keeps soundness. -/
@[simp ↓] theorem State.tapsNoted_sound {fz : Fuses} (s : State) (n : Nat) (hs : s.sound fz = true) :
    ((State.tapsNoted s n)).sound fz = true := by
  simp (maxDischargeDepth := 99) +contextual [State.tapsNoted, *]

/-- `State.enterData` keeps soundness. -/
@[simp ↓] theorem State.enterData_sound {fz : Fuses} (s : State) (n : Nat) (hs : s.sound fz = true) :
    ((State.enterData s n)).sound fz = true := by
  simp (maxDischargeDepth := 99) +contextual [State.enterData, *]

/-- `State.trainFails` keeps soundness. -/
@[simp ↓] theorem State.trainFails_sound {fz : Fuses} (s : State) (n : Nat) (reason : Nat) (hs : s.sound fz = true) :
    ((State.trainFails s n reason)).sound fz = true := by
  simp (maxDischargeDepth := 99) +contextual [State.trainFails, *]

/-- `State.bothReady` keeps soundness. -/
@[simp ↓] theorem State.bothReady_sound {fz : Fuses} (s : State) (n : Nat) (hs : s.sound fz = true) :
    ((State.bothReady s n)).sound fz = true := by
  simp (maxDischargeDepth := 99) +contextual [State.bothReady, *]

/-- `State.seeReady` keeps soundness. -/
@[simp ↓] theorem State.seeReady_sound {fz : Fuses} (s : State) (n : Nat) (hs : s.sound fz = true) :
    ((State.seeReady s n)).sound fz = true := by
  simp (maxDischargeDepth := 99) +contextual [State.seeReady, *]

/-- `State.actOn` keeps soundness. -/
@[simp ↓] theorem State.actOn_sound {fz : Fuses} (s : State) (n : Nat) (control : Nat) (hs : s.sound fz = true) :
    ((State.actOn s n control)).sound fz = true := by
  simp (maxDischargeDepth := 99) +contextual [State.actOn, *]

/-- `State.frmFollow` keeps soundness. -/
@[simp ↓] theorem State.frmFollow_sound {fz : Fuses} (s : State) (n : Nat) (hs : s.sound fz = true) :
    ((State.frmFollow s n)).sound fz = true := by
  simp (maxDischargeDepth := 99) +contextual [State.frmFollow, *]

/-- `State.peerCount` keeps soundness. -/
@[simp ↓] theorem State.peerCount_sound {fz : Fuses} (s : State) (n : Nat) (k : Option Nat) (hs : s.sound fz = true) :
    ((State.peerCount s n k)).sound fz = true := by
  simp (maxDischargeDepth := 99) +contextual [State.peerCount, *]

/-- `State.trainBad` keeps soundness. -/
@[simp ↓] theorem State.trainBad_sound {fz : Fuses} (s : State) (n : Nat) (hs : s.sound fz = true) :
    ((State.trainBad s n)).sound fz = true := by
  unfold State.trainBad
  repeat' first
    | (extract_lets +onlyGivenNames x
       have hx : State.sound fz x = true := by
         simp only [x]
         repeat' split
         all_goals simp (maxDischargeDepth := 99) +contextual [*]
       clear_value x)
    | (extract_lets +onlyGivenNames x
       have hx : State.sound fz x.1 = true := by
         simp only [x]
         repeat' split
         all_goals simp (maxDischargeDepth := 99) +contextual [*]
       clear_value x)
    | (extract_lets +onlyGivenNames x
       have hx : ∀ s a, State.sound fz s = true → State.sound fz (x s a) = true := by
         intro s a hs
         simp only [x]
         simp (maxDischargeDepth := 99) +contextual [*]
       clear_value x)
    | (extract_lets +onlyGivenNames x; clear_value x)
    | split
  all_goals simp (maxDischargeDepth := 99) +contextual [*]

/-- `State.trainGood` keeps soundness. -/
@[simp ↓] theorem State.trainGood_sound {fz : Fuses} (s : State) (n : Nat) (place : Nat) (control : Nat) (status : Nat) (hs : s.sound fz = true) :
    ((State.trainGood s n place control status)).sound fz = true := by
  simp (maxDischargeDepth := 99) +contextual [State.trainGood, *]

/-- `State.trainFrame` keeps soundness. -/
@[simp ↓] theorem State.trainFrame_sound {fz : Fuses} (s : State) (n : Nat) (later : List MarkerSeen) (x0 : Nat) (x1 : MarkerSeen) (hs : s.sound fz = true) :
    ((State.trainFrame s n later x0 x1)).sound fz = true := by
  induction x0 generalizing s x1 with
  | zero => exact hs
  | succ k ih =>
    unfold State.trainFrame
    split
    · exact State.trainGood_sound _ _ _ _ _ hs
    · dsimp only
      split
      · exact State.trainBad_sound _ _ hs
      · exact ih _ _ (State.trainBad_sound _ _ hs)

/-- `State.trainSeen` keeps soundness. -/
@[simp ↓] theorem State.trainSeen_sound {fz : Fuses} (s : State) (n : Nat) (m : MarkerSeen) (later : List MarkerSeen) (hs : s.sound fz = true) :
    ((State.trainSeen s n m later)).sound fz = true := by
  simp (maxDischargeDepth := 99) +contextual [State.trainSeen, *]

/-- `State.trainSend` keeps soundness. -/
@[simp ↓] theorem State.trainSend_sound {fz : Fuses} (s : State) (n : Nat) (next : Option Nat) (hs : s.sound fz = true) :
    ((State.trainSend s n next)).sound fz = true := by
  unfold State.trainSend
  refine sound_ite _ _ hs ?_
  extract_lets s1 v x s2
  have h1 : State.sound fz s1 = true := by
    simp only [s1]
    cases next with
    | none => exact hs
    | some body => exact sound_ite _ _ (State.request_sound _ _ _ hs) hs
  have h2 : State.sound fz s2 = true := State.setLane_sound _ _ _ (State.emit_sound _ _ h1)
  exact sound_ite _ _ (sound_ite _ _ (State.enterData_sound _ _ h2) (State.setLane_sound _ _ _ h2)) h2

/-- `State.eqConverged` keeps soundness. -/
@[simp ↓] theorem State.eqConverged_sound {fz : Fuses} (s : State) (n : Nat) (dc : Nat) (peak : Nat) (dfe : Nat) (hs : s.sound fz = true) :
    ((State.eqConverged s n dc peak dfe)).sound fz = true := by
  simp (maxDischargeDepth := 99) +contextual [State.eqConverged, *]

/-- `State.noAck` keeps soundness. -/
@[simp ↓] theorem State.noAck_sound {fz : Fuses} (s : State) (n : Nat) (hs : s.sound fz = true) :
    ((State.noAck s n)).sound fz = true := by
  simp (maxDischargeDepth := 99) +contextual [State.noAck, *]

/-- `State.trainTimeout` keeps soundness. -/
@[simp ↓] theorem State.trainTimeout_sound {fz : Fuses} (s : State) (n : Nat) (hs : s.sound fz = true) :
    ((State.trainTimeout s n)).sound fz = true := by
  simp (maxDischargeDepth := 99) +contextual [State.trainTimeout, *]

/-- `State.backoffEnds` keeps soundness. -/
@[simp ↓] theorem State.backoffEnds_sound {fz : Fuses} (s : State) (n : Nat) (hs : s.sound fz = true) :
    ((State.backoffEnds s n)).sound fz = true := by
  simp (maxDischargeDepth := 99) +contextual [State.backoffEnds, *]

/-- `State.trainCmd` keeps soundness. -/
@[simp ↓] theorem State.trainCmd_sound {fz : Fuses} (s : State) (m : Master) (n : Nat) (op : Nat) (hs : s.sound fz = true) :
    ((State.trainCmd s m n op)).sound fz = true := by
  unfold State.trainCmd
  repeat' first
    | (extract_lets +onlyGivenNames x
       have hx : State.sound fz x = true := by
         simp only [x]
         repeat' split
         all_goals simp (maxDischargeDepth := 99) +contextual [*]
       clear_value x)
    | (extract_lets +onlyGivenNames x
       have hx : State.sound fz x.1 = true := by
         simp only [x]
         repeat' split
         all_goals simp (maxDischargeDepth := 99) +contextual [*]
       clear_value x)
    | (extract_lets +onlyGivenNames x
       have hx : ∀ s a, State.sound fz s = true → State.sound fz (x s a) = true := by
         intro s a hs
         simp only [x]
         simp (maxDischargeDepth := 99) +contextual [*]
       clear_value x)
    | (extract_lets +onlyGivenNames x; clear_value x)
    | split
  all_goals simp (maxDischargeDepth := 99) +contextual [*]

/-- `State.bondFollow` keeps soundness. -/
@[simp ↓] theorem State.bondFollow_sound {fz : Fuses} (s : State) (n : Nat) (hs : s.sound fz = true) :
    ((State.bondFollow s n)).sound fz = true := by
  unfold State.bondFollow
  repeat' first
    | (extract_lets +onlyGivenNames x
       have hx : State.sound fz x = true := by
         simp only [x]
         repeat' split
         all_goals simp (maxDischargeDepth := 99) +contextual [*]
       clear_value x)
    | (extract_lets +onlyGivenNames x
       have hx : State.sound fz x.1 = true := by
         simp only [x]
         repeat' split
         all_goals simp (maxDischargeDepth := 99) +contextual [*]
       clear_value x)
    | (extract_lets +onlyGivenNames x
       have hx : ∀ s a, State.sound fz s = true → State.sound fz (x s a) = true := by
         intro s a hs
         simp only [x]
         simp (maxDischargeDepth := 99) +contextual [*]
       clear_value x)
    | (extract_lets +onlyGivenNames x; clear_value x)
    | split
  all_goals simp (maxDischargeDepth := 99) +contextual [*]

/-- `State.laneSigFall` keeps soundness. -/
@[simp ↓] theorem State.laneSigFall_sound {fz : Fuses} (s : State) (n : Nat) (hs : s.sound fz = true) :
    ((State.laneSigFall s n)).sound fz = true := by
  simp (maxDischargeDepth := 99) +contextual [State.laneSigFall, *]

/-- `State.laneSigRise` keeps soundness. -/
@[simp ↓] theorem State.laneSigRise_sound {fz : Fuses} (s : State) (n : Nat) (hs : s.sound fz = true) :
    ((State.laneSigRise s n)).sound fz = true := by
  simp (maxDischargeDepth := 99) +contextual [State.laneSigRise, *]

/-- `State.idleHoldEnds` keeps soundness. -/
@[simp ↓] theorem State.idleHoldEnds_sound {fz : Fuses} (s : State) (n : Nat) (hs : s.sound fz = true) :
    ((State.idleHoldEnds s n)).sound fz = true := by
  simp (maxDischargeDepth := 99) +contextual [State.idleHoldEnds, *]

/-- `State.galopHeard` keeps soundness. -/
@[simp ↓] theorem State.galopHeard_sound {fz : Fuses} (s : State) (n : Nat) (hs : s.sound fz = true) :
    ((State.galopHeard s n)).sound fz = true := by
  simp (maxDischargeDepth := 99) +contextual [State.galopHeard, *]

/-- `State.galopTimeout` keeps soundness. -/
@[simp ↓] theorem State.galopTimeout_sound {fz : Fuses} (s : State) (n : Nat) (hs : s.sound fz = true) :
    ((State.galopTimeout s n)).sound fz = true := by
  simp (maxDischargeDepth := 99) +contextual [State.galopTimeout, *]

/-- `State.cdrFall` keeps soundness. -/
@[simp ↓] theorem State.cdrFall_sound {fz : Fuses} (s : State) (n : Nat) (held : Bool) (hs : s.sound fz = true) :
    ((State.cdrFall s n held)).sound fz = true := by
  simp (maxDischargeDepth := 99) +contextual [State.cdrFall, *]

/-- `State.cdrRise` keeps soundness. -/
@[simp ↓] theorem State.cdrRise_sound {fz : Fuses} (s : State) (n : Nat) (hs : s.sound fz = true) :
    ((State.cdrRise s n)).sound fz = true := by
  simp (maxDischargeDepth := 99) +contextual [State.cdrRise, *]

/-- `State.rxSleep` keeps soundness. -/
@[simp ↓] theorem State.rxSleep_sound {fz : Fuses} (s : State) (n : Nat) (on : Bool) (hs : s.sound fz = true) :
    ((State.rxSleep s n on)).sound fz = true := by
  simp (maxDischargeDepth := 99) +contextual [State.rxSleep, *]

/-- `State.rxWake` keeps soundness. -/
@[simp ↓] theorem State.rxWake_sound {fz : Fuses} (s : State) (n : Nat) (hs : s.sound fz = true) :
    ((State.rxWake s n)).sound fz = true := by
  simp (maxDischargeDepth := 99) +contextual [State.rxWake, *]

/-- `State.laneCfgWrite` keeps soundness. -/
@[simp ↓] theorem State.laneCfgWrite_sound {fz : Fuses} (s : State) (m : Master) (n : Nat) (region : Nat) (be : Nat) (data : Nat) (hs : s.sound fz = true) :
    ((State.laneCfgWrite s m n region be data)).sound fz = true := by
  simp (maxDischargeDepth := 99) +contextual [State.laneCfgWrite, *]

/-- `State.laneEnable` keeps soundness. -/
@[simp ↓] theorem State.laneEnable_sound {fz : Fuses} (s : State) (m : Master) (n : Nat) (al : Nat := 0) (hs : s.sound fz = true) :
    ((State.laneEnable s m n al)).sound fz = true := by
  simp (maxDischargeDepth := 99) +contextual [State.laneEnable, *]

/-- `State.showDrain` keeps soundness. -/
@[simp ↓] theorem State.showDrain_sound {fz : Fuses} (s : State) (n : Nat) (hs : s.sound fz = true) :
    ((State.showDrain s n)).sound fz = true := by
  simp (maxDischargeDepth := 99) +contextual [State.showDrain, *]

/-- `State.dpDisable` keeps soundness. -/
@[simp ↓] theorem State.dpDisable_sound {fz : Fuses} (s : State) (n : Nat) (hs : s.sound fz = true) :
    ((State.dpDisable s n)).sound fz = true := by
  simp (maxDischargeDepth := 99) +contextual [State.dpDisable, *]

/-- `State.laneCtrl` keeps soundness. -/
@[simp ↓] theorem State.laneCtrl_sound {fz : Fuses} (s : State) (m : Master) (n : Nat) (region : Nat) (be : Nat) (data : Nat) (hs : s.sound fz = true) :
    ((State.laneCtrl s m n region be data)).sound fz = true := by
  simp (maxDischargeDepth := 99) +contextual [State.laneCtrl, *]

/-- `State.eyeDropped` keeps soundness. -/
@[simp ↓] theorem State.eyeDropped_sound {fz : Fuses} (s : State) (n : Nat) (hs : s.sound fz = true) :
    ((State.eyeDropped s n)).sound fz = true := by
  simp (maxDischargeDepth := 99) +contextual [State.eyeDropped, *]

/-- `State.laneDisable` keeps soundness. -/
@[simp ↓] theorem State.laneDisable_sound {fz : Fuses} (s : State) (n : Nat) (hs : s.sound fz = true) :
    ((State.laneDisable s n)).sound fz = true := by
  simp (maxDischargeDepth := 99) +contextual [State.laneDisable, *]

/-- `State.laneHeldOn` keeps soundness. -/
@[simp ↓] theorem State.laneHeldOn_sound {fz : Fuses} (s : State) (n : Nat) (hs : s.sound fz = true) :
    ((State.laneHeldOn s n)).sound fz = true := by
  unfold State.laneHeldOn
  repeat' first
    | (extract_lets +onlyGivenNames x
       have hx : State.sound fz x = true := by
         simp only [x]
         repeat' split
         all_goals simp (maxDischargeDepth := 99) +contextual [*]
       clear_value x)
    | (extract_lets +onlyGivenNames x
       have hx : State.sound fz x.1 = true := by
         simp only [x]
         repeat' split
         all_goals simp (maxDischargeDepth := 99) +contextual [*]
       clear_value x)
    | (extract_lets +onlyGivenNames x
       have hx : ∀ s a, State.sound fz s = true → State.sound fz (x s a) = true := by
         intro s a hs
         simp only [x]
         simp (maxDischargeDepth := 99) +contextual [*]
       clear_value x)
    | (extract_lets +onlyGivenNames x; clear_value x)
    | split
  all_goals simp (maxDischargeDepth := 99) +contextual [*]

/-- `State.dpDrained` keeps soundness. -/
@[simp ↓] theorem State.dpDrained_sound {fz : Fuses} (s : State) (n : Nat) (hs : s.sound fz = true) :
    ((State.dpDrained s n)).sound fz = true := by
  simp (maxDischargeDepth := 99) +contextual [State.dpDrained, *]

/-- `State.txDrained` keeps soundness. -/
@[simp ↓] theorem State.txDrained_sound {fz : Fuses} (s : State) (n : Nat) (hs : s.sound fz = true) :
    ((State.txDrained s n)).sound fz = true := by
  simp (maxDischargeDepth := 99) +contextual [State.txDrained, *]

/-- `State.laneReady` keeps soundness. -/
@[simp ↓] theorem State.laneReady_sound {fz : Fuses} (s : State) (n : Nat) (hs : s.sound fz = true) :
    ((State.laneReady s n)).sound fz = true := by
  simp (maxDischargeDepth := 99) +contextual [State.laneReady, *]

/-- `State.laneBoundary` keeps soundness. -/
@[simp ↓] theorem State.laneBoundary_sound {fz : Fuses} (s : State) (n : Nat) (hs : s.sound fz = true) :
    ((State.laneBoundary s n)).sound fz = true := by
  simp (maxDischargeDepth := 99) +contextual [State.laneBoundary, *]

/-- `State.warmedUp` keeps soundness. -/
@[simp ↓] theorem State.warmedUp_sound {fz : Fuses} (s : State) (n : Nat) (hs : s.sound fz = true) :
    ((State.warmedUp s n)).sound fz = true := by
  simp (maxDischargeDepth := 99) +contextual [State.warmedUp, *]

/-- `State.eyeMeasure` keeps soundness. -/
@[simp ↓] theorem State.eyeMeasure_sound {fz : Fuses} (s : State) (m : Master) (n : Nat) (eye : Nat) (phase : Nat) (volt : Nat) (dwell : Nat) (hs : s.sound fz = true) :
    ((State.eyeMeasure s m n eye phase volt dwell)).sound fz = true := by
  simp (maxDischargeDepth := 99) +contextual [State.eyeMeasure, *]

/-- `State.eyeAbandon` keeps soundness. -/
@[simp ↓] theorem State.eyeAbandon_sound {fz : Fuses} (s : State) (m : Master) (n : Nat) (hs : s.sound fz = true) :
    ((State.eyeAbandon s m n)).sound fz = true := by
  simp (maxDischargeDepth := 99) +contextual [State.eyeAbandon, *]

/-- `State.eyeEnds` keeps soundness. -/
@[simp ↓] theorem State.eyeEnds_sound {fz : Fuses} (s : State) (n : Nat) (errors : Nat) (hs : s.sound fz = true) :
    ((State.eyeEnds s n errors)).sound fz = true := by
  unfold State.eyeEnds
  repeat' first
    | (extract_lets +onlyGivenNames x
       have hx : State.sound fz x = true := by
         simp only [x]
         repeat' split
         all_goals simp (maxDischargeDepth := 99) +contextual [*]
       clear_value x)
    | (extract_lets +onlyGivenNames x
       have hx : State.sound fz x.1 = true := by
         simp only [x]
         repeat' split
         all_goals simp (maxDischargeDepth := 99) +contextual [*]
       clear_value x)
    | (extract_lets +onlyGivenNames x
       have hx : ∀ s a, State.sound fz s = true → State.sound fz (x s a) = true := by
         intro s a hs
         simp only [x]
         simp (maxDischargeDepth := 99) +contextual [*]
       clear_value x)
    | (extract_lets +onlyGivenNames x; clear_value x)
    | split
  all_goals simp (maxDischargeDepth := 99) +contextual [*]

/-- `State.loopWrite` keeps soundness. -/
@[simp ↓] theorem State.loopWrite_sound {fz : Fuses} (s : State) (m : Master) (n : Nat) (region : Nat) (be : Nat) (data : Nat) (hs : s.sound fz = true) :
    ((State.loopWrite s m n region be data)).sound fz = true := by
  simp (maxDischargeDepth := 99) +contextual [State.loopWrite, *]

/-! ## Machine/TimOps.lean -/

/-- `State.setRef` keeps soundness. -/
@[simp ↓] theorem State.setRef_sound {fz : Fuses} (s : State) (r : Nat) (v : RefState) (hs : s.sound fz = true) :
    ((State.setRef s r v)).sound fz = true := by
  simp (maxDischargeDepth := 99) +contextual [State.setRef, *]

/-- `State.setTim` keeps soundness. -/
@[simp ↓] theorem State.setTim_sound {fz : Fuses} (s : State) (t : Timing) (hs : s.sound fz = true) :
    ((State.setTim s t)).sound fz = true := by
  simp (maxDischargeDepth := 99) +contextual [State.setTim, *]

/-- `State.takeTimCfg` keeps soundness. -/
@[simp ↓] theorem State.takeTimCfg_sound {fz : Fuses} (s : State) (hs : s.sound fz = true) :
    ((State.takeTimCfg s)).sound fz = true := by
  simp (maxDischargeDepth := 99) +contextual [State.takeTimCfg, *]

/-- `State.refEligible` keeps soundness. -/
@[simp ↓] theorem State.refEligible_sound {fz : Fuses} (s : State) (r : Nat) (hs : s.sound fz = true) :
    ((State.refEligible s r)).sound fz = true := by
  simp (maxDischargeDepth := 99) +contextual [State.refEligible, *]

/-- `State.judgeRef` keeps soundness. -/
@[simp ↓] theorem State.judgeRef_sound {fz : Fuses} (s : State) (r : Nat) (hs : s.sound fz = true) :
    ((State.judgeRef s r)).sound fz = true := by
  simp (maxDischargeDepth := 99) +contextual [State.judgeRef, *]

/-- `State.sourcesFollow` keeps soundness. -/
@[simp ↓] theorem State.sourcesFollow_sound {fz : Fuses} (s : State) (hs : s.sound fz = true) :
    ((State.sourcesFollow s)).sound fz = true := by
  simp (maxDischargeDepth := 99) +contextual [State.sourcesFollow, *]

/-- `State.histShow` keeps soundness. -/
@[simp ↓] theorem State.histShow_sound {fz : Fuses} (s : State) (hs : s.sound fz = true) :
    ((State.histShow s)).sound fz = true := by
  unfold State.histShow
  repeat' first
    | (extract_lets +onlyGivenNames x
       have hx : State.sound fz x = true := by
         simp only [x]
         repeat' split
         all_goals simp (maxDischargeDepth := 99) +contextual [*]
       clear_value x)
    | (extract_lets +onlyGivenNames x
       have hx : State.sound fz x.1 = true := by
         simp only [x]
         repeat' split
         all_goals simp (maxDischargeDepth := 99) +contextual [*]
       clear_value x)
    | (extract_lets +onlyGivenNames x
       have hx : ∀ s a, State.sound fz s = true → State.sound fz (x s a) = true := by
         intro s a hs
         simp only [x]
         simp (maxDischargeDepth := 99) +contextual [*]
       clear_value x)
    | (extract_lets +onlyGivenNames x; clear_value x)
    | split
  all_goals simp (maxDischargeDepth := 99) +contextual [*]

/-- `State.histTaint` keeps soundness. -/
@[simp ↓] theorem State.histTaint_sound {fz : Fuses} (s : State) (hs : s.sound fz = true) :
    ((State.histTaint s)).sound fz = true := by
  simp (maxDischargeDepth := 99) +contextual [State.histTaint, *]

/-- `State.historySample` keeps soundness. -/
@[simp ↓] theorem State.historySample_sound {fz : Fuses} (s : State) (off : Int) (hs : s.sound fz = true) :
    ((State.historySample s off)).sound fz = true := by
  simp (maxDischargeDepth := 99) +contextual [State.historySample, *]

/-- `State.timRecord` keeps soundness. -/
@[simp ↓] theorem State.timRecord_sound {fz : Fuses} (s : State) (old : Nat) (new : Nat) (hs : s.sound fz = true) :
    ((State.timRecord s old new)).sound fz = true := by
  simp (maxDischargeDepth := 99) +contextual [State.timRecord, *]

/-- `State.dpllState` keeps soundness. -/
@[simp ↓] theorem State.dpllState_sound {fz : Fuses} (s : State) (st : Nat) (hs : s.sound fz = true) :
    ((State.dpllState s st)).sound fz = true := by
  simp (maxDischargeDepth := 99) +contextual [State.dpllState, *]

/-- `State.dpllLost` keeps soundness. -/
@[simp ↓] theorem State.dpllLost_sound {fz : Fuses} (s : State) (hs : s.sound fz = true) :
    ((State.dpllLost s)).sound fz = true := by
  simp (maxDischargeDepth := 99) +contextual [State.dpllLost, *]

/-- `State.dpllUnlocked` keeps soundness. -/
@[simp ↓] theorem State.dpllUnlocked_sound {fz : Fuses} (s : State) (hs : s.sound fz = true) :
    ((State.dpllUnlocked s)).sound fz = true := by
  simp (maxDischargeDepth := 99) +contextual [State.dpllUnlocked, *]

/-- `State.setSel` keeps soundness. -/
@[simp ↓] theorem State.setSel_sound {fz : Fuses} (s : State) (r : Nat) (hs : s.sound fz = true) :
    ((State.setSel s r)).sound fz = true := by
  simp (maxDischargeDepth := 99) +contextual [State.setSel, *]

/-- `State.select` keeps soundness. -/
@[simp ↓] theorem State.select_sound {fz : Fuses} (s : State) (hs : s.sound fz = true) :
    ((State.select s)).sound fz = true := by
  unfold State.select
  repeat' first
    | (extract_lets +onlyGivenNames x
       have hx : State.sound fz x = true := by
         simp only [x]
         repeat' split
         all_goals simp (maxDischargeDepth := 99) +contextual [*]
       clear_value x)
    | (extract_lets +onlyGivenNames x
       have hx : State.sound fz x.1 = true := by
         simp only [x]
         repeat' split
         all_goals simp (maxDischargeDepth := 99) +contextual [*]
       clear_value x)
    | (extract_lets +onlyGivenNames x
       have hx : ∀ s a, State.sound fz s = true → State.sound fz (x s a) = true := by
         intro s a hs
         simp only [x]
         simp (maxDischargeDepth := 99) +contextual [*]
       clear_value x)
    | (extract_lets +onlyGivenNames x; clear_value x)
    | split
  all_goals simp (maxDischargeDepth := 99) +contextual [*]

/-- `State.outputMoves` keeps soundness. -/
@[simp ↓] theorem State.outputMoves_sound {fz : Fuses} (s : State) (off : Int) (hs : s.sound fz = true) :
    ((State.outputMoves s off)).sound fz = true := by
  simp (maxDischargeDepth := 99) +contextual [State.outputMoves, *]

/-- `State.refCompare` keeps soundness. -/
@[simp ↓] theorem State.refCompare_sound {fz : Fuses} (s : State) (r : Nat) (hs : s.sound fz = true) :
    ((State.refCompare s r)).sound fz = true := by
  simp (maxDischargeDepth := 99) +contextual [State.refCompare, *]

/-- `State.evalSelection` keeps soundness. -/
@[simp ↓] theorem State.evalSelection_sound {fz : Fuses} (s : State) (off : Int) (hs : s.sound fz = true) :
    ((State.evalSelection s off)).sound fz = true := by
  simp (maxDischargeDepth := 99) +contextual [State.evalSelection, *]

/-- `State.windowReset` keeps soundness. -/
@[simp ↓] theorem State.windowReset_sound {fz : Fuses} (s : State) (r : Nat) (hs : s.sound fz = true) :
    ((State.windowReset s r)).sound fz = true := by
  simp (maxDischargeDepth := 99) +contextual [State.windowReset, *]

/-- `State.refFails` keeps soundness. -/
@[simp ↓] theorem State.refFails_sound {fz : Fuses} (s : State) (r : Nat) (gross : Bool) (hs : s.sound fz = true) :
    ((State.refFails s r gross)).sound fz = true := by
  simp (maxDischargeDepth := 99) +contextual [State.refFails, *]

/-- `State.refFailEnds` keeps soundness. -/
@[simp ↓] theorem State.refFailEnds_sound {fz : Fuses} (s : State) (r : Nat) (hs : s.sound fz = true) :
    ((State.refFailEnds s r)).sound fz = true := by
  simp (maxDischargeDepth := 99) +contextual [State.refFailEnds, *]

/-- `State.refSample` keeps soundness. -/
@[simp ↓] theorem State.refSample_sound {fz : Fuses} (s : State) (r : Nat) (off : Int) (hs : s.sound fz = true) :
    ((State.refSample s r off)).sound fz = true := by
  simp (maxDischargeDepth := 99) +contextual [State.refSample, *]

/-- `State.refWtrExpires` keeps soundness. -/
@[simp ↓] theorem State.refWtrExpires_sound {fz : Fuses} (s : State) (r : Nat) (hs : s.sound fz = true) :
    ((State.refWtrExpires s r)).sound fz = true := by
  simp (maxDischargeDepth := 99) +contextual [State.refWtrExpires, *]

/-- `State.acqLocked` keeps soundness. -/
@[simp ↓] theorem State.acqLocked_sound {fz : Fuses} (s : State) (hs : s.sound fz = true) :
    ((State.acqLocked s)).sound fz = true := by
  simp (maxDischargeDepth := 99) +contextual [State.acqLocked, *]

/-- `State.acqTimeout` keeps soundness. -/
@[simp ↓] theorem State.acqTimeout_sound {fz : Fuses} (s : State) (hs : s.sound fz = true) :
    ((State.acqTimeout s)).sound fz = true := by
  simp (maxDischargeDepth := 99) +contextual [State.acqTimeout, *]

/-- `State.holdLimitExpires` keeps soundness. -/
@[simp ↓] theorem State.holdLimitExpires_sound {fz : Fuses} (s : State) (hs : s.sound fz = true) :
    ((State.holdLimitExpires s)).sound fz = true := by
  simp (maxDischargeDepth := 99) +contextual [State.holdLimitExpires, *]

/-- `State.boleroEnds` keeps soundness. -/
@[simp ↓] theorem State.boleroEnds_sound {fz : Fuses} (s : State) (hs : s.sound fz = true) :
    ((State.boleroEnds s)).sound fz = true := by
  simp (maxDischargeDepth := 99) +contextual [State.boleroEnds, *]

/-- `State.ppsOut` keeps soundness. -/
@[simp ↓] theorem State.ppsOut_sound {fz : Fuses} (s : State) (hs : s.sound fz = true) :
    ((State.ppsOut s)).sound fz = true := by
  simp (maxDischargeDepth := 99) +contextual [State.ppsOut, *]

/-! ## Machine/LabelOps.lean -/

/-- `State.setLtx` keeps soundness. -/
@[simp ↓] theorem State.setLtx_sound {fz : Fuses} (s : State) (c : Nat) (v : LblTx) (hs : s.sound fz = true) :
    ((State.setLtx s c v)).sound fz = true := by
  simp (maxDischargeDepth := 99) +contextual [State.setLtx, *]

/-- `State.lblOnAir` keeps soundness. -/
@[simp ↓] theorem State.lblOnAir_sound {fz : Fuses} (s : State) (c : Nat) (p : LblPacket) (hs : s.sound fz = true) :
    ((State.lblOnAir s c p)).sound fz = true := by
  simp (maxDischargeDepth := 99) +contextual [State.lblOnAir, *]

/-- `State.lblNext` keeps soundness. -/
@[simp ↓] theorem State.lblNext_sound {fz : Fuses} (s : State) (c : Nat) (hs : s.sound fz = true) :
    ((State.lblNext s c)).sound fz = true := by
  unfold State.lblNext
  repeat' first
    | (extract_lets +onlyGivenNames x
       have hx : State.sound fz x = true := by
         simp only [x]
         repeat' split
         all_goals simp (maxDischargeDepth := 99) +contextual [*]
       clear_value x)
    | (extract_lets +onlyGivenNames x
       have hx : State.sound fz x.1 = true := by
         simp only [x]
         repeat' split
         all_goals simp (maxDischargeDepth := 99) +contextual [*]
       clear_value x)
    | (extract_lets +onlyGivenNames x
       have hx : ∀ s a, State.sound fz s = true → State.sound fz (x s a) = true := by
         intro s a hs
         simp only [x]
         simp (maxDischargeDepth := 99) +contextual [*]
       clear_value x)
    | (extract_lets +onlyGivenNames x; clear_value x)
    | split
  all_goals simp (maxDischargeDepth := 99) +contextual [*]

/-- `State.lblStops` keeps soundness. -/
@[simp ↓] theorem State.lblStops_sound {fz : Fuses} (s : State) (c : Nat) (hs : s.sound fz = true) :
    ((State.lblStops s c)).sound fz = true := by
  simp (maxDischargeDepth := 99) +contextual [State.lblStops, *]

/-- `State.lblCut` keeps soundness. -/
@[simp ↓] theorem State.lblCut_sound {fz : Fuses} (s : State) (c : Nat) (hs : s.sound fz = true) :
    ((State.lblCut s c)).sound fz = true := by
  simp (maxDischargeDepth := 99) +contextual [State.lblCut, *]

/-- `State.lblFollow` keeps soundness. -/
@[simp ↓] theorem State.lblFollow_sound {fz : Fuses} (s : State) (c : Nat) (hs : s.sound fz = true) :
    ((State.lblFollow s c)).sound fz = true := by
  simp (maxDischargeDepth := 99) +contextual [State.lblFollow, *]

/-- `State.lblDark` keeps soundness. -/
@[simp ↓] theorem State.lblDark_sound {fz : Fuses} (s : State) (m : Master) (c : Nat) (hs : s.sound fz = true) :
    ((State.lblDark s m c)).sound fz = true := by
  simp (maxDischargeDepth := 99) +contextual [State.lblDark, *]

/-- `State.lblSendUser` keeps soundness. -/
@[simp ↓] theorem State.lblSendUser_sound {fz : Fuses} (s : State) (m : Master) (c : Nat) (data : Nat) (hs : s.sound fz = true) :
    ((State.lblSendUser s m c data)).sound fz = true := by
  simp (maxDischargeDepth := 99) +contextual [State.lblSendUser, *]

/-- `State.gaspDue` keeps soundness. -/
@[simp ↓] theorem State.gaspDue_sound {fz : Fuses} (s : State) (c : Nat) (reason : Nat) (code : Nat) (hs : s.sound fz = true) :
    ((State.gaspDue s c reason code)).sound fz = true := by
  simp (maxDischargeDepth := 99) +contextual [State.gaspDue, *]

/-- `State.lblGaspCmd` keeps soundness. -/
@[simp ↓] theorem State.lblGaspCmd_sound {fz : Fuses} (s : State) (m : Master) (c : Nat) (data : Nat) (hs : s.sound fz = true) :
    ((State.lblGaspCmd s m c data)).sound fz = true := by
  simp (maxDischargeDepth := 99) +contextual [State.lblGaspCmd, *]

/-- `State.gaspEvent` keeps soundness. -/
@[simp ↓] theorem State.gaspEvent_sound {fz : Fuses} (s : State) (c : Nat) (reason : Nat) (hs : s.sound fz = true) :
    ((State.gaspEvent s c reason)).sound fz = true := by
  simp (maxDischargeDepth := 99) +contextual [State.gaspEvent, *]

/-- `State.lblAbort` keeps soundness. -/
@[simp ↓] theorem State.lblAbort_sound {fz : Fuses} (s : State) (c : Nat) (hs : s.sound fz = true) :
    ((State.lblAbort s c)).sound fz = true := by
  unfold State.lblAbort
  repeat' first
    | (extract_lets +onlyGivenNames x
       have hx : State.sound fz x = true := by
         simp only [x]
         repeat' split
         all_goals simp (maxDischargeDepth := 99) +contextual [*]
       clear_value x)
    | (extract_lets +onlyGivenNames x
       have hx : State.sound fz x.1 = true := by
         simp only [x]
         repeat' split
         all_goals simp (maxDischargeDepth := 99) +contextual [*]
       clear_value x)
    | (extract_lets +onlyGivenNames x
       have hx : ∀ s a, State.sound fz s = true → State.sound fz (x s a) = true := by
         intro s a hs
         simp only [x]
         simp (maxDischargeDepth := 99) +contextual [*]
       clear_value x)
    | (extract_lets +onlyGivenNames x; clear_value x)
    | split
  all_goals simp (maxDischargeDepth := 99) +contextual [*]

/-- `State.lblCmd` keeps soundness. -/
@[simp ↓] theorem State.lblCmd_sound {fz : Fuses} (s : State) (m : Master) (c : Nat) (data : Nat) (hs : s.sound fz = true) :
    ((State.lblCmd s m c data)).sound fz = true := by
  unfold State.lblCmd
  repeat' first
    | (extract_lets +onlyGivenNames x
       have hx : State.sound fz x = true := by
         simp only [x]
         repeat' split
         all_goals simp (maxDischargeDepth := 99) +contextual [*]
       clear_value x)
    | (extract_lets +onlyGivenNames x
       have hx : State.sound fz x.1 = true := by
         simp only [x]
         repeat' split
         all_goals simp (maxDischargeDepth := 99) +contextual [*]
       clear_value x)
    | (extract_lets +onlyGivenNames x
       have hx : ∀ s a, State.sound fz s = true → State.sound fz (x s a) = true := by
         intro s a hs
         simp only [x]
         simp (maxDischargeDepth := 99) +contextual [*]
       clear_value x)
    | (extract_lets +onlyGivenNames x; clear_value x)
    | split
  all_goals simp (maxDischargeDepth := 99) +contextual [*]

/-- `State.identDue` keeps soundness. -/
@[simp ↓] theorem State.identDue_sound {fz : Fuses} (s : State) (c : Nat) (hs : s.sound fz = true) :
    ((State.identDue s c)).sound fz = true := by
  simp (maxDischargeDepth := 99) +contextual [State.identDue, *]

/-- `State.lblSent` keeps soundness. -/
@[simp ↓] theorem State.lblSent_sound {fz : Fuses} (s : State) (c : Nat) (hs : s.sound fz = true) :
    ((State.lblSent s c)).sound fz = true := by
  unfold State.lblSent
  repeat' first
    | (extract_lets +onlyGivenNames x
       have hx : State.sound fz x = true := by
         simp only [x]
         repeat' split
         all_goals simp (maxDischargeDepth := 99) +contextual [*]
       clear_value x)
    | (extract_lets +onlyGivenNames x
       have hx : State.sound fz x.1 = true := by
         simp only [x]
         repeat' split
         all_goals simp (maxDischargeDepth := 99) +contextual [*]
       clear_value x)
    | (extract_lets +onlyGivenNames x
       have hx : ∀ s a, State.sound fz s = true → State.sound fz (x s a) = true := by
         intro s a hs
         simp only [x]
         simp (maxDischargeDepth := 99) +contextual [*]
       clear_value x)
    | (extract_lets +onlyGivenNames x; clear_value x)
    | split
  all_goals simp (maxDischargeDepth := 99) +contextual [*]

/-- `State.setLrx` keeps soundness. -/
@[simp ↓] theorem State.setLrx_sound {fz : Fuses} (s : State) (x : Nat) (v : LblRx) (hs : s.sound fz = true) :
    ((State.setLrx s x v)).sound fz = true := by
  simp (maxDischargeDepth := 99) +contextual [State.setLrx, *]

/-- `State.lrxFollow` keeps soundness. -/
@[simp ↓] theorem State.lrxFollow_sound {fz : Fuses} (s : State) (x : Nat) (hs : s.sound fz = true) :
    ((State.lrxFollow s x)).sound fz = true := by
  simp (maxDischargeDepth := 99) +contextual [State.lrxFollow, *]

/-- `State.lblCandidate` keeps soundness. -/
@[simp ↓] theorem State.lblCandidate_sound {fz : Fuses} (s : State) (x : Nat) (sf : Nat) (c : Nat) (netid : Nat) (time : Nat) (hs : s.sound fz = true) :
    ((State.lblCandidate s x sf c netid time)).sound fz = true := by
  unfold State.lblCandidate
  repeat' first
    | (extract_lets +onlyGivenNames x
       have hx : State.sound fz x = true := by
         simp only [x]
         repeat' split
         all_goals simp (maxDischargeDepth := 99) +contextual [*]
       clear_value x)
    | (extract_lets +onlyGivenNames x
       have hx : State.sound fz x.1 = true := by
         simp only [x]
         repeat' split
         all_goals simp (maxDischargeDepth := 99) +contextual [*]
       clear_value x)
    | (extract_lets +onlyGivenNames x
       have hx : ∀ s a, State.sound fz s = true → State.sound fz (x s a) = true := by
         intro s a hs
         simp only [x]
         simp (maxDischargeDepth := 99) +contextual [*]
       clear_value x)
    | (extract_lets +onlyGivenNames x; clear_value x)
    | split
  all_goals simp (maxDischargeDepth := 99) +contextual [*]

/-- `State.lrxNext` keeps soundness. -/
@[simp ↓] theorem State.lrxNext_sound {fz : Fuses} (s : State) (x : Nat) (hs : s.sound fz = true) :
    ((State.lrxNext s x)).sound fz = true := by
  simp (maxDischargeDepth := 99) +contextual [State.lrxNext, *]

/-- `State.lblHeaderDecoded` keeps soundness. -/
@[simp ↓] theorem State.lblHeaderDecoded_sound {fz : Fuses} (s : State) (x : Nat) (hdr : Nat) (corrected : Bool) (hs : s.sound fz = true) :
    ((State.lblHeaderDecoded s x hdr corrected)).sound fz = true := by
  simp (maxDischargeDepth := 99) +contextual [State.lblHeaderDecoded, *]

/-- `State.lblBoundary` keeps soundness. -/
@[simp ↓] theorem State.lblBoundary_sound {fz : Fuses} (s : State) (x : Nat) (hs : s.sound fz = true) :
    ((State.lblBoundary s x)).sound fz = true := by
  unfold State.lblBoundary
  repeat' first
    | (extract_lets +onlyGivenNames x
       have hx : State.sound fz x = true := by
         simp only [x]
         repeat' split
         all_goals simp (maxDischargeDepth := 99) +contextual [*]
       clear_value x)
    | (extract_lets +onlyGivenNames x
       have hx : State.sound fz x.1 = true := by
         simp only [x]
         repeat' split
         all_goals simp (maxDischargeDepth := 99) +contextual [*]
       clear_value x)
    | (extract_lets +onlyGivenNames x
       have hx : ∀ s a, State.sound fz s = true → State.sound fz (x s a) = true := by
         intro s a hs
         simp only [x]
         simp (maxDischargeDepth := 99) +contextual [*]
       clear_value x)
    | (extract_lets +onlyGivenNames x; clear_value x)
    | split
  all_goals simp (maxDischargeDepth := 99) +contextual [*]

/-- `State.lblDeliver` keeps soundness. -/
@[simp ↓] theorem State.lblDeliver_sound {fz : Fuses} (s : State) (x : Nat) (typ : Nat) (rec : List Nat) (hs : s.sound fz = true) :
    ((State.lblDeliver s x typ rec)).sound fz = true := by
  simp (maxDischargeDepth := 99) +contextual [State.lblDeliver, *]

/-- `State.lblPacketEnd` keeps soundness. -/
@[simp ↓] theorem State.lblPacketEnd_sound {fz : Fuses} (s : State) (x : Nat) (now : Nat) (bytes : List Nat) (corrected : Bool) (rate : Int) (snr : Int) (depth : Nat) (hs : s.sound fz = true) :
    ((State.lblPacketEnd s x now bytes corrected rate snr depth)).sound fz = true := by
  unfold State.lblPacketEnd
  repeat' first
    | (extract_lets +onlyGivenNames x
       have hx : State.sound fz x = true := by
         simp only [x]
         repeat' split
         all_goals simp (maxDischargeDepth := 99) +contextual [*]
       clear_value x)
    | (extract_lets +onlyGivenNames x
       have hx : State.sound fz x.1 = true := by
         simp only [x]
         repeat' split
         all_goals simp (maxDischargeDepth := 99) +contextual [*]
       clear_value x)
    | (extract_lets +onlyGivenNames x
       have hx : ∀ s a, State.sound fz s = true → State.sound fz (x s a) = true := by
         intro s a hs
         simp only [x]
         simp (maxDischargeDepth := 99) +contextual [*]
       clear_value x)
    | (extract_lets +onlyGivenNames x; clear_value x)
    | split
  all_goals simp (maxDischargeDepth := 99) +contextual [*]

/-- `State.rxqCmd` keeps soundness. -/
@[simp ↓] theorem State.rxqCmd_sound {fz : Fuses} (s : State) (m : Master) (x : Nat) (op : Nat) (hs : s.sound fz = true) :
    ((State.rxqCmd s m x op)).sound fz = true := by
  unfold State.rxqCmd
  repeat' first
    | (extract_lets +onlyGivenNames x
       have hx : State.sound fz x = true := by
         simp only [x]
         repeat' split
         all_goals simp (maxDischargeDepth := 99) +contextual [*]
       clear_value x)
    | (extract_lets +onlyGivenNames x
       have hx : State.sound fz x.1 = true := by
         simp only [x]
         repeat' split
         all_goals simp (maxDischargeDepth := 99) +contextual [*]
       clear_value x)
    | (extract_lets +onlyGivenNames x
       have hx : ∀ s a, State.sound fz s = true → State.sound fz (x s a) = true := by
         intro s a hs
         simp only [x]
         simp (maxDischargeDepth := 99) +contextual [*]
       clear_value x)
    | (extract_lets +onlyGivenNames x; clear_value x)
    | split
  all_goals simp (maxDischargeDepth := 99) +contextual [*]

end Sys2Proof.Machine
end

