-- ==== Sys2Proof/Laws/SoundSystem.lean ====
section
/-! SUPPORT. Soundness of the operations of modes, mailbox, settling, tests, control firmware, twin control, register access, bus and console. -/

namespace Sys2Proof.Machine

/-! ## Machine/ModeOps.lean -/

/-- `State.coreReset` keeps soundness. -/
@[simp ↓] theorem State.coreReset_sound {fz : Fuses} (s : State) (k : Nat) (hs : s.sound fz = true) :
    ((State.coreReset s k)).sound fz = true := by
  simp (maxDischargeDepth := 99) +contextual [State.coreReset, *]

/-- `State.setMode` keeps soundness. -/
@[simp ↓] theorem State.setMode_sound {fz : Fuses} (s : State) (new : Mode) (cause : Nat) (by_ : Nat) (hs : s.sound fz = true) :
    ((State.setMode s new cause by_)).sound fz = true := by
  simp (maxDischargeDepth := 99) +contextual [State.setMode, *]

/-- `State.staleInService` keeps soundness. -/
@[simp ↓] theorem State.staleInService_sound {fz : Fuses} (s : State) (hs : s.sound fz = true) :
    ((State.staleInService s)).sound fz = true := by
  simp (maxDischargeDepth := 99) +contextual [State.staleInService, *]

/-- `State.toStale` keeps soundness. -/
@[simp ↓] theorem State.toStale_sound {fz : Fuses} (s : State) (why : Nat) (hs : s.sound fz = true) :
    ((State.toStale s why)).sound fz = true := by
  simp (maxDischargeDepth := 99) +contextual [State.toStale, *]

/-- `State.refusePending` keeps soundness. -/
@[simp ↓] theorem State.refusePending_sound {fz : Fuses} (s : State) (hs : s.sound fz = true) :
    ((State.refusePending s)).sound fz = true := by
  simp (maxDischargeDepth := 99) +contextual [State.refusePending, *]

/-- `State.dropReq` keeps soundness. -/
@[simp ↓] theorem State.dropReq_sound {fz : Fuses} (s : State) (hs : s.sound fz = true) :
    ((State.dropReq s)).sound fz = true := by
  simp (maxDischargeDepth := 99) +contextual [State.dropReq, *]

/-- `State.fatal` keeps soundness. -/
@[simp ↓] theorem State.fatal_sound {fz : Fuses} (s : State) (cls : Nat) (code : Nat) (detail : List Nat) (hs : s.sound fz = true) :
    ((State.fatal s cls code detail)).sound fz = true := by
  simp (maxDischargeDepth := 99) +contextual [State.fatal, *]

/-- `State.firmwareStops` keeps soundness. -/
@[simp ↓] theorem State.firmwareStops_sound {fz : Fuses} (s : State) (hs : s.sound fz = true) :
    ((State.firmwareStops s)).sound fz = true := by
  simp (maxDischargeDepth := 99) +contextual [State.firmwareStops, *]

/-- `State.enterService` keeps soundness. -/
@[simp ↓] theorem State.enterService_sound {fz : Fuses} (s : State) (cause : Nat) (hs : s.sound fz = true) :
    ((State.enterService s cause)).sound fz = true := by
  simp (maxDischargeDepth := 99) +contextual [State.enterService, *]

/-- `State.serviceIfHalted` keeps soundness. -/
@[simp ↓] theorem State.serviceIfHalted_sound {fz : Fuses} (s : State) (hs : s.sound fz = true) :
    ((State.serviceIfHalted s)).sound fz = true := by
  simp (maxDischargeDepth := 99) +contextual [State.serviceIfHalted, *]

/-- `State.refuseReq` keeps soundness. -/
@[simp ↓] theorem State.refuseReq_sound {fz : Fuses} (s : State) (m : Master) (hs : s.sound fz = true) :
    ((State.refuseReq s m)).sound fz = true := by
  simp (maxDischargeDepth := 99) +contextual [State.refuseReq, *]

/-- `State.modeReq` keeps soundness. -/
@[simp ↓] theorem State.modeReq_sound {fz : Fuses} (s : State) (m : Master) (op : Nat) (hs : s.sound fz = true) :
    ((State.modeReq s m op)).sound fz = true := by
  rw [State.modeReq]
  by_cases h : s.transiting = true
  · rw [if_pos h]; exact State.refuseReq_sound _ _ hs
  · rw [if_neg h]
    have h1 : ({ s with dev := { s.dev with reqBy := masterId m } } : State).sound fz = true := hs
    generalize ({ s with dev := { s.dev with reqBy := masterId m } } : State) = t at h1 ⊢
    dsimp only
    split <;> (try split) <;> simp [*]

/-- `State.takeModeReq` keeps soundness. -/
@[simp ↓] theorem State.takeModeReq_sound {fz : Fuses} (s : State) (hs : s.sound fz = true) :
    ((State.takeModeReq s)).sound fz = true := by
  unfold State.takeModeReq
  repeat' first
    | (extract_lets +onlyGivenNames x
       have hx : State.sound fz x = true := by
         simp only [x]
         repeat' split
         all_goals simp (maxDischargeDepth := 99) +contextual [*]
       clear_value x)
    | (extract_lets +onlyGivenNames x
       have hx : State.sound fz x.1 = true := by
         simp only [x]
         repeat' split
         all_goals simp (maxDischargeDepth := 99) +contextual [*]
       clear_value x)
    | (extract_lets +onlyGivenNames x
       have hx : ∀ s a, State.sound fz s = true → State.sound fz (x s a) = true := by
         intro s a hs
         simp only [x]
         simp (maxDischargeDepth := 99) +contextual [*]
       clear_value x)
    | (extract_lets +onlyGivenNames x; clear_value x)
    | split
  all_goals simp (maxDischargeDepth := 99) +contextual [*]

/-- `State.firstKick` keeps soundness. -/
@[simp ↓] theorem State.firstKick_sound {fz : Fuses} (s : State) (hs : s.sound fz = true) :
    ((State.firstKick s)).sound fz = true := by
  simp (maxDischargeDepth := 99) +contextual [State.firstKick, *]

/-- `State.leaveReset` keeps soundness. -/
@[simp ↓] theorem State.leaveReset_sound {fz : Fuses} (s : State) (hs : s.sound fz = true) :
    ((State.leaveReset s)).sound fz = true := by
  simp (maxDischargeDepth := 99) +contextual [State.leaveReset, *]

/-- `State.fullReset` keeps soundness. -/
@[simp ↓] theorem State.fullReset_sound {fz : Fuses} (s : State) (bit : Nat) (hs : s.sound fz = true) :
    ((State.fullReset s bit)).sound fz = true := by
  simp (maxDischargeDepth := 99) +contextual [State.fullReset, *]

/-- `State.perstFollow` keeps soundness. -/
@[simp ↓] theorem State.perstFollow_sound {fz : Fuses} (s : State) (hs : s.sound fz = true) :
    ((State.perstFollow s)).sound fz = true := by
  simp (maxDischargeDepth := 99) +contextual [State.perstFollow, *]

/-- `State.toDormant` keeps soundness. -/
@[simp ↓] theorem State.toDormant_sound {fz : Fuses} (s : State) (hs : s.sound fz = true) :
    ((State.toDormant s)).sound fz = true := by
  simp (maxDischargeDepth := 99) +contextual [State.toDormant, *]

/-- `State.bootEnds` keeps soundness. -/
@[simp ↓] theorem State.bootEnds_sound {fz : Fuses} (s : State) (image : Nat) (ms : Nat) (hs : s.sound fz = true) :
    ((State.bootEnds s image ms)).sound fz = true := by
  simp (maxDischargeDepth := 99) +contextual [State.bootEnds, *]

/-- `State.trySlots` keeps soundness. -/
@[simp ↓] theorem State.trySlots_sound {fz : Fuses} (s : State) (b : BootInput) (x0 : List Nat) (hs : s.sound fz = true) :
    ((State.trySlots s b x0)).sound fz = true := by
  induction x0 generalizing s with
  | nil => unfold State.trySlots; simp (maxDischargeDepth := 99) [*]
  | cons i l ih =>
    unfold State.trySlots
    extract_lets sl e s1 s2
    have h1 : s1.sound fz = true := by simp (maxDischargeDepth := 99) [s1, *]
    clear_value sl e s1
    split
    · exact ih _ (State.fset_sound _ _ h1)
    · split
      · exact hs
      · simp (maxDischargeDepth := 99) [*]

/-- `State.bootFatal` keeps soundness. -/
@[simp ↓] theorem State.bootFatal_sound {fz : Fuses} (s : State) (cls : Nat) (code : Nat) (hs : s.sound fz = true) :
    ((State.bootFatal s cls code)).sound fz = true := by
  simp (maxDischargeDepth := 99) +contextual [State.bootFatal, *]

/-- `State.bootComplete` keeps soundness. -/
@[simp ↓] theorem State.bootComplete_sound {fz : Fuses} (s : State) (b : BootInput) (hs : s.sound fz = true) :
    ((State.bootComplete s b)).sound fz = true := by
  unfold State.bootComplete
  repeat' first
    | (extract_lets +onlyGivenNames x
       have hx : State.sound fz x = true := by
         simp only [x]
         repeat' split
         all_goals simp (maxDischargeDepth := 99) +contextual [*]
       clear_value x)
    | (extract_lets +onlyGivenNames x
       have hx : State.sound fz x.1 = true := by
         simp only [x]
         repeat' split
         all_goals simp (maxDischargeDepth := 99) +contextual [*]
       clear_value x)
    | (extract_lets +onlyGivenNames x
       have hx : ∀ s a, State.sound fz s = true → State.sound fz (x s a) = true := by
         intro s a hs
         simp only [x]
         simp (maxDischargeDepth := 99) +contextual [*]
       clear_value x)
    | (extract_lets +onlyGivenNames x; clear_value x)
    | split
  all_goals simp (maxDischargeDepth := 99) +contextual [*]

/-- `State.leaveBringUp` keeps soundness. -/
@[simp ↓] theorem State.leaveBringUp_sound {fz : Fuses} (s : State) (dest : Mode) (cause : Nat) (hs : s.sound fz = true) :
    ((State.leaveBringUp s dest cause)).sound fz = true := by
  simp (maxDischargeDepth := 99) +contextual [State.leaveBringUp, *]

/-- `State.bringUpExit` keeps soundness. -/
@[simp ↓] theorem State.bringUpExit_sound {fz : Fuses} (s : State) (hs : s.sound fz = true) :
    ((State.bringUpExit s)).sound fz = true := by
  unfold State.bringUpExit
  repeat' first
    | (extract_lets +onlyGivenNames x
       have hx : State.sound fz x = true := by
         simp only [x]
         repeat' split
         all_goals simp (maxDischargeDepth := 99) +contextual [*]
       clear_value x)
    | (extract_lets +onlyGivenNames x
       have hx : State.sound fz x.1 = true := by
         simp only [x]
         repeat' split
         all_goals simp (maxDischargeDepth := 99) +contextual [*]
       clear_value x)
    | (extract_lets +onlyGivenNames x
       have hx : ∀ s a, State.sound fz s = true → State.sound fz (x s a) = true := by
         intro s a hs
         simp only [x]
         simp (maxDischargeDepth := 99) +contextual [*]
       clear_value x)
    | (extract_lets +onlyGivenNames x; clear_value x)
    | split
  all_goals simp (maxDischargeDepth := 99) +contextual [*]

/-! ## Machine/MboxOps.lean -/

/-- `State.mboxFill` keeps soundness. -/
@[simp ↓] theorem State.mboxFill_sound {fz : Fuses} (s : State) (x0 : Nat) (x1 : Nat) (x2 : List Nat) (hs : s.sound fz = true) :
    ((State.mboxFill s x0 x1 x2)).sound fz = true := by
  induction x0 generalizing s x1 x2 with
  | zero => exact hs
  | succ n ih => exact ih _ _ _ (State.fset_sound _ _ hs)

/-- `State.mboxPut` keeps soundness. -/
@[simp ↓] theorem State.mboxPut_sound {fz : Fuses} (s : State) (l : List Nat) (hs : s.sound fz = true) :
    ((State.mboxPut s l)).sound fz = true := by
  simp (maxDischargeDepth := 99) +contextual [State.mboxPut, *]

/-- `mboxEnd` keeps soundness. -/
@[simp ↓] theorem mboxEnd_sound {fz : Fuses} (r : Nat) (s : State) (hs : s.sound fz = true) :
    ((mboxEnd r s).st).sound fz = true := by
  simp (maxDischargeDepth := 99) +contextual [mboxEnd, *]

/-- `State.mboxIssue` keeps soundness. -/
@[simp ↓] theorem State.mboxIssue_sound {fz : Fuses} (s : State) (m : Master) (op : Nat) (len : Nat) (run : State → List Nat → MboxResult) (hs : s.sound fz = true) (hrun : ∀ s l, s.sound fz = true → (run s l).st.sound fz = true) :
    ((State.mboxIssue s m op len run)).sound fz = true := by
  simp (maxDischargeDepth := 99) +contextual [State.mboxIssue, *]

/-- `mboxAttest` keeps soundness. -/
@[simp ↓] theorem mboxAttest_sound {fz : Fuses} (s : State) (inp : List Nat) (hs : s.sound fz = true) :
    ((mboxAttest s inp).st).sound fz = true := by
  unfold mboxAttest
  repeat' first
    | (extract_lets +onlyGivenNames x
       have hx : State.sound fz x = true := by
         simp only [x]
         repeat' split
         all_goals simp (maxDischargeDepth := 99) +contextual [*]
       clear_value x)
    | (extract_lets +onlyGivenNames x
       have hx : State.sound fz x.1 = true := by
         simp only [x]
         repeat' split
         all_goals simp (maxDischargeDepth := 99) +contextual [*]
       clear_value x)
    | (extract_lets +onlyGivenNames x
       have hx : ∀ s a, State.sound fz s = true → State.sound fz (x s a) = true := by
         intro s a hs
         simp only [x]
         simp (maxDischargeDepth := 99) +contextual [*]
       clear_value x)
    | (extract_lets +onlyGivenNames x; clear_value x)
    | split
  all_goals simp (maxDischargeDepth := 99) +contextual [*]

/-- `mboxKeyLoad` keeps soundness. -/
@[simp ↓] theorem mboxKeyLoad_sound {fz : Fuses} (s : State) (p : List Nat) (hs : s.sound fz = true) :
    ((mboxKeyLoad s p).st).sound fz = true := by
  unfold mboxKeyLoad
  repeat' first
    | (extract_lets +onlyGivenNames x
       have hx : State.sound fz x = true := by
         simp only [x]
         repeat' split
         all_goals simp (maxDischargeDepth := 99) +contextual [*]
       clear_value x)
    | (extract_lets +onlyGivenNames x
       have hx : State.sound fz x.1 = true := by
         simp only [x]
         repeat' split
         all_goals simp (maxDischargeDepth := 99) +contextual [*]
       clear_value x)
    | (extract_lets +onlyGivenNames x
       have hx : ∀ s a, State.sound fz s = true → State.sound fz (x s a) = true := by
         intro s a hs
         simp only [x]
         simp (maxDischargeDepth := 99) +contextual [*]
       clear_value x)
    | (extract_lets +onlyGivenNames x; clear_value x)
    | split
  all_goals simp (maxDischargeDepth := 99) +contextual [*]

/-- `mboxKeySwitch` keeps soundness. -/
@[simp ↓] theorem mboxKeySwitch_sound {fz : Fuses} (s : State) (p : List Nat) (hs : s.sound fz = true) :
    ((mboxKeySwitch s p).st).sound fz = true := by
  unfold mboxKeySwitch
  repeat' first
    | (extract_lets +onlyGivenNames x
       have hx : State.sound fz x = true := by
         simp only [x]
         repeat' split
         all_goals simp (maxDischargeDepth := 99) +contextual [*]
       clear_value x)
    | (extract_lets +onlyGivenNames x
       have hx : State.sound fz x.1 = true := by
         simp only [x]
         repeat' split
         all_goals simp (maxDischargeDepth := 99) +contextual [*]
       clear_value x)
    | (extract_lets +onlyGivenNames x
       have hx : ∀ s a, State.sound fz s = true → State.sound fz (x s a) = true := by
         intro s a hs
         simp only [x]
         simp (maxDischargeDepth := 99) +contextual [*]
       clear_value x)
    | (extract_lets +onlyGivenNames x; clear_value x)
    | split
  all_goals simp (maxDischargeDepth := 99) +contextual [*]

/-- `mboxKeyErase` keeps soundness. -/
@[simp ↓] theorem mboxKeyErase_sound {fz : Fuses} (s : State) (p : List Nat) (hs : s.sound fz = true) :
    ((mboxKeyErase s p).st).sound fz = true := by
  unfold mboxKeyErase
  repeat' first
    | (extract_lets +onlyGivenNames x
       have hx : State.sound fz x = true := by
         simp only [x]
         repeat' split
         all_goals simp (maxDischargeDepth := 99) +contextual [*]
       clear_value x)
    | (extract_lets +onlyGivenNames x
       have hx : State.sound fz x.1 = true := by
         simp only [x]
         repeat' split
         all_goals simp (maxDischargeDepth := 99) +contextual [*]
       clear_value x)
    | (extract_lets +onlyGivenNames x
       have hx : ∀ s a, State.sound fz s = true → State.sound fz (x s a) = true := by
         intro s a hs
         simp only [x]
         simp (maxDischargeDepth := 99) +contextual [*]
       clear_value x)
    | (extract_lets +onlyGivenNames x; clear_value x)
    | split
  all_goals simp (maxDischargeDepth := 99) +contextual [*]

/-- `State.saRise` keeps soundness. -/
@[simp ↓] theorem State.saRise_sound {fz : Fuses} (s : State) (a : Nat) (d0 : Nat) (d1 : Nat) (hs : s.sound fz = true) :
    ((State.saRise s a d0 d1)).sound fz = true := by
  simp (maxDischargeDepth := 99) +contextual [State.saRise, *]

/-- `mboxSaSet` keeps soundness. -/
@[simp ↓] theorem mboxSaSet_sound {fz : Fuses} (s : State) (p : List Nat) (hs : s.sound fz = true) :
    ((mboxSaSet s p).st).sound fz = true := by
  unfold mboxSaSet
  repeat' first
    | (extract_lets +onlyGivenNames x
       have hx : State.sound fz x = true := by
         simp only [x]
         repeat' split
         all_goals simp (maxDischargeDepth := 99) +contextual [*]
       clear_value x)
    | (extract_lets +onlyGivenNames x
       have hx : State.sound fz x.1 = true := by
         simp only [x]
         repeat' split
         all_goals simp (maxDischargeDepth := 99) +contextual [*]
       clear_value x)
    | (extract_lets +onlyGivenNames x
       have hx : ∀ s a, State.sound fz s = true → State.sound fz (x s a) = true := by
         intro s a hs
         simp only [x]
         simp (maxDischargeDepth := 99) +contextual [*]
       clear_value x)
    | (extract_lets +onlyGivenNames x; clear_value x)
    | split
  all_goals simp (maxDischargeDepth := 99) +contextual [*]

/-- `mboxSaRead` keeps soundness. -/
@[simp ↓] theorem mboxSaRead_sound {fz : Fuses} (s : State) (p : List Nat) (hs : s.sound fz = true) :
    ((mboxSaRead s p).st).sound fz = true := by
  unfold mboxSaRead
  repeat' first
    | (extract_lets +onlyGivenNames x
       have hx : State.sound fz x = true := by
         simp only [x]
         repeat' split
         all_goals simp (maxDischargeDepth := 99) +contextual [*]
       clear_value x)
    | (extract_lets +onlyGivenNames x
       have hx : State.sound fz x.1 = true := by
         simp only [x]
         repeat' split
         all_goals simp (maxDischargeDepth := 99) +contextual [*]
       clear_value x)
    | (extract_lets +onlyGivenNames x
       have hx : ∀ s a, State.sound fz s = true → State.sound fz (x s a) = true := by
         intro s a hs
         simp only [x]
         simp (maxDischargeDepth := 99) +contextual [*]
       clear_value x)
    | (extract_lets +onlyGivenNames x; clear_value x)
    | split
  all_goals simp (maxDischargeDepth := 99) +contextual [*]

/-- `State.install` keeps soundness. -/
@[simp ↓] theorem State.install_sound {fz : Fuses} (s : State) (slot : Nat) (typ : Nat) (img : List Nat) (ok : Bool) (hs : s.sound fz = true) :
    ((State.install s slot typ img ok)).sound fz = true := by
  simp (maxDischargeDepth := 99) +contextual [State.install, *]

/-- `mboxUpdate` keeps soundness. -/
@[simp ↓] theorem mboxUpdate_sound {fz : Fuses} (flashOk : Bool) (s : State) (p : List Nat) (hs : s.sound fz = true) :
    ((mboxUpdate flashOk s p).st).sound fz = true := by
  unfold mboxUpdate
  repeat' first
    | (extract_lets +onlyGivenNames x
       have hx : State.sound fz x = true := by
         simp only [x]
         repeat' split
         all_goals simp (maxDischargeDepth := 99) +contextual [*]
       clear_value x)
    | (extract_lets +onlyGivenNames x
       have hx : State.sound fz x.1 = true := by
         simp only [x]
         repeat' split
         all_goals simp (maxDischargeDepth := 99) +contextual [*]
       clear_value x)
    | (extract_lets +onlyGivenNames x
       have hx : ∀ s a, State.sound fz s = true → State.sound fz (x s a) = true := by
         intro s a hs
         simp only [x]
         simp (maxDischargeDepth := 99) +contextual [*]
       clear_value x)
    | (extract_lets +onlyGivenNames x; clear_value x)
    | split
  all_goals simp (maxDischargeDepth := 99) +contextual [*]

/-- `State.fuseManifest` keeps soundness. -/
@[simp ↓] theorem State.fuseManifest_sound {fz : Fuses} (s : State) (hs : s.sound fz = true) :
    ((State.fuseManifest s)).sound fz = true := by
  rw [sound_iff] at hs ⊢
  refine ⟨hs.1, hs.2.1, hs.2.2.1, hs.2.2.2.1, hs.2.2.2.2.1, hs.2.2.2.2.2.1, ?_⟩
  have h := hs.2.2.2.2.2.2
  simp only [Fuses.within, Bool.and_eq_true, decide_eq_true_eq] at h ⊢
  exact ⟨⟨h.1.1, Nat.le_trans h.1.2 (Nat.le_max_left _ _)⟩, h.2⟩

/-- `State.fuseControl` keeps soundness. -/
@[simp ↓] theorem State.fuseControl_sound {fz : Fuses} (s : State) (hs : s.sound fz = true) :
    ((State.fuseControl s)).sound fz = true := by
  rw [sound_iff] at hs ⊢
  refine ⟨hs.1, hs.2.1, hs.2.2.1, hs.2.2.2.1, hs.2.2.2.2.1, hs.2.2.2.2.2.1, ?_⟩
  have h := hs.2.2.2.2.2.2
  simp only [Fuses.within, Bool.and_eq_true, decide_eq_true_eq] at h ⊢
  exact ⟨h.1, Nat.le_trans h.2 (Nat.le_max_left _ _)⟩

/-- `State.fuseLifecycle` keeps soundness. -/
@[simp ↓] theorem State.fuseLifecycle_sound {fz : Fuses} (s : State) (l : Lifecycle) (hs : s.sound fz = true) (hl : s.fuses.lifecycle.rank ≤ l.rank) :
    ((State.fuseLifecycle s l)).sound fz = true := by
  rw [sound_iff] at hs ⊢
  refine ⟨hs.1, hs.2.1, hs.2.2.1, hs.2.2.2.1, hs.2.2.2.2.1, hs.2.2.2.2.2.1, ?_⟩
  have h := hs.2.2.2.2.2.2
  simp only [Fuses.within, Bool.and_eq_true, decide_eq_true_eq] at h ⊢
  exact ⟨⟨Nat.le_trans h.1.1 hl, h.1.2⟩, h.2⟩

/-- `mboxSvnCommit` keeps soundness. -/
@[simp ↓] theorem mboxSvnCommit_sound {fz : Fuses} (s : State) (p : List Nat) (hs : s.sound fz = true) :
    ((mboxSvnCommit s p).st).sound fz = true := by
  unfold mboxSvnCommit
  repeat' first
    | (extract_lets +onlyGivenNames x
       have hx : State.sound fz x = true := by
         simp only [x]
         repeat' split
         all_goals simp (maxDischargeDepth := 99) +contextual [*]
       clear_value x)
    | (extract_lets +onlyGivenNames x
       have hx : State.sound fz x.1 = true := by
         simp only [x]
         repeat' split
         all_goals simp (maxDischargeDepth := 99) +contextual [*]
       clear_value x)
    | (extract_lets +onlyGivenNames x
       have hx : ∀ s a, State.sound fz s = true → State.sound fz (x s a) = true := by
         intro s a hs
         simp only [x]
         simp (maxDischargeDepth := 99) +contextual [*]
       clear_value x)
    | (extract_lets +onlyGivenNames x; clear_value x)
    | split
  all_goals simp (maxDischargeDepth := 99) +contextual [*]

/-- `mboxLifecycle` keeps soundness. -/
@[simp ↓] theorem mboxLifecycle_sound {fz : Fuses} (s : State) (p : List Nat) (hs : s.sound fz = true) :
    ((mboxLifecycle s p).st).sound fz = true := by
  unfold mboxLifecycle
  extract_lets t tok s1 s2 s3
  have h1 (h : (t = 1 && s.fuses.lifecycle == .development) = true) : s1.sound fz = true := by
    simp only [Bool.and_eq_true, beq_iff_eq] at h
    exact State.fuseLifecycle_sound s _ hs (by rw [h.2]; decide)
  have h2 (h : (t = 2 && s.fuses.lifecycle == .production) = true) : s3.sound fz = true := by
    simp only [Bool.and_eq_true, beq_iff_eq] at h
    refine sound_foldl _ _ _ (fun s x h => State.saOff_sound s x h) ?_
    exact State.fuseLifecycle_sound s _ hs (by rw [h.2]; decide)
  clear_value s1 s3
  repeat' split
  all_goals simp (maxDischargeDepth := 99) [*]

/-- `mboxRun` keeps soundness. -/
@[simp ↓] theorem mboxRun_sound {fz : Fuses} (op : Nat) (flashOk : Bool) (x0 : State) (x1 : List Nat) (hx0 : x0.sound fz = true) :
    ((mboxRun op flashOk x0 x1).st).sound fz = true := by
  unfold mboxRun
  repeat' first
    | (extract_lets +onlyGivenNames x
       have hx : State.sound fz x = true := by
         simp only [x]
         repeat' split
         all_goals simp (maxDischargeDepth := 99) +contextual [*]
       clear_value x)
    | (extract_lets +onlyGivenNames x
       have hx : State.sound fz x.1 = true := by
         simp only [x]
         repeat' split
         all_goals simp (maxDischargeDepth := 99) +contextual [*]
       clear_value x)
    | (extract_lets +onlyGivenNames x
       have hx : ∀ s a, State.sound fz s = true → State.sound fz (x s a) = true := by
         intro s a hs
         simp only [x]
         simp (maxDischargeDepth := 99) +contextual [*]
       clear_value x)
    | (extract_lets +onlyGivenNames x; clear_value x)
    | split
  all_goals simp (maxDischargeDepth := 99) +contextual [*]

/-- `State.mboxClaim` keeps soundness. -/
@[simp ↓] theorem State.mboxClaim_sound {fz : Fuses} (s : State) (m : Master) (hs : s.sound fz = true) :
    ((State.mboxClaim s m)).sound fz = true := by
  simp (maxDischargeDepth := 99) +contextual [State.mboxClaim, *]

/-- `State.mboxFree` keeps soundness. -/
@[simp ↓] theorem State.mboxFree_sound {fz : Fuses} (s : State) (m : Master) (hs : s.sound fz = true) :
    ((State.mboxFree s m)).sound fz = true := by
  simp (maxDischargeDepth := 99) +contextual [State.mboxFree, *]

/-- `State.mboxByOp` keeps soundness. -/
@[simp ↓] theorem State.mboxByOp_sound {fz : Fuses} (s : State) (m : Master) (op : Nat) (len : Nat) (hs : s.sound fz = true) :
    ((State.mboxByOp s m op len)).sound fz = true := by
  simp (maxDischargeDepth := 99) +contextual [State.mboxByOp, *]

/-- `State.mboxCmdWrite` keeps soundness. -/
@[simp ↓] theorem State.mboxCmdWrite_sound {fz : Fuses} (s : State) (m : Master) (data : Nat) (hs : s.sound fz = true) :
    ((State.mboxCmdWrite s m data)).sound fz = true := by
  simp (maxDischargeDepth := 99) +contextual [State.mboxCmdWrite, *]

/-- `State.mboxClaimWrite` keeps soundness. -/
@[simp ↓] theorem State.mboxClaimWrite_sound {fz : Fuses} (s : State) (m : Master) (data : Nat) (hs : s.sound fz = true) :
    ((State.mboxClaimWrite s m data)).sound fz = true := by
  unfold State.mboxClaimWrite
  repeat' first
    | (extract_lets +onlyGivenNames x
       have hx : State.sound fz x = true := by
         simp only [x]
         repeat' split
         all_goals simp (maxDischargeDepth := 99) +contextual [*]
       clear_value x)
    | (extract_lets +onlyGivenNames x
       have hx : State.sound fz x.1 = true := by
         simp only [x]
         repeat' split
         all_goals simp (maxDischargeDepth := 99) +contextual [*]
       clear_value x)
    | (extract_lets +onlyGivenNames x
       have hx : ∀ s a, State.sound fz s = true → State.sound fz (x s a) = true := by
         intro s a hs
         simp only [x]
         simp (maxDischargeDepth := 99) +contextual [*]
       clear_value x)
    | (extract_lets +onlyGivenNames x; clear_value x)
    | split
  all_goals simp (maxDischargeDepth := 99) +contextual [*]

/-- `State.mboxDataWrite` keeps soundness. -/
@[simp ↓] theorem State.mboxDataWrite_sound {fz : Fuses} (s : State) (m : Master) (off : Nat) (region : Nat) (be : Nat) (data : Nat) (hs : s.sound fz = true) :
    ((State.mboxDataWrite s m off region be data)).sound fz = true := by
  simp (maxDischargeDepth := 99) +contextual [State.mboxDataWrite, *]

/-- `State.mboxDone` keeps soundness. -/
@[simp ↓] theorem State.mboxDone_sound {fz : Fuses} (s : State) (hs : s.sound fz = true) :
    ((State.mboxDone s)).sound fz = true := by
  unfold State.mboxDone
  repeat' first
    | (extract_lets +onlyGivenNames x
       have hx : State.sound fz x = true := by
         simp only [x]
         repeat' split
         all_goals simp (maxDischargeDepth := 99) +contextual [*]
       clear_value x)
    | (extract_lets +onlyGivenNames x
       have hx : State.sound fz x.1 = true := by
         simp only [x]
         repeat' split
         all_goals simp (maxDischargeDepth := 99) +contextual [*]
       clear_value x)
    | (extract_lets +onlyGivenNames x
       have hx : ∀ s a, State.sound fz s = true → State.sound fz (x s a) = true := by
         intro s a hs
         simp only [x]
         simp (maxDischargeDepth := 99) +contextual [*]
       clear_value x)
    | (extract_lets +onlyGivenNames x; clear_value x)
    | split
  all_goals simp (maxDischargeDepth := 99) +contextual [*]

/-- `State.mboxFollow` keeps soundness. -/
@[simp ↓] theorem State.mboxFollow_sound {fz : Fuses} (s : State) (hs : s.sound fz = true) :
    ((State.mboxFollow s)).sound fz = true := by
  unfold State.mboxFollow
  repeat' first
    | (extract_lets +onlyGivenNames x
       have hx : State.sound fz x = true := by
         simp only [x]
         repeat' split
         all_goals simp (maxDischargeDepth := 99) +contextual [*]
       clear_value x)
    | (extract_lets +onlyGivenNames x
       have hx : State.sound fz x.1 = true := by
         simp only [x]
         repeat' split
         all_goals simp (maxDischargeDepth := 99) +contextual [*]
       clear_value x)
    | (extract_lets +onlyGivenNames x
       have hx : ∀ s a, State.sound fz s = true → State.sound fz (x s a) = true := by
         intro s a hs
         simp only [x]
         simp (maxDischargeDepth := 99) +contextual [*]
       clear_value x)
    | (extract_lets +onlyGivenNames x; clear_value x)
    | split
  all_goals simp (maxDischargeDepth := 99) +contextual [*]

/-- `State.allHalted` keeps soundness. -/
@[simp ↓] theorem State.allHalted_sound {fz : Fuses} (s : State) (was : Nat) (hs : s.sound fz = true) :
    ((State.allHalted s was)).sound fz = true := by
  simp (maxDischargeDepth := 99) +contextual [State.allHalted, *]

/-- `State.coreRun` keeps soundness. -/
@[simp ↓] theorem State.coreRun_sound {fz : Fuses} (s : State) (m : Master) (run : Nat) (hs : s.sound fz = true) :
    ((State.coreRun s m run)).sound fz = true := by
  unfold State.coreRun
  repeat' first
    | (extract_lets +onlyGivenNames x
       have hx : State.sound fz x = true := by
         simp only [x]
         repeat' split
         all_goals simp (maxDischargeDepth := 99) +contextual [*]
       clear_value x)
    | (extract_lets +onlyGivenNames x
       have hx : State.sound fz x.1 = true := by
         simp only [x]
         repeat' split
         all_goals simp (maxDischargeDepth := 99) +contextual [*]
       clear_value x)
    | (extract_lets +onlyGivenNames x
       have hx : ∀ s a, State.sound fz s = true → State.sound fz (x s a) = true := by
         intro s a hs
         simp only [x]
         simp (maxDischargeDepth := 99) +contextual [*]
       clear_value x)
    | (extract_lets +onlyGivenNames x; clear_value x)
    | split
  all_goals simp (maxDischargeDepth := 99) +contextual [*]

/-! ## Machine/TwinCtl.lean -/

/-- `State.setEz` keeps soundness. -/
@[simp ↓] theorem State.setEz_sound {fz : Fuses} (s : State) (k : Nat) (v : EzLane) (hs : s.sound fz = true) :
    ((State.setEz s k v)).sound fz = true := by
  simp (maxDischargeDepth := 99) +contextual [State.setEz, *]

/-- `State.ezTrain` keeps soundness. -/
@[simp ↓] theorem State.ezTrain_sound {fz : Fuses} (s : State) (n : Nat) (hs : s.sound fz = true) :
    ((State.ezTrain s n)).sound fz = true := by
  simp (maxDischargeDepth := 99) +contextual [State.ezTrain, *]

/-- `State.setLink` keeps soundness. -/
@[simp ↓] theorem State.setLink_sound {fz : Fuses} (s : State) (n : Nat) (hs : s.sound fz = true) :
    ((State.setLink s n)).sound fz = true := by
  simp (maxDischargeDepth := 99) +contextual [State.setLink, *]

/-- `State.resyncAt` keeps soundness. -/
@[simp ↓] theorem State.resyncAt_sound {fz : Fuses} (s : State) (n : Nat) (hs : s.sound fz = true) :
    ((State.resyncAt s n)).sound fz = true := by
  simp (maxDischargeDepth := 99) +contextual [State.resyncAt, *]

/-- `State.startResync` keeps soundness. -/
@[simp ↓] theorem State.startResync_sound {fz : Fuses} (s : State) (hs : s.sound fz = true) :
    ((State.startResync s)).sound fz = true := by
  simp (maxDischargeDepth := 99) +contextual [State.startResync, *]

/-- `State.failResync` keeps soundness. -/
@[simp ↓] theorem State.failResync_sound {fz : Fuses} (s : State) (hs : s.sound fz = true) :
    ((State.failResync s)).sound fz = true := by
  simp (maxDischargeDepth := 99) +contextual [State.failResync, *]

/-- `State.linkDown` keeps soundness. -/
@[simp ↓] theorem State.linkDown_sound {fz : Fuses} (s : State) (hs : s.sound fz = true) :
    ((State.linkDown s)).sound fz = true := by
  simp (maxDischargeDepth := 99) +contextual [State.linkDown, *]

/-- `State.ezDeskew` keeps soundness. -/
@[simp ↓] theorem State.ezDeskew_sound {fz : Fuses} (s : State) (hs : s.sound fz = true) :
    ((State.ezDeskew s)).sound fz = true := by
  simp (maxDischargeDepth := 99) +contextual [State.ezDeskew, *]

/-- `State.ezAlignSend` keeps soundness. -/
@[simp ↓] theorem State.ezAlignSend_sound {fz : Fuses} (s : State) (k : Nat) (hs : s.sound fz = true) :
    ((State.ezAlignSend s k)).sound fz = true := by
  simp (maxDischargeDepth := 99) +contextual [State.ezAlignSend, *]

/-- `State.ezTakes` keeps soundness. -/
@[simp ↓] theorem State.ezTakes_sound {fz : Fuses} (s : State) (k : Nat) (cell : List Nat) (arrival : Nat) (erle : Nat) (hs : s.sound fz = true) :
    ((State.ezTakes s k cell arrival erle)).sound fz = true := by
  simp (maxDischargeDepth := 99) +contextual [State.ezTakes, *]

/-- `State.ezCodeword` keeps soundness. -/
@[simp ↓] theorem State.ezCodeword_sound {fz : Fuses} (s : State) (k : Nat) (header : Nat) (cell : List Nat) (arrival : Nat) (erle : Nat) (corr : Nat) (uncorr : Nat) (hs : s.sound fz = true) :
    ((State.ezCodeword s k header cell arrival erle corr uncorr)).sound fz = true := by
  simp (maxDischargeDepth := 99) +contextual [State.ezCodeword, *]

/-- `State.countSwitchover` keeps soundness. -/
@[simp ↓] theorem State.countSwitchover_sound {fz : Fuses} (s : State) (hs : s.sound fz = true) :
    ((State.countSwitchover s)).sound fz = true := by
  simp (maxDischargeDepth := 99) +contextual [State.countSwitchover, *]

/-- `State.takeOver` keeps soundness. -/
@[simp ↓] theorem State.takeOver_sound {fz : Fuses} (s : State) (hs : s.sound fz = true) :
    ((State.takeOver s)).sound fz = true := by
  simp (maxDischargeDepth := 99) +contextual [State.takeOver, *]

/-- `State.commandTakeover` keeps soundness. -/
@[simp ↓] theorem State.commandTakeover_sound {fz : Fuses} (s : State) (hs : s.sound fz = true) :
    ((State.commandTakeover s)).sound fz = true := by
  simp (maxDischargeDepth := 99) +contextual [State.commandTakeover, *]

/-- `State.interlockFault` keeps soundness. -/
@[simp ↓] theorem State.interlockFault_sound {fz : Fuses} (s : State) (hs : s.sound fz = true) :
    ((State.interlockFault s)).sound fz = true := by
  simp (maxDischargeDepth := 99) +contextual [State.interlockFault, *]

/-- `State.autoTakeover` keeps soundness. -/
@[simp ↓] theorem State.autoTakeover_sound {fz : Fuses} (s : State) (hs : s.sound fz = true) :
    ((State.autoTakeover s)).sound fz = true := by
  simp (maxDischargeDepth := 99) +contextual [State.autoTakeover, *]

/-- `State.withdraw` keeps soundness. -/
@[simp ↓] theorem State.withdraw_sound {fz : Fuses} (s : State) (m : Mode) (hs : s.sound fz = true) :
    ((State.withdraw s m)).sound fz = true := by
  simp (maxDischargeDepth := 99) +contextual [State.withdraw, *]

/-- `State.partnerClaims` keeps soundness. -/
@[simp ↓] theorem State.partnerClaims_sound {fz : Fuses} (s : State) (hs : s.sound fz = true) :
    ((State.partnerClaims s)).sound fz = true := by
  unfold State.partnerClaims
  repeat' first
    | (extract_lets +onlyGivenNames x
       have hx : State.sound fz x = true := by
         simp only [x]
         repeat' split
         all_goals simp (maxDischargeDepth := 99) +contextual [*]
       clear_value x)
    | (extract_lets +onlyGivenNames x
       have hx : State.sound fz x.1 = true := by
         simp only [x]
         repeat' split
         all_goals simp (maxDischargeDepth := 99) +contextual [*]
       clear_value x)
    | (extract_lets +onlyGivenNames x
       have hx : ∀ s a, State.sound fz s = true → State.sound fz (x s a) = true := by
         intro s a hs
         simp only [x]
         simp (maxDischargeDepth := 99) +contextual [*]
       clear_value x)
    | (extract_lets +onlyGivenNames x; clear_value x)
    | split
  all_goals simp (maxDischargeDepth := 99) +contextual [*]

/-- `State.claimSpared` keeps soundness. -/
@[simp ↓] theorem State.claimSpared_sound {fz : Fuses} (s : State) (hs : s.sound fz = true) :
    ((State.claimSpared s)).sound fz = true := by
  simp (maxDischargeDepth := 99) +contextual [State.claimSpared, *]

/-- `State.readPartner` keeps soundness. -/
@[simp ↓] theorem State.readPartner_sound {fz : Fuses} (s : State) (a : PinClass) (b : PinClass) (held : Bool) (hs : s.sound fz = true) :
    ((State.readPartner s a b held)).sound fz = true := by
  unfold State.readPartner
  repeat' first
    | (extract_lets +onlyGivenNames x
       have hx : State.sound fz x = true := by
         simp only [x]
         repeat' split
         all_goals simp (maxDischargeDepth := 99) +contextual [*]
       clear_value x)
    | (extract_lets +onlyGivenNames x
       have hx : State.sound fz x.1 = true := by
         simp only [x]
         repeat' split
         all_goals simp (maxDischargeDepth := 99) +contextual [*]
       clear_value x)
    | (extract_lets +onlyGivenNames x
       have hx : ∀ s a, State.sound fz s = true → State.sound fz (x s a) = true := by
         intro s a hs
         simp only [x]
         simp (maxDischargeDepth := 99) +contextual [*]
       clear_value x)
    | (extract_lets +onlyGivenNames x; clear_value x)
    | split
  all_goals simp (maxDischargeDepth := 99) +contextual [*]

/-- `State.entersMode` keeps soundness. -/
@[simp ↓] theorem State.entersMode_sound {fz : Fuses} (s : State) (was : Mode) (hs : s.sound fz = true) :
    ((State.entersMode s was)).sound fz = true := by
  simp (maxDischargeDepth := 99) +contextual [State.entersMode, *]

/-- `State.claimEnds` keeps soundness. -/
@[simp ↓] theorem State.claimEnds_sound {fz : Fuses} (s : State) (hs : s.sound fz = true) :
    ((State.claimEnds s)).sound fz = true := by
  unfold State.claimEnds
  repeat' first
    | (extract_lets +onlyGivenNames x
       have hx : State.sound fz x = true := by
         simp only [x]
         repeat' split
         all_goals simp (maxDischargeDepth := 99) +contextual [*]
       clear_value x)
    | (extract_lets +onlyGivenNames x
       have hx : State.sound fz x.1 = true := by
         simp only [x]
         repeat' split
         all_goals simp (maxDischargeDepth := 99) +contextual [*]
       clear_value x)
    | (extract_lets +onlyGivenNames x
       have hx : ∀ s a, State.sound fz s = true → State.sound fz (x s a) = true := by
         intro s a hs
         simp only [x]
         simp (maxDischargeDepth := 99) +contextual [*]
       clear_value x)
    | (extract_lets +onlyGivenNames x; clear_value x)
    | split
  all_goals simp (maxDischargeDepth := 99) +contextual [*]

/-- `State.cmdHandover` keeps soundness. -/
@[simp ↓] theorem State.cmdHandover_sound {fz : Fuses} (s : State) (m : Master) (hs : s.sound fz = true) :
    ((State.cmdHandover s m)).sound fz = true := by
  simp (maxDischargeDepth := 99) +contextual [State.cmdHandover, *]

/-- `State.cmdTakeover` keeps soundness. -/
@[simp ↓] theorem State.cmdTakeover_sound {fz : Fuses} (s : State) (m : Master) (hs : s.sound fz = true) :
    ((State.cmdTakeover s m)).sound fz = true := by
  simp (maxDischargeDepth := 99) +contextual [State.cmdTakeover, *]

/-- `State.cmdResync` keeps soundness. -/
@[simp ↓] theorem State.cmdResync_sound {fz : Fuses} (s : State) (m : Master) (hs : s.sound fz = true) :
    ((State.cmdResync s m)).sound fz = true := by
  simp (maxDischargeDepth := 99) +contextual [State.cmdResync, *]

/-- `State.cmdClear` keeps soundness. -/
@[simp ↓] theorem State.cmdClear_sound {fz : Fuses} (s : State) (hs : s.sound fz = true) :
    ((State.cmdClear s)).sound fz = true := by
  simp (maxDischargeDepth := 99) +contextual [State.cmdClear, *]

/-- `State.twinCmd` keeps soundness. -/
@[simp ↓] theorem State.twinCmd_sound {fz : Fuses} (s : State) (m : Master) (op : Nat) (hs : s.sound fz = true) :
    ((State.twinCmd s m op)).sound fz = true := by
  unfold State.twinCmd
  repeat' first
    | (extract_lets +onlyGivenNames x
       have hx : State.sound fz x = true := by
         simp only [x]
         repeat' split
         all_goals simp (maxDischargeDepth := 99) +contextual [*]
       clear_value x)
    | (extract_lets +onlyGivenNames x
       have hx : State.sound fz x.1 = true := by
         simp only [x]
         repeat' split
         all_goals simp (maxDischargeDepth := 99) +contextual [*]
       clear_value x)
    | (extract_lets +onlyGivenNames x
       have hx : ∀ s a, State.sound fz s = true → State.sound fz (x s a) = true := by
         intro s a hs
         simp only [x]
         simp (maxDischargeDepth := 99) +contextual [*]
       clear_value x)
    | (extract_lets +onlyGivenNames x; clear_value x)
    | split
  all_goals simp (maxDischargeDepth := 99) +contextual [*]

/-- `State.copyEnWrite` keeps soundness. -/
@[simp ↓] theorem State.copyEnWrite_sound {fz : Fuses} (s : State) (en : Bool) (hs : s.sound fz = true) :
    ((State.copyEnWrite s en)).sound fz = true := by
  simp (maxDischargeDepth := 99) +contextual [State.copyEnWrite, *]

/-- `State.copyDrained` keeps soundness. -/
@[simp ↓] theorem State.copyDrained_sound {fz : Fuses} (s : State) (hs : s.sound fz = true) :
    ((State.copyDrained s)).sound fz = true := by
  simp (maxDischargeDepth := 99) +contextual [State.copyDrained, *]

/-- `State.waltzHeard` keeps soundness. -/
@[simp ↓] theorem State.waltzHeard_sound {fz : Fuses} (s : State) (tRx : Int) (intact : Bool) (msg : WaltzMsg) (hs : s.sound fz = true) :
    ((State.waltzHeard s tRx intact msg)).sound fz = true := by
  simp (maxDischargeDepth := 99) +contextual [State.waltzHeard, *]

/-- `State.discovered` keeps soundness. -/
@[simp ↓] theorem State.discovered_sound {fz : Fuses} (s : State) (m : Mode) (why : Nat) (absent : Bool) (hs : s.sound fz = true) :
    ((State.discovered s m why absent)).sound fz = true := by
  simp (maxDischargeDepth := 99) +contextual [State.discovered, *]

/-- `State.discover` keeps soundness. -/
@[simp ↓] theorem State.discover_sound {fz : Fuses} (s : State) (hs : s.sound fz = true) :
    ((State.discover s)).sound fz = true := by
  simp (maxDischargeDepth := 99) +contextual [State.discover, *]

/-- `State.partnerAppears` keeps soundness. -/
@[simp ↓] theorem State.partnerAppears_sound {fz : Fuses} (s : State) (hs : s.sound fz = true) :
    ((State.partnerAppears s)).sound fz = true := by
  unfold State.partnerAppears
  repeat' first
    | (extract_lets +onlyGivenNames x
       have hx : State.sound fz x = true := by
         simp only [x]
         repeat' split
         all_goals simp (maxDischargeDepth := 99) +contextual [*]
       clear_value x)
    | (extract_lets +onlyGivenNames x
       have hx : State.sound fz x.1 = true := by
         simp only [x]
         repeat' split
         all_goals simp (maxDischargeDepth := 99) +contextual [*]
       clear_value x)
    | (extract_lets +onlyGivenNames x
       have hx : ∀ s a, State.sound fz s = true → State.sound fz (x s a) = true := by
         intro s a hs
         simp only [x]
         simp (maxDischargeDepth := 99) +contextual [*]
       clear_value x)
    | (extract_lets +onlyGivenNames x; clear_value x)
    | split
  all_goals simp (maxDischargeDepth := 99) +contextual [*]

/-- `State.twinFollow` keeps soundness. -/
@[simp ↓] theorem State.twinFollow_sound {fz : Fuses} (s : State) (hs : s.sound fz = true) :
    ((State.twinFollow s)).sound fz = true := by
  simp (maxDischargeDepth := 99) +contextual [State.twinFollow, *]

/-! ## Machine/TestOps.lean -/

/-- `State.testRefused` keeps soundness. -/
@[simp ↓] theorem State.testRefused_sound {fz : Fuses} (s : State) (m : Master) (con : Bool) (code : Nat) (hs : s.sound fz = true) :
    ((State.testRefused s m con code)).sound fz = true := by
  simp (maxDischargeDepth := 99) +contextual [State.testRefused, *]

/-- `State.testSets` keeps soundness. -/
@[simp ↓] theorem State.testSets_sound {fz : Fuses} (s : State) (l : List (Fl × Nat)) (hs : s.sound fz = true) :
    ((State.testSets s l)).sound fz = true := by
  unfold State.testSets
  repeat' first
    | (extract_lets +onlyGivenNames x
       have hx : State.sound fz x = true := by
         simp only [x]
         repeat' split
         all_goals simp (maxDischargeDepth := 99) +contextual [*]
       clear_value x)
    | (extract_lets +onlyGivenNames x
       have hx : State.sound fz x.1 = true := by
         simp only [x]
         repeat' split
         all_goals simp (maxDischargeDepth := 99) +contextual [*]
       clear_value x)
    | (extract_lets +onlyGivenNames x
       have hx : ∀ s a, State.sound fz s = true → State.sound fz (x s a) = true := by
         intro s a hs
         simp only [x]
         simp (maxDischargeDepth := 99) +contextual [*]
       clear_value x)
    | (extract_lets +onlyGivenNames x; clear_value x)
    | split
  all_goals simp (maxDischargeDepth := 99) +contextual [*]

/-- `State.testBegins` keeps soundness. -/
@[simp ↓] theorem State.testBegins_sound {fz : Fuses} (s : State) (num : Nat) (r : TestReq) (hs : s.sound fz = true) :
    ((State.testBegins s num r)).sound fz = true := by
  unfold State.testBegins
  repeat' first
    | (extract_lets +onlyGivenNames x
       have hx : State.sound fz x = true := by
         simp only [x]
         repeat' split
         all_goals simp (maxDischargeDepth := 99) +contextual [*]
       clear_value x)
    | (extract_lets +onlyGivenNames x
       have hx : State.sound fz x.1 = true := by
         simp only [x]
         repeat' split
         all_goals simp (maxDischargeDepth := 99) +contextual [*]
       clear_value x)
    | (extract_lets +onlyGivenNames x
       have hx : ∀ s a, State.sound fz s = true → State.sound fz (x s a) = true := by
         intro s a hs
         simp only [x]
         simp (maxDischargeDepth := 99) +contextual [*]
       clear_value x)
    | (extract_lets +onlyGivenNames x; clear_value x)
    | split
  all_goals simp (maxDischargeDepth := 99) +contextual [*]

/-- `State.testStart` keeps soundness. -/
@[simp ↓] theorem State.testStart_sound {fz : Fuses} (s : State) (m : Master) (num : Nat) (r : TestReq) (hs : s.sound fz = true) :
    ((State.testStart s m num r)).sound fz = true := by
  unfold State.testStart
  repeat' first
    | (extract_lets +onlyGivenNames x
       have hx : State.sound fz x = true := by
         simp only [x]
         repeat' split
         all_goals simp (maxDischargeDepth := 99) +contextual [*]
       clear_value x)
    | (extract_lets +onlyGivenNames x
       have hx : State.sound fz x.1 = true := by
         simp only [x]
         repeat' split
         all_goals simp (maxDischargeDepth := 99) +contextual [*]
       clear_value x)
    | (extract_lets +onlyGivenNames x
       have hx : ∀ s a, State.sound fz s = true → State.sound fz (x s a) = true := by
         intro s a hs
         simp only [x]
         simp (maxDischargeDepth := 99) +contextual [*]
       clear_value x)
    | (extract_lets +onlyGivenNames x; clear_value x)
    | split
  all_goals simp (maxDischargeDepth := 99) +contextual [*]

/-- `State.testStep` keeps soundness. -/
@[simp ↓] theorem State.testStep_sound {fz : Fuses} (s : State) (n : Nat) (hs : s.sound fz = true) :
    ((State.testStep s n)).sound fz = true := by
  unfold State.testStep
  repeat' first
    | (extract_lets +onlyGivenNames x
       have hx : State.sound fz x = true := by
         simp only [x]
         repeat' split
         all_goals simp (maxDischargeDepth := 99) +contextual [*]
       clear_value x)
    | (extract_lets +onlyGivenNames x
       have hx : State.sound fz x.1 = true := by
         simp only [x]
         repeat' split
         all_goals simp (maxDischargeDepth := 99) +contextual [*]
       clear_value x)
    | (extract_lets +onlyGivenNames x
       have hx : ∀ s a, State.sound fz s = true → State.sound fz (x s a) = true := by
         intro s a hs
         simp only [x]
         simp (maxDischargeDepth := 99) +contextual [*]
       clear_value x)
    | (extract_lets +onlyGivenNames x; clear_value x)
    | split
  all_goals simp (maxDischargeDepth := 99) +contextual [*]

/-- `State.coreVerdict` keeps soundness. -/
@[simp ↓] theorem State.coreVerdict_sound {fz : Fuses} (s : State) (code : Nat) (step : Nat) (hs : s.sound fz = true) :
    ((State.coreVerdict s code step)).sound fz = true := by
  unfold State.coreVerdict
  repeat' first
    | (extract_lets +onlyGivenNames x
       have hx : State.sound fz x = true := by
         simp only [x]
         repeat' split
         all_goals simp (maxDischargeDepth := 99) +contextual [*]
       clear_value x)
    | (extract_lets +onlyGivenNames x
       have hx : State.sound fz x.1 = true := by
         simp only [x]
         repeat' split
         all_goals simp (maxDischargeDepth := 99) +contextual [*]
       clear_value x)
    | (extract_lets +onlyGivenNames x
       have hx : ∀ s a, State.sound fz s = true → State.sound fz (x s a) = true := by
         intro s a hs
         simp only [x]
         simp (maxDischargeDepth := 99) +contextual [*]
       clear_value x)
    | (extract_lets +onlyGivenNames x; clear_value x)
    | split
  all_goals simp (maxDischargeDepth := 99) +contextual [*]

/-- `State.coreStage` keeps soundness. -/
@[simp ↓] theorem State.coreStage_sound {fz : Fuses} (s : State) (u : Nat) (v : Nat) (step : Nat) (hs : s.sound fz = true) :
    ((State.coreStage s u v step)).sound fz = true := by
  simp (maxDischargeDepth := 99) +contextual [State.coreStage, *]

/-- `State.coreArm` keeps soundness. -/
@[simp ↓] theorem State.coreArm_sound {fz : Fuses} (s : State) (hs : s.sound fz = true) :
    ((State.coreArm s)).sound fz = true := by
  simp (maxDischargeDepth := 99) +contextual [State.coreArm, *]

/-- `State.coreTestStep` keeps soundness. -/
@[simp ↓] theorem State.coreTestStep_sound {fz : Fuses} (s : State) (hs : s.sound fz = true) :
    ((State.coreTestStep s)).sound fz = true := by
  unfold State.coreTestStep
  repeat' first
    | (extract_lets +onlyGivenNames x
       have hx : State.sound fz x = true := by
         simp only [x]
         repeat' split
         all_goals simp (maxDischargeDepth := 99) +contextual [*]
       clear_value x)
    | (extract_lets +onlyGivenNames x
       have hx : State.sound fz x.1 = true := by
         simp only [x]
         repeat' split
         all_goals simp (maxDischargeDepth := 99) +contextual [*]
       clear_value x)
    | (extract_lets +onlyGivenNames x
       have hx : ∀ s a, State.sound fz s = true → State.sound fz (x s a) = true := by
         intro s a hs
         simp only [x]
         simp (maxDischargeDepth := 99) +contextual [*]
       clear_value x)
    | (extract_lets +onlyGivenNames x; clear_value x)
    | split
  all_goals simp (maxDischargeDepth := 99) +contextual [*]

/-- `State.testEnds` keeps soundness. -/
@[simp ↓] theorem State.testEnds_sound {fz : Fuses} (s : State) (t : TestRun) (code : Nat) (detail : Nat) (hs : s.sound fz = true) :
    ((State.testEnds s t code detail)).sound fz = true := by
  simp (maxDischargeDepth := 99) +contextual [State.testEnds, *]

/-- `State.testDone` keeps soundness. -/
@[simp ↓] theorem State.testDone_sound {fz : Fuses} (s : State) (r : TestResult) (hs : s.sound fz = true) :
    ((State.testDone s r)).sound fz = true := by
  unfold State.testDone
  repeat' first
    | (extract_lets +onlyGivenNames x
       have hx : State.sound fz x = true := by
         simp only [x]
         repeat' split
         all_goals simp (maxDischargeDepth := 99) +contextual [*]
       clear_value x)
    | (extract_lets +onlyGivenNames x
       have hx : State.sound fz x.1 = true := by
         simp only [x]
         repeat' split
         all_goals simp (maxDischargeDepth := 99) +contextual [*]
       clear_value x)
    | (extract_lets +onlyGivenNames x
       have hx : ∀ s a, State.sound fz s = true → State.sound fz (x s a) = true := by
         intro s a hs
         simp only [x]
         simp (maxDischargeDepth := 99) +contextual [*]
       clear_value x)
    | (extract_lets +onlyGivenNames x; clear_value x)
    | split
  all_goals simp (maxDischargeDepth := 99) +contextual [*]

/-- `State.testStop` keeps soundness. -/
@[simp ↓] theorem State.testStop_sound {fz : Fuses} (s : State) (hs : s.sound fz = true) :
    ((State.testStop s)).sound fz = true := by
  unfold State.testStop
  repeat' first
    | (extract_lets +onlyGivenNames x
       have hx : State.sound fz x = true := by
         simp only [x]
         repeat' split
         all_goals simp (maxDischargeDepth := 99) +contextual [*]
       clear_value x)
    | (extract_lets +onlyGivenNames x
       have hx : State.sound fz x.1 = true := by
         simp only [x]
         repeat' split
         all_goals simp (maxDischargeDepth := 99) +contextual [*]
       clear_value x)
    | (extract_lets +onlyGivenNames x
       have hx : ∀ s a, State.sound fz s = true → State.sound fz (x s a) = true := by
         intro s a hs
         simp only [x]
         simp (maxDischargeDepth := 99) +contextual [*]
       clear_value x)
    | (extract_lets +onlyGivenNames x; clear_value x)
    | split
  all_goals simp (maxDischargeDepth := 99) +contextual [*]

/-- `State.testFollow` keeps soundness. -/
@[simp ↓] theorem State.testFollow_sound {fz : Fuses} (s : State) (hs : s.sound fz = true) :
    ((State.testFollow s)).sound fz = true := by
  simp (maxDischargeDepth := 99) +contextual [State.testFollow, *]

/-- `State.testLane` keeps soundness. -/
@[simp ↓] theorem State.testLane_sound {fz : Fuses} (s : State) (s' : State) (hs : s.sound fz = true) (hs' : s'.sound fz = true) :
    ((State.testLane s s')).sound fz = true := by
  unfold State.testLane
  repeat' first
    | (extract_lets +onlyGivenNames x
       have hx : State.sound fz x = true := by
         simp only [x]
         repeat' split
         all_goals simp (maxDischargeDepth := 99) +contextual [*]
       clear_value x)
    | (extract_lets +onlyGivenNames x
       have hx : State.sound fz x.1 = true := by
         simp only [x]
         repeat' split
         all_goals simp (maxDischargeDepth := 99) +contextual [*]
       clear_value x)
    | (extract_lets +onlyGivenNames x
       have hx : ∀ s a, State.sound fz s = true → State.sound fz (x s a) = true := by
         intro s a hs
         simp only [x]
         simp (maxDischargeDepth := 99) +contextual [*]
       clear_value x)
    | (extract_lets +onlyGivenNames x; clear_value x)
    | split
  all_goals simp (maxDischargeDepth := 99) +contextual [*]

/-- `State.testCmd` keeps soundness. -/
@[simp ↓] theorem State.testCmd_sound {fz : Fuses} (s : State) (m : Master) (data : Nat) (hs : s.sound fz = true) :
    ((State.testCmd s m data)).sound fz = true := by
  simp (maxDischargeDepth := 99) +contextual [State.testCmd, *]

/-! ## Machine/Settle.lean -/

/-- `lanesFollow` keeps soundness. -/
@[simp ↓] theorem lanesFollow_sound {fz : Fuses} (s : State) (s' : State) (hs' : s'.sound fz = true) :
    ((lanesFollow s s')).sound fz = true := by
  simp (maxDischargeDepth := 99) +contextual [lanesFollow, *]

/-- `carrierFollows` keeps soundness. -/
@[simp ↓] theorem carrierFollows_sound {fz : Fuses} (c : Nat) (s : State) (s' : State) (hs' : s'.sound fz = true) :
    ((carrierFollows c s s')).sound fz = true := by
  simp (maxDischargeDepth := 99) +contextual [carrierFollows, *]

/-- `interlockFollows` keeps soundness. -/
@[simp ↓] theorem interlockFollows_sound {fz : Fuses} (s : State) (s' : State) (hs' : s'.sound fz = true) :
    ((interlockFollows s s')).sound fz = true := by
  simp (maxDischargeDepth := 99) +contextual [interlockFollows, *]

/-- `State.leavesTwin` keeps soundness. -/
@[simp ↓] theorem State.leavesTwin_sound {fz : Fuses} (s : State) (hs : s.sound fz = true) :
    ((State.leavesTwin s)).sound fz = true := by
  simp (maxDischargeDepth := 99) +contextual [State.leavesTwin, *]

/-- `State.timingFollow` keeps soundness. -/
@[simp ↓] theorem State.timingFollow_sound {fz : Fuses} (s : State) (hs : s.sound fz = true) :
    ((State.timingFollow s)).sound fz = true := by
  simp (maxDischargeDepth := 99) +contextual [State.timingFollow, *]

/-- `refOutFollows` keeps soundness. -/
@[simp ↓] theorem refOutFollows_sound {fz : Fuses} (k : Nat) (s : State) (s' : State) (hs' : s'.sound fz = true) :
    ((refOutFollows k s s')).sound fz = true := by
  simp (maxDischargeDepth := 99) +contextual [refOutFollows, *]

/-- `modeFollows` keeps soundness. -/
@[simp ↓] theorem modeFollows_sound {fz : Fuses} (s : State) (s' : State) (hs' : s'.sound fz = true) :
    ((modeFollows s s')).sound fz = true := by
  simp (maxDischargeDepth := 99) +contextual [modeFollows, *]

/-- `outputsFollow` keeps soundness. -/
@[simp ↓] theorem outputsFollow_sound {fz : Fuses} (s : State) (s' : State) (hs' : s'.sound fz = true) :
    ((outputsFollow s s')).sound fz = true := by
  simp (maxDischargeDepth := 99) +contextual [outputsFollow, *]

/-- `noticesFollow` keeps soundness. -/
@[simp ↓] theorem noticesFollow_sound {fz : Fuses} (s : State) (s' : State) (hs' : s'.sound fz = true) :
    ((noticesFollow s s')).sound fz = true := by
  simp (maxDischargeDepth := 99) +contextual [noticesFollow, *]

/-- `settle` keeps soundness. -/
@[simp ↓] theorem settle_sound {fz : Fuses} (s : State) (s' : State) (hs' : s'.sound fz = true) :
    ((settle s s')).sound fz = true := by
  simp (maxDischargeDepth := 99) +contextual [settle, *]

/-! ## Machine/HostOps.lean -/

/-- `State.setChan` keeps soundness. -/
@[simp ↓] theorem State.setChan_sound {fz : Fuses} (s : State) (k : Nat) (c : DmaChan) (hs : s.sound fz = true) :
    ((State.setChan s k c)).sound fz = true := by
  simp (maxDischargeDepth := 99) +contextual [State.setChan, *]

/-- `State.descEnd` keeps soundness. -/
@[simp ↓] theorem State.descEnd_sound {fz : Fuses} (s : State) (k : Nat) (irq : Bool) (status : Nat) (done : Nat) (hs : s.sound fz = true) :
    ((State.descEnd s k irq status done)).sound fz = true := by
  simp (maxDischargeDepth := 99) +contextual [State.descEnd, *]

/-- `State.heldEnable` keeps soundness. -/
@[simp ↓] theorem State.heldEnable_sound {fz : Fuses} (s : State) (k : Nat) (hs : s.sound fz = true) :
    ((State.heldEnable s k)).sound fz = true := by
  simp (maxDischargeDepth := 99) +contextual [State.heldEnable, *]

/-- `State.dmaDrainEnds` keeps soundness. -/
@[simp ↓] theorem State.dmaDrainEnds_sound {fz : Fuses} (s : State) (hs : s.sound fz = true) :
    ((State.dmaDrainEnds s)).sound fz = true := by
  simp (maxDischargeDepth := 99) +contextual [State.dmaDrainEnds, *]

/-- `State.dmaDrainShown` keeps soundness. -/
@[simp ↓] theorem State.dmaDrainShown_sound {fz : Fuses} (s : State) (hs : s.sound fz = true) :
    ((State.dmaDrainShown s)).sound fz = true := by
  simp (maxDischargeDepth := 99) +contextual [State.dmaDrainShown, *]

/-- `State.chanDisable` keeps soundness. -/
@[simp ↓] theorem State.chanDisable_sound {fz : Fuses} (s : State) (k : Nat) (hs : s.sound fz = true) :
    ((State.chanDisable s k)).sound fz = true := by
  simp (maxDischargeDepth := 99) +contextual [State.chanDisable, *]

/-- `State.chanCfg` keeps soundness. -/
@[simp ↓] theorem State.chanCfg_sound {fz : Fuses} (s : State) (m : Master) (k : Nat) (new : Nat) (hs : s.sound fz = true) :
    ((State.chanCfg s m k new)).sound fz = true := by
  simp (maxDischargeDepth := 99) +contextual [State.chanCfg, *]

/-- `State.chanTail` keeps soundness. -/
@[simp ↓] theorem State.chanTail_sound {fz : Fuses} (s : State) (k : Nat) (tail : Nat) (hs : s.sound fz = true) :
    ((State.chanTail s k tail)).sound fz = true := by
  simp (maxDischargeDepth := 99) +contextual [State.chanTail, *]

/-- `State.dmaLinkLost` keeps soundness. -/
@[simp ↓] theorem State.dmaLinkLost_sound {fz : Fuses} (s : State) (hs : s.sound fz = true) :
    ((State.dmaLinkLost s)).sound fz = true := by
  simp (maxDischargeDepth := 99) +contextual [State.dmaLinkLost, *]

/-- `State.linkChange` keeps soundness. -/
@[simp ↓] theorem State.linkChange_sound {fz : Fuses} (s : State) (gen : Nat) (width : Nat) (hs : s.sound fz = true) :
    ((State.linkChange s gen width)).sound fz = true := by
  simp (maxDischargeDepth := 99) +contextual [State.linkChange, *]

/-- `State.funcReset` keeps soundness. -/
@[simp ↓] theorem State.funcReset_sound {fz : Fuses} (s : State) (pf1 : Bool) (hs : s.sound fz = true) :
    ((State.funcReset s pf1)).sound fz = true := by
  simp (maxDischargeDepth := 99) +contextual [State.funcReset, *]

/-- `State.flr` keeps soundness. -/
@[simp ↓] theorem State.flr_sound {fz : Fuses} (s : State) (pf1 : Bool) (hs : s.sound fz = true) :
    ((State.flr s pf1)).sound fz = true := by
  simp (maxDischargeDepth := 99) +contextual [State.flr, *]

/-- `State.perstHost` keeps soundness. -/
@[simp ↓] theorem State.perstHost_sound {fz : Fuses} (s : State) (hs : s.sound fz = true) :
    ((State.perstHost s)).sound fz = true := by
  simp (maxDischargeDepth := 99) +contextual [State.perstHost, *]

/-- `State.flushPba` keeps soundness. -/
@[simp ↓] theorem State.flushPba_sound {fz : Fuses} (s : State) (pf : Nat) (hs : s.sound fz = true) :
    ((State.flushPba s pf)).sound fz = true := by
  simp (maxDischargeDepth := 99) +contextual [State.flushPba, *]

/-- `State.msixUnmask` keeps soundness. -/
@[simp ↓] theorem State.msixUnmask_sound {fz : Fuses} (s : State) (pf : Nat) (vec : Option Nat) (hs : s.sound fz = true) :
    ((State.msixUnmask s pf vec)).sound fz = true := by
  simp (maxDischargeDepth := 99) +contextual [State.msixUnmask, *]

/-- `State.msixMask` keeps soundness. -/
@[simp ↓] theorem State.msixMask_sound {fz : Fuses} (s : State) (pf : Nat) (v : Nat) (hs : s.sound fz = true) :
    ((State.msixMask s pf v)).sound fz = true := by
  simp (maxDischargeDepth := 99) +contextual [State.msixMask, *]

/-- `State.writeBar4` keeps soundness. -/
@[simp ↓] theorem State.writeBar4_sound {fz : Fuses} (s : State) (pf : Nat) (off : Nat) (be : Nat) (data : Nat) (hs : s.sound fz = true) :
    ((State.writeBar4 s pf off be data)).sound fz = true := by
  simp (maxDischargeDepth := 99) +contextual [State.writeBar4, *]

/-- `State.writeBar4s` keeps soundness. -/
@[simp ↓] theorem State.writeBar4s_sound {fz : Fuses} (s : State) (pf : Nat) (off : Nat) (x0 : List (Nat × Nat)) (hs : s.sound fz = true) :
    ((State.writeBar4s s pf off x0)).sound fz = true := by
  induction x0 generalizing s pf off
  all_goals simp (maxDischargeDepth := 99) +contextual [State.writeBar4s, *]

/-- `State.bar4` keeps soundness. -/
@[simp ↓] theorem State.bar4_sound {fz : Fuses} (s : State) (r : BusReq) (pf : Nat) (off : Nat) (hs : s.sound fz = true) :
    ((State.bar4 s r pf off)).sound fz = true := by
  unfold State.bar4
  repeat' first
    | (extract_lets +onlyGivenNames x
       have hx : State.sound fz x = true := by
         simp only [x]
         repeat' split
         all_goals simp (maxDischargeDepth := 99) +contextual [*]
       clear_value x)
    | (extract_lets +onlyGivenNames x
       have hx : State.sound fz x.1 = true := by
         simp only [x]
         repeat' split
         all_goals simp (maxDischargeDepth := 99) +contextual [*]
       clear_value x)
    | (extract_lets +onlyGivenNames x
       have hx : ∀ s a, State.sound fz s = true → State.sound fz (x s a) = true := by
         intro s a hs
         simp only [x]
         simp (maxDischargeDepth := 99) +contextual [*]
       clear_value x)
    | (extract_lets +onlyGivenNames x; clear_value x)
    | split
  all_goals simp (maxDischargeDepth := 99) +contextual [*]

/-- `State.rearm` keeps soundness. -/
@[simp ↓] theorem State.rearm_sound {fz : Fuses} (s : State) (m : Master) (data : Nat) (hs : s.sound fz = true) :
    ((State.rearm s m data)).sound fz = true := by
  simp (maxDischargeDepth := 99) +contextual [State.rearm, *]

/-- `State.busMaster` keeps soundness. -/
@[simp ↓] theorem State.busMaster_sound {fz : Fuses} (s : State) (pf1 : Bool) (bme : Bool) (d3 : Bool) (hs : s.sound fz = true) :
    ((State.busMaster s pf1 bme d3)).sound fz = true := by
  simp (maxDischargeDepth := 99) +contextual [State.busMaster, *]

/-! ## Machine/CfwOps.lean -/

/-- `State.setCfwPoint` keeps soundness. -/
@[simp ↓] theorem State.setCfwPoint_sound {fz : Fuses} (s : State) (x : Nat) (v : CfwPoint) (hs : s.sound fz = true) :
    ((State.setCfwPoint s x v)).sound fz = true := by
  simp (maxDischargeDepth := 99) +contextual [State.setCfwPoint, *]

/-- `State.setCfwMsi` keeps soundness. -/
@[simp ↓] theorem State.setCfwMsi_sound {fz : Fuses} (s : State) (x : Nat) (v : CfwMsi) (hs : s.sound fz = true) :
    ((State.setCfwMsi s x v)).sound fz = true := by
  simp (maxDischargeDepth := 99) +contextual [State.setCfwMsi, *]

/-- `State.setCfwGroup` keeps soundness. -/
@[simp ↓] theorem State.setCfwGroup_sound {fz : Fuses} (s : State) (g : Nat) (v : CfwGroup) (hs : s.sound fz = true) :
    ((State.setCfwGroup s g v)).sound fz = true := by
  simp (maxDischargeDepth := 99) +contextual [State.setCfwGroup, *]

/-- `State.cfwCmd` keeps soundness. -/
@[simp ↓] theorem State.cfwCmd_sound {fz : Fuses} (s : State) (m : Master) (op : Nat) (hs : s.sound fz = true) :
    ((State.cfwCmd s m op)).sound fz = true := by
  simp (maxDischargeDepth := 99) +contextual [State.cfwCmd, *]

/-- `State.cfwCall` keeps soundness. -/
@[simp ↓] theorem State.cfwCall_sound {fz : Fuses} (s : State) (m : Master) (op : Nat) (index : Nat) (data : List Nat) (hs : s.sound fz = true) :
    ((State.cfwCall s m op index data)).sound fz = true := by
  simp (maxDischargeDepth := 99) +contextual [State.cfwCall, *]

/-- `State.cfwRun` keeps soundness. -/
@[simp ↓] theorem State.cfwRun_sound {fz : Fuses} (s : State) (c : CfwCmd) (hs : s.sound fz = true) :
    ((State.cfwRun s c).1).sound fz = true := by
  unfold State.cfwRun
  repeat' first
    | (extract_lets +onlyGivenNames x
       have hx : State.sound fz x = true := by
         simp only [x]
         repeat' split
         all_goals simp (maxDischargeDepth := 99) +contextual [*]
       clear_value x)
    | (extract_lets +onlyGivenNames x
       have hx : State.sound fz x.1 = true := by
         simp only [x]
         repeat' split
         all_goals simp (maxDischargeDepth := 99) +contextual [*]
       clear_value x)
    | (extract_lets +onlyGivenNames x
       have hx : ∀ s a, State.sound fz s = true → State.sound fz (x s a) = true := by
         intro s a hs
         simp only [x]
         simp (maxDischargeDepth := 99) +contextual [*]
       clear_value x)
    | (extract_lets +onlyGivenNames x; clear_value x)
    | split
  all_goals simp (maxDischargeDepth := 99) +contextual [*]

/-- `State.cfwDone` keeps soundness. -/
@[simp ↓] theorem State.cfwDone_sound {fz : Fuses} (s : State) (hs : s.sound fz = true) :
    ((State.cfwDone s)).sound fz = true := by
  unfold State.cfwDone
  repeat' first
    | (extract_lets +onlyGivenNames x
       have hx : State.sound fz x = true := by
         simp only [x]
         repeat' split
         all_goals simp (maxDischargeDepth := 99) +contextual [*]
       clear_value x)
    | (extract_lets +onlyGivenNames x
       have hx : State.sound fz x.1 = true := by
         simp only [x]
         repeat' split
         all_goals simp (maxDischargeDepth := 99) +contextual [*]
       clear_value x)
    | (extract_lets +onlyGivenNames x
       have hx : ∀ s a, State.sound fz s = true → State.sound fz (x s a) = true := by
         intro s a hs
         simp only [x]
         simp (maxDischargeDepth := 99) +contextual [*]
       clear_value x)
    | (extract_lets +onlyGivenNames x; clear_value x)
    | split
  all_goals simp (maxDischargeDepth := 99) +contextual [*]

/-- `State.forceBdi` keeps soundness. -/
@[simp ↓] theorem State.forceBdi_sound {fz : Fuses} (s : State) (x : Nat) (b : Bool) (hs : s.sound fz = true) :
    ((State.forceBdi s x b)).sound fz = true := by
  simp (maxDischargeDepth := 99) +contextual [State.forceBdi, *]

/-- `State.compareTrace` keeps soundness. -/
@[simp ↓] theorem State.compareTrace_sound {fz : Fuses} (s : State) (x : Nat) (hs : s.sound fz = true) :
    ((State.compareTrace s x)).sound fz = true := by
  simp (maxDischargeDepth := 99) +contextual [State.compareTrace, *]

/-- `State.compareMsi` keeps soundness. -/
@[simp ↓] theorem State.compareMsi_sound {fz : Fuses} (s : State) (g : Nat) (hs : s.sound fz = true) :
    ((State.compareMsi s g)).sound fz = true := by
  unfold State.compareMsi
  repeat' first
    | (extract_lets +onlyGivenNames x
       have hx : State.sound fz x = true := by
         simp only [x]
         repeat' split
         all_goals simp (maxDischargeDepth := 99) +contextual [*]
       clear_value x)
    | (extract_lets +onlyGivenNames x
       have hx : State.sound fz x.1 = true := by
         simp only [x]
         repeat' split
         all_goals simp (maxDischargeDepth := 99) +contextual [*]
       clear_value x)
    | (extract_lets +onlyGivenNames x
       have hx : ∀ s a, State.sound fz s = true → State.sound fz (x s a) = true := by
         intro s a hs
         simp only [x]
         simp (maxDischargeDepth := 99) +contextual [*]
       clear_value x)
    | (extract_lets +onlyGivenNames x; clear_value x)
    | split
  all_goals simp (maxDischargeDepth := 99) +contextual [*]

/-- `State.degradeSecond` keeps soundness. -/
@[simp ↓] theorem State.degradeSecond_sound {fz : Fuses} (s : State) (g : Nat) (hs : s.sound fz = true) :
    ((State.degradeSecond s g)).sound fz = true := by
  simp (maxDischargeDepth := 99) +contextual [State.degradeSecond, *]

/-- `State.setExtReq` keeps soundness. -/
@[simp ↓] theorem State.setExtReq_sound {fz : Fuses} (s : State) (g : Nat) (v : Nat) (hs : s.sound fz = true) :
    ((State.setExtReq s g v)).sound fz = true := by
  simp (maxDischargeDepth := 99) +contextual [State.setExtReq, *]

/-- `State.assessGroup` keeps soundness. -/
@[simp ↓] theorem State.assessGroup_sound {fz : Fuses} (s : State) (g : Nat) (hs : s.sound fz = true) :
    ((State.assessGroup s g)).sound fz = true := by
  simp (maxDischargeDepth := 99) +contextual [State.assessGroup, *]

/-- `State.cfwPublish` keeps soundness. -/
@[simp ↓] theorem State.cfwPublish_sound {fz : Fuses} (s : State) (ifVer : Nat) (hs : s.sound fz = true) :
    ((State.cfwPublish s ifVer)).sound fz = true := by
  simp (maxDischargeDepth := 99) +contextual [State.cfwPublish, *]

/-- `binsTake` keeps soundness. -/
@[simp ↓] theorem binsTake_sound {fz : Fuses} (s : State) (s' : State) (hs' : s'.sound fz = true) :
    ((binsTake s s')).sound fz = true := by
  simp (maxDischargeDepth := 99) +contextual [binsTake, *]

/-- `State.tickWith` keeps soundness. -/
@[simp ↓] theorem State.tickWith_sound {fz : Fuses} (s : State) (tick : State → State) (hs : s.sound fz = true) (htick : ∀ s, s.sound fz = true → (tick s).sound fz = true) :
    ((State.tickWith s tick)).sound fz = true := by
  simp (maxDischargeDepth := 99) +contextual [State.tickWith, *]

/-! ## Machine/PerfOps.lean -/

/-- `State.sampDrop` keeps soundness. -/
@[simp ↓] theorem State.sampDrop_sound {fz : Fuses} (s : State) (hs : s.sound fz = true) :
    ((State.sampDrop s)).sound fz = true := by
  simp (maxDischargeDepth := 99) +contextual [State.sampDrop, *]

/-- `State.sampleWrite` keeps soundness. -/
@[simp ↓] theorem State.sampleWrite_sound {fz : Fuses} (s : State) (k : Nat) (w : List Nat) (hs : s.sound fz = true) :
    ((State.sampleWrite s k w)).sound fz = true := by
  unfold State.sampleWrite
  repeat' first
    | (extract_lets +onlyGivenNames x
       have hx : State.sound fz x = true := by
         simp only [x]
         repeat' split
         all_goals simp (maxDischargeDepth := 99) +contextual [*]
       clear_value x)
    | (extract_lets +onlyGivenNames x
       have hx : State.sound fz x.1 = true := by
         simp only [x]
         repeat' split
         all_goals simp (maxDischargeDepth := 99) +contextual [*]
       clear_value x)
    | (extract_lets +onlyGivenNames x
       have hx : ∀ s a, State.sound fz s = true → State.sound fz (x s a) = true := by
         intro s a hs
         simp only [x]
         simp (maxDischargeDepth := 99) +contextual [*]
       clear_value x)
    | (extract_lets +onlyGivenNames x; clear_value x)
    | split
  all_goals simp (maxDischargeDepth := 99) +contextual [*]

/-! ## Machine/BlkOps.lean -/

/-- `State.stackDown` keeps soundness. -/
@[simp ↓] theorem State.stackDown_sound {fz : Fuses} (s : State) (i : Nat) (hs : s.sound fz = true) :
    ((State.stackDown s i)).sound fz = true := by
  simp (maxDischargeDepth := 99) +contextual [State.stackDown, *]

/-- `State.stackEnable` keeps soundness. -/
@[simp ↓] theorem State.stackEnable_sound {fz : Fuses} (s : State) (m : Master) (i : Nat) (en : Bool) (hs : s.sound fz = true) :
    ((State.stackEnable s m i en)).sound fz = true := by
  simp (maxDischargeDepth := 99) +contextual [State.stackEnable, *]

/-- `State.blkEnable` keeps soundness. -/
@[simp ↓] theorem State.blkEnable_sound {fz : Fuses} (s : State) (m : Master) (p : Nat) (en : Bool) (al : Nat := 0) (hs : s.sound fz = true) :
    ((State.blkEnable s m p en al)).sound fz = true := by
  simp (maxDischargeDepth := 99) +contextual [State.blkEnable, *]

/-- `State.shieldUp` keeps soundness. -/
@[simp ↓] theorem State.shieldUp_sound {fz : Fuses} (s : State) (p : Nat) (hs : s.sound fz = true) :
    ((State.shieldUp s p)).sound fz = true := by
  simp (maxDischargeDepth := 99) +contextual [State.shieldUp, *]

/-- `State.carReset` keeps soundness. -/
@[simp ↓] theorem State.carReset_sound {fz : Fuses} (s : State) (c : Nat) (hs : s.sound fz = true) :
    ((State.carReset s c)).sound fz = true := by
  simp (maxDischargeDepth := 99) +contextual [State.carReset, *]

/-- `State.laneReset` keeps soundness. -/
@[simp ↓] theorem State.laneReset_sound {fz : Fuses} (s : State) (n : Nat) (hs : s.sound fz = true) :
    ((State.laneReset s n)).sound fz = true := by
  simp (maxDischargeDepth := 99) +contextual [State.laneReset, *]

/-- `State.resetBlock` keeps soundness. -/
@[simp ↓] theorem State.resetBlock_sound {fz : Fuses} (s : State) (p : Nat) (hs : s.sound fz = true) :
    ((State.resetBlock s p)).sound fz = true := by
  simp (maxDischargeDepth := 99) +contextual [State.resetBlock, *]

/-- `State.blkReset` keeps soundness. -/
@[simp ↓] theorem State.blkReset_sound {fz : Fuses} (s : State) (m : Master) (p : Nat) (hs : s.sound fz = true) :
    ((State.blkReset s m p)).sound fz = true := by
  simp (maxDischargeDepth := 99) +contextual [State.blkReset, *]

/-- `State.blkCtrl` keeps soundness. -/
@[simp ↓] theorem State.blkCtrl_sound {fz : Fuses} (s : State) (m : Master) (p : Nat) (region : Nat) (be : Nat) (data : Nat) (hs : s.sound fz = true) :
    ((State.blkCtrl s m p region be data)).sound fz = true := by
  simp (maxDischargeDepth := 99) +contextual [State.blkCtrl, *]

/-- `State.readyWork` keeps soundness. -/
@[simp ↓] theorem State.readyWork_sound {fz : Fuses} (s : State) (p : Nat) (hs : s.sound fz = true) :
    ((State.readyWork s p)).sound fz = true := by
  simp (maxDischargeDepth := 99) +contextual [State.readyWork, *]

/-- `State.readyReached` keeps soundness. -/
@[simp ↓] theorem State.readyReached_sound {fz : Fuses} (s : State) (p : Nat) (hs : s.sound fz = true) :
    ((State.readyReached s p)).sound fz = true := by
  simp (maxDischargeDepth := 99) +contextual [State.readyReached, *]

/-- `State.readyMissed` keeps soundness. -/
@[simp ↓] theorem State.readyMissed_sound {fz : Fuses} (s : State) (p : Nat) (hs : s.sound fz = true) :
    ((State.readyMissed s p)).sound fz = true := by
  simp (maxDischargeDepth := 99) +contextual [State.readyMissed, *]

/-! ## Machine/RegAccess.lean -/

/-- `State.regRead` keeps soundness. -/
@[simp ↓] theorem State.regRead_sound {fz : Fuses} (s : State) (m : Master) (p : Nat) (off : Nat) (hs : s.sound fz = true) :
    ((State.regRead s m p off).1).sound fz = true := by
  unfold State.regRead
  repeat' first
    | (extract_lets +onlyGivenNames x
       have hx : State.sound fz x = true := by
         simp only [x]
         repeat' split
         all_goals simp (maxDischargeDepth := 99) +contextual [*]
       clear_value x)
    | (extract_lets +onlyGivenNames x
       have hx : State.sound fz x.1 = true := by
         simp only [x]
         repeat' split
         all_goals simp (maxDischargeDepth := 99) +contextual [*]
       clear_value x)
    | (extract_lets +onlyGivenNames x
       have hx : ∀ s a, State.sound fz s = true → State.sound fz (x s a) = true := by
         intro s a hs
         simp only [x]
         simp (maxDischargeDepth := 99) +contextual [*]
       clear_value x)
    | (extract_lets +onlyGivenNames x; clear_value x)
    | split
  all_goals simp (maxDischargeDepth := 99) +contextual [*]

/-- `State.readDw` keeps soundness. -/
@[simp ↓] theorem State.readDw_sound {fz : Fuses} (s : State) (m : Master) (addr : Nat) (hs : s.sound fz = true) :
    ((State.readDw s m addr).1).sound fz = true := by
  unfold State.readDw
  repeat' first
    | (extract_lets +onlyGivenNames x
       have hx : State.sound fz x = true := by
         simp only [x]
         repeat' split
         all_goals simp (maxDischargeDepth := 99) +contextual [*]
       clear_value x)
    | (extract_lets +onlyGivenNames x
       have hx : State.sound fz x.1 = true := by
         simp only [x]
         repeat' split
         all_goals simp (maxDischargeDepth := 99) +contextual [*]
       clear_value x)
    | (extract_lets +onlyGivenNames x
       have hx : ∀ s a, State.sound fz s = true → State.sound fz (x s a) = true := by
         intro s a hs
         simp only [x]
         simp (maxDischargeDepth := 99) +contextual [*]
       clear_value x)
    | (extract_lets +onlyGivenNames x; clear_value x)
    | split
  all_goals simp (maxDischargeDepth := 99) +contextual [*]

/-- `State.intForce` keeps soundness. -/
@[simp ↓] theorem State.intForce_sound {fz : Fuses} (s : State) (p : Nat) (region : Nat) (be : Nat) (data : Nat) (hs : s.sound fz = true) :
    ((State.intForce s p region be data)).sound fz = true := by
  simp (maxDischargeDepth := 99) +contextual [State.intForce, *]

/-- `State.snapCtrl` keeps soundness. -/
@[simp ↓] theorem State.snapCtrl_sound {fz : Fuses} (s : State) (p : Nat) (data : Nat) (hs : s.sound fz = true) :
    ((State.snapCtrl s p data)).sound fz = true := by
  simp (maxDischargeDepth := 99) +contextual [State.snapCtrl, *]

/-- `State.violClear` keeps soundness. -/
@[simp ↓] theorem State.violClear_sound {fz : Fuses} (s : State) (p : Nat) (region : Nat) (be : Nat) (data : Nat) (hs : s.sound fz = true) :
    ((State.violClear s p region be data)).sound fz = true := by
  simp (maxDischargeDepth := 99) +contextual [State.violClear, *]

/-- `State.errClear` keeps soundness. -/
@[simp ↓] theorem State.errClear_sound {fz : Fuses} (s : State) (p : Nat) (region : Nat) (be : Nat) (data : Nat) (hs : s.sound fz = true) :
    ((State.errClear s p region be data)).sound fz = true := by
  simp (maxDischargeDepth := 99) +contextual [State.errClear, *]

/-- `State.headerWrite` keeps soundness. -/
@[simp ↓] theorem State.headerWrite_sound {fz : Fuses} (s : State) (m : Master) (p : Nat) (off : Nat) (region : Nat) (be : Nat) (data : Nat) (hs : s.sound fz = true) :
    ((State.headerWrite s m p off region be data)).sound fz = true := by
  unfold State.headerWrite
  repeat' first
    | (extract_lets +onlyGivenNames x
       have hx : State.sound fz x = true := by
         simp only [x]
         repeat' split
         all_goals simp (maxDischargeDepth := 99) +contextual [*]
       clear_value x)
    | (extract_lets +onlyGivenNames x
       have hx : State.sound fz x.1 = true := by
         simp only [x]
         repeat' split
         all_goals simp (maxDischargeDepth := 99) +contextual [*]
       clear_value x)
    | (extract_lets +onlyGivenNames x
       have hx : ∀ s a, State.sound fz s = true → State.sound fz (x s a) = true := by
         intro s a hs
         simp only [x]
         simp (maxDischargeDepth := 99) +contextual [*]
       clear_value x)
    | (extract_lets +onlyGivenNames x; clear_value x)
    | split
  all_goals simp (maxDischargeDepth := 99) +contextual [*]

/-- `State.guarded` keeps soundness. -/
@[simp ↓] theorem State.guarded_sound {fz : Fuses} (s : State) (m : Master) (p : Nat) (off : Nat) (region : Nat) (be : Nat) (data : Nat) (bad : Bool) (code : Nat) (hs : s.sound fz = true) :
    ((State.guarded s m p off region be data bad code)).sound fz = true := by
  simp (maxDischargeDepth := 99) +contextual [State.guarded, *]

/-- `State.wdogWrite` keeps soundness. -/
@[simp ↓] theorem State.wdogWrite_sound {fz : Fuses} (s : State) (m : Master) (region : Nat) (be : Nat) (data : Nat) (hs : s.sound fz = true) :
    ((State.wdogWrite s m region be data)).sound fz = true := by
  simp (maxDischargeDepth := 99) +contextual [State.wdogWrite, *]

/-- `State.devWrite` keeps soundness. -/
@[simp ↓] theorem State.devWrite_sound {fz : Fuses} (s : State) (m : Master) (off : Nat) (region : Nat) (be : Nat) (data : Nat) (hs : s.sound fz = true) :
    ((State.devWrite s m off region be data)).sound fz = true := by
  unfold State.devWrite
  repeat' first
    | (extract_lets +onlyGivenNames x
       have hx : State.sound fz x = true := by
         simp only [x]
         repeat' split
         all_goals simp (maxDischargeDepth := 99) +contextual [*]
       clear_value x)
    | (extract_lets +onlyGivenNames x
       have hx : State.sound fz x.1 = true := by
         simp only [x]
         repeat' split
         all_goals simp (maxDischargeDepth := 99) +contextual [*]
       clear_value x)
    | (extract_lets +onlyGivenNames x
       have hx : ∀ s a, State.sound fz s = true → State.sound fz (x s a) = true := by
         intro s a hs
         simp only [x]
         simp (maxDischargeDepth := 99) +contextual [*]
       clear_value x)
    | (extract_lets +onlyGivenNames x; clear_value x)
    | split
  all_goals simp (maxDischargeDepth := 99) +contextual [*]

/-- `State.cfwWrite` keeps soundness. -/
@[simp ↓] theorem State.cfwWrite_sound {fz : Fuses} (s : State) (m : Master) (off : Nat) (region : Nat) (be : Nat) (data : Nat) (hs : s.sound fz = true) :
    ((State.cfwWrite s m off region be data)).sound fz = true := by
  simp (maxDischargeDepth := 99) +contextual [State.cfwWrite, *]

/-- `State.carWrite` keeps soundness. -/
@[simp ↓] theorem State.carWrite_sound {fz : Fuses} (s : State) (m : Master) (p : Nat) (off : Nat) (region : Nat) (be : Nat) (data : Nat) (hs : s.sound fz = true) :
    ((State.carWrite s m p off region be data)).sound fz = true := by
  unfold State.carWrite
  repeat' first
    | (extract_lets +onlyGivenNames x
       have hx : State.sound fz x = true := by
         simp only [x]
         repeat' split
         all_goals simp (maxDischargeDepth := 99) +contextual [*]
       clear_value x)
    | (extract_lets +onlyGivenNames x
       have hx : State.sound fz x.1 = true := by
         simp only [x]
         repeat' split
         all_goals simp (maxDischargeDepth := 99) +contextual [*]
       clear_value x)
    | (extract_lets +onlyGivenNames x
       have hx : ∀ s a, State.sound fz s = true → State.sound fz (x s a) = true := by
         intro s a hs
         simp only [x]
         simp (maxDischargeDepth := 99) +contextual [*]
       clear_value x)
    | (extract_lets +onlyGivenNames x; clear_value x)
    | split
  all_goals simp (maxDischargeDepth := 99) +contextual [*]

/-- `State.oduWrite` keeps soundness. -/
@[simp ↓] theorem State.oduWrite_sound {fz : Fuses} (s : State) (m : Master) (p : Nat) (off : Nat) (region : Nat) (be : Nat) (data : Nat) (hs : s.sound fz = true) :
    ((State.oduWrite s m p off region be data)).sound fz = true := by
  simp (maxDischargeDepth := 99) +contextual [State.oduWrite, *]

/-- `State.tpcWrite` keeps soundness. -/
@[simp ↓] theorem State.tpcWrite_sound {fz : Fuses} (s : State) (m : Master) (off : Nat) (region : Nat) (be : Nat) (data : Nat) (hs : s.sound fz = true) :
    ((State.tpcWrite s m off region be data)).sound fz = true := by
  simp (maxDischargeDepth := 99) +contextual [State.tpcWrite, *]

/-- `State.coreWrite` keeps soundness. -/
@[simp ↓] theorem State.coreWrite_sound {fz : Fuses} (s : State) (m : Master) (p : Nat) (off : Nat) (region : Nat) (be : Nat) (data : Nat) (hs : s.sound fz = true) :
    ((State.coreWrite s m p off region be data)).sound fz = true := by
  simp (maxDischargeDepth := 99) +contextual [State.coreWrite, *]

/-- `State.protWrite` keeps soundness. -/
@[simp ↓] theorem State.protWrite_sound {fz : Fuses} (s : State) (m : Master) (p : Nat) (off : Nat) (region : Nat) (be : Nat) (data : Nat) (hs : s.sound fz = true) :
    ((State.protWrite s m p off region be data)).sound fz = true := by
  simp (maxDischargeDepth := 99) +contextual [State.protWrite, *]

/-- `State.eyeCmd` keeps soundness. -/
@[simp ↓] theorem State.eyeCmd_sound {fz : Fuses} (s : State) (m : Master) (n : Nat) (data : Nat) (hs : s.sound fz = true) :
    ((State.eyeCmd s m n data)).sound fz = true := by
  unfold State.eyeCmd
  repeat' first
    | (extract_lets +onlyGivenNames x
       have hx : State.sound fz x = true := by
         simp only [x]
         repeat' split
         all_goals simp (maxDischargeDepth := 99) +contextual [*]
       clear_value x)
    | (extract_lets +onlyGivenNames x
       have hx : State.sound fz x.1 = true := by
         simp only [x]
         repeat' split
         all_goals simp (maxDischargeDepth := 99) +contextual [*]
       clear_value x)
    | (extract_lets +onlyGivenNames x
       have hx : ∀ s a, State.sound fz s = true → State.sound fz (x s a) = true := by
         intro s a hs
         simp only [x]
         simp (maxDischargeDepth := 99) +contextual [*]
       clear_value x)
    | (extract_lets +onlyGivenNames x; clear_value x)
    | split
  all_goals simp (maxDischargeDepth := 99) +contextual [*]

/-- `State.laneWrite` keeps soundness. -/
@[simp ↓] theorem State.laneWrite_sound {fz : Fuses} (s : State) (m : Master) (n : Nat) (off : Nat) (region : Nat) (be : Nat) (data : Nat) (hs : s.sound fz = true) :
    ((State.laneWrite s m n off region be data)).sound fz = true := by
  unfold State.laneWrite
  repeat' first
    | (extract_lets +onlyGivenNames x
       have hx : State.sound fz x = true := by
         simp only [x]
         repeat' split
         all_goals simp (maxDischargeDepth := 99) +contextual [*]
       clear_value x)
    | (extract_lets +onlyGivenNames x
       have hx : State.sound fz x.1 = true := by
         simp only [x]
         repeat' split
         all_goals simp (maxDischargeDepth := 99) +contextual [*]
       clear_value x)
    | (extract_lets +onlyGivenNames x
       have hx : ∀ s a, State.sound fz s = true → State.sound fz (x s a) = true := by
         intro s a hs
         simp only [x]
         simp (maxDischargeDepth := 99) +contextual [*]
       clear_value x)
    | (extract_lets +onlyGivenNames x; clear_value x)
    | split
  all_goals simp (maxDischargeDepth := 99) +contextual [*]

/-- `State.twinCfgWrite` keeps soundness. -/
@[simp ↓] theorem State.twinCfgWrite_sound {fz : Fuses} (s : State) (m : Master) (region : Nat) (be : Nat) (data : Nat) (hs : s.sound fz = true) :
    ((State.twinCfgWrite s m region be data)).sound fz = true := by
  simp (maxDischargeDepth := 99) +contextual [State.twinCfgWrite, *]

/-- `State.dmaWrite` keeps soundness. -/
@[simp ↓] theorem State.dmaWrite_sound {fz : Fuses} (s : State) (m : Master) (off : Nat) (region : Nat) (be : Nat) (data : Nat) (hs : s.sound fz = true) :
    ((State.dmaWrite s m off region be data)).sound fz = true := by
  unfold State.dmaWrite
  repeat' first
    | (extract_lets +onlyGivenNames x
       have hx : State.sound fz x = true := by
         simp only [x]
         repeat' split
         all_goals simp (maxDischargeDepth := 99) +contextual [*]
       clear_value x)
    | (extract_lets +onlyGivenNames x
       have hx : State.sound fz x.1 = true := by
         simp only [x]
         repeat' split
         all_goals simp (maxDischargeDepth := 99) +contextual [*]
       clear_value x)
    | (extract_lets +onlyGivenNames x
       have hx : ∀ s a, State.sound fz s = true → State.sound fz (x s a) = true := by
         intro s a hs
         simp only [x]
         simp (maxDischargeDepth := 99) +contextual [*]
       clear_value x)
    | (extract_lets +onlyGivenNames x; clear_value x)
    | split
  all_goals simp (maxDischargeDepth := 99) +contextual [*]

/-- `State.ringCfgWrite` keeps soundness. -/
@[simp ↓] theorem State.ringCfgWrite_sound {fz : Fuses} (s : State) (m : Master) (off : Nat) (region : Nat) (be : Nat) (data : Nat) (hs : s.sound fz = true) :
    ((State.ringCfgWrite s m off region be data)).sound fz = true := by
  unfold State.ringCfgWrite
  repeat' first
    | (extract_lets +onlyGivenNames x
       have hx : State.sound fz x = true := by
         simp only [x]
         repeat' split
         all_goals simp (maxDischargeDepth := 99) +contextual [*]
       clear_value x)
    | (extract_lets +onlyGivenNames x
       have hx : State.sound fz x.1 = true := by
         simp only [x]
         repeat' split
         all_goals simp (maxDischargeDepth := 99) +contextual [*]
       clear_value x)
    | (extract_lets +onlyGivenNames x
       have hx : ∀ s a, State.sound fz s = true → State.sound fz (x s a) = true := by
         intro s a hs
         simp only [x]
         simp (maxDischargeDepth := 99) +contextual [*]
       clear_value x)
    | (extract_lets +onlyGivenNames x; clear_value x)
    | split
  all_goals simp (maxDischargeDepth := 99) +contextual [*]

/-- `State.pcieWrite` keeps soundness. -/
@[simp ↓] theorem State.pcieWrite_sound {fz : Fuses} (s : State) (m : Master) (p : Nat) (off : Nat) (region : Nat) (be : Nat) (data : Nat) (hs : s.sound fz = true) :
    ((State.pcieWrite s m p off region be data)).sound fz = true := by
  simp (maxDischargeDepth := 99) +contextual [State.pcieWrite, *]

/-- `State.sampWrite` keeps soundness. -/
@[simp ↓] theorem State.sampWrite_sound {fz : Fuses} (s : State) (m : Master) (off : Nat) (region : Nat) (be : Nat) (data : Nat) (hs : s.sound fz = true) :
    ((State.sampWrite s m off region be data)).sound fz = true := by
  unfold State.sampWrite
  repeat' first
    | (extract_lets +onlyGivenNames x
       have hx : State.sound fz x = true := by
         simp only [x]
         repeat' split
         all_goals simp (maxDischargeDepth := 99) +contextual [*]
       clear_value x)
    | (extract_lets +onlyGivenNames x
       have hx : State.sound fz x.1 = true := by
         simp only [x]
         repeat' split
         all_goals simp (maxDischargeDepth := 99) +contextual [*]
       clear_value x)
    | (extract_lets +onlyGivenNames x
       have hx : ∀ s a, State.sound fz s = true → State.sound fz (x s a) = true := by
         intro s a hs
         simp only [x]
         simp (maxDischargeDepth := 99) +contextual [*]
       clear_value x)
    | (extract_lets +onlyGivenNames x; clear_value x)
    | split
  all_goals simp (maxDischargeDepth := 99) +contextual [*]

/-- `State.busWrite` keeps soundness. -/
@[simp ↓] theorem State.busWrite_sound {fz : Fuses} (s : State) (m : Master) (p : Nat) (off : Nat) (region : Nat) (be : Nat) (data : Nat) (hs : s.sound fz = true) :
    ((State.busWrite s m p off region be data)).sound fz = true := by
  simp (maxDischargeDepth := 99) +contextual [State.busWrite, *]

/-- `State.secWrite` keeps soundness. -/
@[simp ↓] theorem State.secWrite_sound {fz : Fuses} (s : State) (m : Master) (p : Nat) (off : Nat) (region : Nat) (be : Nat) (data : Nat) (hs : s.sound fz = true) :
    ((State.secWrite s m p off region be data)).sound fz = true := by
  simp (maxDischargeDepth := 99) +contextual [State.secWrite, *]

/-- `State.userRecord` keeps soundness. -/
@[simp ↓] theorem State.userRecord_sound {fz : Fuses} (s : State) (m : Master) (data : Nat) (hs : s.sound fz = true) :
    ((State.userRecord s m data)).sound fz = true := by
  simp (maxDischargeDepth := 99) +contextual [State.userRecord, *]

/-- `State.svcWrite` keeps soundness. -/
@[simp ↓] theorem State.svcWrite_sound {fz : Fuses} (s : State) (m : Master) (p : Nat) (off : Nat) (region : Nat) (be : Nat) (data : Nat) (hs : s.sound fz = true) :
    ((State.svcWrite s m p off region be data)).sound fz = true := by
  simp (maxDischargeDepth := 99) +contextual [State.svcWrite, *]

/-- `State.pageWrite` keeps soundness. -/
@[simp ↓] theorem State.pageWrite_sound {fz : Fuses} (s : State) (m : Master) (p : Nat) (off : Nat) (region : Nat) (be : Nat) (data : Nat) (hs : s.sound fz = true) :
    ((State.pageWrite s m p off region be data)).sound fz = true := by
  unfold State.pageWrite
  repeat' first
    | (extract_lets +onlyGivenNames x
       have hx : State.sound fz x = true := by
         simp only [x]
         repeat' split
         all_goals simp (maxDischargeDepth := 99) +contextual [*]
       clear_value x)
    | (extract_lets +onlyGivenNames x
       have hx : State.sound fz x.1 = true := by
         simp only [x]
         repeat' split
         all_goals simp (maxDischargeDepth := 99) +contextual [*]
       clear_value x)
    | (extract_lets +onlyGivenNames x
       have hx : ∀ s a, State.sound fz s = true → State.sound fz (x s a) = true := by
         intro s a hs
         simp only [x]
         simp (maxDischargeDepth := 99) +contextual [*]
       clear_value x)
    | (extract_lets +onlyGivenNames x; clear_value x)
    | split
  all_goals simp (maxDischargeDepth := 99) +contextual [*]

/-- `aliasLogged` keeps soundness. -/
@[simp ↓] theorem aliasLogged_sound {fz : Fuses} (p : Nat) (region : Nat) (s : State) (s' : State) (hs : s.sound fz = true) (hs' : s'.sound fz = true) :
    ((aliasLogged p region s s')).sound fz = true := by
  simp (maxDischargeDepth := 99) +contextual [aliasLogged, *]

/-- `State.regWrite` keeps soundness. -/
@[simp ↓] theorem State.regWrite_sound {fz : Fuses} (s : State) (m : Master) (p : Nat) (off : Nat) (region : Nat) (be : Nat) (data : Nat) (hs : s.sound fz = true) :
    ((State.regWrite s m p off region be data)).sound fz = true := by
  simp (maxDischargeDepth := 99) +contextual [State.regWrite, *]

/-! ## Machine/JrnlOps.lean -/

/-- `State.jrnlPut` keeps soundness. -/
@[simp ↓] theorem State.jrnlPut_sound {fz : Fuses} (s : State) (r : JRec) (hs : s.sound fz = true) :
    ((State.jrnlPut s r)).sound fz = true := by
  simp (maxDischargeDepth := 99) +contextual [State.jrnlPut, *]

/-- `State.jrnlTellDropped` keeps soundness. -/
@[simp ↓] theorem State.jrnlTellDropped_sound {fz : Fuses} (s : State) (hs : s.sound fz = true) :
    ((State.jrnlTellDropped s)).sound fz = true := by
  simp (maxDischargeDepth := 99) +contextual [State.jrnlTellDropped, *]

/-- `State.jrnlNext` keeps soundness. -/
@[simp ↓] theorem State.jrnlNext_sound {fz : Fuses} (s : State) (hs : s.sound fz = true) :
    ((State.jrnlNext s)).sound fz = true := by
  unfold State.jrnlNext
  repeat' first
    | (extract_lets +onlyGivenNames x
       have hx : State.sound fz x = true := by
         simp only [x]
         repeat' split
         all_goals simp (maxDischargeDepth := 99) +contextual [*]
       clear_value x)
    | (extract_lets +onlyGivenNames x
       have hx : State.sound fz x.1 = true := by
         simp only [x]
         repeat' split
         all_goals simp (maxDischargeDepth := 99) +contextual [*]
       clear_value x)
    | (extract_lets +onlyGivenNames x
       have hx : ∀ s a, State.sound fz s = true → State.sound fz (x s a) = true := by
         intro s a hs
         simp only [x]
         simp (maxDischargeDepth := 99) +contextual [*]
       clear_value x)
    | (extract_lets +onlyGivenNames x; clear_value x)
    | split
  all_goals simp (maxDischargeDepth := 99) +contextual [*]

/-- `State.svcMs` keeps soundness. -/
@[simp ↓] theorem State.svcMs_sound {fz : Fuses} (s : State) (hs : s.sound fz = true) :
    ((State.svcMs s)).sound fz = true := by
  simp (maxDischargeDepth := 99) +contextual [State.svcMs, *]

/-! ## Machine/BusOps.lean -/

/-- `State.writeBeat` keeps soundness. -/
@[simp ↓] theorem State.writeBeat_sound {fz : Fuses} (s : State) (t : Nat) (r : BusReq) (off : Nat) (be : Nat) (data : Nat) (hs : s.sound fz = true) :
    ((State.writeBeat s t r off be data)).sound fz = true := by
  unfold State.writeBeat
  split
  · split <;> simp [*]
  split
  · simp [*]
  split
  · refine sound_foldl _ _ _ (fun s i h => ?_) hs
    split
    · exact sound_of_sram _ _ h
    · exact h
  split <;> simp [*]

/-- `State.writeBeats` keeps soundness. -/
@[simp ↓] theorem State.writeBeats_sound {fz : Fuses} (s : State) (t : Nat) (r : BusReq) (off : Nat) (x0 : List (Nat × Nat)) (hs : s.sound fz = true) :
    ((State.writeBeats s t r off x0)).sound fz = true := by
  induction x0 generalizing s t r off
  all_goals simp (maxDischargeDepth := 99) +contextual [State.writeBeats, *]

/-- `State.readBeat` keeps soundness. -/
@[simp ↓] theorem State.readBeat_sound {fz : Fuses} (s : State) (t : Nat) (m : Master) (off : Nat) (hs : s.sound fz = true) :
    ((State.readBeat s t m off).1).sound fz = true := by
  simp (maxDischargeDepth := 99) +contextual [State.readBeat, *]

/-- `State.burstRecords` keeps soundness. -/
@[simp ↓] theorem State.burstRecords_sound {fz : Fuses} (s : State) (s' : State) (hs : s.sound fz = true) (hs' : s'.sound fz = true) :
    ((State.burstRecords s s')).sound fz = true := by
  simp (maxDischargeDepth := 99) +contextual [State.burstRecords, *]

/-- `State.readBeats` keeps soundness. -/
@[simp ↓] theorem State.readBeats_sound {fz : Fuses} (s : State) (t : Nat) (m : Master) (off : Nat) (x0 : List Nat) (hs : s.sound fz = true) :
    ((State.readBeats s t m off x0).1).sound fz = true := by
  induction x0 generalizing s t m off
  all_goals simp (maxDischargeDepth := 99) +contextual [State.readBeats, *]

/-- `State.respError` keeps soundness. -/
@[simp ↓] theorem State.respError_sound {fz : Fuses} (s : State) (r : BusReq) (resp : Resp) (hs : s.sound fz = true) :
    ((State.respError s r resp)).sound fz = true := by
  unfold State.respError
  repeat' first
    | (extract_lets +onlyGivenNames x
       have hx : State.sound fz x = true := by
         simp only [x]
         repeat' split
         all_goals simp (maxDischargeDepth := 99) +contextual [*]
       clear_value x)
    | (extract_lets +onlyGivenNames x
       have hx : State.sound fz x.1 = true := by
         simp only [x]
         repeat' split
         all_goals simp (maxDischargeDepth := 99) +contextual [*]
       clear_value x)
    | (extract_lets +onlyGivenNames x
       have hx : ∀ s a, State.sound fz s = true → State.sound fz (x s a) = true := by
         intro s a hs
         simp only [x]
         simp (maxDischargeDepth := 99) +contextual [*]
       clear_value x)
    | (extract_lets +onlyGivenNames x; clear_value x)
    | split
  all_goals simp (maxDischargeDepth := 99) +contextual [*]

/-- `State.perform` keeps soundness. -/
@[simp ↓] theorem State.perform_sound {fz : Fuses} (s : State) (t : Nat) (off : Nat) (r : BusReq) (k : Nat) (prov : Bool) (hs : s.sound fz = true) :
    ((State.perform s t off r k prov).1).sound fz = true := by
  unfold State.perform
  extract_lets resp n done
  have h : State.sound fz done.1 = true := by
    simp only [done]
    split
    · simp [*]
    · split <;> simp [*]
  clear_value done
  simp [*]

/-- `State.burst` keeps soundness. -/
@[simp ↓] theorem State.burst_sound {fz : Fuses} (s : State) (t : Nat) (off : Nat) (r : BusReq) (k : Nat) (prov : Bool) (hs : s.sound fz = true) :
    ((State.burst s t off r k prov)).sound fz = true := by
  simp (maxDischargeDepth := 99) +contextual [State.burst, *]

/-- `State.access` keeps soundness. -/
@[simp ↓] theorem State.access_sound {fz : Fuses} (s : State) (m : Master) (addr : Nat) (op : BusOp) (hs : s.sound fz = true) :
    ((State.access s m addr op).1).sound fz = true := by
  unfold State.access
  repeat' first
    | (extract_lets +onlyGivenNames x
       have hx : State.sound fz x = true := by
         simp only [x]
         repeat' split
         all_goals simp (maxDischargeDepth := 99) +contextual [*]
       clear_value x)
    | (extract_lets +onlyGivenNames x
       have hx : State.sound fz x.1 = true := by
         simp only [x]
         repeat' split
         all_goals simp (maxDischargeDepth := 99) +contextual [*]
       clear_value x)
    | (extract_lets +onlyGivenNames x
       have hx : ∀ s a, State.sound fz s = true → State.sound fz (x s a) = true := by
         intro s a hs
         simp only [x]
         simp (maxDischargeDepth := 99) +contextual [*]
       clear_value x)
    | (extract_lets +onlyGivenNames x; clear_value x)
    | split
  all_goals simp (maxDischargeDepth := 99) +contextual [*]

/-- `State.granted` keeps soundness. -/
@[simp ↓] theorem State.granted_sound {fz : Fuses} (s : State) (w : Waiting) (hs : s.sound fz = true) :
    ((State.granted s w)).sound fz = true := by
  simp (maxDischargeDepth := 99) +contextual [State.granted, *]

/-- `State.partBurst` keeps soundness. -/
@[simp ↓] theorem State.partBurst_sound {fz : Fuses} (s : State) (w : Waiting) (k : Nat) (hs : s.sound fz = true) :
    ((State.partBurst s w k)).sound fz = true := by
  unfold State.partBurst
  refine sound_ite _ _ (by simp [*]) ?_
  extract_lets s1
  have h1 : State.sound fz s1 = true := by
    simp only [s1]
    split
    · exact sound_ite _ _ hs (State.writeBeats_sound _ _ _ _ _ hs)
    · exact hs
  exact h1

/-- `State.serve` keeps soundness. -/
@[simp ↓] theorem State.serve_sound {fz : Fuses} (t : Nat) (id : Nat) (part : Option Nat) (x0 : Nat) (x1 : State) (hx1 : x1.sound fz = true) :
    ((State.serve t id part x0 x1)).sound fz = true := by
  induction x0 generalizing x1 with
  | zero => exact hx1
  | succ n ih =>
    unfold State.serve
    split
    · exact hx1
    · extract_lets s1
      have h1 : State.sound fz s1 = true := by simp [s1, *]
      clear_value s1
      split
      · split
        · simp [*]
        · exact ih _ (by simp [*])
      · exact ih _ (by simp [*])

/-- `State.finishBursts` keeps soundness. -/
@[simp ↓] theorem State.finishBursts_sound {fz : Fuses} (s : State) (t : Nat) (hs : s.sound fz = true) :
    ((State.finishBursts s t)).sound fz = true := by
  simp (maxDischargeDepth := 99) +contextual [State.finishBursts, *]

/-- `State.busRequest` keeps soundness. -/
@[simp ↓] theorem State.busRequest_sound {fz : Fuses} (s : State) (r : BusReq) (busy : Bool) (part : Option Nat) (hs : s.sound fz = true) :
    ((State.busRequest s r busy part)).sound fz = true := by
  unfold State.busRequest
  repeat' first
    | (extract_lets +onlyGivenNames x
       have hx : State.sound fz x = true := by
         simp only [x]
         repeat' split
         all_goals simp (maxDischargeDepth := 99) +contextual [*]
       clear_value x)
    | (extract_lets +onlyGivenNames x
       have hx : State.sound fz x.1 = true := by
         simp only [x]
         repeat' split
         all_goals simp (maxDischargeDepth := 99) +contextual [*]
       clear_value x)
    | (extract_lets +onlyGivenNames x
       have hx : ∀ s a, State.sound fz s = true → State.sound fz (x s a) = true := by
         intro s a hs
         simp only [x]
         simp (maxDischargeDepth := 99) +contextual [*]
       clear_value x)
    | (extract_lets +onlyGivenNames x; clear_value x)
    | split
  all_goals simp (maxDischargeDepth := 99) +contextual [*]

/-- `State.ageRequest` keeps soundness. -/
@[simp ↓] theorem State.ageRequest_sound {fz : Fuses} (s : State) (id : Nat) (hs : s.sound fz = true) :
    ((State.ageRequest s id)).sound fz = true := by
  unfold State.ageRequest
  repeat' first
    | (extract_lets +onlyGivenNames x
       have hx : State.sound fz x = true := by
         simp only [x]
         repeat' split
         all_goals simp (maxDischargeDepth := 99) +contextual [*]
       clear_value x)
    | (extract_lets +onlyGivenNames x
       have hx : State.sound fz x.1 = true := by
         simp only [x]
         repeat' split
         all_goals simp (maxDischargeDepth := 99) +contextual [*]
       clear_value x)
    | (extract_lets +onlyGivenNames x
       have hx : ∀ s a, State.sound fz s = true → State.sound fz (x s a) = true := by
         intro s a hs
         simp only [x]
         simp (maxDischargeDepth := 99) +contextual [*]
       clear_value x)
    | (extract_lets +onlyGivenNames x; clear_value x)
    | split
  all_goals simp (maxDischargeDepth := 99) +contextual [*]

/-! ## Machine/DmaOps.lean -/

/-- `State.descStart` keeps soundness. -/
@[simp ↓] theorem State.descStart_sound {fz : Fuses} (s : State) (k : Nat) (d : Descriptor) (hs : s.sound fz = true) :
    ((State.descStart s k d)).sound fz = true := by
  unfold State.descStart
  repeat' first
    | (extract_lets +onlyGivenNames x
       have hx : State.sound fz x = true := by
         simp only [x]
         repeat' split
         all_goals simp (maxDischargeDepth := 99) +contextual [*]
       clear_value x)
    | (extract_lets +onlyGivenNames x
       have hx : State.sound fz x.1 = true := by
         simp only [x]
         repeat' split
         all_goals simp (maxDischargeDepth := 99) +contextual [*]
       clear_value x)
    | (extract_lets +onlyGivenNames x
       have hx : ∀ s a, State.sound fz s = true → State.sound fz (x s a) = true := by
         intro s a hs
         simp only [x]
         simp (maxDischargeDepth := 99) +contextual [*]
       clear_value x)
    | (extract_lets +onlyGivenNames x; clear_value x)
    | split
  all_goals simp (maxDischargeDepth := 99) +contextual [*]

/-- `State.dmaWrites` keeps soundness. -/
@[simp ↓] theorem State.dmaWrites_sound {fz : Fuses} (s : State) (addr : Nat) (x0 : Nat) (x1 : List Nat) (x2 : Nat) (hs : s.sound fz = true) :
    ((State.dmaWrites s addr x0 x1 x2).1).sound fz = true := by
  induction x0 generalizing s addr x1 x2 with
  | zero => exact hs
  | succ n ih =>
    unfold State.dmaWrites
    extract_lets k x
    split
    · exact hs
    · split
      · exact State.access_sound _ _ _ _ hs
      · exact ih _ _ _ _ (State.access_sound _ _ _ _ hs)

/-- `State.dmaReads` keeps soundness. -/
@[simp ↓] theorem State.dmaReads_sound {fz : Fuses} (s : State) (addr : Nat) (x0 : Nat) (x1 : Nat) (x2 : List Nat) (hs : s.sound fz = true) :
    ((State.dmaReads s addr x0 x1 x2).1).sound fz = true := by
  induction x0 generalizing s addr x1 x2 with
  | zero => exact hs
  | succ n ih =>
    unfold State.dmaReads
    extract_lets k x
    split
    · exact hs
    · split
      · exact State.access_sound _ _ _ _ hs
      · exact ih _ _ _ _ (State.access_sound _ _ _ _ hs)

/-- `State.dmaMove` keeps soundness. -/
@[simp ↓] theorem State.dmaMove_sound {fz : Fuses} (s : State) (d : Descriptor) (n : Nat) (hostData : List Nat) (hs : s.sound fz = true) :
    ((State.dmaMove s d n hostData).1).sound fz = true := by
  simp (maxDischargeDepth := 99) +contextual [State.dmaMove, *]

/-- `State.descDone` keeps soundness. -/
@[simp ↓] theorem State.descDone_sound {fz : Fuses} (s : State) (k : Nat) (hostData : List Nat) (how : DmaEnd) (hs : s.sound fz = true) :
    ((State.descDone s k hostData how)).sound fz = true := by
  unfold State.descDone
  split
  · exact hs
  · split
    · exact hs
    · exact State.descEnd_sound _ _ _ _ _ (State.onlyIf_sound _ _ _ (State.dmaMove_sound _ _ _ _ hs) fun t ht =>
        State.raise_sound _ _ _ (State.cadd_sound _ _ ht))

/-- `State.chanCut` keeps soundness. -/
@[simp ↓] theorem State.chanCut_sound {fz : Fuses} (s : State) (k : Nat) (hs : s.sound fz = true) :
    ((State.chanCut s k)).sound fz = true := by
  unfold State.chanCut
  repeat' first
    | (extract_lets +onlyGivenNames x
       have hx : State.sound fz x = true := by
         simp only [x]
         repeat' split
         all_goals simp (maxDischargeDepth := 99) +contextual [*]
       clear_value x)
    | (extract_lets +onlyGivenNames x
       have hx : State.sound fz x.1 = true := by
         simp only [x]
         repeat' split
         all_goals simp (maxDischargeDepth := 99) +contextual [*]
       clear_value x)
    | (extract_lets +onlyGivenNames x
       have hx : ∀ s a, State.sound fz s = true → State.sound fz (x s a) = true := by
         intro s a hs
         simp only [x]
         simp (maxDischargeDepth := 99) +contextual [*]
       clear_value x)
    | (extract_lets +onlyGivenNames x; clear_value x)
    | split
  all_goals simp (maxDischargeDepth := 99) +contextual [*]

/-- `State.dmaCut` keeps soundness. -/
@[simp ↓] theorem State.dmaCut_sound {fz : Fuses} (s : State) (hs : s.sound fz = true) :
    ((State.dmaCut s)).sound fz = true := by
  simp (maxDischargeDepth := 99) +contextual [State.dmaCut, *]

/-- `State.chanDrained` keeps soundness. -/
@[simp ↓] theorem State.chanDrained_sound {fz : Fuses} (s : State) (k : Nat) (moved : Nat) (hostData : List Nat) (hs : s.sound fz = true) :
    ((State.chanDrained s k moved hostData)).sound fz = true := by
  unfold State.chanDrained
  repeat' first
    | (extract_lets +onlyGivenNames x
       have hx : State.sound fz x = true := by
         simp only [x]
         repeat' split
         all_goals simp (maxDischargeDepth := 99) +contextual [*]
       clear_value x)
    | (extract_lets +onlyGivenNames x
       have hx : State.sound fz x.1 = true := by
         simp only [x]
         repeat' split
         all_goals simp (maxDischargeDepth := 99) +contextual [*]
       clear_value x)
    | (extract_lets +onlyGivenNames x
       have hx : ∀ s a, State.sound fz s = true → State.sound fz (x s a) = true := by
         intro s a hs
         simp only [x]
         simp (maxDischargeDepth := 99) +contextual [*]
       clear_value x)
    | (extract_lets +onlyGivenNames x; clear_value x)
    | split
  all_goals simp (maxDischargeDepth := 99) +contextual [*]

/-! ## Machine/Registers.lean -/

/-- `execRegisterWrite` keeps soundness. -/
theorem execRegisterWrite_sound {fz : Fuses} (m : Master) (page : Fin 4096) (dw : Fin 4096) (be : Fin 16) (data : Word) (s : State) (hs : s.sound fz = true) :
    ∃ z, execRegisterWrite m page dw be data s = finish s z ∧ z.sound fz = true := ⟨_, rfl, by simp (maxDischargeDepth := 99) +contextual [*]⟩

/-- `execSetAliasWrite` keeps soundness. -/
theorem execSetAliasWrite_sound {fz : Fuses} (m : Master) (page : Fin 4096) (dw : Fin 4096) (be : Fin 16) (data : Word) (s : State) (hs : s.sound fz = true) :
    ∃ z, execSetAliasWrite m page dw be data s = finish s z ∧ z.sound fz = true := ⟨_, rfl, by simp (maxDischargeDepth := 99) +contextual [*]⟩

/-- `execClearAliasWrite` keeps soundness. -/
theorem execClearAliasWrite_sound {fz : Fuses} (m : Master) (page : Fin 4096) (dw : Fin 4096) (be : Fin 16) (data : Word) (s : State) (hs : s.sound fz = true) :
    ∃ z, execClearAliasWrite m page dw be data s = finish s z ∧ z.sound fz = true := ⟨_, rfl, by simp (maxDischargeDepth := 99) +contextual [*]⟩

/-- `execToggleAliasWrite` keeps soundness. -/
theorem execToggleAliasWrite_sound {fz : Fuses} (m : Master) (page : Fin 4096) (dw : Fin 4096) (be : Fin 16) (data : Word) (s : State) (hs : s.sound fz = true) :
    ∃ z, execToggleAliasWrite m page dw be data s = finish s z ∧ z.sound fz = true := ⟨_, rfl, by simp (maxDischargeDepth := 99) +contextual [*]⟩

/-- `execLockWrite` keeps soundness. -/
theorem execLockWrite_sound {fz : Fuses} (m : Master) (page : Fin 4096) (data : Word) (s : State) (hs : s.sound fz = true) :
    ∃ z, execLockWrite m page data s = finish s z ∧ z.sound fz = true := ⟨_, rfl, by simp (maxDischargeDepth := 99) +contextual [*]⟩

/-- `execIntForceWrite` keeps soundness. -/
theorem execIntForceWrite_sound {fz : Fuses} (m : Master) (page : Fin 4096) (data : Word) (s : State) (hs : s.sound fz = true) :
    ∃ z, execIntForceWrite m page data s = finish s z ∧ z.sound fz = true := ⟨_, rfl, by simp (maxDischargeDepth := 99) +contextual [*]⟩

/-- `execSnapshotTake` keeps soundness. -/
theorem execSnapshotTake_sound {fz : Fuses} (m : Master) (page : Fin 4096) (onTick : Bool) (s : State) (hs : s.sound fz = true) :
    ∃ z, execSnapshotTake m page onTick s = finish s z ∧ z.sound fz = true := ⟨_, rfl, by simp (maxDischargeDepth := 99) +contextual [*]⟩

/-- `execBlockEnable` keeps soundness. -/
theorem execBlockEnable_sound {fz : Fuses} (m : Master) (page : Fin 4096) (s : State) (hs : s.sound fz = true) :
    ∃ z, execBlockEnable m page s = finish s z ∧ z.sound fz = true := ⟨_, rfl, by simp (maxDischargeDepth := 99) +contextual [*]⟩

/-- `execBlockDisable` keeps soundness. -/
theorem execBlockDisable_sound {fz : Fuses} (m : Master) (page : Fin 4096) (s : State) (hs : s.sound fz = true) :
    ∃ z, execBlockDisable m page s = finish s z ∧ z.sound fz = true := ⟨_, rfl, by simp (maxDischargeDepth := 99) +contextual [*]⟩

/-- `State.drained` keeps soundness. -/
@[simp ↓] theorem State.drained_sound {fz : Fuses} (s : State) (f : DrainFn) (hs : s.sound fz = true) :
    ((State.drained s f)).sound fz = true := by
  unfold State.drained
  repeat' first
    | (extract_lets +onlyGivenNames x
       have hx : State.sound fz x = true := by
         simp only [x]
         repeat' split
         all_goals simp (maxDischargeDepth := 99) +contextual [*]
       clear_value x)
    | (extract_lets +onlyGivenNames x
       have hx : State.sound fz x.1 = true := by
         simp only [x]
         repeat' split
         all_goals simp (maxDischargeDepth := 99) +contextual [*]
       clear_value x)
    | (extract_lets +onlyGivenNames x
       have hx : ∀ s a, State.sound fz s = true → State.sound fz (x s a) = true := by
         intro s a hs
         simp only [x]
         simp (maxDischargeDepth := 99) +contextual [*]
       clear_value x)
    | (extract_lets +onlyGivenNames x; clear_value x)
    | split
  all_goals simp (maxDischargeDepth := 99) +contextual [*]

/-- `execDrainComplete` keeps soundness. -/
theorem execDrainComplete_sound {fz : Fuses} (f : DrainFn) (s : State) (hs : s.sound fz = true) :
    ∃ z, execDrainComplete f s = finish s z ∧ z.sound fz = true := ⟨_, rfl, by simp (maxDischargeDepth := 99) +contextual [*]⟩

/-- `execBlockReset` keeps soundness. -/
theorem execBlockReset_sound {fz : Fuses} (m : Master) (page : Fin 4096) (s : State) (hs : s.sound fz = true) :
    ∃ z, execBlockReset m page s = finish s z ∧ z.sound fz = true := ⟨_, rfl, by simp (maxDischargeDepth := 99) +contextual [*]⟩

/-- `execReadyReached` keeps soundness. -/
theorem execReadyReached_sound {fz : Fuses} (page : Fin 4096) (s : State) (hs : s.sound fz = true) :
    ∃ z, execReadyReached page s = finish s z ∧ z.sound fz = true := ⟨_, rfl, by simp (maxDischargeDepth := 99) +contextual [*]⟩

/-- `execReadyTimeout` keeps soundness. -/
theorem execReadyTimeout_sound {fz : Fuses} (page : Fin 4096) (s : State) (hs : s.sound fz = true) :
    ∃ z, execReadyTimeout page s = finish s z ∧ z.sound fz = true := ⟨_, rfl, by simp (maxDischargeDepth := 99) +contextual [*]⟩

/-! ## Machine/ServOps.lean -/

/-- `State.whenAon` keeps soundness. -/
@[simp ↓] theorem State.whenAon_sound {fz : Fuses} (s : State) (f : State → State) (hs : s.sound fz = true) (hf : ∀ s, s.sound fz = true → (f s).sound fz = true) :
    ((State.whenAon s f)).sound fz = true := by
  simp (maxDischargeDepth := 99) +contextual [State.whenAon, *]

/-- `State.conBegins` keeps soundness. -/
@[simp ↓] theorem State.conBegins_sound {fz : Fuses} (s : State) (hs : s.sound fz = true) :
    ((State.conBegins s)).sound fz = true := by
  simp (maxDischargeDepth := 99) +contextual [State.conBegins, *]

/-- `State.console` keeps soundness. -/
@[simp ↓] theorem State.console_sound {fz : Fuses} (s : State) (aon : Bool) (f : State → State) (hs : s.sound fz = true) (hf : ∀ s, s.sound fz = true → (f s).sound fz = true) :
    ((State.console s aon f)).sound fz = true := by
  simp (maxDischargeDepth := 99) +contextual [State.console, *]

/-- `State.conDone` keeps soundness. -/
@[simp ↓] theorem State.conDone_sound {fz : Fuses} (s : State) (hs : s.sound fz = true) :
    ((State.conDone s)).sound fz = true := by
  simp (maxDischargeDepth := 99) +contextual [State.conDone, *]

/-- `State.conStatus` keeps soundness. -/
@[simp ↓] theorem State.conStatus_sound {fz : Fuses} (s : State) (hs : s.sound fz = true) :
    ((State.conStatus s)).sound fz = true := by
  simp (maxDischargeDepth := 99) +contextual [State.conStatus, *]

/-- `State.conRails` keeps soundness. -/
@[simp ↓] theorem State.conRails_sound {fz : Fuses} (s : State) (hs : s.sound fz = true) :
    ((State.conRails s)).sound fz = true := by
  simp (maxDischargeDepth := 99) +contextual [State.conRails, *]

/-- `State.conTemp` keeps soundness. -/
@[simp ↓] theorem State.conTemp_sound {fz : Fuses} (s : State) (hs : s.sound fz = true) :
    ((State.conTemp s)).sound fz = true := by
  simp (maxDischargeDepth := 99) +contextual [State.conTemp, *]

/-- `State.conReads` keeps soundness. -/
@[simp ↓] theorem State.conReads_sound {fz : Fuses} (s : State) (addr : Nat) (x0 : Nat) (hs : s.sound fz = true) :
    ((State.conReads s addr x0).1).sound fz = true := by
  induction x0 generalizing s addr
  all_goals simp (maxDischargeDepth := 99) +contextual [State.conReads, *]

/-- `State.conRd` keeps soundness. -/
@[simp ↓] theorem State.conRd_sound {fz : Fuses} (s : State) (p : Nat) (off : Nat) (n : Nat) (hs : s.sound fz = true) :
    ((State.conRd s p off n)).sound fz = true := by
  unfold State.conRd
  repeat' first
    | (extract_lets +onlyGivenNames x
       have hx : State.sound fz x = true := by
         simp only [x]
         repeat' split
         all_goals simp (maxDischargeDepth := 99) +contextual [*]
       clear_value x)
    | (extract_lets +onlyGivenNames x
       have hx : State.sound fz x.1 = true := by
         simp only [x]
         repeat' split
         all_goals simp (maxDischargeDepth := 99) +contextual [*]
       clear_value x)
    | (extract_lets +onlyGivenNames x
       have hx : ∀ s a, State.sound fz s = true → State.sound fz (x s a) = true := by
         intro s a hs
         simp only [x]
         simp (maxDischargeDepth := 99) +contextual [*]
       clear_value x)
    | (extract_lets +onlyGivenNames x; clear_value x)
    | split
  all_goals simp (maxDischargeDepth := 99) +contextual [*]

/-- `State.conWr` keeps soundness. -/
@[simp ↓] theorem State.conWr_sound {fz : Fuses} (s : State) (p : Nat) (off : Nat) (data : Nat) (hs : s.sound fz = true) :
    ((State.conWr s p off data)).sound fz = true := by
  simp (maxDischargeDepth := 99) +contextual [State.conWr, *]

/-- `State.conMon` keeps soundness. -/
@[simp ↓] theorem State.conMon_sound {fz : Fuses} (s : State) (v : MonView) (hs : s.sound fz = true) :
    ((State.conMon s v)).sound fz = true := by
  unfold State.conMon
  repeat' first
    | (extract_lets +onlyGivenNames x
       have hx : State.sound fz x = true := by
         simp only [x]
         repeat' split
         all_goals simp (maxDischargeDepth := 99) +contextual [*]
       clear_value x)
    | (extract_lets +onlyGivenNames x
       have hx : State.sound fz x.1 = true := by
         simp only [x]
         repeat' split
         all_goals simp (maxDischargeDepth := 99) +contextual [*]
       clear_value x)
    | (extract_lets +onlyGivenNames x
       have hx : ∀ s a, State.sound fz s = true → State.sound fz (x s a) = true := by
         intro s a hs
         simp only [x]
         simp (maxDischargeDepth := 99) +contextual [*]
       clear_value x)
    | (extract_lets +onlyGivenNames x; clear_value x)
    | split
  all_goals simp (maxDischargeDepth := 99) +contextual [*]

/-- `State.conEyeTest` keeps soundness. -/
@[simp ↓] theorem State.conEyeTest_sound {fz : Fuses} (s : State) (n : Nat) (eye : Nat) (hs : s.sound fz = true) :
    ((State.conEyeTest s n eye)).sound fz = true := by
  simp (maxDischargeDepth := 99) +contextual [State.conEyeTest, *]

/-- `State.conJrnl` keeps soundness. -/
@[simp ↓] theorem State.conJrnl_sound {fz : Fuses} (s : State) (k : Nat) (hs : s.sound fz = true) :
    ((State.conJrnl s k)).sound fz = true := by
  unfold State.conJrnl
  split
  · simp [*]
  · extract_lets wr slots
    refine State.conDone_sound _ (sound_foldl _ _ _ (fun s i h => ?_) hs)
    split <;> simp [*]

/-- `State.conMode` keeps soundness. -/
@[simp ↓] theorem State.conMode_sound {fz : Fuses} (s : State) (op : Nat) (hs : s.sound fz = true) :
    ((State.conMode s op)).sound fz = true := by
  simp (maxDischargeDepth := 99) +contextual [State.conMode, *]

/-- `State.conMboxCmd` keeps soundness. -/
@[simp ↓] theorem State.conMboxCmd_sound {fz : Fuses} (s : State) (op : Nat) (data : List Nat) (hs : s.sound fz = true) :
    ((State.conMboxCmd s op data)).sound fz = true := by
  simp (maxDischargeDepth := 99) +contextual [State.conMboxCmd, *]

/-- `State.conClearFatal` keeps soundness. -/
@[simp ↓] theorem State.conClearFatal_sound {fz : Fuses} (s : State) (hs : s.sound fz = true) :
    ((State.conClearFatal s)).sound fz = true := by
  simp (maxDischargeDepth := 99) +contextual [State.conClearFatal, *]

/-- `State.conBreak` keeps soundness. -/
@[simp ↓] theorem State.conBreak_sound {fz : Fuses} (s : State) (hs : s.sound fz = true) :
    ((State.conBreak s)).sound fz = true := by
  simp (maxDischargeDepth := 99) +contextual [State.conBreak, *]

/-- `State.conTest` keeps soundness. -/
@[simp ↓] theorem State.conTest_sound {fz : Fuses} (s : State) (num : Nat) (r : TestReq) (hs : s.sound fz = true) :
    ((State.conTest s num r)).sound fz = true := by
  simp (maxDischargeDepth := 99) +contextual [State.conTest, *]

/-- `State.startTest` keeps soundness. -/
@[simp ↓] theorem State.startTest_sound {fz : Fuses} (s : State) (m : Master) (num : Nat) (r : TestReq) (hs : s.sound fz = true) :
    ((State.startTest s m num r)).sound fz = true := by
  simp (maxDischargeDepth := 99) +contextual [State.startTest, *]

/-! ## Machine/PowerOps.lean -/

/-- `railFirst` keeps soundness. -/
@[simp ↓] theorem railFirst_sound {fz : Fuses} (s : State) (e : Nat × Nat) (hs : s.sound fz = true) :
    ((railFirst s e)).sound fz = true := by
  simp (maxDischargeDepth := 99) +contextual [railFirst, *]

/-- `State.journalResumes` keeps soundness. -/
@[simp ↓] theorem State.journalResumes_sound {fz : Fuses} (s : State) (hs : s.sound fz = true) :
    ((State.journalResumes s)).sound fz = true := by
  unfold State.journalResumes
  repeat' first
    | (extract_lets +onlyGivenNames x
       have hx : State.sound fz x = true := by
         simp only [x]
         repeat' split
         all_goals simp (maxDischargeDepth := 99) +contextual [*]
       clear_value x)
    | (extract_lets +onlyGivenNames x
       have hx : State.sound fz x.1 = true := by
         simp only [x]
         repeat' split
         all_goals simp (maxDischargeDepth := 99) +contextual [*]
       clear_value x)
    | (extract_lets +onlyGivenNames x
       have hx : ∀ s a, State.sound fz s = true → State.sound fz (x s a) = true := by
         intro s a hs
         simp only [x]
         simp (maxDischargeDepth := 99) +contextual [*]
       clear_value x)
    | (extract_lets +onlyGivenNames x; clear_value x)
    | split
  all_goals simp (maxDischargeDepth := 99) +contextual [*]

/-- `State.aonApplied` keeps soundness. -/
@[simp ↓] theorem State.aonApplied_sound {fz : Fuses} (s : State) (xo : Bool) (mv : List Nat) (hs : s.sound fz = true) :
    ((State.aonApplied s xo mv)).sound fz = true := by
  simp (maxDischargeDepth := 99) +contextual [State.aonApplied, *]

/-- `State.railWarning` keeps soundness. -/
@[simp ↓] theorem State.railWarning_sound {fz : Fuses} (s : State) (r : Nat) (st : Nat) (mv : Nat) (hs : s.sound fz = true) :
    ((State.railWarning s r st mv)).sound fz = true := by
  simp (maxDischargeDepth := 99) +contextual [State.railWarning, *]

/-- `State.railMoves` keeps soundness. -/
@[simp ↓] theorem State.railMoves_sound {fz : Fuses} (s : State) (r : Nat) (mv : Nat) (held : Bool) (hs : s.sound fz = true) :
    ((State.railMoves s r mv held)).sound fz = true := by
  simp (maxDischargeDepth := 99) +contextual [State.railMoves, *]

/-- `State.railFatal` keeps soundness. -/
@[simp ↓] theorem State.railFatal_sound {fz : Fuses} (s : State) (r : Nat) (hs : s.sound fz = true) :
    ((State.railFatal s r)).sound fz = true := by
  simp (maxDischargeDepth := 99) +contextual [State.railFatal, *]

/-- `State.therm105` keeps soundness. -/
@[simp ↓] theorem State.therm105_sound {fz : Fuses} (s : State) (t : Int) (hs : s.sound fz = true) :
    ((State.therm105 s t)).sound fz = true := by
  simp (maxDischargeDepth := 99) +contextual [State.therm105, *]

/-- `State.therm110` keeps soundness. -/
@[simp ↓] theorem State.therm110_sound {fz : Fuses} (s : State) (t : Int) (hs : s.sound fz = true) :
    ((State.therm110 s t)).sound fz = true := by
  simp (maxDischargeDepth := 99) +contextual [State.therm110, *]

/-- `State.stackTemp` keeps soundness. -/
@[simp ↓] theorem State.stackTemp_sound {fz : Fuses} (s : State) (i : Nat) (hs : s.sound fz = true) :
    ((State.stackTemp s i)).sound fz = true := by
  simp (maxDischargeDepth := 99) +contextual [State.stackTemp, *]

/-- `State.tempSample` keeps soundness. -/
@[simp ↓] theorem State.tempSample_sound {fz : Fuses} (s : State) (t : Int) (hs : s.sound fz = true) :
    ((State.tempSample s t)).sound fz = true := by
  simp (maxDischargeDepth := 99) +contextual [State.tempSample, *]

/-- `State.xoLost` keeps soundness. -/
@[simp ↓] theorem State.xoLost_sound {fz : Fuses} (s : State) (hs : s.sound fz = true) :
    ((State.xoLost s)).sound fz = true := by
  simp (maxDischargeDepth := 99) +contextual [State.xoLost, *]

/-- `State.xoBack` keeps soundness. -/
@[simp ↓] theorem State.xoBack_sound {fz : Fuses} (s : State) (hs : s.sound fz = true) :
    ((State.xoBack s)).sound fz = true := by
  simp (maxDischargeDepth := 99) +contextual [State.xoBack, *]

/-- `State.rootLock` keeps soundness. -/
@[simp ↓] theorem State.rootLock_sound {fz : Fuses} (s : State) (locked : Bool) (hs : s.sound fz = true) :
    ((State.rootLock s locked)).sound fz = true := by
  simp (maxDischargeDepth := 99) +contextual [State.rootLock, *]

/-- `State.resetLow` keeps soundness. -/
@[simp ↓] theorem State.resetLow_sound {fz : Fuses} (s : State) (hs : s.sound fz = true) :
    ((State.resetLow s)).sound fz = true := by
  simp (maxDischargeDepth := 99) +contextual [State.resetLow, *]

/-- `State.perstFalls` keeps soundness. -/
@[simp ↓] theorem State.perstFalls_sound {fz : Fuses} (s : State) (hs : s.sound fz = true) :
    ((State.perstFalls s)).sound fz = true := by
  simp (maxDischargeDepth := 99) +contextual [State.perstFalls, *]

/-- `State.resetReleased` keeps soundness. -/
@[simp ↓] theorem State.resetReleased_sound {fz : Fuses} (s : State) (perst : Bool) (side : Bool) (src : Nat) (hs : s.sound fz = true) :
    ((State.resetReleased s perst side src)).sound fz = true := by
  simp (maxDischargeDepth := 99) +contextual [State.resetReleased, *]

/-- `State.watchdogBites` keeps soundness. -/
@[simp ↓] theorem State.watchdogBites_sound {fz : Fuses} (s : State) (hs : s.sound fz = true) :
    ((State.watchdogBites s)).sound fz = true := by
  simp (maxDischargeDepth := 99) +contextual [State.watchdogBites, *]

/-! ## Machine/Modes.lean -/

/-- `State.reqWrite` keeps soundness. -/
@[simp ↓] theorem State.reqWrite_sound {fz : Fuses} (s : State) (m : Master) (op : Nat) (hs : s.sound fz = true) :
    ((State.reqWrite s m op)).sound fz = true := by
  simp (maxDischargeDepth := 99) +contextual [State.reqWrite, *]

/-- `execModeReqEnterMaintenance` keeps soundness. -/
theorem execModeReqEnterMaintenance_sound {fz : Fuses} (m : Master) (s : State) (hs : s.sound fz = true) :
    ∃ z, execModeReqEnterMaintenance m s = finish s z ∧ z.sound fz = true := ⟨_, rfl, by simp (maxDischargeDepth := 99) +contextual [*]⟩

/-- `execModeReqLeaveMaintenance` keeps soundness. -/
theorem execModeReqLeaveMaintenance_sound {fz : Fuses} (m : Master) (s : State) (hs : s.sound fz = true) :
    ∃ z, execModeReqLeaveMaintenance m s = finish s z ∧ z.sound fz = true := ⟨_, rfl, by simp (maxDischargeDepth := 99) +contextual [*]⟩

/-- `execModeReqEnterService` keeps soundness. -/
theorem execModeReqEnterService_sound {fz : Fuses} (m : Master) (s : State) (hs : s.sound fz = true) :
    ∃ z, execModeReqEnterService m s = finish s z ∧ z.sound fz = true := ⟨_, rfl, by simp (maxDischargeDepth := 99) +contextual [*]⟩

/-- `execModeReqRestartFirmware` keeps soundness. -/
theorem execModeReqRestartFirmware_sound {fz : Fuses} (m : Master) (s : State) (hs : s.sound fz = true) :
    ∃ z, execModeReqRestartFirmware m s = finish s z ∧ z.sound fz = true := ⟨_, rfl, by simp (maxDischargeDepth := 99) +contextual [*]⟩

/-- `execRoleWrite` keeps soundness. -/
theorem execRoleWrite_sound {fz : Fuses} (m : Master) (role : Fin 4) (s : State) (hs : s.sound fz = true) :
    ∃ z, execRoleWrite m role s = finish s z ∧ z.sound fz = true := ⟨_, rfl, by simp (maxDischargeDepth := 99) +contextual [*]⟩

/-- `execBringupExit` keeps soundness. -/
theorem execBringupExit_sound {fz : Fuses} (s : State) (hs : s.sound fz = true) :
    ∃ z, execBringupExit s = finish s z ∧ z.sound fz = true := ⟨_, rfl, by simp (maxDischargeDepth := 99) +contextual [*]⟩

/-- `execFullResetCommand` keeps soundness. -/
theorem execFullResetCommand_sound {fz : Fuses} (m : Master) (s : State) (hs : s.sound fz = true) :
    ∃ z, execFullResetCommand m s = finish s z ∧ z.sound fz = true := ⟨_, rfl, by simp (maxDischargeDepth := 99) +contextual [*]⟩

/-- `execResetNAsserted` keeps soundness. -/
theorem execResetNAsserted_sound {fz : Fuses} (s : State) (hs : s.sound fz = true) :
    ∃ z, execResetNAsserted s = finish s z ∧ z.sound fz = true := ⟨_, rfl, by simp (maxDischargeDepth := 99) +contextual [*]⟩

/-- `execPerstNAsserted` keeps soundness. -/
theorem execPerstNAsserted_sound {fz : Fuses} (s : State) (hs : s.sound fz = true) :
    ∃ z, execPerstNAsserted s = finish s z ∧ z.sound fz = true := ⟨_, rfl, by simp (maxDischargeDepth := 99) +contextual [*]⟩

/-- `execVddAonApplied` keeps soundness. -/
theorem execVddAonApplied_sound {fz : Fuses} (xo : Bool) (mv : List Nat) (s : State) (hs : s.sound fz = true) :
    ∃ z, execVddAonApplied xo mv s = finish s z ∧ z.sound fz = true := ⟨_, rfl, by simp (maxDischargeDepth := 99) +contextual [*]⟩

/-- `execVddAonLost` keeps soundness. -/
theorem execVddAonLost_sound {fz : Fuses} (s : State) (hs : s.sound fz = true) :
    ∃ z, execVddAonLost s = finish s z ∧ z.sound fz = true := ⟨_, rfl, by simp (maxDischargeDepth := 99) +contextual [*]⟩

/-- `execRailStateChange` keeps soundness. -/
theorem execRailStateChange_sound {fz : Fuses} (r : Fin 10) (mv : Fin 4096) (held : Bool) (s : State) (hs : s.sound fz = true) :
    ∃ z, execRailStateChange r mv held s = finish s z ∧ z.sound fz = true := ⟨_, rfl, by simp (maxDischargeDepth := 99) +contextual [*]⟩

/-- `execRailFatalTimeout` keeps soundness. -/
theorem execRailFatalTimeout_sound {fz : Fuses} (r : Fin 9) (s : State) (hs : s.sound fz = true) :
    ∃ z, execRailFatalTimeout r s = finish s z ∧ z.sound fz = true := by
  refine ⟨_, rfl, ?_⟩
  repeat' first
    | (extract_lets +onlyGivenNames x
       have hx : State.sound fz x = true := by
         simp only [x]
         repeat' split
         all_goals simp (maxDischargeDepth := 99) +contextual [*]
       clear_value x)
    | (extract_lets +onlyGivenNames x; clear_value x)
    | split
  all_goals simp (maxDischargeDepth := 99) +contextual [*]

/-- `execTemperatureSample` keeps soundness. -/
theorem execTemperatureSample_sound {fz : Fuses} (t : Int) (s : State) (hs : s.sound fz = true) :
    ∃ z, execTemperatureSample t s = finish s z ∧ z.sound fz = true := ⟨_, rfl, by simp (maxDischargeDepth := 99) +contextual [*]⟩

/-- `execXoInLoss` keeps soundness. -/
theorem execXoInLoss_sound {fz : Fuses} (s : State) (hs : s.sound fz = true) :
    ∃ z, execXoInLoss s = finish s z ∧ z.sound fz = true := ⟨_, rfl, by simp (maxDischargeDepth := 99) +contextual [*]⟩

/-- `execRootPllLockChange` keeps soundness. -/
theorem execRootPllLockChange_sound {fz : Fuses} (locked : Bool) (s : State) (hs : s.sound fz = true) :
    ∃ z, execRootPllLockChange locked s = finish s z ∧ z.sound fz = true := ⟨_, rfl, by simp (maxDischargeDepth := 99) +contextual [*]⟩

/-- `execWatchdogKick` keeps soundness. -/
theorem execWatchdogKick_sound {fz : Fuses} (m : Master) (timeout : Fin 65536) (s : State) (hs : s.sound fz = true) :
    ∃ z, execWatchdogKick m timeout s = finish s z ∧ z.sound fz = true := ⟨_, rfl, by simp (maxDischargeDepth := 99) +contextual [*]⟩

/-- `execWatchdogExpiry` keeps soundness. -/
theorem execWatchdogExpiry_sound {fz : Fuses} (s : State) (hs : s.sound fz = true) :
    ∃ z, execWatchdogExpiry s = finish s z ∧ z.sound fz = true := ⟨_, rfl, by simp (maxDischargeDepth := 99) +contextual [*]⟩

/-- `execBootComplete` keeps soundness. -/
theorem execBootComplete_sound {fz : Fuses} (b : BootInput) (s : State) (hs : s.sound fz = true) :
    ∃ z, execBootComplete b s = finish s z ∧ z.sound fz = true := ⟨_, rfl, by simp (maxDischargeDepth := 99) +contextual [*]⟩

/-- `State.cfwWriteCmd` keeps soundness. -/
@[simp ↓] theorem State.cfwWriteCmd_sound {fz : Fuses} (s : State) (m : Master) (op : Nat) (index : Nat) (data : List Nat) (hs : s.sound fz = true) :
    ((State.cfwWriteCmd s m op index data)).sound fz = true := by
  simp (maxDischargeDepth := 99) +contextual [State.cfwWriteCmd, *]

/-- `execCfwTtiExpect` keeps soundness. -/
theorem execCfwTtiExpect_sound {fz : Fuses} (m : Master) (index : Fin 262144) (data : List Word) (s : State) (hs : s.sound fz = true) :
    ∃ z, execCfwTtiExpect m index data s = finish s z ∧ z.sound fz = true := ⟨_, rfl, by simp (maxDischargeDepth := 99) +contextual [*]⟩

/-- `execCfwPointStatus` keeps soundness. -/
theorem execCfwPointStatus_sound {fz : Fuses} (m : Master) (index : Fin 262144) (s : State) (hs : s.sound fz = true) :
    ∃ z, execCfwPointStatus m index s = finish s z ∧ z.sound fz = true := ⟨_, rfl, by simp (maxDischargeDepth := 99) +contextual [*]⟩

/-- `execCfwMsiStatus` keeps soundness. -/
theorem execCfwMsiStatus_sound {fz : Fuses} (m : Master) (index : Fin 262144) (s : State) (hs : s.sound fz = true) :
    ∃ z, execCfwMsiStatus m index s = finish s z ∧ z.sound fz = true := ⟨_, rfl, by simp (maxDischargeDepth := 99) +contextual [*]⟩

/-- `execCfwSdCfg` keeps soundness. -/
theorem execCfwSdCfg_sound {fz : Fuses} (m : Master) (index : Fin 262144) (data : Word) (s : State) (hs : s.sound fz = true) :
    ∃ z, execCfwSdCfg m index data s = finish s z ∧ z.sound fz = true := ⟨_, rfl, by simp (maxDischargeDepth := 99) +contextual [*]⟩

/-- `execCfwPgStatus` keeps soundness. -/
theorem execCfwPgStatus_sound {fz : Fuses} (m : Master) (index : Fin 262144) (s : State) (hs : s.sound fz = true) :
    ∃ z, execCfwPgStatus m index s = finish s z ∧ z.sound fz = true := ⟨_, rfl, by simp (maxDischargeDepth := 99) +contextual [*]⟩

/-- `execCfwPmBins` keeps soundness. -/
theorem execCfwPmBins_sound {fz : Fuses} (m : Master) (index : Fin 262144) (s : State) (hs : s.sound fz = true) :
    ∃ z, execCfwPmBins m index s = finish s z ∧ z.sound fz = true := ⟨_, rfl, by simp (maxDischargeDepth := 99) +contextual [*]⟩

/-- `execCfwCommandDone` keeps soundness. -/
theorem execCfwCommandDone_sound {fz : Fuses} (s : State) (hs : s.sound fz = true) :
    ∃ z, execCfwCommandDone s = finish s z ∧ z.sound fz = true := ⟨_, rfl, by simp (maxDischargeDepth := 99) +contextual [*]⟩

/-- `execCfwPublish` keeps soundness. -/
theorem execCfwPublish_sound {fz : Fuses} (ifVer : Fin 65536) (s : State) (hs : s.sound fz = true) :
    ∃ z, execCfwPublish ifVer s = finish s z ∧ z.sound fz = true := ⟨_, rfl, by simp (maxDischargeDepth := 99) +contextual [*]⟩

/-- `execResetNReleased` keeps soundness. -/
theorem execResetNReleased_sound {fz : Fuses} (perst : Bool) (side : Bool) (src : Fin 4) (s : State) (hs : s.sound fz = true) :
    ∃ z, execResetNReleased perst side src s = finish s z ∧ z.sound fz = true := ⟨_, rfl, by simp (maxDischargeDepth := 99) +contextual [*]⟩

/-- `execXoInReturn` keeps soundness. -/
theorem execXoInReturn_sound {fz : Fuses} (s : State) (hs : s.sound fz = true) :
    ∃ z, execXoInReturn s = finish s z ∧ z.sound fz = true := ⟨_, rfl, by simp (maxDischargeDepth := 99) +contextual [*]⟩

/-- `execWardenIntegrityFailure` keeps soundness. -/
theorem execWardenIntegrityFailure_sound {fz : Fuses} (s : State) (hs : s.sound fz = true) :
    ∃ z, execWardenIntegrityFailure s = finish s z ∧ z.sound fz = true := ⟨_, rfl, by simp (maxDischargeDepth := 99) +contextual [*]⟩

end Sys2Proof.Machine
end

