-- ==== Sys2Proof/Laws/SoundCommands.lean ====
section
/-! SUPPORT. Soundness of the operations of the remaining operations and commands. -/

namespace Sys2Proof.Machine

/-! ## Machine/LineOps.lean -/

/-- `State.txFill` keeps soundness. -/
@[simp ↓] theorem State.txFill_sound {fz : Fuses} (s : State) (c : Nat) (frames : List (List (List Nat))) (hs : s.sound fz = true) :
    ((State.txFill s c frames)).sound fz = true := by
  simp (maxDischargeDepth := 99) +contextual [State.txFill, *]

/-- `State.lineSend` keeps soundness. -/
@[simp ↓] theorem State.lineSend_sound {fz : Fuses} (s : State) (c : Nat) (d : Nat) (hs : s.sound fz = true) :
    ((State.lineSend s c d)).sound fz = true := by
  simp (maxDischargeDepth := 99) +contextual [State.lineSend, *]

/-- `State.foreSend` keeps soundness. -/
@[simp ↓] theorem State.foreSend_sound {fz : Fuses} (s : State) (c : Nat) (hs : s.sound fz = true) :
    ((State.foreSend s c)).sound fz = true := by
  simp (maxDischargeDepth := 99) +contextual [State.foreSend, *]

/-- `State.lineTransmit` keeps soundness. -/
@[simp ↓] theorem State.lineTransmit_sound {fz : Fuses} (s : State) (c : Nat) (half : Nat) (frames : List (List (List Nat))) (hs : s.sound fz = true) :
    ((State.lineTransmit s c half frames)).sound fz = true := by
  simp (maxDischargeDepth := 99) +contextual [State.lineTransmit, *]

/-- `State.encode` keeps soundness. -/
@[simp ↓] theorem State.encode_sound {fz : Fuses} (s : State) (c : Nat) (n : Nat) (hs : s.sound fz = true) :
    ((State.encode s c n)).sound fz = true := by
  simp (maxDischargeDepth := 99) +contextual [State.encode, *]

/-- `State.noteFecBad` keeps soundness. -/
@[simp ↓] theorem State.noteFecBad_sound {fz : Fuses} (s : State) (p : Nat) (hs : s.sound fz = true) :
    ((State.noteFecBad s p)).sound fz = true := by
  simp (maxDischargeDepth := 99) +contextual [State.noteFecBad, *]

/-- `State.decode` keeps soundness. -/
@[simp ↓] theorem State.decode_sound {fz : Fuses} (s : State) (c : Nat) (n : Nat) (llr : List Nat) (hs : s.sound fz = true) :
    ((State.decode s c n llr)).sound fz = true := by
  simp (maxDischargeDepth := 99) +contextual [State.decode, *]

/-- `State.pushUnits` keeps soundness. -/
@[simp ↓] theorem State.pushUnits_sound {fz : Fuses} (s : State) (c : Nat) (us : List (List Nat)) (hs : s.sound fz = true) :
    ((State.pushUnits s c us)).sound fz = true := by
  simp (maxDischargeDepth := 99) +contextual [State.pushUnits, *]

/-- `State.takeOverhead` keeps soundness. -/
@[simp ↓] theorem State.takeOverhead_sound {fz : Fuses} (s : State) (c : Nat) (oh : List Nat) (hs : s.sound fz = true) :
    ((State.takeOverhead s c oh)).sound fz = true := by
  simp (maxDischargeDepth := 99) +contextual [State.takeOverhead, *]

/-- `State.bondAlign` keeps soundness. -/
@[simp ↓] theorem State.bondAlign_sound {fz : Fuses} (s : State) (hs : s.sound fz = true) :
    ((State.bondAlign s)).sound fz = true := by
  unfold State.bondAlign
  repeat' first
    | (extract_lets +onlyGivenNames x
       have hx : State.sound fz x = true := by
         simp only [x]
         repeat' split
         all_goals simp (maxDischargeDepth := 99) +contextual [*]
       clear_value x)
    | (extract_lets +onlyGivenNames x
       have hx : State.sound fz x.1 = true := by
         simp only [x]
         repeat' split
         all_goals simp (maxDischargeDepth := 99) +contextual [*]
       clear_value x)
    | (extract_lets +onlyGivenNames x
       have hx : ∀ s a, State.sound fz s = true → State.sound fz (x s a) = true := by
         intro s a hs
         simp only [x]
         simp (maxDischargeDepth := 99) +contextual [*]
       clear_value x)
    | (extract_lets +onlyGivenNames x; clear_value x)
    | split
  all_goals simp (maxDischargeDepth := 99) +contextual [*]

/-- `State.pairUnits` keeps soundness. -/
@[simp ↓] theorem State.pairUnits_sound {fz : Fuses} (s : State) (c : Nat) (fc : Nat) (us : List (List Nat)) (hs : s.sound fz = true) :
    ((State.pairUnits s c fc us)).sound fz = true := by
  unfold State.pairUnits
  repeat' first
    | (extract_lets +onlyGivenNames x
       have hx : State.sound fz x = true := by
         simp only [x]
         repeat' split
         all_goals simp (maxDischargeDepth := 99) +contextual [*]
       clear_value x)
    | (extract_lets +onlyGivenNames x
       have hx : State.sound fz x.1 = true := by
         simp only [x]
         repeat' split
         all_goals simp (maxDischargeDepth := 99) +contextual [*]
       clear_value x)
    | (extract_lets +onlyGivenNames x
       have hx : ∀ s a, State.sound fz s = true → State.sound fz (x s a) = true := by
         intro s a hs
         simp only [x]
         simp (maxDischargeDepth := 99) +contextual [*]
       clear_value x)
    | (extract_lets +onlyGivenNames x; clear_value x)
    | split
  all_goals simp (maxDischargeDepth := 99) +contextual [*]

/-- `State.otucCandidate` keeps soundness. -/
@[simp ↓] theorem State.otucCandidate_sound {fz : Fuses} (s : State) (c : Nat) (u : Nat) (hs : s.sound fz = true) :
    ((State.otucCandidate s c u)).sound fz = true := by
  unfold State.otucCandidate
  repeat' first
    | (extract_lets +onlyGivenNames x
       have hx : State.sound fz x = true := by
         simp only [x]
         repeat' split
         all_goals simp (maxDischargeDepth := 99) +contextual [*]
       clear_value x)
    | (extract_lets +onlyGivenNames x
       have hx : State.sound fz x.1 = true := by
         simp only [x]
         repeat' split
         all_goals simp (maxDischargeDepth := 99) +contextual [*]
       clear_value x)
    | (extract_lets +onlyGivenNames x
       have hx : ∀ s a, State.sound fz s = true → State.sound fz (x s a) = true := by
         intro s a hs
         simp only [x]
         simp (maxDischargeDepth := 99) +contextual [*]
       clear_value x)
    | (extract_lets +onlyGivenNames x; clear_value x)
    | split
  all_goals simp (maxDischargeDepth := 99) +contextual [*]

/-- `State.otucHypothesis` keeps soundness. -/
@[simp ↓] theorem State.otucHypothesis_sound {fz : Fuses} (s : State) (c : Nat) (k : Nat) (hs : s.sound fz = true) :
    ((State.otucHypothesis s c k)).sound fz = true := by
  unfold State.otucHypothesis
  repeat' first
    | (extract_lets +onlyGivenNames x
       have hx : State.sound fz x = true := by
         simp only [x]
         repeat' split
         all_goals simp (maxDischargeDepth := 99) +contextual [*]
       clear_value x)
    | (extract_lets +onlyGivenNames x
       have hx : State.sound fz x.1 = true := by
         simp only [x]
         repeat' split
         all_goals simp (maxDischargeDepth := 99) +contextual [*]
       clear_value x)
    | (extract_lets +onlyGivenNames x
       have hx : ∀ s a, State.sound fz s = true → State.sound fz (x s a) = true := by
         intro s a hs
         simp only [x]
         simp (maxDischargeDepth := 99) +contextual [*]
       clear_value x)
    | (extract_lets +onlyGivenNames x; clear_value x)
    | split
  all_goals simp (maxDischargeDepth := 99) +contextual [*]

/-- `State.otucFrame` keeps soundness. -/
@[simp ↓] theorem State.otucFrame_sound {fz : Fuses} (s : State) (c : Nat) (hs : s.sound fz = true) :
    ((State.otucFrame s c)).sound fz = true := by
  unfold State.otucFrame
  repeat' first
    | (extract_lets +onlyGivenNames x
       have hx : State.sound fz x = true := by
         simp only [x]
         repeat' split
         all_goals simp (maxDischargeDepth := 99) +contextual [*]
       clear_value x)
    | (extract_lets +onlyGivenNames x
       have hx : State.sound fz x.1 = true := by
         simp only [x]
         repeat' split
         all_goals simp (maxDischargeDepth := 99) +contextual [*]
       clear_value x)
    | (extract_lets +onlyGivenNames x
       have hx : ∀ s a, State.sound fz s = true → State.sound fz (x s a) = true := by
         intro s a hs
         simp only [x]
         simp (maxDischargeDepth := 99) +contextual [*]
       clear_value x)
    | (extract_lets +onlyGivenNames x; clear_value x)
    | split
  all_goals simp (maxDischargeDepth := 99) +contextual [*]

/-- `State.unitEvent` keeps soundness. -/
@[simp ↓] theorem State.unitEvent_sound {fz : Fuses} (first : Nat) (c : Nat) (s : State) (u : Nat) (hs : s.sound fz = true) :
    ((State.unitEvent first c s u)).sound fz = true := by
  unfold State.unitEvent
  repeat' first
    | (extract_lets +onlyGivenNames x
       have hx : State.sound fz x = true := by
         simp only [x]
         repeat' split
         all_goals simp (maxDischargeDepth := 99) +contextual [*]
       clear_value x)
    | (extract_lets +onlyGivenNames x
       have hx : State.sound fz x.1 = true := by
         simp only [x]
         repeat' split
         all_goals simp (maxDischargeDepth := 99) +contextual [*]
       clear_value x)
    | (extract_lets +onlyGivenNames x
       have hx : ∀ s a, State.sound fz s = true → State.sound fz (x s a) = true := by
         intro s a hs
         simp only [x]
         simp (maxDischargeDepth := 99) +contextual [*]
       clear_value x)
    | (extract_lets +onlyGivenNames x; clear_value x)
    | split
  all_goals simp (maxDischargeDepth := 99) +contextual [*]

/-- `State.unitEvents` keeps soundness. -/
@[simp ↓] theorem State.unitEvents_sound {fz : Fuses} (s : State) (c : Nat) (before : Nat) (hs : s.sound fz = true) :
    ((State.unitEvents s c before)).sound fz = true := by
  simp (maxDischargeDepth := 99) +contextual [State.unitEvents, *]

/-- `State.lmGained` keeps soundness. -/
@[simp ↓] theorem State.lmGained_sound {fz : Fuses} (s : State) (c : Nat) (hs : s.sound fz = true) :
    ((State.lmGained s c)).sound fz = true := by
  simp (maxDischargeDepth := 99) +contextual [State.lmGained, *]

/-- `State.lineReceived` keeps soundness. -/
@[simp ↓] theorem State.lineReceived_sound {fz : Fuses} (s : State) (c : Nat) (cycle : Nat) (hs : s.sound fz = true) :
    ((State.lineReceived s c cycle)).sound fz = true := by
  simp (maxDischargeDepth := 99) +contextual [State.lineReceived, *]

/-- `State.foreBlock` keeps soundness. -/
@[simp ↓] theorem State.foreBlock_sound {fz : Fuses} (s : State) (c : Nat) (blk : Nat) (labels : List Nat) (inner : List Nat) (fixes : List (Nat × Nat)) (hs : s.sound fz = true) :
    ((State.foreBlock s c blk labels inner fixes)).sound fz = true := by
  simp (maxDischargeDepth := 99) +contextual [State.foreBlock, *]

/-! ## Machine/Carrier.lean -/

/-- `execCarrierRateWrite` keeps soundness. -/
theorem execCarrierRateWrite_sound {fz : Fuses} (m : Master) (c : Fin 2) (slot : Bool) (be : Fin 16) (data : Word) (s : State) (hs : s.sound fz = true) :
    ∃ z, execCarrierRateWrite m c slot be data s = finish s z ∧ z.sound fz = true := ⟨_, rfl, by simp (maxDischargeDepth := 99) +contextual [*]⟩

/-- `execRateEvaluationDone` keeps soundness. -/
theorem execRateEvaluationDone_sound {fz : Fuses} (c : Fin 2) (s : State) (hs : s.sound fz = true) :
    ∃ z, execRateEvaluationDone c s = finish s z ∧ z.sound fz = true := ⟨_, rfl, by simp (maxDischargeDepth := 99) +contextual [*]⟩

/-- `execCarrierEnable` keeps soundness. -/
theorem execCarrierEnable_sound {fz : Fuses} (m : Master) (c : Fin 2) (s : State) (hs : s.sound fz = true) :
    ∃ z, execCarrierEnable m c s = finish s z ∧ z.sound fz = true := ⟨_, rfl, by simp (maxDischargeDepth := 99) +contextual [*]⟩

/-- `execEnginePowerOn` keeps soundness. -/
theorem execEnginePowerOn_sound {fz : Fuses} (m : Master) (c : Fin 2) (s : State) (hs : s.sound fz = true) :
    ∃ z, execEnginePowerOn m c s = finish s z ∧ z.sound fz = true := ⟨_, rfl, by simp (maxDischargeDepth := 99) +contextual [*]⟩

/-- `execEnginePowered` keeps soundness. -/
theorem execEnginePowered_sound {fz : Fuses} (c : Fin 2) (s : State) (hs : s.sound fz = true) :
    ∃ z, execEnginePowered c s = finish s z ∧ z.sound fz = true := ⟨_, rfl, by simp (maxDischargeDepth := 99) +contextual [*]⟩

/-- `execEnginePowerOff` keeps soundness. -/
theorem execEnginePowerOff_sound {fz : Fuses} (m : Master) (c : Fin 2) (s : State) (hs : s.sound fz = true) :
    ∃ z, execEnginePowerOff m c s = finish s z ∧ z.sound fz = true := ⟨_, rfl, by simp (maxDischargeDepth := 99) +contextual [*]⟩

/-- `execTxEnableWrite` keeps soundness. -/
theorem execTxEnableWrite_sound {fz : Fuses} (m : Master) (c : Fin 2) (be : Fin 16) (data : Word) (s : State) (hs : s.sound fz = true) :
    ∃ z, execTxEnableWrite m c be data s = finish s z ∧ z.sound fz = true := ⟨_, rfl, by simp (maxDischargeDepth := 99) +contextual [*]⟩

/-- `execForegroundCalibration` keeps soundness. -/
theorem execForegroundCalibration_sound {fz : Fuses} (m : Master) (c : Fin 2) (s : State) (hs : s.sound fz = true) :
    ∃ z, execForegroundCalibration m c s = finish s z ∧ z.sound fz = true := ⟨_, rfl, by simp (maxDischargeDepth := 99) +contextual [*]⟩

/-- `execConverterLoopTest` keeps soundness. -/
theorem execConverterLoopTest_sound {fz : Fuses} (m : Master) (c : Fin 2) (s : State) (hs : s.sound fz = true) :
    ∃ z, execConverterLoopTest m c s = finish s z ∧ z.sound fz = true := ⟨_, rfl, by simp (maxDischargeDepth := 99) +contextual [*]⟩

/-- `execCalibrationDone` keeps soundness. -/
theorem execCalibrationDone_sound {fz : Fuses} (c : Fin 2) (fail : Byte) (ms : Fin 65536) (res : List (Nat × Int)) (s : State) (hs : s.sound fz = true) :
    ∃ z, execCalibrationDone c fail ms res s = finish s z ∧ z.sound fz = true := ⟨_, rfl, by simp (maxDischargeDepth := 99) +contextual [*]⟩

/-- `execBackgroundCalibration` keeps soundness. -/
theorem execBackgroundCalibration_sound {fz : Fuses} (c : Fin 2) (k : Fin 8) (gain : Int) (time : Int) (s : State) (hs : s.sound fz = true) :
    ∃ z, execBackgroundCalibration c k gain time s = finish s z ∧ z.sound fz = true := ⟨_, rfl, by simp (maxDischargeDepth := 99) +contextual [*]⟩

/-- `execCarrierSigFall` keeps soundness. -/
theorem execCarrierSigFall_sound {fz : Fuses} (c : Fin 2) (s : State) (hs : s.sound fz = true) :
    ∃ z, execCarrierSigFall c s = finish s z ∧ z.sound fz = true := ⟨_, rfl, by simp (maxDischargeDepth := 99) +contextual [*]⟩

/-- `execCarrierSigRise` keeps soundness. -/
theorem execCarrierSigRise_sound {fz : Fuses} (c : Fin 2) (s : State) (hs : s.sound fz = true) :
    ∃ z, execCarrierSigRise c s = finish s z ∧ z.sound fz = true := ⟨_, rfl, by simp (maxDischargeDepth := 99) +contextual [*]⟩

/-- `execFreezeExpiry` keeps soundness. -/
theorem execFreezeExpiry_sound {fz : Fuses} (c : Fin 2) (s : State) (hs : s.sound fz = true) :
    ∃ z, execFreezeExpiry c s = finish s z ∧ z.sound fz = true := ⟨_, rfl, by simp (maxDischargeDepth := 99) +contextual [*]⟩

/-- `execRxStageAdvance` keeps soundness. -/
theorem execRxStageAdvance_sound {fz : Fuses} (c : Fin 2) (est : DspEst) (s : State) (hs : s.sound fz = true) :
    ∃ z, execRxStageAdvance c est s = finish s z ∧ z.sound fz = true := ⟨_, rfl, by simp (maxDischargeDepth := 99) +contextual [*]⟩

/-- `execAdcPowerStep` keeps soundness. -/
theorem execAdcPowerStep_sound {fz : Fuses} (c : Fin 2) (db : Nat) (s : State) (hs : s.sound fz = true) :
    ∃ z, execAdcPowerStep c db s = finish s z ∧ z.sound fz = true := ⟨_, rfl, by simp (maxDischargeDepth := 99) +contextual [*]⟩

/-- `execPrecursorWindowEnd` keeps soundness. -/
theorem execPrecursorWindowEnd_sound {fz : Fuses} (pilots0 : Nat) (wrong0 : Nat) (pilots1 : Nat) (wrong1 : Nat) (s : State) (hs : s.sound fz = true) :
    ∃ z, execPrecursorWindowEnd pilots0 wrong0 pilots1 wrong1 s = finish s z ∧ z.sound fz = true := ⟨_, rfl, by simp (maxDischargeDepth := 99) +contextual [*]⟩

/-- `execAdcClipCheck` keeps soundness. -/
theorem execAdcClipCheck_sound {fz : Fuses} (c : Fin 2) (est : DspEst) (clipped : Nat) (samples : Nat) (s : State) (hs : s.sound fz = true) :
    ∃ z, execAdcClipCheck c est clipped samples s = finish s z ∧ z.sound fz = true := ⟨_, rfl, by simp (maxDischargeDepth := 99) +contextual [*]⟩

/-- `execCaptureArm` keeps soundness. -/
theorem execCaptureArm_sound {fz : Fuses} (m : Master) (c : Fin 2) (data : Word) (s : State) (hs : s.sound fz = true) :
    ∃ z, execCaptureArm m c data s = finish s z ∧ z.sound fz = true := ⟨_, rfl, by simp (maxDischargeDepth := 99) +contextual [*]⟩

/-- `execCaptureAbort` keeps soundness. -/
theorem execCaptureAbort_sound {fz : Fuses} (m : Master) (c : Fin 2) (s : State) (hs : s.sound fz = true) :
    ∃ z, execCaptureAbort m c s = finish s z ∧ z.sound fz = true := ⟨_, rfl, by simp (maxDischargeDepth := 99) +contextual [*]⟩

/-- `execCaptureTrigger` keeps soundness. -/
theorem execCaptureTrigger_sound {fz : Fuses} (c : Fin 2) (cycle : Fin 1153) (before : List Byte) (after : List Byte) (s : State) (hs : s.sound fz = true) :
    ∃ z, execCaptureTrigger c cycle before after s = finish s z ∧ z.sound fz = true := ⟨_, rfl, by simp (maxDischargeDepth := 99) +contextual [*]⟩

/-- `execCaptureCopyDone` keeps soundness. -/
theorem execCaptureCopyDone_sound {fz : Fuses} (c : Fin 2) (s : State) (hs : s.sound fz = true) :
    ∃ z, execCaptureCopyDone c s = finish s z ∧ z.sound fz = true := ⟨_, rfl, by simp (maxDischargeDepth := 99) +contextual [*]⟩

/-- `execHistogramDone` keeps soundness. -/
theorem execHistogramDone_sound {fz : Fuses} (c : Fin 2) (cycle : Fin 1153) (x : List Nat) (y : List Nat) (s : State) (hs : s.sound fz = true) :
    ∃ z, execHistogramDone c cycle x y s = finish s z ∧ z.sound fz = true := ⟨_, rfl, by simp (maxDischargeDepth := 99) +contextual [*]⟩

/-- `execFeCommand` keeps soundness. -/
theorem execFeCommand_sound {fz : Fuses} (m : Master) (c : Fin 2) (data : Word) (s : State) (hs : s.sound fz = true) :
    ∃ z, execFeCommand m c data s = finish s z ∧ z.sound fz = true := ⟨_, rfl, by simp (maxDischargeDepth := 99) +contextual [*]⟩

/-- `execFeTransactionDone` keeps soundness. -/
theorem execFeTransactionDone_sound {fz : Fuses} (c : Fin 2) (ack : Bool) (bytes : List Byte) (s : State) (hs : s.sound fz = true) :
    ∃ z, execFeTransactionDone c ack bytes s = finish s z ∧ z.sound fz = true := ⟨_, rfl, by simp (maxDischargeDepth := 99) +contextual [*]⟩

/-! ## Machine/Line.lean -/

/-- `execLdpcCodewordEncode` keeps soundness. -/
theorem execLdpcCodewordEncode_sound {fz : Fuses} (c : Fin 2) (n : Fin 504) (_empty : Unit) (s : State) (hs : s.sound fz = true) :
    ∃ z, execLdpcCodewordEncode c n _empty s = finish s z ∧ z.sound fz = true := ⟨_, rfl, by simp (maxDischargeDepth := 99) +contextual [*]⟩

/-- `execLdpcCodewordDecode` keeps soundness. -/
theorem execLdpcCodewordDecode_sound {fz : Fuses} (c : Fin 2) (n : Fin 504) (llr : List (Fin 32)) (s : State) (hs : s.sound fz = true) :
    ∃ z, execLdpcCodewordDecode c n llr s = finish s z ∧ z.sound fz = true := ⟨_, rfl, by simp (maxDischargeDepth := 99) +contextual [*]⟩

/-- `execLineFrameTransmit` keeps soundness. -/
theorem execLineFrameTransmit_sound {fz : Fuses} (c : Fin 2) (pay : LinePay) (s : State) (hs : s.sound fz = true) :
    ∃ z, execLineFrameTransmit c pay s = finish s z ∧ z.sound fz = true := ⟨_, rfl, by simp (maxDischargeDepth := 99) +contextual [*]⟩

/-- `execLineFrameReceived` keeps soundness. -/
theorem execLineFrameReceived_sound {fz : Fuses} (c : Fin 2) (cycle : Fin 1153) (s : State) (hs : s.sound fz = true) :
    ∃ z, execLineFrameReceived c cycle s = finish s z ∧ z.sound fz = true := ⟨_, rfl, by simp (maxDischargeDepth := 99) +contextual [*]⟩

/-- `execOtucCandidate` keeps soundness. -/
theorem execOtucCandidate_sound {fz : Fuses} (c : Fin 2) (u : Nat) (s : State) (hs : s.sound fz = true) :
    ∃ z, execOtucCandidate c u s = finish s z ∧ z.sound fz = true := ⟨_, rfl, by simp (maxDischargeDepth := 99) +contextual [*]⟩

/-- `execHypothesisCheck` keeps soundness. -/
theorem execHypothesisCheck_sound {fz : Fuses} (c : Fin 2) (h : Fin 4) (s : State) (hs : s.sound fz = true) :
    ∃ z, execHypothesisCheck c h s = finish s z ∧ z.sound fz = true := ⟨_, rfl, by simp (maxDischargeDepth := 99) +contextual [*]⟩

/-- `execOtucFrameCheck` keeps soundness. -/
theorem execOtucFrameCheck_sound {fz : Fuses} (c : Fin 2) (s : State) (hs : s.sound fz = true) :
    ∃ z, execOtucFrameCheck c s = finish s z ∧ z.sound fz = true := ⟨_, rfl, by simp (maxDischargeDepth := 99) +contextual [*]⟩

/-- `execForerunnerFecBlock` keeps soundness. -/
theorem execForerunnerFecBlock_sound {fz : Fuses} (c : Fin 2) (blk : Fin 126) (x : List (Fin 4)) (y : List (Fin 4)) (inner : List Byte) (fixes : List (Fin 1632 × Fin 1024)) (s : State) (hs : s.sound fz = true) :
    ∃ z, execForerunnerFecBlock c blk x y inner fixes s = finish s z ∧ z.sound fz = true := ⟨_, rfl, by simp (maxDischargeDepth := 99) +contextual [*]⟩

/-! ## Machine/Odu.lean -/

/-- `execTribReadActive` keeps soundness. -/
theorem execTribReadActive_sound {fz : Fuses} (m : Master) (index : Fin 65536) (eg : Bool) (table : Fin 4) (s : State) (hs : s.sound fz = true) :
    ∃ z, execTribReadActive m index eg table s = finish s z ∧ z.sound fz = true := ⟨_, rfl, by simp (maxDischargeDepth := 99) +contextual [*]⟩

/-- `execTribWriteStaged` keeps soundness. -/
theorem execTribWriteStaged_sound {fz : Fuses} (m : Master) (index : Fin 65536) (eg : Bool) (table : Fin 4) (s : State) (hs : s.sound fz = true) :
    ∃ z, execTribWriteStaged m index eg table s = finish s z ∧ z.sound fz = true := ⟨_, rfl, by simp (maxDischargeDepth := 99) +contextual [*]⟩

/-- `execTribReadStaged` keeps soundness. -/
theorem execTribReadStaged_sound {fz : Fuses} (m : Master) (index : Fin 65536) (eg : Bool) (table : Fin 4) (s : State) (hs : s.sound fz = true) :
    ∃ z, execTribReadStaged m index eg table s = finish s z ∧ z.sound fz = true := ⟨_, rfl, by simp (maxDischargeDepth := 99) +contextual [*]⟩

/-- `execTribApply` keeps soundness. -/
theorem execTribApply_sound {fz : Fuses} (m : Master) (port : Fin 65536) (eg : Bool) (s : State) (hs : s.sound fz = true) :
    ∃ z, execTribApply m port eg s = finish s z ∧ z.sound fz = true := ⟨_, rfl, by simp (maxDischargeDepth := 99) +contextual [*]⟩

/-- `execTribApplyActivate` keeps soundness. -/
theorem execTribApplyActivate_sound {fz : Fuses} (s : State) (hs : s.sound fz = true) :
    ∃ z, execTribApplyActivate s = finish s z ∧ z.sound fz = true := ⟨_, rfl, by simp (maxDischargeDepth := 99) +contextual [*]⟩

/-- `execTribDiscard` keeps soundness. -/
theorem execTribDiscard_sound {fz : Fuses} (m : Master) (port : Fin 65536) (eg : Bool) (s : State) (hs : s.sound fz = true) :
    ∃ z, execTribDiscard m port eg s = finish s z ∧ z.sound fz = true := ⟨_, rfl, by simp (maxDischargeDepth := 99) +contextual [*]⟩

/-- `execOduFrameReceived` keeps soundness. -/
theorem execOduFrameReceived_sound {fz : Fuses} (eg : Bool) (g : Fin 65536) (f : OduFrame) (ecc : List EccHit) (s : State) (hs : s.sound fz = true) :
    ∃ z, execOduFrameReceived eg g f ecc s = finish s z ∧ z.sound fz = true := ⟨_, rfl, by simp (maxDischargeDepth := 99) +contextual [*]⟩

/-- `execDefectPersistenceExpiry` keeps soundness. -/
theorem execDefectPersistenceExpiry_sound {fz : Fuses} (c : PersistCond) (s : State) (hs : s.sound fz = true) :
    ∃ z, execDefectPersistenceExpiry c s = finish s z ∧ z.sound fz = true := ⟨_, rfl, by simp (maxDischargeDepth := 99) +contextual [*]⟩

/-- `execCtxRead` keeps soundness. -/
theorem execCtxRead_sound {fz : Fuses} (m : Master) (index : Fin 262144) (s : State) (hs : s.sound fz = true) :
    ∃ z, execCtxRead m index s = finish s z ∧ z.sound fz = true := ⟨_, rfl, by simp (maxDischargeDepth := 99) +contextual [*]⟩

/-- `execCtxWriteCfg` keeps soundness. -/
theorem execCtxWriteCfg_sound {fz : Fuses} (m : Master) (index : Fin 262144) (s : State) (hs : s.sound fz = true) :
    ∃ z, execCtxWriteCfg m index s = finish s z ∧ z.sound fz = true := ⟨_, rfl, by simp (maxDischargeDepth := 99) +contextual [*]⟩

/-- `execCtxClearCounts` keeps soundness. -/
theorem execCtxClearCounts_sound {fz : Fuses} (m : Master) (index : Fin 262144) (s : State) (hs : s.sound fz = true) :
    ∃ z, execCtxClearCounts m index s = finish s z ∧ z.sound fz = true := ⟨_, rfl, by simp (maxDischargeDepth := 99) +contextual [*]⟩

/-- `execCtxFree` keeps soundness. -/
theorem execCtxFree_sound {fz : Fuses} (m : Master) (index : Fin 262144) (s : State) (hs : s.sound fz = true) :
    ∃ z, execCtxFree m index s = finish s z ∧ z.sound fz = true := ⟨_, rfl, by simp (maxDischargeDepth := 99) +contextual [*]⟩

/-- `execCtxReadPm` keeps soundness. -/
theorem execCtxReadPm_sound {fz : Fuses} (m : Master) (index : Fin 262144) (s : State) (hs : s.sound fz = true) :
    ∃ z, execCtxReadPm m index s = finish s z ∧ z.sound fz = true := ⟨_, rfl, by simp (maxDischargeDepth := 99) +contextual [*]⟩

/-- `execCtxClearPm` keeps soundness. -/
theorem execCtxClearPm_sound {fz : Fuses} (m : Master) (index : Fin 262144) (s : State) (hs : s.sound fz = true) :
    ∃ z, execCtxClearPm m index s = finish s z ∧ z.sound fz = true := ⟨_, rfl, by simp (maxDischargeDepth := 99) +contextual [*]⟩

/-- `execTickBoundary` keeps soundness. -/
theorem execTickBoundary_sound {fz : Fuses} (s : State) (hs : s.sound fz = true) :
    ∃ z, execTickBoundary s = finish s z ∧ z.sound fz = true := ⟨_, rfl, by simp (maxDischargeDepth := 99) +contextual [*]⟩

/-- `execPmRecordsWrite` keeps soundness. -/
theorem execPmRecordsWrite_sound {fz : Fuses} (s : State) (hs : s.sound fz = true) :
    ∃ z, execPmRecordsWrite s = finish s z ∧ z.sound fz = true := ⟨_, rfl, by simp (maxDischargeDepth := 99) +contextual [*]⟩

/-- `execPpsInEdge` keeps soundness. -/
theorem execPpsInEdge_sound {fz : Fuses} (offset : Int) (s : State) (hs : s.sound fz = true) :
    ∃ z, execPpsInEdge offset s = finish s z ∧ z.sound fz = true := ⟨_, rfl, by simp (maxDischargeDepth := 99) +contextual [*]⟩

/-- `execPpsInLoss` keeps soundness. -/
theorem execPpsInLoss_sound {fz : Fuses} (s : State) (hs : s.sound fz = true) :
    ∃ z, execPpsInLoss s = finish s z ∧ z.sound fz = true := ⟨_, rfl, by simp (maxDischargeDepth := 99) +contextual [*]⟩

/-! ## Machine/SlotCore.lean -/

/-- `execCmEntryWrite` keeps soundness. -/
theorem execCmEntryWrite_sound {fz : Fuses} (m : Master) (e : Fin 46080) (region : Fin 4) (be : Fin 16) (data : Word) (s : State) (hs : s.sound fz = true) :
    ∃ z, execCmEntryWrite m e region be data s = finish s z ∧ z.sound fz = true := ⟨_, rfl, by simp (maxDischargeDepth := 99) +contextual [*]⟩

/-- `execCmCopy` keeps soundness. -/
theorem execCmCopy_sound {fz : Fuses} (m : Master) (s : State) (hs : s.sound fz = true) :
    ∃ z, execCmCopy m s = finish s z ∧ z.sound fz = true := ⟨_, rfl, by simp (maxDischargeDepth := 99) +contextual [*]⟩

/-- `execCmFill` keeps soundness. -/
theorem execCmFill_sound {fz : Fuses} (m : Master) (s : State) (hs : s.sound fz = true) :
    ∃ z, execCmFill m s = finish s z ∧ z.sound fz = true := ⟨_, rfl, by simp (maxDischargeDepth := 99) +contextual [*]⟩

/-- `execCmVerify` keeps soundness. -/
theorem execCmVerify_sound {fz : Fuses} (m : Master) (s : State) (hs : s.sound fz = true) :
    ∃ z, execCmVerify m s = finish s z ∧ z.sound fz = true := ⟨_, rfl, by simp (maxDischargeDepth := 99) +contextual [*]⟩

/-- `execCmVerifyDone` keeps soundness. -/
theorem execCmVerifyDone_sound {fz : Fuses} (bad : List Nat) (s : State) (hs : s.sound fz = true) :
    ∃ z, execCmVerifyDone bad s = finish s z ∧ z.sound fz = true := ⟨_, rfl, by simp (maxDischargeDepth := 99) +contextual [*]⟩

/-- `execCmArm` keeps soundness. -/
theorem execCmArm_sound {fz : Fuses} (m : Master) (atSf : Bool) (s : State) (hs : s.sound fz = true) :
    ∃ z, execCmArm m atSf s = finish s z ∧ z.sound fz = true := ⟨_, rfl, by simp (maxDischargeDepth := 99) +contextual [*]⟩

/-- `execCmDisarm` keeps soundness. -/
theorem execCmDisarm_sound {fz : Fuses} (m : Master) (s : State) (hs : s.sound fz = true) :
    ∃ z, execCmDisarm m s = finish s z ∧ z.sound fz = true := ⟨_, rfl, by simp (maxDischargeDepth := 99) +contextual [*]⟩

/-- `execCmTest` keeps soundness. -/
theorem execCmTest_sound {fz : Fuses} (m : Master) (s : State) (hs : s.sound fz = true) :
    ∃ z, execCmTest m s = finish s z ∧ z.sound fz = true := ⟨_, rfl, by simp (maxDischargeDepth := 99) +contextual [*]⟩

/-- `execCmOperationDone` keeps soundness. -/
theorem execCmOperationDone_sound {fz : Fuses} (fail : Option (Fin 46080)) (s : State) (hs : s.sound fz = true) :
    ∃ z, execCmOperationDone fail s = finish s z ∧ z.sound fz = true := ⟨_, rfl, by simp (maxDischargeDepth := 99) +contextual [*]⟩

/-! ## Machine/SlotLane.lean -/

/-- `State.frameSent` keeps soundness. -/
@[simp ↓] theorem State.frameSent_sound {fz : Fuses} (s : State) (n : Nat) (hs : s.sound fz = true) :
    ((State.frameSent s n)).sound fz = true := by
  simp (maxDischargeDepth := 99) +contextual [State.frameSent, *]

/-- `State.loopNear` keeps soundness. -/
@[simp ↓] theorem State.loopNear_sound {fz : Fuses} (s : State) (n : Nat) (frame : List Nat) (hs : s.sound fz = true) :
    ((State.loopNear s n frame)).sound fz = true := by
  simp (maxDischargeDepth := 99) +contextual [State.loopNear, *]

/-- `State.slTransmit` keeps soundness. -/
@[simp ↓] theorem State.slTransmit_sound {fz : Fuses} (s : State) (n : Nat) (hs : s.sound fz = true) :
    ((State.slTransmit s n)).sound fz = true := by
  simp (maxDischargeDepth := 99) +contextual [State.slTransmit, *]

/-- `State.rsDecode` keeps soundness. -/
@[simp ↓] theorem State.rsDecode_sound {fz : Fuses} (s : State) (n : Nat) (fixed : Option Nat) (hs : s.sound fz = true) :
    ((State.rsDecode s n fixed)).sound fz = true := by
  unfold State.rsDecode
  repeat' first
    | (extract_lets +onlyGivenNames x
       have hx : State.sound fz x = true := by
         simp only [x]
         repeat' split
         all_goals simp (maxDischargeDepth := 99) +contextual [*]
       clear_value x)
    | (extract_lets +onlyGivenNames x
       have hx : State.sound fz x.1 = true := by
         simp only [x]
         repeat' split
         all_goals simp (maxDischargeDepth := 99) +contextual [*]
       clear_value x)
    | (extract_lets +onlyGivenNames x
       have hx : ∀ s a, State.sound fz s = true → State.sound fz (x s a) = true := by
         intro s a hs
         simp only [x]
         simp (maxDischargeDepth := 99) +contextual [*]
       clear_value x)
    | (extract_lets +onlyGivenNames x; clear_value x)
    | split
  all_goals simp (maxDischargeDepth := 99) +contextual [*]

/-- `State.rxFrame` keeps soundness. -/
@[simp ↓] theorem State.rxFrame_sound {fz : Fuses} (s : State) (n : Nat) (pins : List Nat) (hs : s.sound fz = true) :
    ((State.rxFrame s n pins).1).sound fz = true := by
  simp (maxDischargeDepth := 99) +contextual [State.rxFrame, *]

/-- `State.loopFar` keeps soundness. -/
@[simp ↓] theorem State.loopFar_sound {fz : Fuses} (s : State) (n : Nat) (l : List Nat) (hs : s.sound fz = true) :
    ((State.loopFar s n l)).sound fz = true := by
  simp (maxDischargeDepth := 99) +contextual [State.loopFar, *]

/-- `State.slipIn` keeps soundness. -/
@[simp ↓] theorem State.slipIn_sound {fz : Fuses} (s : State) (n : Nat) (prov : Bool) (e : Nat × List Nat) (hs : s.sound fz = true) :
    ((State.slipIn s n prov e)).sound fz = true := by
  simp (maxDischargeDepth := 99) +contextual [State.slipIn, *]

/-- `State.bondPop` keeps soundness. -/
@[simp ↓] theorem State.bondPop_sound {fz : Fuses} (s : State) (n : Nat) (hs : s.sound fz = true) :
    ((State.bondPop s n)).sound fz = true := by
  unfold State.bondPop
  repeat' first
    | (extract_lets +onlyGivenNames x
       have hx : State.sound fz x = true := by
         simp only [x]
         repeat' split
         all_goals simp (maxDischargeDepth := 99) +contextual [*]
       clear_value x)
    | (extract_lets +onlyGivenNames x
       have hx : State.sound fz x.1 = true := by
         simp only [x]
         repeat' split
         all_goals simp (maxDischargeDepth := 99) +contextual [*]
       clear_value x)
    | (extract_lets +onlyGivenNames x
       have hx : ∀ s a, State.sound fz s = true → State.sound fz (x s a) = true := by
         intro s a hs
         simp only [x]
         simp (maxDischargeDepth := 99) +contextual [*]
       clear_value x)
    | (extract_lets +onlyGivenNames x; clear_value x)
    | split
  all_goals simp (maxDischargeDepth := 99) +contextual [*]

/-- `State.bondStore` keeps soundness. -/
@[simp ↓] theorem State.bondStore_sound {fz : Fuses} (s : State) (n : Nat) (f : BondFrame) (hs : s.sound fz = true) :
    ((State.bondStore s n f)).sound fz = true := by
  simp (maxDischargeDepth := 99) +contextual [State.bondStore, *]

/-- `State.bondVoid` keeps soundness. -/
@[simp ↓] theorem State.bondVoid_sound {fz : Fuses} (s : State) (n : Nat) (fc : Nat) (hs : s.sound fz = true) :
    ((State.bondVoid s n fc)).sound fz = true := by
  unfold State.bondVoid
  repeat' first
    | (extract_lets +onlyGivenNames x
       have hx : State.sound fz x = true := by
         simp only [x]
         repeat' split
         all_goals simp (maxDischargeDepth := 99) +contextual [*]
       clear_value x)
    | (extract_lets +onlyGivenNames x
       have hx : State.sound fz x.1 = true := by
         simp only [x]
         repeat' split
         all_goals simp (maxDischargeDepth := 99) +contextual [*]
       clear_value x)
    | (extract_lets +onlyGivenNames x
       have hx : ∀ s a, State.sound fz s = true → State.sound fz (x s a) = true := by
         intro s a hs
         simp only [x]
         simp (maxDischargeDepth := 99) +contextual [*]
       clear_value x)
    | (extract_lets +onlyGivenNames x; clear_value x)
    | split
  all_goals simp (maxDischargeDepth := 99) +contextual [*]

/-- `State.bondStep` keeps soundness. -/
@[simp ↓] theorem State.bondStep_sound {fz : Fuses} (s : State) (ls : List Nat) (hs : s.sound fz = true) :
    ((State.bondStep s ls)).sound fz = true := by
  simp (maxDischargeDepth := 99) +contextual [State.bondStep, *]

/-- `State.bondRelease` keeps soundness. -/
@[simp ↓] theorem State.bondRelease_sound {fz : Fuses} (s : State) (j : Nat) (hs : s.sound fz = true) :
    ((State.bondRelease s j)).sound fz = true := by
  simp (maxDischargeDepth := 99) +contextual [State.bondRelease, *]

/-- `State.bondsRelease` keeps soundness. -/
@[simp ↓] theorem State.bondsRelease_sound {fz : Fuses} (s : State) (hs : s.sound fz = true) :
    ((State.bondsRelease s)).sound fz = true := by
  simp (maxDischargeDepth := 99) +contextual [State.bondsRelease, *]

/-- `State.slDeliver` keeps soundness. -/
@[simp ↓] theorem State.slDeliver_sound {fz : Fuses} (s : State) (n : Nat) (fc : Nat) (at_ : Nat) (prov : Bool) (units : List (Nat × List Nat)) (hs : s.sound fz = true) :
    ((State.slDeliver s n fc at_ prov units)).sound fz = true := by
  simp (maxDischargeDepth := 99) +contextual [State.slDeliver, *]

/-- `State.slStamp` keeps soundness. -/
@[simp ↓] theorem State.slStamp_sound {fz : Fuses} (s : State) (n : Nat) (fc : Nat) (at_ : Nat) (prov : Bool) (hs : s.sound fz = true) :
    ((State.slStamp s n fc at_ prov)).sound fz = true := by
  simp (maxDischargeDepth := 99) +contextual [State.slStamp, *]

/-- `State.slHeaderIn` keeps soundness. -/
@[simp ↓] theorem State.slHeaderIn_sound {fz : Fuses} (s : State) (n : Nat) (at_ : Nat) (fc : Nat) (h : List Nat) (hs : s.sound fz = true) :
    ((State.slHeaderIn s n at_ fc h)).sound fz = true := by
  simp (maxDischargeDepth := 99) +contextual [State.slHeaderIn, *]

/-- `State.plainCheck` keeps soundness. -/
@[simp ↓] theorem State.plainCheck_sound {fz : Fuses} (s : State) (n : Nat) (ok : Bool) (mark : Nat) (hs : s.sound fz = true) :
    ((State.plainCheck s n ok mark)).sound fz = true := by
  simp (maxDischargeDepth := 99) +contextual [State.plainCheck, *]

/-- `State.slReceived` keeps soundness. -/
@[simp ↓] theorem State.slReceived_sound {fz : Fuses} (s : State) (n : Nat) (k : Option Nat) (at_ : Nat) (pins : List Nat) (fixes : List (Nat × Nat)) (hs : s.sound fz = true) :
    ((State.slReceived s n k at_ pins fixes)).sound fz = true := by
  unfold State.slReceived
  repeat' first
    | (extract_lets +onlyGivenNames x
       have hx : State.sound fz x = true := by
         simp only [x]
         repeat' split
         all_goals simp (maxDischargeDepth := 99) +contextual [*]
       clear_value x)
    | (extract_lets +onlyGivenNames x
       have hx : State.sound fz x.1 = true := by
         simp only [x]
         repeat' split
         all_goals simp (maxDischargeDepth := 99) +contextual [*]
       clear_value x)
    | (extract_lets +onlyGivenNames x
       have hx : ∀ s a, State.sound fz s = true → State.sound fz (x s a) = true := by
         intro s a hs
         simp only [x]
         simp (maxDischargeDepth := 99) +contextual [*]
       clear_value x)
    | (extract_lets +onlyGivenNames x; clear_value x)
    | split
  all_goals simp (maxDischargeDepth := 99) +contextual [*]

/-- `State.slCandidate` keeps soundness. -/
@[simp ↓] theorem State.slCandidate_sound {fz : Fuses} (s : State) (n : Nat) (place : Nat) (at_ : Nat) (pins : List Nat) (fixes : List (Nat × Nat)) (hs : s.sound fz = true) :
    ((State.slCandidate s n place at_ pins fixes)).sound fz = true := by
  simp (maxDischargeDepth := 99) +contextual [State.slCandidate, *]

/-- `State.flexoMarker` keeps soundness. -/
@[simp ↓] theorem State.flexoMarker_sound {fz : Fuses} (s : State) (n : Nat) (am : Bool) (hs : s.sound fz = true) :
    ((State.flexoMarker s n am)).sound fz = true := by
  simp (maxDischargeDepth := 99) +contextual [State.flexoMarker, *]

/-- `State.flexoReceived` keeps soundness. -/
@[simp ↓] theorem State.flexoReceived_sound {fz : Fuses} (s : State) (n : Nat) (place : Nat) (am : Bool) (otuc : Option (List (Bool × Nat))) (hs : s.sound fz = true) :
    ((State.flexoReceived s n place am otuc)).sound fz = true := by
  unfold State.flexoReceived
  repeat' first
    | (extract_lets +onlyGivenNames x
       have hx : State.sound fz x = true := by
         simp only [x]
         repeat' split
         all_goals simp (maxDischargeDepth := 99) +contextual [*]
       clear_value x)
    | (extract_lets +onlyGivenNames x
       have hx : State.sound fz x.1 = true := by
         simp only [x]
         repeat' split
         all_goals simp (maxDischargeDepth := 99) +contextual [*]
       clear_value x)
    | (extract_lets +onlyGivenNames x
       have hx : ∀ s a, State.sound fz s = true → State.sound fz (x s a) = true := by
         intro s a hs
         simp only [x]
         simp (maxDischargeDepth := 99) +contextual [*]
       clear_value x)
    | (extract_lets +onlyGivenNames x; clear_value x)
    | split
  all_goals simp (maxDischargeDepth := 99) +contextual [*]

/-- `State.lanesTaken` keeps soundness. -/
@[simp ↓] theorem State.lanesTaken_sound {fz : Fuses} (s : State) (hs : s.sound fz = true) :
    ((State.lanesTaken s)).sound fz = true := by
  simp (maxDischargeDepth := 99) +contextual [State.lanesTaken, *]

/-- `slotOut` keeps soundness. -/
@[simp ↓] theorem slotOut_sound {fz : Fuses} (s : State) (e : Nat × List Nat) (hs : s.sound fz = true) :
    ((slotOut s e)).sound fz = true := by
  simp (maxDischargeDepth := 99) +contextual [slotOut, *]

/-- `State.lanesOut` keeps soundness. -/
@[simp ↓] theorem State.lanesOut_sound {fz : Fuses} (s : State) (hs : s.sound fz = true) :
    ((State.lanesOut s)).sound fz = true := by
  simp (maxDischargeDepth := 99) +contextual [State.lanesOut, *]

/-! ## Machine/ForeOps.lean -/

/-- `State.fcadd` keeps soundness. -/
@[simp ↓] theorem State.fcadd_sound {fz : Fuses} (s : State) (n : Nat) (c : Ct) (k : Nat) (hs : s.sound fz = true) :
    ((State.fcadd s n c k)).sound fz = true := by
  simp (maxDischargeDepth := 99) +contextual [State.fcadd, *]

/-- `State.frFar` keeps soundness. -/
@[simp ↓] theorem State.frFar_sound {fz : Fuses} (s : State) (n : Nat) (line : List Nat) (hs : s.sound fz = true) :
    ((State.frFar s n line)).sound fz = true := by
  simp (maxDischargeDepth := 99) +contextual [State.frFar, *]

/-- `State.frBlocks` keeps soundness. -/
@[simp ↓] theorem State.frBlocks_sound {fz : Fuses} (s : State) (n : Nat) (prov : Bool) (ws : List Nat) (hs : s.sound fz = true) :
    ((State.frBlocks s n prov ws)).sound fz = true := by
  simp (maxDischargeDepth := 99) +contextual [State.frBlocks, *]

/-- `State.frDeliver` keeps soundness. -/
@[simp ↓] theorem State.frDeliver_sound {fz : Fuses} (s : State) (n : Nat) (ws : List Nat) (hs : s.sound fz = true) :
    ((State.frDeliver s n ws)).sound fz = true := by
  simp (maxDischargeDepth := 99) +contextual [State.frDeliver, *]

/-- `State.frInFrame` keeps soundness. -/
@[simp ↓] theorem State.frInFrame_sound {fz : Fuses} (s : State) (n : Nat) (ws : List Nat) (hs : s.sound fz = true) :
    ((State.frInFrame s n ws)).sound fz = true := by
  simp (maxDischargeDepth := 99) +contextual [State.frInFrame, *]

/-- `State.frCheck` keeps soundness. -/
@[simp ↓] theorem State.frCheck_sound {fz : Fuses} (s : State) (n : Nat) (k : Nat) (h : Hyp) (ws : List Nat) (hs : s.sound fz = true) :
    ((State.frCheck s n k h ws)).sound fz = true := by
  simp (maxDischargeDepth := 99) +contextual [State.frCheck, *]

/-- `State.frReceived` keeps soundness. -/
@[simp ↓] theorem State.frReceived_sound {fz : Fuses} (s : State) (n : Nat) (k : Option Nat) (line : List Nat) (hs : s.sound fz = true) :
    ((State.frReceived s n k line)).sound fz = true := by
  unfold State.frReceived
  repeat' first
    | (extract_lets +onlyGivenNames x
       have hx : State.sound fz x = true := by
         simp only [x]
         repeat' split
         all_goals simp (maxDischargeDepth := 99) +contextual [*]
       clear_value x)
    | (extract_lets +onlyGivenNames x
       have hx : State.sound fz x.1 = true := by
         simp only [x]
         repeat' split
         all_goals simp (maxDischargeDepth := 99) +contextual [*]
       clear_value x)
    | (extract_lets +onlyGivenNames x
       have hx : ∀ s a, State.sound fz s = true → State.sound fz (x s a) = true := by
         intro s a hs
         simp only [x]
         simp (maxDischargeDepth := 99) +contextual [*]
       clear_value x)
    | (extract_lets +onlyGivenNames x; clear_value x)
    | split
  all_goals simp (maxDischargeDepth := 99) +contextual [*]

/-- `State.frCandidate` keeps soundness. -/
@[simp ↓] theorem State.frCandidate_sound {fz : Fuses} (s : State) (n : Nat) (place : Nat) (line : List Nat) (hs : s.sound fz = true) :
    ((State.frCandidate s n place line)).sound fz = true := by
  simp (maxDischargeDepth := 99) +contextual [State.frCandidate, *]

/-- `State.setFrSlot` keeps soundness. -/
@[simp ↓] theorem State.setFrSlot_sound {fz : Fuses} (s : State) (n : Nat) (k : Nat) (v : FrSlot) (hs : s.sound fz = true) :
    ((State.setFrSlot s n k v)).sound fz = true := by
  simp (maxDischargeDepth := 99) +contextual [State.setFrSlot, *]

/-- `State.frSlip` keeps soundness. -/
@[simp ↓] theorem State.frSlip_sound {fz : Fuses} (s : State) (n : Nat) (k : Nat) (rep : Bool) (hs : s.sound fz = true) :
    ((State.frSlip s n k rep)).sound fz = true := by
  simp (maxDischargeDepth := 99) +contextual [State.frSlip, *]

/-- `State.frBlockDone` keeps soundness. -/
@[simp ↓] theorem State.frBlockDone_sound {fz : Fuses} (s : State) (n : Nat) (k : Nat) (hs : s.sound fz = true) :
    ((State.frBlockDone s n k)).sound fz = true := by
  unfold State.frBlockDone
  repeat' first
    | (extract_lets +onlyGivenNames x
       have hx : State.sound fz x = true := by
         simp only [x]
         repeat' split
         all_goals simp (maxDischargeDepth := 99) +contextual [*]
       clear_value x)
    | (extract_lets +onlyGivenNames x
       have hx : State.sound fz x.1 = true := by
         simp only [x]
         repeat' split
         all_goals simp (maxDischargeDepth := 99) +contextual [*]
       clear_value x)
    | (extract_lets +onlyGivenNames x
       have hx : ∀ s a, State.sound fz s = true → State.sound fz (x s a) = true := by
         intro s a hs
         simp only [x]
         simp (maxDischargeDepth := 99) +contextual [*]
       clear_value x)
    | (extract_lets +onlyGivenNames x; clear_value x)
    | split
  all_goals simp (maxDischargeDepth := 99) +contextual [*]

/-- `frOut` keeps soundness. -/
@[simp ↓] theorem frOut_sound {fz : Fuses} (s : State) (e : Nat × List Nat) (hs : s.sound fz = true) :
    ((frOut s e)).sound fz = true := by
  simp (maxDischargeDepth := 99) +contextual [frOut, *]

/-- `State.foreOut` keeps soundness. -/
@[simp ↓] theorem State.foreOut_sound {fz : Fuses} (s : State) (hs : s.sound fz = true) :
    ((State.foreOut s)).sound fz = true := by
  simp (maxDischargeDepth := 99) +contextual [State.foreOut, *]

/-- `State.frSlotStart` keeps soundness. -/
@[simp ↓] theorem State.frSlotStart_sound {fz : Fuses} (s : State) (n : Nat) (k : Nat) (hs : s.sound fz = true) :
    ((State.frSlotStart s n k).1).sound fz = true := by
  unfold State.frSlotStart
  repeat' first
    | (extract_lets +onlyGivenNames x
       have hx : State.sound fz x = true := by
         simp only [x]
         repeat' split
         all_goals simp (maxDischargeDepth := 99) +contextual [*]
       clear_value x)
    | (extract_lets +onlyGivenNames x
       have hx : State.sound fz x.1 = true := by
         simp only [x]
         repeat' split
         all_goals simp (maxDischargeDepth := 99) +contextual [*]
       clear_value x)
    | (extract_lets +onlyGivenNames x
       have hx : ∀ s a, State.sound fz s = true → State.sound fz (x s a) = true := by
         intro s a hs
         simp only [x]
         simp (maxDischargeDepth := 99) +contextual [*]
       clear_value x)
    | (extract_lets +onlyGivenNames x; clear_value x)
    | split
  all_goals simp (maxDischargeDepth := 99) +contextual [*]

/-- `frLaneStart` keeps soundness. -/
@[simp ↓] theorem frLaneStart_sound {fz : Fuses} (mfi : Nat) (s : State) (n : Nat) (hs : s.sound fz = true) :
    ((frLaneStart mfi s n)).sound fz = true := by
  simp (maxDischargeDepth := 99) +contextual [frLaneStart, *]

/-- `State.frFrameStart` keeps soundness. -/
@[simp ↓] theorem State.frFrameStart_sound {fz : Fuses} (s : State) (cycle : Nat) (hs : s.sound fz = true) :
    ((State.frFrameStart s cycle)).sound fz = true := by
  simp (maxDischargeDepth := 99) +contextual [State.frFrameStart, *]

/-- `State.fpRealign` keeps soundness. -/
@[simp ↓] theorem State.fpRealign_sound {fz : Fuses} (s : State) (off : Int) (hs : s.sound fz = true) :
    ((State.fpRealign s off)).sound fz = true := by
  simp (maxDischargeDepth := 99) +contextual [State.fpRealign, *]

/-- `State.setSquelch` keeps soundness. -/
@[simp ↓] theorem State.setSquelch_sound {fz : Fuses} (s : State) (b : Bool) (hs : s.sound fz = true) :
    ((State.setSquelch s b)).sound fz = true := by
  simp (maxDischargeDepth := 99) +contextual [State.setSquelch, *]

/-- `State.fpEdge` keeps soundness. -/
@[simp ↓] theorem State.fpEdge_sound {fz : Fuses} (s : State) (cycle : Nat) (long : Bool) (hs : s.sound fz = true) :
    ((State.fpEdge s cycle long)).sound fz = true := by
  simp (maxDischargeDepth := 99) +contextual [State.fpEdge, *]

/-- `State.fpLoss` keeps soundness. -/
@[simp ↓] theorem State.fpLoss_sound {fz : Fuses} (s : State) (hs : s.sound fz = true) :
    ((State.fpLoss s)).sound fz = true := by
  simp (maxDischargeDepth := 99) +contextual [State.fpLoss, *]

/-- `State.fpHoldEnds` keeps soundness. -/
@[simp ↓] theorem State.fpHoldEnds_sound {fz : Fuses} (s : State) (hs : s.sound fz = true) :
    ((State.fpHoldEnds s)).sound fz = true := by
  simp (maxDischargeDepth := 99) +contextual [State.fpHoldEnds, *]

/-! ## Machine/Waltz.lean -/

/-- `State.trims` keeps soundness. -/
@[simp ↓] theorem State.trims_sound {fz : Fuses} (s : State) (hs : s.sound fz = true) :
    ((State.trims s)).sound fz = true := by
  simp (maxDischargeDepth := 99) +contextual [State.trims, *]

/-- `State.markChg` keeps soundness. -/
@[simp ↓] theorem State.markChg_sound {fz : Fuses} (s : State) (b : TwinBody) (hs : s.sound fz = true) :
    ((State.markChg s b)).sound fz = true := by
  simp (maxDischargeDepth := 99) +contextual [State.markChg, *]

/-- `State.markNew` keeps soundness. -/
@[simp ↓] theorem State.markNew_sound {fz : Fuses} (s : State) (sf : Nat) (frame : Nat) (hs : s.sound fz = true) :
    ((State.markNew s sf frame)).sound fz = true := by
  simp (maxDischargeDepth := 99) +contextual [State.markNew, *]

/-- `State.sendImage` keeps soundness. -/
@[simp ↓] theorem State.sendImage_sound {fz : Fuses} (s : State) (hs : s.sound fz = true) :
    ((State.sendImage s)).sound fz = true := by
  simp (maxDischargeDepth := 99) +contextual [State.sendImage, *]

/-- `State.tapsLoaded` keeps soundness. -/
@[simp ↓] theorem State.tapsLoaded_sound {fz : Fuses} (s : State) (n : Nat) (hs : s.sound fz = true) :
    ((State.tapsLoaded s n)).sound fz = true := by
  simp (maxDischargeDepth := 99) +contextual [State.tapsLoaded, *]

/-- `State.putField` keeps soundness. -/
@[simp ↓] theorem State.putField_sound {fz : Fuses} (s : State) (e : Nat × Nat) (hs : s.sound fz = true) :
    ((State.putField s e)).sound fz = true := by
  exact sound_of_fields _ (spSorted_spSet _ _ _ (sound_iff.mp hs).2.2.2.2.2.1) hs

/-- `State.loadField` keeps soundness. -/
@[simp ↓] theorem State.loadField_sound {fz : Fuses} (s : State) (e : Nat × Nat) (hs : s.sound fz = true) :
    ((State.loadField s e)).sound fz = true := by
  unfold State.loadField
  split <;> simp [*]

/-- `State.loadPair` keeps soundness. -/
@[simp ↓] theorem State.loadPair_sound {fz : Fuses} (s : State) (region : Nat) (e : Nat × Nat) (hs : s.sound fz = true) :
    ((State.loadPair s region e)).sound fz = true := by
  unfold State.loadPair
  split
  · simp [*]
  · exact sound_ite _ _ hs (by simp [*])
  · simp [*]
  · simp [*]
  · extract_lets i
    split <;> simp [*]
  · simp [*]

/-- `State.bulkRecord` keeps soundness. -/
@[simp ↓] theorem State.bulkRecord_sound {fz : Fuses} (s : State) (region : Nat) (l : List (Nat × Nat)) (hs : s.sound fz = true) :
    ((State.bulkRecord s region l)).sound fz = true := by
  simp (maxDischargeDepth := 99) +contextual [State.bulkRecord, *]

/-- `State.diverged` keeps soundness. -/
@[simp ↓] theorem State.diverged_sound {fz : Fuses} (s : State) (hs : s.sound fz = true) :
    ((State.diverged s)).sound fz = true := by
  simp (maxDischargeDepth := 99) +contextual [State.diverged, *]

/-- `State.mirrorWrite` keeps soundness. -/
@[simp ↓] theorem State.mirrorWrite_sound {fz : Fuses} (s : State) (p : Nat) (region : Nat) (off : Nat) (be : Nat) (data : Nat) (hs : s.sound fz = true) :
    ((State.mirrorWrite s p region off be data).1).sound fz = true := by
  simp (maxDischargeDepth := 99) +contextual [State.mirrorWrite, *]

/-- `State.mirrorArm` keeps soundness. -/
@[simp ↓] theorem State.mirrorArm_sound {fz : Fuses} (s : State) (region : Nat) (be : Nat) (data : Nat) (hs : s.sound fz = true) :
    ((State.mirrorArm s region be data).1).sound fz = true := by
  simp (maxDischargeDepth := 99) +contextual [State.mirrorArm, *]

/-- `State.protRecord` keeps soundness. -/
@[simp ↓] theorem State.protRecord_sound {fz : Fuses} (s : State) (g : Nat) (dws : List Nat) (hs : s.sound fz = true) :
    ((State.protRecord s g dws)).sound fz = true := by
  simp (maxDischargeDepth := 99) +contextual [State.protRecord, *]

/-- `State.precodeLoaded` keeps soundness. -/
@[simp ↓] theorem State.precodeLoaded_sound {fz : Fuses} (s : State) (n : Nat) (data : Nat) (hs : s.sound fz = true) :
    ((State.precodeLoaded s n data)).sound fz = true := by
  simp (maxDischargeDepth := 99) +contextual [State.precodeLoaded, *]

/-- `State.mirrorJournal` keeps soundness. -/
@[simp ↓] theorem State.mirrorJournal_sound {fz : Fuses} (s : State) (r : JRec) (hs : s.sound fz = true) :
    ((State.mirrorJournal s r)).sound fz = true := by
  unfold State.mirrorJournal
  repeat' first
    | (extract_lets +onlyGivenNames x
       have hx : State.sound fz x = true := by
         simp only [x]
         repeat' split
         all_goals simp (maxDischargeDepth := 99) +contextual [*]
       clear_value x)
    | (extract_lets +onlyGivenNames x
       have hx : State.sound fz x.1 = true := by
         simp only [x]
         repeat' split
         all_goals simp (maxDischargeDepth := 99) +contextual [*]
       clear_value x)
    | (extract_lets +onlyGivenNames x
       have hx : ∀ s a, State.sound fz s = true → State.sound fz (x s a) = true := by
         intro s a hs
         simp only [x]
         simp (maxDischargeDepth := 99) +contextual [*]
       clear_value x)
    | (extract_lets +onlyGivenNames x; clear_value x)
    | split
  all_goals simp (maxDischargeDepth := 99) +contextual [*]

/-- `State.mirrorOne` keeps soundness. -/
@[simp ↓] theorem State.mirrorOne_sound {fz : Fuses} (s : State) (b : TwinBody) (hs : s.sound fz = true) :
    ((State.mirrorOne s b).1).sound fz = true := by
  unfold State.mirrorOne
  repeat' first
    | (extract_lets +onlyGivenNames x
       have hx : State.sound fz x = true := by
         simp only [x]
         repeat' split
         all_goals simp (maxDischargeDepth := 99) +contextual [*]
       clear_value x)
    | (extract_lets +onlyGivenNames x
       have hx : State.sound fz x.1 = true := by
         simp only [x]
         repeat' split
         all_goals simp (maxDischargeDepth := 99) +contextual [*]
       clear_value x)
    | (extract_lets +onlyGivenNames x
       have hx : ∀ s a, State.sound fz s = true → State.sound fz (x s a) = true := by
         intro s a hs
         simp only [x]
         simp (maxDischargeDepth := 99) +contextual [*]
       clear_value x)
    | (extract_lets +onlyGivenNames x; clear_value x)
    | split
  all_goals simp (maxDischargeDepth := 99) +contextual [*]

/-- `State.mirrorRun` keeps soundness. -/
@[simp ↓] theorem State.mirrorRun_sound {fz : Fuses} (x0 : List TwinRec) (x1 : State) (hx1 : x1.sound fz = true) :
    ((State.mirrorRun x0 x1)).sound fz = true := by
  induction x0 generalizing x1 with
  | nil => simp [State.mirrorRun, *]
  | cons r l ih =>
    unfold State.mirrorRun
    split
    · simp [*]
    · split
      · exact State.mxError_sound _ _ _ _ hx1
      · extract_lets x
        have h : State.sound fz x.1 = true := by simp [x, *]
        clear_value x
        split
        · exact ih _ h
        · simp [*]

/-- `State.theirSigs` keeps soundness. -/
@[simp ↓] theorem State.theirSigs_sound {fz : Fuses} (s : State) (msg : WaltzMsg) (hs : s.sound fz = true) :
    ((State.theirSigs s msg)).sound fz = true := by
  simp (maxDischargeDepth := 99) +contextual [State.theirSigs, *]

/-- `State.disagree` keeps soundness. -/
@[simp ↓] theorem State.disagree_sound {fz : Fuses} (s : State) (hs : s.sound fz = true) :
    ((State.disagree s)).sound fz = true := by
  simp (maxDischargeDepth := 99) +contextual [State.disagree, *]

/-- `State.cmpOutcome` keeps soundness. -/
@[simp ↓] theorem State.cmpOutcome_sound {fz : Fuses} (s : State) (act : Bool) (stb : Bool) (hs : s.sound fz = true) :
    ((State.cmpOutcome s act stb)).sound fz = true := by
  unfold State.cmpOutcome
  extract_lets en here eligible
  cases act <;> cases stb
  · simp [*]
  · exact sound_ite _ _ (by simp [*]) hs
  · exact sound_ite _ _ (sound_ite _ _ hs hs) (by simp [*])
  · simp [*]

/-- `State.cmpOne` keeps soundness. -/
@[simp ↓] theorem State.cmpOne_sound {fz : Fuses} (s : State) (u : Nat) (mine : SigEntry) (their : SigEntry) (hs : s.sound fz = true) :
    ((State.cmpOne s u mine their).1).sound fz = true := by
  simp (maxDischargeDepth := 99) +contextual [State.cmpOne, *]

/-- `cmpUnit` keeps soundness. -/
@[simp ↓] theorem cmpUnit_sound {fz : Fuses} (p : State × Bool) (u : Nat) (hp : p.1.sound fz = true) :
    ((cmpUnit p u).1).sound fz = true := by
  unfold cmpUnit
  repeat' first
    | (extract_lets +onlyGivenNames x
       have hx : State.sound fz x = true := by
         simp only [x]
         repeat' split
         all_goals simp (maxDischargeDepth := 99) +contextual [*]
       clear_value x)
    | (extract_lets +onlyGivenNames x
       have hx : State.sound fz x.1 = true := by
         simp only [x]
         repeat' split
         all_goals simp (maxDischargeDepth := 99) +contextual [*]
       clear_value x)
    | (extract_lets +onlyGivenNames x
       have hx : ∀ s a, State.sound fz s = true → State.sound fz (x s a) = true := by
         intro s a hs
         simp only [x]
         simp (maxDischargeDepth := 99) +contextual [*]
       clear_value x)
    | (extract_lets +onlyGivenNames x; clear_value x)
    | split
  all_goals simp (maxDischargeDepth := 99) +contextual [*]

/-- `State.compare` keeps soundness. -/
@[simp ↓] theorem State.compare_sound {fz : Fuses} (s : State) (hs : s.sound fz = true) :
    ((State.compare s)).sound fz = true := by
  simp (maxDischargeDepth := 99) +contextual [State.compare, *]

/-- `State.moveFr` keeps soundness. -/
@[simp ↓] theorem State.moveFr_sound {fz : Fuses} (s : State) (u : Nat) (e : MapperEntry) (hs : s.sound fz = true) :
    ((State.moveFr s u e)).sound fz = true := by
  simp (maxDischargeDepth := 99) +contextual [State.moveFr, *]

/-- `applyMapper` keeps soundness. -/
@[simp ↓] theorem applyMapper_sound {fz : Fuses} (names : List Nat) (s : State) (x : Nat × MapperEntry) (hs : s.sound fz = true) :
    ((applyMapper names s x)).sound fz = true := by
  unfold applyMapper
  repeat' first
    | (extract_lets +onlyGivenNames x
       have hx : State.sound fz x = true := by
         simp only [x]
         repeat' split
         all_goals simp (maxDischargeDepth := 99) +contextual [*]
       clear_value x)
    | (extract_lets +onlyGivenNames x
       have hx : State.sound fz x.1 = true := by
         simp only [x]
         repeat' split
         all_goals simp (maxDischargeDepth := 99) +contextual [*]
       clear_value x)
    | (extract_lets +onlyGivenNames x
       have hx : ∀ s a, State.sound fz s = true → State.sound fz (x s a) = true := by
         intro s a hs
         simp only [x]
         simp (maxDischargeDepth := 99) +contextual [*]
       clear_value x)
    | (extract_lets +onlyGivenNames x; clear_value x)
    | split
  all_goals simp (maxDischargeDepth := 99) +contextual [*]

/-- `applyPort` keeps soundness. -/
@[simp ↓] theorem applyPort_sound {fz : Fuses} (s : State) (x : Nat × PortEntry) (hs : s.sound fz = true) :
    ((applyPort s x)).sound fz = true := by
  unfold applyPort
  repeat' first
    | (extract_lets +onlyGivenNames x
       have hx : State.sound fz x = true := by
         simp only [x]
         repeat' split
         all_goals simp (maxDischargeDepth := 99) +contextual [*]
       clear_value x)
    | (extract_lets +onlyGivenNames x
       have hx : State.sound fz x.1 = true := by
         simp only [x]
         repeat' split
         all_goals simp (maxDischargeDepth := 99) +contextual [*]
       clear_value x)
    | (extract_lets +onlyGivenNames x
       have hx : ∀ s a, State.sound fz s = true → State.sound fz (x s a) = true := by
         intro s a hs
         simp only [x]
         simp (maxDischargeDepth := 99) +contextual [*]
       clear_value x)
    | (extract_lets +onlyGivenNames x; clear_value x)
    | split
  all_goals simp (maxDischargeDepth := 99) +contextual [*]

/-- `State.overrun` keeps soundness. -/
@[simp ↓] theorem State.overrun_sound {fz : Fuses} (s : State) (hs : s.sound fz = true) :
    ((State.overrun s)).sound fz = true := by
  simp (maxDischargeDepth := 99) +contextual [State.overrun, *]

/-- `State.resyncAdvance` keeps soundness. -/
@[simp ↓] theorem State.resyncAdvance_sound {fz : Fuses} (s : State) (ack : Bool) (hs : s.sound fz = true) :
    ((State.resyncAdvance s ack)).sound fz = true := by
  simp (maxDischargeDepth := 99) +contextual [State.resyncAdvance, *]

/-- `State.answerResync` keeps soundness. -/
@[simp ↓] theorem State.answerResync_sound {fz : Fuses} (s : State) (h : WaltzHeader) (hs : s.sound fz = true) :
    ((State.answerResync s h)).sound fz = true := by
  simp (maxDischargeDepth := 99) +contextual [State.answerResync, *]

/-- `State.takeRecords` keeps soundness. -/
@[simp ↓] theorem State.takeRecords_sound {fz : Fuses} (s : State) (l : List TwinRec) (hs : s.sound fz = true) :
    ((State.takeRecords s l)).sound fz = true := by
  simp (maxDischargeDepth := 99) +contextual [State.takeRecords, *]

/-- `State.followMsg` keeps soundness. -/
@[simp ↓] theorem State.followMsg_sound {fz : Fuses} (s : State) (msg : WaltzMsg) (hs : s.sound fz = true) :
    ((State.followMsg s msg)).sound fz = true := by
  simp (maxDischargeDepth := 99) +contextual [State.followMsg, *]

/-- `State.applyMsg` keeps soundness. -/
@[simp ↓] theorem State.applyMsg_sound {fz : Fuses} (s : State) (msg : WaltzMsg) (hs : s.sound fz = true) :
    ((State.applyMsg s msg)).sound fz = true := by
  simp (maxDischargeDepth := 99) +contextual [State.applyMsg, *]

/-- `State.mirrorStep` keeps soundness. -/
@[simp ↓] theorem State.mirrorStep_sound {fz : Fuses} (s : State) (hs : s.sound fz = true) :
    ((State.mirrorStep s)).sound fz = true := by
  unfold State.mirrorStep
  repeat' first
    | (extract_lets +onlyGivenNames x
       have hx : State.sound fz x = true := by
         simp only [x]
         repeat' split
         all_goals simp (maxDischargeDepth := 99) +contextual [*]
       clear_value x)
    | (extract_lets +onlyGivenNames x
       have hx : State.sound fz x.1 = true := by
         simp only [x]
         repeat' split
         all_goals simp (maxDischargeDepth := 99) +contextual [*]
       clear_value x)
    | (extract_lets +onlyGivenNames x
       have hx : ∀ s a, State.sound fz s = true → State.sound fz (x s a) = true := by
         intro s a hs
         simp only [x]
         simp (maxDischargeDepth := 99) +contextual [*]
       clear_value x)
    | (extract_lets +onlyGivenNames x; clear_value x)
    | split
  all_goals simp (maxDischargeDepth := 99) +contextual [*]

/-- `State.applyDue` keeps soundness. -/
@[simp ↓] theorem State.applyDue_sound {fz : Fuses} (s : State) (hs : s.sound fz = true) :
    ((State.applyDue s)).sound fz = true := by
  unfold State.applyDue
  repeat' first
    | (extract_lets +onlyGivenNames x
       have hx : State.sound fz x = true := by
         simp only [x]
         repeat' split
         all_goals simp (maxDischargeDepth := 99) +contextual [*]
       clear_value x)
    | (extract_lets +onlyGivenNames x
       have hx : State.sound fz x.1 = true := by
         simp only [x]
         repeat' split
         all_goals simp (maxDischargeDepth := 99) +contextual [*]
       clear_value x)
    | (extract_lets +onlyGivenNames x
       have hx : ∀ s a, State.sound fz s = true → State.sound fz (x s a) = true := by
         intro s a hs
         simp only [x]
         simp (maxDischargeDepth := 99) +contextual [*]
       clear_value x)
    | (extract_lets +onlyGivenNames x; clear_value x)
    | split
  all_goals simp (maxDischargeDepth := 99) +contextual [*]

/-- `State.journalPart` keeps soundness. -/
@[simp ↓] theorem State.journalPart_sound {fz : Fuses} (s : State) (hs : s.sound fz = true) :
    ((State.journalPart s).2.2.2).sound fz = true := by
  unfold State.journalPart
  repeat' first
    | (extract_lets +onlyGivenNames x
       have hx : State.sound fz x = true := by
         simp only [x]
         repeat' split
         all_goals simp (maxDischargeDepth := 99) +contextual [*]
       clear_value x)
    | (extract_lets +onlyGivenNames x
       have hx : State.sound fz x.1 = true := by
         simp only [x]
         repeat' split
         all_goals simp (maxDischargeDepth := 99) +contextual [*]
       clear_value x)
    | (extract_lets +onlyGivenNames x
       have hx : ∀ s a, State.sound fz s = true → State.sound fz (x s a) = true := by
         intro s a hs
         simp only [x]
         simp (maxDischargeDepth := 99) +contextual [*]
       clear_value x)
    | (extract_lets +onlyGivenNames x; clear_value x)
    | split
  all_goals simp (maxDischargeDepth := 99) +contextual [*]

/-- `State.roomShown` keeps soundness. -/
@[simp ↓] theorem State.roomShown_sound {fz : Fuses} (s : State) (urgent : Nat) (deferred : Bool) (ovr : Bool) (hs : s.sound fz = true) :
    ((State.roomShown s urgent deferred ovr)).sound fz = true := by
  simp (maxDischargeDepth := 99) +contextual [State.roomShown, *]

/-- `State.ownSigs` keeps soundness. -/
@[simp ↓] theorem State.ownSigs_sound {fz : Fuses} (s : State) (l : List (Nat × Nat × Nat)) (hs : s.sound fz = true) :
    ((State.ownSigs s l)).sound fz = true := by
  simp (maxDischargeDepth := 99) +contextual [State.ownSigs, *]

/-- `State.gather` keeps soundness. -/
@[simp ↓] theorem State.gather_sound {fz : Fuses} (s : State) (sf : Nat) (act : Bool) (hs : s.sound fz = true) :
    ((State.gather s sf act)).sound fz = true := by
  unfold State.gather
  extract_lets s0 ports maps sigs copied src j s1 hdr msg periods lines s2
  have h0 : State.sound fz s0 = true := State.onlyIf_sound _ _ _ hs (fun s h => State.trims_sound s h)
  have hj : State.sound fz j.2.2.2 = true := by
    simp only [j]
    split
    · exact State.journalPart_sound _ h0
    · exact h0
  have h1 : State.sound fz s1 = true := State.roomShown_sound _ _ _ _ hj
  have h2 : State.sound fz s2 = true := State.ownSigs_sound _ _ (State.emit_sound _ _ h1)
  exact h2

/-- `State.resyncTick` keeps soundness. -/
@[simp ↓] theorem State.resyncTick_sound {fz : Fuses} (s : State) (hs : s.sound fz = true) :
    ((State.resyncTick s)).sound fz = true := by
  simp (maxDischargeDepth := 99) +contextual [State.resyncTick, *]

/-- `State.regainEligible` keeps soundness. -/
@[simp ↓] theorem State.regainEligible_sound {fz : Fuses} (s : State) (hs : s.sound fz = true) :
    ((State.regainEligible s)).sound fz = true := by
  simp (maxDischargeDepth := 99) +contextual [State.regainEligible, *]

/-- `State.handsOver` keeps soundness. -/
@[simp ↓] theorem State.handsOver_sound {fz : Fuses} (s : State) (hs : s.sound fz = true) :
    ((State.handsOver s)).sound fz = true := by
  simp (maxDischargeDepth := 99) +contextual [State.handsOver, *]

/-- `State.switchSteps` keeps soundness. -/
@[simp ↓] theorem State.switchSteps_sound {fz : Fuses} (s : State) (hs : s.sound fz = true) :
    ((State.switchSteps s)).sound fz = true := by
  unfold State.switchSteps
  repeat' first
    | (extract_lets +onlyGivenNames x
       have hx : State.sound fz x = true := by
         simp only [x]
         repeat' split
         all_goals simp (maxDischargeDepth := 99) +contextual [*]
       clear_value x)
    | (extract_lets +onlyGivenNames x
       have hx : State.sound fz x.1 = true := by
         simp only [x]
         repeat' split
         all_goals simp (maxDischargeDepth := 99) +contextual [*]
       clear_value x)
    | (extract_lets +onlyGivenNames x
       have hx : ∀ s a, State.sound fz s = true → State.sound fz (x s a) = true := by
         intro s a hs
         simp only [x]
         simp (maxDischargeDepth := 99) +contextual [*]
       clear_value x)
    | (extract_lets +onlyGivenNames x; clear_value x)
    | split
  all_goals simp (maxDischargeDepth := 99) +contextual [*]

/-- `State.twinBoundary` keeps soundness. -/
@[simp ↓] theorem State.twinBoundary_sound {fz : Fuses} (s : State) (sf : Nat) (hs : s.sound fz = true) :
    ((State.twinBoundary s sf)).sound fz = true := by
  simp (maxDischargeDepth := 99) +contextual [State.twinBoundary, *]

/-! ## Machine/Boundary.lean -/

/-- `State.saBoundary` keeps soundness. -/
@[simp ↓] theorem State.saBoundary_sound {fz : Fuses} (s : State) (newSf : Option Nat) (hs : s.sound fz = true) :
    ((State.saBoundary s newSf)).sound fz = true := by
  simp (maxDischargeDepth := 99) +contextual [State.saBoundary, *]

/-- `prbsCount` keeps soundness. -/
@[simp ↓] theorem prbsCount_sound {fz : Fuses} (s : State) (e : Nat × Nat × Nat) (hs : s.sound fz = true) :
    ((prbsCount s e)).sound fz = true := by
  simp (maxDischargeDepth := 99) +contextual [prbsCount, *]

/-- `State.frameTime` keeps soundness. -/
@[simp ↓] theorem State.frameTime_sound {fz : Fuses} (s : State) (frame : Nat) (hs : s.sound fz = true) :
    ((State.frameTime s frame)).sound fz = true := by
  simp (maxDischargeDepth := 99) +contextual [State.frameTime, *]

/-- `State.frameEnds` keeps soundness. -/
@[simp ↓] theorem State.frameEnds_sound {fz : Fuses} (s : State) (f : CoreFrame) (frame : Nat) (hs : s.sound fz = true) :
    ((State.frameEnds s f frame)).sound fz = true := by
  simp (maxDischargeDepth := 99) +contextual [State.frameEnds, *]

/-- `State.releases` keeps soundness. -/
@[simp ↓] theorem State.releases_sound {fz : Fuses} (s : State) (hs : s.sound fz = true) :
    ((State.releases s)).sound fz = true := by
  simp (maxDischargeDepth := 99) +contextual [State.releases, *]

/-- `State.protBoundary` keeps soundness. -/
@[simp ↓] theorem State.protBoundary_sound {fz : Fuses} (s : State) (hs : s.sound fz = true) :
    ((State.protBoundary s)).sound fz = true := by
  simp (maxDischargeDepth := 99) +contextual [State.protBoundary, *]

/-- `State.frameStarts` keeps soundness. -/
@[simp ↓] theorem State.frameStarts_sound {fz : Fuses} (s : State) (hs : s.sound fz = true) :
    ((State.frameStarts s)).sound fz = true := by
  simp (maxDischargeDepth := 99) +contextual [State.frameStarts, *]

/-- `State.boundaryActions` keeps soundness. -/
@[simp ↓] theorem State.boundaryActions_sound {fz : Fuses} (s : State) (sf : Nat) (frame : Nat) (hs : s.sound fz = true) :
    ((State.boundaryActions s sf frame)).sound fz = true := by
  simp (maxDischargeDepth := 99) +contextual [State.boundaryActions, *]

/-- `State.superframeActions` keeps soundness. -/
@[simp ↓] theorem State.superframeActions_sound {fz : Fuses} (s : State) (sf : Nat) (hs : s.sound fz = true) :
    ((State.superframeActions s sf)).sound fz = true := by
  simp (maxDischargeDepth := 99) +contextual [State.superframeActions, *]

/-- `State.frameBoundary` keeps soundness. -/
@[simp ↓] theorem State.frameBoundary_sound {fz : Fuses} (s : State) (f : CoreFrame) (super : Bool) (hs : s.sound fz = true) :
    ((State.frameBoundary s f super)).sound fz = true := by
  simp (maxDischargeDepth := 99) +contextual [State.frameBoundary, *]

/-- `execCoreFrameBoundary` keeps soundness. -/
theorem execCoreFrameBoundary_sound {fz : Fuses} (f : CoreFrame) (s : State) (hs : s.sound fz = true) :
    ∃ z, execCoreFrameBoundary f s = finish s z ∧ z.sound fz = true := ⟨_, rfl, by simp (maxDischargeDepth := 99) +contextual [*]⟩

/-- `execSuperframeBoundary` keeps soundness. -/
theorem execSuperframeBoundary_sound {fz : Fuses} (f : CoreFrame) (s : State) (hs : s.sound fz = true) :
    ∃ z, execSuperframeBoundary f s = finish s z ∧ z.sound fz = true := ⟨_, rfl, by simp (maxDischargeDepth := 99) +contextual [*]⟩

/-! ## Machine/Protection.lean -/

/-- `execProtectionEvaluation` keeps soundness. -/
theorem execProtectionEvaluation_sound {fz : Fuses} (g : Fin 262144) (ecc : List EccHit) (s : State) (hs : s.sound fz = true) :
    ∃ z, execProtectionEvaluation g ecc s = finish s z ∧ z.sound fz = true := ⟨_, rfl, by simp (maxDischargeDepth := 99) +contextual [*]⟩

/-- `execHoldoffExpiry` keeps soundness. -/
theorem execHoldoffExpiry_sound {fz : Fuses} (g : Fin 262144) (p : Bool) (s : State) (hs : s.sound fz = true) :
    ∃ z, execHoldoffExpiry g p s = finish s z ∧ z.sound fz = true := ⟨_, rfl, by simp (maxDischargeDepth := 99) +contextual [*]⟩

/-- `execWtrExpiry` keeps soundness. -/
theorem execWtrExpiry_sound {fz : Fuses} (g : Fin 262144) (s : State) (hs : s.sound fz = true) :
    ∃ z, execWtrExpiry g s = finish s z ∧ z.sound fz = true := ⟨_, rfl, by simp (maxDischargeDepth := 99) +contextual [*]⟩

/-- `State.windowEnds` keeps soundness. -/
@[simp ↓] theorem State.windowEnds_sound {fz : Fuses} (s : State) (g : Nat) (hs : s.sound fz = true) :
    ((State.windowEnds s g)).sound fz = true := by
  simp (maxDischargeDepth := 99) +contextual [State.windowEnds, *]

/-- `execSpeculationWindowExpiry` keeps soundness. -/
theorem execSpeculationWindowExpiry_sound {fz : Fuses} (g : Fin 262144) (s : State) (hs : s.sound fz = true) :
    ∃ z, execSpeculationWindowExpiry g s = finish s z ∧ z.sound fz = true := ⟨_, rfl, by simp (maxDischargeDepth := 99) +contextual [*]⟩

/-- `execGuardExpiry` keeps soundness. -/
theorem execGuardExpiry_sound {fz : Fuses} (g : Fin 262144) (s : State) (hs : s.sound fz = true) :
    ∃ z, execGuardExpiry g s = finish s z ∧ z.sound fz = true := ⟨_, rfl, by simp (maxDischargeDepth := 99) +contextual [*]⟩

/-- `execIndexFrame` keeps soundness. -/
theorem execIndexFrame_sound {fz : Fuses} (g : Fin 262144) (p : Bool) (mfas : Byte) (opu : List Byte) (cycle : Fin 1152) (s : State) (hs : s.sound fz = true) :
    ∃ z, execIndexFrame g p mfas opu cycle s = finish s z ∧ z.sound fz = true := ⟨_, rfl, by simp (maxDischargeDepth := 99) +contextual [*]⟩

/-- `execFillComplete` keeps soundness. -/
theorem execFillComplete_sound {fz : Fuses} (g : Fin 262144) (s : State) (hs : s.sound fz = true) :
    ∃ z, execFillComplete g s = finish s z ∧ z.sound fz = true := ⟨_, rfl, by simp (maxDischargeDepth := 99) +contextual [*]⟩

/-- `execAdmitGroup` keeps soundness. -/
theorem execAdmitGroup_sound {fz : Fuses} (m : Master) (g : Fin 262144) (s : State) (hs : s.sound fz = true) :
    ∃ z, execAdmitGroup m g s = finish s z ∧ z.sound fz = true := ⟨_, rfl, by simp (maxDischargeDepth := 99) +contextual [*]⟩

/-- `execRelease` keeps soundness. -/
theorem execRelease_sound {fz : Fuses} (m : Master) (g : Fin 262144) (s : State) (hs : s.sound fz = true) :
    ∃ z, execRelease m g s = finish s z ∧ z.sound fz = true := ⟨_, rfl, by simp (maxDischargeDepth := 99) +contextual [*]⟩

/-- `execQuery` keeps soundness. -/
theorem execQuery_sound {fz : Fuses} (m : Master) (g : Fin 262144) (s : State) (hs : s.sound fz = true) :
    ∃ z, execQuery m g s = finish s z ∧ z.sound fz = true := ⟨_, rfl, by simp (maxDischargeDepth := 99) +contextual [*]⟩

/-- `execCarrierBondEnable` keeps soundness. -/
theorem execCarrierBondEnable_sound {fz : Fuses} (m : Master) (en : Bool) (s : State) (hs : s.sound fz = true) :
    ∃ z, execCarrierBondEnable m en s = finish s z ∧ z.sound fz = true := ⟨_, rfl, by simp (maxDischargeDepth := 99) +contextual [*]⟩

/-- `execSlotLaneBondEnable` keeps soundness. -/
theorem execSlotLaneBondEnable_sound {fz : Fuses} (m : Master) (j : Fin 128) (data : Word) (s : State) (hs : s.sound fz = true) :
    ∃ z, execSlotLaneBondEnable m j data s = finish s z ∧ z.sound fz = true := ⟨_, rfl, by simp (maxDischargeDepth := 99) +contextual [*]⟩

/-- `execStackReadyLoss` keeps soundness. -/
theorem execStackReadyLoss_sound {fz : Fuses} (i : Fin 4) (s : State) (hs : s.sound fz = true) :
    ∃ z, execStackReadyLoss i s = finish s z ∧ z.sound fz = true := ⟨_, rfl, by simp (maxDischargeDepth := 99) +contextual [*]⟩

/-- `execMtestFreeBlocks` keeps soundness. -/
theorem execMtestFreeBlocks_sound {fz : Fuses} (m : Master) (i : Fin 4) (s : State) (hs : s.sound fz = true) :
    ∃ z, execMtestFreeBlocks m i s = finish s z ∧ z.sound fz = true := ⟨_, rfl, by simp (maxDischargeDepth := 99) +contextual [*]⟩

/-- `execMtestWholeStack` keeps soundness. -/
theorem execMtestWholeStack_sound {fz : Fuses} (m : Master) (i : Fin 4) (s : State) (hs : s.sound fz = true) :
    ∃ z, execMtestWholeStack m i s = finish s z ∧ z.sound fz = true := ⟨_, rfl, by simp (maxDischargeDepth := 99) +contextual [*]⟩

/-- `execMtestDone` keeps soundness. -/
theorem execMtestDone_sound {fz : Fuses} (i : Fin 4) (fail : Option (Fin 16384)) (s : State) (hs : s.sound fz = true) :
    ∃ z, execMtestDone i fail s = finish s z ∧ z.sound fz = true := ⟨_, rfl, by simp (maxDischargeDepth := 99) +contextual [*]⟩

/-- `execScrubPass` keeps soundness. -/
theorem execScrubPass_sound {fz : Fuses} (i : Fin 4) (corr : Nat) (uncorr : Nat) (s : State) (hs : s.sound fz = true) :
    ∃ z, execScrubPass i corr uncorr s = finish s z ∧ z.sound fz = true := ⟨_, rfl, by simp (maxDischargeDepth := 99) +contextual [*]⟩

/-! ## Machine/LaneFam.lean -/

/-- `execOctetPllWrite` keeps soundness. -/
theorem execOctetPllWrite_sound {fz : Fuses} (m : Master) (k : Fin 32) (b : Bool) (be : Fin 16) (data : Word) (s : State) (hs : s.sound fz = true) :
    ∃ z, execOctetPllWrite m k b be data s = finish s z ∧ z.sound fz = true := ⟨_, rfl, by simp (maxDischargeDepth := 99) +contextual [*]⟩

/-- `execOctetPllLock` keeps soundness. -/
theorem execOctetPllLock_sound {fz : Fuses} (k : Fin 32) (b : Bool) (s : State) (hs : s.sound fz = true) :
    ∃ z, execOctetPllLock k b s = finish s z ∧ z.sound fz = true := ⟨_, rfl, by simp (maxDischargeDepth := 99) +contextual [*]⟩

/-- `execLaneEnable` keeps soundness. -/
theorem execLaneEnable_sound {fz : Fuses} (m : Master) (n : Fin 256) (s : State) (hs : s.sound fz = true) :
    ∃ z, execLaneEnable m n s = finish s z ∧ z.sound fz = true := ⟨_, rfl, by simp (maxDischargeDepth := 99) +contextual [*]⟩

/-- `execTxFirWrite` keeps soundness. -/
theorem execTxFirWrite_sound {fz : Fuses} (m : Master) (n : Fin 256) (be : Fin 16) (data : Word) (s : State) (hs : s.sound fz = true) :
    ∃ z, execTxFirWrite m n be data s = finish s z ∧ z.sound fz = true := ⟨_, rfl, by simp (maxDischargeDepth := 99) +contextual [*]⟩

/-- `execLaneSigFall` keeps soundness. -/
theorem execLaneSigFall_sound {fz : Fuses} (n : Fin 256) (s : State) (hs : s.sound fz = true) :
    ∃ z, execLaneSigFall n s = finish s z ∧ z.sound fz = true := ⟨_, rfl, by simp (maxDischargeDepth := 99) +contextual [*]⟩

/-- `execLaneSigRise` keeps soundness. -/
theorem execLaneSigRise_sound {fz : Fuses} (n : Fin 256) (s : State) (hs : s.sound fz = true) :
    ∃ z, execLaneSigRise n s = finish s z ∧ z.sound fz = true := ⟨_, rfl, by simp (maxDischargeDepth := 99) +contextual [*]⟩

/-- `execCdrLockFall` keeps soundness. -/
theorem execCdrLockFall_sound {fz : Fuses} (n : Fin 256) (held : Bool) (s : State) (hs : s.sound fz = true) :
    ∃ z, execCdrLockFall n held s = finish s z ∧ z.sound fz = true := ⟨_, rfl, by simp (maxDischargeDepth := 99) +contextual [*]⟩

/-- `execCdrLockRise` keeps soundness. -/
theorem execCdrLockRise_sound {fz : Fuses} (n : Fin 256) (s : State) (hs : s.sound fz = true) :
    ∃ z, execCdrLockRise n s = finish s z ∧ z.sound fz = true := ⟨_, rfl, by simp (maxDischargeDepth := 99) +contextual [*]⟩

/-- `execTrainingFrameReceived` keeps soundness. -/
theorem execTrainingFrameReceived_sound {fz : Fuses} (n : Fin 256) (seen : MarkerSeen) (next : Option MarkerSeen) (later : List MarkerSeen) (s : State) (hs : s.sound fz = true) :
    ∃ z, execTrainingFrameReceived n seen next later s = finish s z ∧ z.sound fz = true := ⟨_, rfl, by simp (maxDischargeDepth := 99) +contextual [*]⟩

/-- `execTrainingFrameSent` keeps soundness. -/
theorem execTrainingFrameSent_sound {fz : Fuses} (n : Fin 256) (next : Option (Fin 128)) (s : State) (hs : s.sound fz = true) :
    ∃ z, execTrainingFrameSent n next s = finish s z ∧ z.sound fz = true := ⟨_, rfl, by simp (maxDischargeDepth := 99) +contextual [*]⟩

/-- `execEqualiserConverged` keeps soundness. -/
theorem execEqualiserConverged_sound {fz : Fuses} (n : Fin 256) (dc : Fin 32) (peak : Fin 64) (dfe : Byte) (s : State) (hs : s.sound fz = true) :
    ∃ z, execEqualiserConverged n dc peak dfe s = finish s z ∧ z.sound fz = true := ⟨_, rfl, by simp (maxDischargeDepth := 99) +contextual [*]⟩

/-- `execNoAckTimeout` keeps soundness. -/
theorem execNoAckTimeout_sound {fz : Fuses} (n : Fin 256) (s : State) (hs : s.sound fz = true) :
    ∃ z, execNoAckTimeout n s = finish s z ∧ z.sound fz = true := ⟨_, rfl, by simp (maxDischargeDepth := 99) +contextual [*]⟩

/-- `execTrainingTimeout` keeps soundness. -/
theorem execTrainingTimeout_sound {fz : Fuses} (n : Fin 256) (s : State) (hs : s.sound fz = true) :
    ∃ z, execTrainingTimeout n s = finish s z ∧ z.sound fz = true := ⟨_, rfl, by simp (maxDischargeDepth := 99) +contextual [*]⟩

/-- `execTrainingBackoffExpiry` keeps soundness. -/
theorem execTrainingBackoffExpiry_sound {fz : Fuses} (n : Fin 256) (s : State) (hs : s.sound fz = true) :
    ∃ z, execTrainingBackoffExpiry n s = finish s z ∧ z.sound fz = true := ⟨_, rfl, by simp (maxDischargeDepth := 99) +contextual [*]⟩

/-- `execTrainStart` keeps soundness. -/
theorem execTrainStart_sound {fz : Fuses} (m : Master) (n : Fin 256) (s : State) (hs : s.sound fz = true) :
    ∃ z, execTrainStart m n s = finish s z ∧ z.sound fz = true := ⟨_, rfl, by simp (maxDischargeDepth := 99) +contextual [*]⟩

/-- `execTrainAbort` keeps soundness. -/
theorem execTrainAbort_sound {fz : Fuses} (m : Master) (n : Fin 256) (s : State) (hs : s.sound fz = true) :
    ∃ z, execTrainAbort m n s = finish s z ∧ z.sound fz = true := ⟨_, rfl, by simp (maxDischargeDepth := 99) +contextual [*]⟩

/-- `execTrainResetBackoff` keeps soundness. -/
theorem execTrainResetBackoff_sound {fz : Fuses} (m : Master) (n : Fin 256) (s : State) (hs : s.sound fz = true) :
    ∃ z, execTrainResetBackoff m n s = finish s z ∧ z.sound fz = true := ⟨_, rfl, by simp (maxDischargeDepth := 99) +contextual [*]⟩

/-- `execIdleHoldExpiry` keeps soundness. -/
theorem execIdleHoldExpiry_sound {fz : Fuses} (n : Fin 256) (s : State) (hs : s.sound fz = true) :
    ∃ z, execIdleHoldExpiry n s = finish s z ∧ z.sound fz = true := ⟨_, rfl, by simp (maxDischargeDepth := 99) +contextual [*]⟩

/-- `State.laneCtrlField` keeps soundness. -/
@[simp ↓] theorem State.laneCtrlField_sound {fz : Fuses} (s : State) (m : Master) (n : Nat) (lo : Nat) (w : Nat) (v : Nat) (hs : s.sound fz = true) :
    ((State.laneCtrlField s m n lo w v)).sound fz = true := by
  simp (maxDischargeDepth := 99) +contextual [State.laneCtrlField, *]

/-- `execTxModeRequest` keeps soundness. -/
theorem execTxModeRequest_sound {fz : Fuses} (m : Master) (n : Fin 256) (mode : Fin 4) (s : State) (hs : s.sound fz = true) :
    ∃ z, execTxModeRequest m n mode s = finish s z ∧ z.sound fz = true := ⟨_, rfl, by simp (maxDischargeDepth := 99) +contextual [*]⟩

/-- `execSleepWarmupDone` keeps soundness. -/
theorem execSleepWarmupDone_sound {fz : Fuses} (n : Fin 256) (s : State) (hs : s.sound fz = true) :
    ∃ z, execSleepWarmupDone n s = finish s z ∧ z.sound fz = true := ⟨_, rfl, by simp (maxDischargeDepth := 99) +contextual [*]⟩

/-- `execGalopReceived` keeps soundness. -/
theorem execGalopReceived_sound {fz : Fuses} (n : Fin 256) (s : State) (hs : s.sound fz = true) :
    ∃ z, execGalopReceived n s = finish s z ∧ z.sound fz = true := ⟨_, rfl, by simp (maxDischargeDepth := 99) +contextual [*]⟩

/-- `execGalopWaitTimeout` keeps soundness. -/
theorem execGalopWaitTimeout_sound {fz : Fuses} (n : Fin 256) (s : State) (hs : s.sound fz = true) :
    ∃ z, execGalopWaitTimeout n s = finish s z ∧ z.sound fz = true := ⟨_, rfl, by simp (maxDischargeDepth := 99) +contextual [*]⟩

/-- `execRxSleepWrite` keeps soundness. -/
theorem execRxSleepWrite_sound {fz : Fuses} (m : Master) (n : Fin 256) (on : Bool) (s : State) (hs : s.sound fz = true) :
    ∃ z, execRxSleepWrite m n on s = finish s z ∧ z.sound fz = true := ⟨_, rfl, by simp (maxDischargeDepth := 99) +contextual [*]⟩

/-- `execRxWakeDone` keeps soundness. -/
theorem execRxWakeDone_sound {fz : Fuses} (n : Fin 256) (s : State) (hs : s.sound fz = true) :
    ∃ z, execRxWakeDone n s = finish s z ∧ z.sound fz = true := ⟨_, rfl, by simp (maxDischargeDepth := 99) +contextual [*]⟩

/-- `execEyeMeasure` keeps soundness. -/
theorem execEyeMeasure_sound {fz : Fuses} (m : Master) (n : Fin 256) (eye : Fin 4) (phase : Fin 64) (volt : Byte) (dwell : Fin 16) (s : State) (hs : s.sound fz = true) :
    ∃ z, execEyeMeasure m n eye phase volt dwell s = finish s z ∧ z.sound fz = true := ⟨_, rfl, by simp (maxDischargeDepth := 99) +contextual [*]⟩

/-- `execEyeAbandon` keeps soundness. -/
theorem execEyeAbandon_sound {fz : Fuses} (m : Master) (n : Fin 256) (s : State) (hs : s.sound fz = true) :
    ∃ z, execEyeAbandon m n s = finish s z ∧ z.sound fz = true := ⟨_, rfl, by simp (maxDischargeDepth := 99) +contextual [*]⟩

/-- `execEyeDone` keeps soundness. -/
theorem execEyeDone_sound {fz : Fuses} (n : Fin 256) (errors : Nat) (s : State) (hs : s.sound fz = true) :
    ∃ z, execEyeDone n errors s = finish s z ∧ z.sound fz = true := ⟨_, rfl, by simp (maxDischargeDepth := 99) +contextual [*]⟩

/-- `execLoopbackWrite` keeps soundness. -/
theorem execLoopbackWrite_sound {fz : Fuses} (m : Master) (n : Fin 256) (be : Fin 16) (data : Word) (s : State) (hs : s.sound fz = true) :
    ∃ z, execLoopbackWrite m n be data s = finish s z ∧ z.sound fz = true := ⟨_, rfl, by simp (maxDischargeDepth := 99) +contextual [*]⟩

/-- `execFlexoFrameReceived` keeps soundness. -/
theorem execFlexoFrameReceived_sound {fz : Fuses} (n : Fin 256) (place : Nat) (am : Bool) (otuc : Option (List (Bool × Byte))) (s : State) (hs : s.sound fz = true) :
    ∃ z, execFlexoFrameReceived n place am otuc s = finish s z ∧ z.sound fz = true := ⟨_, rfl, by simp (maxDischargeDepth := 99) +contextual [*]⟩

/-- `execRsCodewordDecode` keeps soundness. -/
theorem execRsCodewordDecode_sound {fz : Fuses} (n : Fin 256) (fixed : Option Nat) (s : State) (hs : s.sound fz = true) :
    ∃ z, execRsCodewordDecode n fixed s = finish s z ∧ z.sound fz = true := ⟨_, rfl, by simp (maxDischargeDepth := 99) +contextual [*]⟩

/-- `execSlotLaneFrameTransmit` keeps soundness. -/
theorem execSlotLaneFrameTransmit_sound {fz : Fuses} (n : Fin 256) (s : State) (hs : s.sound fz = true) :
    ∃ z, execSlotLaneFrameTransmit n s = finish s z ∧ z.sound fz = true := ⟨_, rfl, by simp (maxDischargeDepth := 99) +contextual [*]⟩

/-- `execSlotLaneFrameReceived` keeps soundness. -/
theorem execSlotLaneFrameReceived_sound {fz : Fuses} (n : Fin 256) (h : Option (Fin 4)) (cycle : Fin 1153) (line : List (Fin 4)) (fixes : List (Nat × Fin 1024)) (s : State) (hs : s.sound fz = true) :
    ∃ z, execSlotLaneFrameReceived n h cycle line fixes s = finish s z ∧ z.sound fz = true := ⟨_, rfl, by simp (maxDischargeDepth := 99) +contextual [*]⟩

/-- `execSlotLaneCandidate` keeps soundness. -/
theorem execSlotLaneCandidate_sound {fz : Fuses} (n : Fin 256) (place : Nat) (frame : SlotFrame) (s : State) (hs : s.sound fz = true) :
    ∃ z, execSlotLaneCandidate n place frame s = finish s z ∧ z.sound fz = true := ⟨_, rfl, by simp (maxDischargeDepth := 99) +contextual [*]⟩

/-- `execLaneCtrlWrite` keeps soundness. -/
theorem execLaneCtrlWrite_sound {fz : Fuses} (m : Master) (n : Fin 256) (be : Fin 16) (data : Word) (s : State) (hs : s.sound fz = true) :
    ∃ z, execLaneCtrlWrite m n be data s = finish s z ∧ z.sound fz = true := ⟨_, rfl, by simp (maxDischargeDepth := 99) +contextual [*]⟩

/-! ## Machine/Forerunner.lean -/

/-- `execForerunnerFrameReceived` keeps soundness. -/
theorem execForerunnerFrameReceived_sound {fz : Fuses} (n : Fin 256) (h : Option (Fin 4)) (line : List SlotWord) (s : State) (hs : s.sound fz = true) :
    ∃ z, execForerunnerFrameReceived n h line s = finish s z ∧ z.sound fz = true := ⟨_, rfl, by simp (maxDischargeDepth := 99) +contextual [*]⟩

/-- `execForerunnerCandidate` keeps soundness. -/
theorem execForerunnerCandidate_sound {fz : Fuses} (n : Fin 256) (place : Fin 1555200) (line : List SlotWord) (s : State) (hs : s.sound fz = true) :
    ∃ z, execForerunnerCandidate n place line s = finish s z ∧ z.sound fz = true := ⟨_, rfl, by simp (maxDischargeDepth := 99) +contextual [*]⟩

/-- `execForerunnerBlockComplete` keeps soundness. -/
theorem execForerunnerBlockComplete_sound {fz : Fuses} (n : Fin 256) (k : Fin 8) (_empty : Unit) (_more : Unit) (s : State) (hs : s.sound fz = true) :
    ∃ z, execForerunnerBlockComplete n k _empty _more s = finish s z ∧ z.sound fz = true := ⟨_, rfl, by simp (maxDischargeDepth := 99) +contextual [*]⟩

/-- `execForerunnerFrameStart` keeps soundness. -/
theorem execForerunnerFrameStart_sound {fz : Fuses} (s : State) (cycle : Fin 1153 := 0) (hs : s.sound fz = true) :
    ∃ z, execForerunnerFrameStart s cycle = finish s z ∧ z.sound fz = true := ⟨_, rfl, by simp (maxDischargeDepth := 99) +contextual [*]⟩

/-- `execFramePulseEdge` keeps soundness. -/
theorem execFramePulseEdge_sound {fz : Fuses} (cycle : Fin 1153) (long : Bool) (s : State) (hs : s.sound fz = true) :
    ∃ z, execFramePulseEdge cycle long s = finish s z ∧ z.sound fz = true := ⟨_, rfl, by simp (maxDischargeDepth := 99) +contextual [*]⟩

/-- `execFramePulseLoss` keeps soundness. -/
theorem execFramePulseLoss_sound {fz : Fuses} (s : State) (hs : s.sound fz = true) :
    ∃ z, execFramePulseLoss s = finish s z ∧ z.sound fz = true := ⟨_, rfl, by simp (maxDischargeDepth := 99) +contextual [*]⟩

/-- `execSquelchHoldExpiry` keeps soundness. -/
theorem execSquelchHoldExpiry_sound {fz : Fuses} (s : State) (hs : s.sound fz = true) :
    ∃ z, execSquelchHoldExpiry s = finish s z ∧ z.sound fz = true := ⟨_, rfl, by simp (maxDischargeDepth := 99) +contextual [*]⟩

/-! ## Machine/Timing.lean -/

/-- `State.whenBooted` keeps soundness. -/
@[simp ↓] theorem State.whenBooted_sound {fz : Fuses} (s : State) (f : State → State) (hs : s.sound fz = true) (hf : ∀ s, s.sound fz = true → (f s).sound fz = true) :
    ((State.whenBooted s f)).sound fz = true := by
  simp (maxDischargeDepth := 99) +contextual [State.whenBooted, *]

/-- `execReferenceSelection` keeps soundness. -/
theorem execReferenceSelection_sound {fz : Fuses} (off : Int) (s : State) (hs : s.sound fz = true) :
    ∃ z, execReferenceSelection off s = finish s z ∧ z.sound fz = true := ⟨_, rfl, by simp (maxDischargeDepth := 99) +contextual [*]⟩

/-- `execReferenceFailure` keeps soundness. -/
theorem execReferenceFailure_sound {fz : Fuses} (r : Fin 9) (gross : Bool) (s : State) (hs : s.sound fz = true) :
    ∃ z, execReferenceFailure r gross s = finish s z ∧ z.sound fz = true := ⟨_, rfl, by simp (maxDischargeDepth := 99) +contextual [*]⟩

/-- `execReferenceSample` keeps soundness. -/
theorem execReferenceSample_sound {fz : Fuses} (r : Fin 9) (off : Int) (s : State) (hs : s.sound fz = true) :
    ∃ z, execReferenceSample r off s = finish s z ∧ z.sound fz = true := ⟨_, rfl, by simp (maxDischargeDepth := 99) +contextual [*]⟩

/-- `execReferenceWtrExpiry` keeps soundness. -/
theorem execReferenceWtrExpiry_sound {fz : Fuses} (r : Fin 9) (s : State) (hs : s.sound fz = true) :
    ∃ z, execReferenceWtrExpiry r s = finish s z ∧ z.sound fz = true := ⟨_, rfl, by simp (maxDischargeDepth := 99) +contextual [*]⟩

/-- `execAcquisitionLocked` keeps soundness. -/
theorem execAcquisitionLocked_sound {fz : Fuses} (s : State) (hs : s.sound fz = true) :
    ∃ z, execAcquisitionLocked s = finish s z ∧ z.sound fz = true := ⟨_, rfl, by simp (maxDischargeDepth := 99) +contextual [*]⟩

/-- `execAcquisitionTimeout` keeps soundness. -/
theorem execAcquisitionTimeout_sound {fz : Fuses} (s : State) (hs : s.sound fz = true) :
    ∃ z, execAcquisitionTimeout s = finish s z ∧ z.sound fz = true := ⟨_, rfl, by simp (maxDischargeDepth := 99) +contextual [*]⟩

/-- `execHistorySample` keeps soundness. -/
theorem execHistorySample_sound {fz : Fuses} (off : Int) (s : State) (hs : s.sound fz = true) :
    ∃ z, execHistorySample off s = finish s z ∧ z.sound fz = true := ⟨_, rfl, by simp (maxDischargeDepth := 99) +contextual [*]⟩

/-- `execHoldLimitExpiry` keeps soundness. -/
theorem execHoldLimitExpiry_sound {fz : Fuses} (s : State) (hs : s.sound fz = true) :
    ∃ z, execHoldLimitExpiry s = finish s z ∧ z.sound fz = true := ⟨_, rfl, by simp (maxDischargeDepth := 99) +contextual [*]⟩

/-- `execBoleroComplete` keeps soundness. -/
theorem execBoleroComplete_sound {fz : Fuses} (s : State) (hs : s.sound fz = true) :
    ∃ z, execBoleroComplete s = finish s z ∧ z.sound fz = true := ⟨_, rfl, by simp (maxDischargeDepth := 99) +contextual [*]⟩

/-- `execReferenceFailureEnd` keeps soundness. -/
theorem execReferenceFailureEnd_sound {fz : Fuses} (r : Fin 9) (s : State) (hs : s.sound fz = true) :
    ∃ z, execReferenceFailureEnd r s = finish s z ∧ z.sound fz = true := ⟨_, rfl, by simp (maxDischargeDepth := 99) +contextual [*]⟩

/-! ## Machine/Twin.lean -/

/-- `State.whenPaired` keeps soundness. -/
@[simp ↓] theorem State.whenPaired_sound {fz : Fuses} (s : State) (f : State → State) (hs : s.sound fz = true) (hf : ∀ s, s.sound fz = true → (f s).sound fz = true) :
    ((State.whenPaired s f)).sound fz = true := by
  simp (maxDischargeDepth := 99) +contextual [State.whenPaired, *]

/-- `State.linkStep` keeps soundness. -/
@[simp ↓] theorem State.linkStep_sound {fz : Fuses} (s : State) (a : Nat) (b : Nat) (hs : s.sound fz = true) :
    ((State.linkStep s a b)).sound fz = true := by
  simp (maxDischargeDepth := 99) +contextual [State.linkStep, *]

/-- `State.retryEnds` keeps soundness. -/
@[simp ↓] theorem State.retryEnds_sound {fz : Fuses} (s : State) (hs : s.sound fz = true) :
    ((State.retryEnds s)).sound fz = true := by
  simp (maxDischargeDepth := 99) +contextual [State.retryEnds, *]

/-- `execEmzalRetryExpiry` keeps soundness. -/
theorem execEmzalRetryExpiry_sound {fz : Fuses} (s : State) (hs : s.sound fz = true) :
    ∃ z, execEmzalRetryExpiry s = finish s z ∧ z.sound fz = true := ⟨_, rfl, by simp (maxDischargeDepth := 99) +contextual [*]⟩

/-- `State.callHeard` keeps soundness. -/
@[simp ↓] theorem State.callHeard_sound {fz : Fuses} (s : State) (side : Bool) (hs : s.sound fz = true) :
    ((State.callHeard s side)).sound fz = true := by
  simp (maxDischargeDepth := 99) +contextual [State.callHeard, *]

/-- `execEmzalCallHeard` keeps soundness. -/
theorem execEmzalCallHeard_sound {fz : Fuses} (side : Bool) (s : State) (hs : s.sound fz = true) :
    ∃ z, execEmzalCallHeard side s = finish s z ∧ z.sound fz = true := ⟨_, rfl, by simp (maxDischargeDepth := 99) +contextual [*]⟩

/-- `State.listenPasses` keeps soundness. -/
@[simp ↓] theorem State.listenPasses_sound {fz : Fuses} (s : State) (hs : s.sound fz = true) :
    ((State.listenPasses s)).sound fz = true := by
  simp (maxDischargeDepth := 99) +contextual [State.listenPasses, *]

/-- `execEmzalListenTimeout` keeps soundness. -/
theorem execEmzalListenTimeout_sound {fz : Fuses} (s : State) (hs : s.sound fz = true) :
    ∃ z, execEmzalListenTimeout s = finish s z ∧ z.sound fz = true := ⟨_, rfl, by simp (maxDischargeDepth := 99) +contextual [*]⟩

/-- `execEmzalSoloEnd` keeps soundness. -/
theorem execEmzalSoloEnd_sound {fz : Fuses} (s : State) (hs : s.sound fz = true) :
    ∃ z, execEmzalSoloEnd s = finish s z ∧ z.sound fz = true := ⟨_, rfl, by simp (maxDischargeDepth := 99) +contextual [*]⟩

/-- `execEmzalSoloBEnd` keeps soundness. -/
theorem execEmzalSoloBEnd_sound {fz : Fuses} (s : State) (hs : s.sound fz = true) :
    ∃ z, execEmzalSoloBEnd s = finish s z ∧ z.sound fz = true := ⟨_, rfl, by simp (maxDischargeDepth := 99) +contextual [*]⟩

/-- `execEmzalAlignmentCodeword` keeps soundness. -/
theorem execEmzalAlignmentCodeword_sound {fz : Fuses} (k : Fin 4) (header : Fin 1048576) (cell : List Nat) (arrival : Nat) (erle : Fin 256) (corr : Nat) (uncorr : Nat) (s : State) (hs : s.sound fz = true) :
    ∃ z, execEmzalAlignmentCodeword k header cell arrival erle corr uncorr s = finish s z ∧ z.sound fz = true := ⟨_, rfl, by simp (maxDischargeDepth := 99) +contextual [*]⟩

/-- `State.linkComesUp` keeps soundness. -/
@[simp ↓] theorem State.linkComesUp_sound {fz : Fuses} (s : State) (hs : s.sound fz = true) :
    ((State.linkComesUp s)).sound fz = true := by
  simp (maxDischargeDepth := 99) +contextual [State.linkComesUp, *]

/-- `execEmzalLinkUp` keeps soundness. -/
theorem execEmzalLinkUp_sound {fz : Fuses} (s : State) (hs : s.sound fz = true) :
    ∃ z, execEmzalLinkUp s = finish s z ∧ z.sound fz = true := ⟨_, rfl, by simp (maxDischargeDepth := 99) +contextual [*]⟩

/-- `execEmzalDuplexTimeout` keeps soundness. -/
theorem execEmzalDuplexTimeout_sound {fz : Fuses} (s : State) (hs : s.sound fz = true) :
    ∃ z, execEmzalDuplexTimeout s = finish s z ∧ z.sound fz = true := ⟨_, rfl, by simp (maxDischargeDepth := 99) +contextual [*]⟩

/-- `State.linkLost` keeps soundness. -/
@[simp ↓] theorem State.linkLost_sound {fz : Fuses} (s : State) (k : Nat) (sigLost : Bool) (hs : s.sound fz = true) :
    ((State.linkLost s k sigLost)).sound fz = true := by
  simp (maxDischargeDepth := 99) +contextual [State.linkLost, *]

/-- `execEmzalLinkLoss` keeps soundness. -/
theorem execEmzalLinkLoss_sound {fz : Fuses} (k : Fin 4) (sigLost : Bool) (s : State) (hs : s.sound fz = true) :
    ∃ z, execEmzalLinkLoss k sigLost s = finish s z ∧ z.sound fz = true := ⟨_, rfl, by simp (maxDischargeDepth := 99) +contextual [*]⟩

/-- `State.graceEnds` keeps soundness. -/
@[simp ↓] theorem State.graceEnds_sound {fz : Fuses} (s : State) (hs : s.sound fz = true) :
    ((State.graceEnds s)).sound fz = true := by
  simp (maxDischargeDepth := 99) +contextual [State.graceEnds, *]

/-- `execLinkGraceExpiry` keeps soundness. -/
theorem execLinkGraceExpiry_sound {fz : Fuses} (s : State) (hs : s.sound fz = true) :
    ∃ z, execLinkGraceExpiry s = finish s z ∧ z.sound fz = true := ⟨_, rfl, by simp (maxDischargeDepth := 99) +contextual [*]⟩

/-- `execPartnerReadingChange` keeps soundness. -/
theorem execPartnerReadingChange_sound {fz : Fuses} (a : PinClass) (b : PinClass) (held : Bool) (s : State) (hs : s.sound fz = true) :
    ∃ z, execPartnerReadingChange a b held s = finish s z ∧ z.sound fz = true := ⟨_, rfl, by simp (maxDischargeDepth := 99) +contextual [*]⟩

/-- `execClaimWatchExpiry` keeps soundness. -/
theorem execClaimWatchExpiry_sound {fz : Fuses} (s : State) (hs : s.sound fz = true) :
    ∃ z, execClaimWatchExpiry s = finish s z ∧ z.sound fz = true := ⟨_, rfl, by simp (maxDischargeDepth := 99) +contextual [*]⟩

/-- `execDiscoveryTimeout` keeps soundness. -/
theorem execDiscoveryTimeout_sound {fz : Fuses} (s : State) (hs : s.sound fz = true) :
    ∃ z, execDiscoveryTimeout s = finish s z ∧ z.sound fz = true := ⟨_, rfl, by simp (maxDischargeDepth := 99) +contextual [*]⟩

/-- `State.messageIn` keeps soundness. -/
@[simp ↓] theorem State.messageIn_sound {fz : Fuses} (s : State) (tRx : Int) (intact : Bool) (msg : WaltzMsg) (hs : s.sound fz = true) :
    ((State.messageIn s tRx intact msg)).sound fz = true := by
  simp (maxDischargeDepth := 99) +contextual [State.messageIn, *]

/-- `execWaltzMessageReceived` keeps soundness. -/
theorem execWaltzMessageReceived_sound {fz : Fuses} (tRx : Int) (check : WaltzCheck) (msg : WaltzMsg) (s : State) (hs : s.sound fz = true) :
    ∃ z, execWaltzMessageReceived tRx check msg s = finish s z ∧ z.sound fz = true := ⟨_, rfl, by simp (maxDischargeDepth := 99) +contextual [*]⟩

/-- `execTwinHandover` keeps soundness. -/
theorem execTwinHandover_sound {fz : Fuses} (m : Master) (s : State) (hs : s.sound fz = true) :
    ∃ z, execTwinHandover m s = finish s z ∧ z.sound fz = true := ⟨_, rfl, by simp (maxDischargeDepth := 99) +contextual [*]⟩

/-- `execTwinTakeover` keeps soundness. -/
theorem execTwinTakeover_sound {fz : Fuses} (m : Master) (s : State) (hs : s.sound fz = true) :
    ∃ z, execTwinTakeover m s = finish s z ∧ z.sound fz = true := ⟨_, rfl, by simp (maxDischargeDepth := 99) +contextual [*]⟩

/-- `execTwinResync` keeps soundness. -/
theorem execTwinResync_sound {fz : Fuses} (m : Master) (s : State) (hs : s.sound fz = true) :
    ∃ z, execTwinResync m s = finish s z ∧ z.sound fz = true := ⟨_, rfl, by simp (maxDischargeDepth := 99) +contextual [*]⟩

/-- `execTwinClear` keeps soundness. -/
theorem execTwinClear_sound {fz : Fuses} (m : Master) (s : State) (hs : s.sound fz = true) :
    ∃ z, execTwinClear m s = finish s z ∧ z.sound fz = true := ⟨_, rfl, by simp (maxDischargeDepth := 99) +contextual [*]⟩

/-- `State.handoverFails` keeps soundness. -/
@[simp ↓] theorem State.handoverFails_sound {fz : Fuses} (s : State) (hs : s.sound fz = true) :
    ((State.handoverFails s)).sound fz = true := by
  simp (maxDischargeDepth := 99) +contextual [State.handoverFails, *]

/-- `execHandoverFailTimeout` keeps soundness. -/
theorem execHandoverFailTimeout_sound {fz : Fuses} (s : State) (hs : s.sound fz = true) :
    ∃ z, execHandoverFailTimeout s = finish s z ∧ z.sound fz = true := ⟨_, rfl, by simp (maxDischargeDepth := 99) +contextual [*]⟩

/-- `execResyncRetryExpiry` keeps soundness. -/
theorem execResyncRetryExpiry_sound {fz : Fuses} (s : State) (hs : s.sound fz = true) :
    ∃ z, execResyncRetryExpiry s = finish s z ∧ z.sound fz = true := ⟨_, rfl, by simp (maxDischargeDepth := 99) +contextual [*]⟩

/-- `execCopyEnWrite` keeps soundness. -/
theorem execCopyEnWrite_sound {fz : Fuses} (m : Master) (en : Bool) (s : State) (hs : s.sound fz = true) :
    ∃ z, execCopyEnWrite m en s = finish s z ∧ z.sound fz = true := ⟨_, rfl, by simp (maxDischargeDepth := 99) +contextual [*]⟩

/-! ## Machine/Label.lean -/

/-- `execLabelSendUser` keeps soundness. -/
theorem execLabelSendUser_sound {fz : Fuses} (m : Master) (c : Fin 2) (len : Byte) (s : State) (hs : s.sound fz = true) :
    ∃ z, execLabelSendUser m c len s = finish s z ∧ z.sound fz = true := ⟨_, rfl, by simp (maxDischargeDepth := 99) +contextual [*]⟩

/-- `execLabelGasp` keeps soundness. -/
theorem execLabelGasp_sound {fz : Fuses} (m : Master) (c : Fin 2) (code : Byte) (s : State) (hs : s.sound fz = true) :
    ∃ z, execLabelGasp m c code s = finish s z ∧ z.sound fz = true := ⟨_, rfl, by simp (maxDischargeDepth := 99) +contextual [*]⟩

/-- `execLabelAbort` keeps soundness. -/
theorem execLabelAbort_sound {fz : Fuses} (m : Master) (c : Fin 2) (s : State) (hs : s.sound fz = true) :
    ∃ z, execLabelAbort m c s = finish s z ∧ z.sound fz = true := ⟨_, rfl, by simp (maxDischargeDepth := 99) +contextual [*]⟩

/-- `execIdentPeriodExpiry` keeps soundness. -/
theorem execIdentPeriodExpiry_sound {fz : Fuses} (c : Fin 2) (s : State) (hs : s.sound fz = true) :
    ∃ z, execIdentPeriodExpiry c s = finish s z ∧ z.sound fz = true := ⟨_, rfl, by simp (maxDischargeDepth := 99) +contextual [*]⟩

/-- `execLabelPacketSent` keeps soundness. -/
theorem execLabelPacketSent_sound {fz : Fuses} (c : Fin 2) (s : State) (hs : s.sound fz = true) :
    ∃ z, execLabelPacketSent c s = finish s z ∧ z.sound fz = true := ⟨_, rfl, by simp (maxDischargeDepth := 99) +contextual [*]⟩

/-- `execLabelCandidate` keeps soundness. -/
theorem execLabelCandidate_sound {fz : Fuses} (x : Fin 4) (sf : Fin 6) (c : Fin 65536) (netid : Fin 128) (time : Nat) (s : State) (hs : s.sound fz = true) :
    ∃ z, execLabelCandidate x sf c netid time s = finish s z ∧ z.sound fz = true := ⟨_, rfl, by simp (maxDischargeDepth := 99) +contextual [*]⟩

/-- `execLabelHeaderDecoded` keeps soundness. -/
theorem execLabelHeaderDecoded_sound {fz : Fuses} (x : Fin 4) (header : Fin 16777216) (corrected : Bool) (s : State) (hs : s.sound fz = true) :
    ∃ z, execLabelHeaderDecoded x header corrected s = finish s z ∧ z.sound fz = true := ⟨_, rfl, by simp (maxDischargeDepth := 99) +contextual [*]⟩

/-- `execLabelSymbolBoundary` keeps soundness. -/
theorem execLabelSymbolBoundary_sound {fz : Fuses} (x : Fin 4) (s : State) (hs : s.sound fz = true) :
    ∃ z, execLabelSymbolBoundary x s = finish s z ∧ z.sound fz = true := ⟨_, rfl, by simp (maxDischargeDepth := 99) +contextual [*]⟩

/-- `execLabelPacketEnd` keeps soundness. -/
theorem execLabelPacketEnd_sound {fz : Fuses} (x : Fin 4) (now : Nat) (bytes : List Byte) (corrected : Bool) (rate : Int) (snr : Int) (depth : Fin 65536) (s : State) (hs : s.sound fz = true) :
    ∃ z, execLabelPacketEnd x now bytes corrected rate snr depth s = finish s z ∧ z.sound fz = true := ⟨_, rfl, by simp (maxDischargeDepth := 99) +contextual [*]⟩

/-- `execRxqPop` keeps soundness. -/
theorem execRxqPop_sound {fz : Fuses} (m : Master) (x : Fin 4) (s : State) (hs : s.sound fz = true) :
    ∃ z, execRxqPop m x s = finish s z ∧ z.sound fz = true := ⟨_, rfl, by simp (maxDischargeDepth := 99) +contextual [*]⟩

/-- `execRxqFlush` keeps soundness. -/
theorem execRxqFlush_sound {fz : Fuses} (m : Master) (x : Fin 4) (s : State) (hs : s.sound fz = true) :
    ∃ z, execRxqFlush m x s = finish s z ∧ z.sound fz = true := ⟨_, rfl, by simp (maxDischargeDepth := 99) +contextual [*]⟩

/-! ## Machine/HostFam.lean -/

/-- `execPcieLinkChange` keeps soundness. -/
theorem execPcieLinkChange_sound {fz : Fuses} (gen : Fin 8) (width : Fin 32) (s : State) (hs : s.sound fz = true) :
    ∃ z, execPcieLinkChange gen width s = finish s z ∧ z.sound fz = true := ⟨_, rfl, by simp (maxDischargeDepth := 99) +contextual [*]⟩

/-- `execFunctionLevelReset` keeps soundness. -/
theorem execFunctionLevelReset_sound {fz : Fuses} (pf1 : Bool) (s : State) (hs : s.sound fz = true) :
    ∃ z, execFunctionLevelReset pf1 s = finish s z ∧ z.sound fz = true := ⟨_, rfl, by simp (maxDischargeDepth := 99) +contextual [*]⟩

/-- `execIntRearm` keeps soundness. -/
theorem execIntRearm_sound {fz : Fuses} (m : Master) (vec : Fin 2048) (pf1 : Bool) (s : State) (hs : s.sound fz = true) :
    ∃ z, execIntRearm m vec pf1 s = finish s z ∧ z.sound fz = true := ⟨_, rfl, by simp (maxDischargeDepth := 99) +contextual [*]⟩

/-- `execMsixUnmask` keeps soundness. -/
theorem execMsixUnmask_sound {fz : Fuses} (pf1 : Bool) (vec : Option (Fin 2048)) (s : State) (hs : s.sound fz = true) :
    ∃ z, execMsixUnmask pf1 vec s = finish s z ∧ z.sound fz = true := ⟨_, rfl, by simp (maxDischargeDepth := 99) +contextual [*]⟩

/-- `execBusMasterChange` keeps soundness. -/
theorem execBusMasterChange_sound {fz : Fuses} (pf1 : Bool) (bme : Bool) (d3hot : Bool) (s : State) (hs : s.sound fz = true) :
    ∃ z, execBusMasterChange pf1 bme d3hot s = finish s z ∧ z.sound fz = true := ⟨_, rfl, by simp (maxDischargeDepth := 99) +contextual [*]⟩

/-- `execDmaTailWrite` keeps soundness. -/
theorem execDmaTailWrite_sound {fz : Fuses} (m : Master) (k : Fin 16) (tail : Fin 65536) (s : State) (hs : s.sound fz = true) :
    ∃ z, execDmaTailWrite m k tail s = finish s z ∧ z.sound fz = true := ⟨_, rfl, by simp (maxDischargeDepth := 99) +contextual [*]⟩

/-- `execDmaDescriptorStart` keeps soundness. -/
theorem execDmaDescriptorStart_sound {fz : Fuses} (k : Fin 16) (d : Descriptor) (s : State) (hs : s.sound fz = true) :
    ∃ z, execDmaDescriptorStart k d s = finish s z ∧ z.sound fz = true := ⟨_, rfl, by simp (maxDischargeDepth := 99) +contextual [*]⟩

/-- `execDmaDescriptorDone` keeps soundness. -/
theorem execDmaDescriptorDone_sound {fz : Fuses} (k : Fin 16) (hostData : List Byte) (how : DmaEnd) (s : State) (hs : s.sound fz = true) :
    ∃ z, execDmaDescriptorDone k hostData how s = finish s z ∧ z.sound fz = true := ⟨_, rfl, by simp (maxDischargeDepth := 99) +contextual [*]⟩

/-- `execDmaChannelDisable` keeps soundness. -/
theorem execDmaChannelDisable_sound {fz : Fuses} (m : Master) (k : Fin 16) (s : State) (hs : s.sound fz = true) :
    ∃ z, execDmaChannelDisable m k s = finish s z ∧ z.sound fz = true := ⟨_, rfl, by simp (maxDischargeDepth := 99) +contextual [*]⟩

/-- `execEventRingCoalesce` keeps soundness. -/
theorem execEventRingCoalesce_sound {fz : Fuses} (s : State) (hs : s.sound fz = true) :
    ∃ z, execEventRingCoalesce s = finish s z ∧ z.sound fz = true := ⟨_, rfl, by simp (maxDischargeDepth := 99) +contextual [*]⟩

/-! ## Machine/BusFam.lean -/

/-- `execBusRequest` keeps soundness. -/
theorem execBusRequest_sound {fz : Fuses} (r : BusReq) (busy : Bool) (beats : Option Nat) (s : State) (hs : s.sound fz = true) :
    ∃ z, execBusRequest r busy beats s = finish s z ∧ z.sound fz = true := ⟨_, rfl, by simp (maxDischargeDepth := 99) +contextual [*]⟩

/-- `execAgeLimitExpiry` keeps soundness. -/
theorem execAgeLimitExpiry_sound {fz : Fuses} (id : Nat) (s : State) (hs : s.sound fz = true) :
    ∃ z, execAgeLimitExpiry id s = finish s z ∧ z.sound fz = true := ⟨_, rfl, by simp (maxDischargeDepth := 99) +contextual [*]⟩

/-- `execMasterReset` keeps soundness. -/
theorem execMasterReset_sound {fz : Fuses} (m : Master) (s : State) (hs : s.sound fz = true) :
    ∃ z, execMasterReset m s = finish s z ∧ z.sound fz = true := ⟨_, rfl, by simp (maxDischargeDepth := 99) +contextual [*]⟩

/-- `execCounterOverflow` keeps soundness. -/
theorem execCounterOverflow_sound {fz : Fuses} (k : Fin 32) (s : State) (hs : s.sound fz = true) :
    ∃ z, execCounterOverflow k s = finish s z ∧ z.sound fz = true := ⟨_, rfl, by simp (maxDischargeDepth := 99) +contextual [*]⟩

/-- `execSampleRecordWrite` keeps soundness. -/
theorem execSampleRecordWrite_sound {fz : Fuses} (k : Fin 32) (payload : List Word) (s : State) (hs : s.sound fz = true) :
    ∃ z, execSampleRecordWrite k payload s = finish s z ∧ z.sound fz = true := ⟨_, rfl, by simp (maxDischargeDepth := 99) +contextual [*]⟩

/-- `execFreezeWrite` keeps soundness. -/
theorem execFreezeWrite_sound {fz : Fuses} (m : Master) (frozen : Bool) (halt : Bool) (s : State) (hs : s.sound fz = true) :
    ∃ z, execFreezeWrite m frozen halt s = finish s z ∧ z.sound fz = true := ⟨_, rfl, by simp (maxDischargeDepth := 99) +contextual [*]⟩

/-! ## Machine/Security.lean -/

/-- `execMboxClaim` keeps soundness. -/
theorem execMboxClaim_sound {fz : Fuses} (m : Master) (s : State) (hs : s.sound fz = true) :
    ∃ z, execMboxClaim m s = finish s z ∧ z.sound fz = true := ⟨_, rfl, by simp (maxDischargeDepth := 99) +contextual [*]⟩

/-- `execMboxRelease` keeps soundness. -/
theorem execMboxRelease_sound {fz : Fuses} (m : Master) (s : State) (hs : s.sound fz = true) :
    ∃ z, execMboxRelease m s = finish s z ∧ z.sound fz = true := ⟨_, rfl, by simp (maxDischargeDepth := 99) +contextual [*]⟩

/-- `execMboxIdleTimeout` keeps soundness. -/
theorem execMboxIdleTimeout_sound {fz : Fuses} (s : State) (hs : s.sound fz = true) :
    ∃ z, execMboxIdleTimeout s = finish s z ∧ z.sound fz = true := ⟨_, rfl, by simp (maxDischargeDepth := 99) +contextual [*]⟩

/-- `execAttest` keeps soundness. -/
theorem execAttest_sound {fz : Fuses} (m : Master) (len : Fin 65536) (s : State) (hs : s.sound fz = true) :
    ∃ z, execAttest m len s = finish s z ∧ z.sound fz = true := ⟨_, rfl, by simp (maxDischargeDepth := 99) +contextual [*]⟩

/-- `execKeyLoad` keeps soundness. -/
theorem execKeyLoad_sound {fz : Fuses} (m : Master) (len : Fin 65536) (s : State) (hs : s.sound fz = true) :
    ∃ z, execKeyLoad m len s = finish s z ∧ z.sound fz = true := ⟨_, rfl, by simp (maxDischargeDepth := 99) +contextual [*]⟩

/-- `execKeySwitch` keeps soundness. -/
theorem execKeySwitch_sound {fz : Fuses} (m : Master) (len : Fin 65536) (s : State) (hs : s.sound fz = true) :
    ∃ z, execKeySwitch m len s = finish s z ∧ z.sound fz = true := ⟨_, rfl, by simp (maxDischargeDepth := 99) +contextual [*]⟩

/-- `execKeySwitchEffect` keeps soundness. -/
theorem execKeySwitchEffect_sound {fz : Fuses} (sa : Fin 1024) (s : State) (hs : s.sound fz = true) :
    ∃ z, execKeySwitchEffect sa s = finish s z ∧ z.sound fz = true := ⟨_, rfl, by simp (maxDischargeDepth := 99) +contextual [*]⟩

/-- `execKeyErase` keeps soundness. -/
theorem execKeyErase_sound {fz : Fuses} (m : Master) (len : Fin 65536) (s : State) (hs : s.sound fz = true) :
    ∃ z, execKeyErase m len s = finish s z ∧ z.sound fz = true := ⟨_, rfl, by simp (maxDischargeDepth := 99) +contextual [*]⟩

/-- `execSaSet` keeps soundness. -/
theorem execSaSet_sound {fz : Fuses} (m : Master) (len : Fin 65536) (s : State) (hs : s.sound fz = true) :
    ∃ z, execSaSet m len s = finish s z ∧ z.sound fz = true := ⟨_, rfl, by simp (maxDischargeDepth := 99) +contextual [*]⟩

/-- `execSaRead` keeps soundness. -/
theorem execSaRead_sound {fz : Fuses} (m : Master) (len : Fin 65536) (s : State) (hs : s.sound fz = true) :
    ∃ z, execSaRead m len s = finish s z ∧ z.sound fz = true := ⟨_, rfl, by simp (maxDischargeDepth := 99) +contextual [*]⟩

/-- `execUpdate` keeps soundness. -/
theorem execUpdate_sound {fz : Fuses} (m : Master) (len : Fin 65536) (flashOk : Bool) (s : State) (hs : s.sound fz = true) :
    ∃ z, execUpdate m len flashOk s = finish s z ∧ z.sound fz = true := ⟨_, rfl, by simp (maxDischargeDepth := 99) +contextual [*]⟩

/-- `execSvnCommit` keeps soundness. -/
theorem execSvnCommit_sound {fz : Fuses} (m : Master) (len : Fin 65536) (s : State) (hs : s.sound fz = true) :
    ∃ z, execSvnCommit m len s = finish s z ∧ z.sound fz = true := ⟨_, rfl, by simp (maxDischargeDepth := 99) +contextual [*]⟩

/-- `execLifecycle` keeps soundness. -/
theorem execLifecycle_sound {fz : Fuses} (m : Master) (len : Fin 65536) (s : State) (hs : s.sound fz = true) :
    ∃ z, execLifecycle m len s = finish s z ∧ z.sound fz = true := ⟨_, rfl, by simp (maxDischargeDepth := 99) +contextual [*]⟩

/-- `execMboxCommandDone` keeps soundness. -/
theorem execMboxCommandDone_sound {fz : Fuses} (s : State) (hs : s.sound fz = true) :
    ∃ z, execMboxCommandDone s = finish s z ∧ z.sound fz = true := ⟨_, rfl, by simp (maxDischargeDepth := 99) +contextual [*]⟩

/-- `execCoreRunWrite` keeps soundness. -/
theorem execCoreRunWrite_sound {fz : Fuses} (m : Master) (run : Fin 256) (s : State) (hs : s.sound fz = true) :
    ∃ z, execCoreRunWrite m run s = finish s z ∧ z.sound fz = true := ⟨_, rfl, by simp (maxDischargeDepth := 99) +contextual [*]⟩

/-- `State.saCount` keeps soundness. -/
@[simp ↓] theorem State.saCount_sound {fz : Fuses} (s : State) (a : Nat) (d : Nat) (hs : s.sound fz = true) :
    ((State.saCount s a d)).sound fz = true := by
  simp (maxDischargeDepth := 99) +contextual [State.saCount, *]

/-- `State.sealMultiframe` keeps soundness. -/
@[simp ↓] theorem State.sealMultiframe_sound {fz : Fuses} (s : State) (a : Nat) (sl : List (List (List Nat))) (hs : s.sound fz = true) :
    ((State.sealMultiframe s a sl)).sound fz = true := by
  unfold State.sealMultiframe
  repeat' first
    | (extract_lets +onlyGivenNames x
       have hx : State.sound fz x = true := by
         simp only [x]
         repeat' split
         all_goals simp (maxDischargeDepth := 99) +contextual [*]
       clear_value x)
    | (extract_lets +onlyGivenNames x
       have hx : State.sound fz x.1 = true := by
         simp only [x]
         repeat' split
         all_goals simp (maxDischargeDepth := 99) +contextual [*]
       clear_value x)
    | (extract_lets +onlyGivenNames x
       have hx : ∀ s a, State.sound fz s = true → State.sound fz (x s a) = true := by
         intro s a hs
         simp only [x]
         simp (maxDischargeDepth := 99) +contextual [*]
       clear_value x)
    | (extract_lets +onlyGivenNames x; clear_value x)
    | split
  all_goals simp (maxDischargeDepth := 99) +contextual [*]

/-- `State.judge` keeps soundness. -/
@[simp ↓] theorem State.judge_sound {fz : Fuses} (s : State) (a : Nat) (bad : Bool) (hs : s.sound fz = true) :
    ((State.judge s a bad)).sound fz = true := by
  simp (maxDischargeDepth := 99) +contextual [State.judge, *]

/-- `State.checkTags` keeps soundness. -/
@[simp ↓] theorem State.checkTags_sound {fz : Fuses} (s : State) (a : Nat) (sohs : List (List Nat)) (hs : s.sound fz = true) :
    ((State.checkTags s a sohs)).sound fz = true := by
  unfold State.checkTags
  repeat' first
    | (extract_lets +onlyGivenNames x
       have hx : State.sound fz x = true := by
         simp only [x]
         repeat' split
         all_goals simp (maxDischargeDepth := 99) +contextual [*]
       clear_value x)
    | (extract_lets +onlyGivenNames x
       have hx : State.sound fz x.1 = true := by
         simp only [x]
         repeat' split
         all_goals simp (maxDischargeDepth := 99) +contextual [*]
       clear_value x)
    | (extract_lets +onlyGivenNames x
       have hx : ∀ s a, State.sound fz s = true → State.sound fz (x s a) = true := by
         intro s a hs
         simp only [x]
         simp (maxDischargeDepth := 99) +contextual [*]
       clear_value x)
    | (extract_lets +onlyGivenNames x; clear_value x)
    | split
  all_goals simp (maxDischargeDepth := 99) +contextual [*]

/-- `State.openMultiframe` keeps soundness. -/
@[simp ↓] theorem State.openMultiframe_sound {fz : Fuses} (s : State) (a : Nat) (sl : List (List (List Nat))) (confirmed : Bool) (hs : s.sound fz = true) :
    ((State.openMultiframe s a sl confirmed)).sound fz = true := by
  unfold State.openMultiframe
  repeat' first
    | (extract_lets +onlyGivenNames x
       have hx : State.sound fz x = true := by
         simp only [x]
         repeat' split
         all_goals simp (maxDischargeDepth := 99) +contextual [*]
       clear_value x)
    | (extract_lets +onlyGivenNames x
       have hx : State.sound fz x.1 = true := by
         simp only [x]
         repeat' split
         all_goals simp (maxDischargeDepth := 99) +contextual [*]
       clear_value x)
    | (extract_lets +onlyGivenNames x
       have hx : ∀ s a, State.sound fz s = true → State.sound fz (x s a) = true := by
         intro s a hs
         simp only [x]
         simp (maxDischargeDepth := 99) +contextual [*]
       clear_value x)
    | (extract_lets +onlyGivenNames x; clear_value x)
    | split
  all_goals simp (maxDischargeDepth := 99) +contextual [*]

/-- `execSecuredMultiframe` keeps soundness. -/
theorem execSecuredMultiframe_sound {fz : Fuses} (sa : Fin 1024) (slices : List SecSlice) (confirmed : Bool) (s : State) (hs : s.sound fz = true) :
    ∃ z, execSecuredMultiframe sa slices confirmed s = finish s z ∧ z.sound fz = true := ⟨_, rfl, by simp (maxDischargeDepth := 99) +contextual [*]⟩

/-! ## Machine/Service.lean -/

/-- `execConsoleBreak` keeps soundness. -/
theorem execConsoleBreak_sound {fz : Fuses} (s : State) (hs : s.sound fz = true) :
    ∃ z, execConsoleBreak s = finish s z ∧ z.sound fz = true := ⟨_, rfl, by simp (maxDischargeDepth := 99) +contextual [*]⟩

/-- `execFladarStatus` keeps soundness. -/
theorem execFladarStatus_sound {fz : Fuses} (s : State) (hs : s.sound fz = true) :
    ∃ z, execFladarStatus s = finish s z ∧ z.sound fz = true := ⟨_, rfl, by simp (maxDischargeDepth := 99) +contextual [*]⟩

/-- `execFladarRails` keeps soundness. -/
theorem execFladarRails_sound {fz : Fuses} (s : State) (hs : s.sound fz = true) :
    ∃ z, execFladarRails s = finish s z ∧ z.sound fz = true := ⟨_, rfl, by simp (maxDischargeDepth := 99) +contextual [*]⟩

/-- `execFladarTemp` keeps soundness. -/
theorem execFladarTemp_sound {fz : Fuses} (s : State) (hs : s.sound fz = true) :
    ∃ z, execFladarTemp s = finish s z ∧ z.sound fz = true := ⟨_, rfl, by simp (maxDischargeDepth := 99) +contextual [*]⟩

/-- `execFladarRd` keeps soundness. -/
theorem execFladarRd_sound {fz : Fuses} (page : Fin 4096) (off : Fin 16384) (n : Fin 65) (s : State) (hs : s.sound fz = true) :
    ∃ z, execFladarRd page off n s = finish s z ∧ z.sound fz = true := ⟨_, rfl, by simp (maxDischargeDepth := 99) +contextual [*]⟩

/-- `execFladarWr` keeps soundness. -/
theorem execFladarWr_sound {fz : Fuses} (page : Fin 4096) (off : Fin 16384) (data : Word) (s : State) (hs : s.sound fz = true) :
    ∃ z, execFladarWr page off data s = finish s z ∧ z.sound fz = true := ⟨_, rfl, by simp (maxDischargeDepth := 99) +contextual [*]⟩

/-- `execFladarMon` keeps soundness. -/
theorem execFladarMon_sound {fz : Fuses} (v : MonView) (s : State) (hs : s.sound fz = true) :
    ∃ z, execFladarMon v s = finish s z ∧ z.sound fz = true := ⟨_, rfl, by simp (maxDischargeDepth := 99) +contextual [*]⟩

/-- `execFladarEye` keeps soundness. -/
theorem execFladarEye_sound {fz : Fuses} (n : Fin 256) (eye : Fin 4) (s : State) (hs : s.sound fz = true) :
    ∃ z, execFladarEye n eye s = finish s z ∧ z.sound fz = true := ⟨_, rfl, by simp (maxDischargeDepth := 99) +contextual [*]⟩

/-- `execFladarJrnl` keeps soundness. -/
theorem execFladarJrnl_sound {fz : Fuses} (k : Fin 257) (s : State) (hs : s.sound fz = true) :
    ∃ z, execFladarJrnl k s = finish s z ∧ z.sound fz = true := ⟨_, rfl, by simp (maxDischargeDepth := 99) +contextual [*]⟩

/-- `execFladarMode` keeps soundness. -/
theorem execFladarMode_sound {fz : Fuses} (op : Fin 8) (s : State) (hs : s.sound fz = true) :
    ∃ z, execFladarMode op s = finish s z ∧ z.sound fz = true := ⟨_, rfl, by simp (maxDischargeDepth := 99) +contextual [*]⟩

/-- `execFladarMbox` keeps soundness. -/
theorem execFladarMbox_sound {fz : Fuses} (op : Fin 16) (data : List Byte) (s : State) (hs : s.sound fz = true) :
    ∃ z, execFladarMbox op data s = finish s z ∧ z.sound fz = true := ⟨_, rfl, by simp (maxDischargeDepth := 99) +contextual [*]⟩

/-- `execFladarReset` keeps soundness. -/
theorem execFladarReset_sound {fz : Fuses} (s : State) (hs : s.sound fz = true) :
    ∃ z, execFladarReset s = finish s z ∧ z.sound fz = true := ⟨_, rfl, by simp (maxDischargeDepth := 99) +contextual [*]⟩

/-- `execFladarClearFatal` keeps soundness. -/
theorem execFladarClearFatal_sound {fz : Fuses} (s : State) (hs : s.sound fz = true) :
    ∃ z, execFladarClearFatal s = finish s z ∧ z.sound fz = true := ⟨_, rfl, by simp (maxDischargeDepth := 99) +contextual [*]⟩

/-- `execFladarAck` keeps soundness. -/
theorem execFladarAck_sound {fz : Fuses} (s : State) (hs : s.sound fz = true) :
    ∃ z, execFladarAck s = finish s z ∧ z.sound fz = true := ⟨_, rfl, by simp (maxDischargeDepth := 99) +contextual [*]⟩

/-- `execFladarEcho` keeps soundness. -/
theorem execFladarEcho_sound {fz : Fuses} (on : Bool) (s : State) (hs : s.sound fz = true) :
    ∃ z, execFladarEcho on s = finish s z ∧ z.sound fz = true := ⟨_, rfl, by simp (maxDischargeDepth := 99) +contextual [*]⟩

/-- `execAttnClr` keeps soundness. -/
theorem execAttnClr_sound {fz : Fuses} (m : Master) (s : State) (hs : s.sound fz = true) :
    ∃ z, execAttnClr m s = finish s z ∧ z.sound fz = true := ⟨_, rfl, by simp (maxDischargeDepth := 99) +contextual [*]⟩

/-- `execTestRails` keeps soundness. -/
theorem execTestRails_sound {fz : Fuses} (m : Master) (s : State) (hs : s.sound fz = true) :
    ∃ z, execTestRails m s = finish s z ∧ z.sound fz = true := ⟨_, rfl, by simp (maxDischargeDepth := 99) +contextual [*]⟩

/-- `execTestEye` keeps soundness. -/
theorem execTestEye_sound {fz : Fuses} (m : Master) (n : Fin 256) (eye : Fin 4) (s : State) (hs : s.sound fz = true) :
    ∃ z, execTestEye m n eye s = finish s z ∧ z.sound fz = true := ⟨_, rfl, by simp (maxDischargeDepth := 99) +contextual [*]⟩

/-- `execTestCtxmem` keeps soundness. -/
theorem execTestCtxmem_sound {fz : Fuses} (m : Master) (s : State) (hs : s.sound fz = true) :
    ∃ z, execTestCtxmem m s = finish s z ∧ z.sound fz = true := ⟨_, rfl, by simp (maxDischargeDepth := 99) +contextual [*]⟩

/-- `execTestCore` keeps soundness. -/
theorem execTestCore_sound {fz : Fuses} (m : Master) (lane : Option (Fin 256)) (s : State) (hs : s.sound fz = true) :
    ∃ z, execTestCore m lane s = finish s z ∧ z.sound fz = true := ⟨_, rfl, by simp (maxDischargeDepth := 99) +contextual [*]⟩

/-- `execTestLane` keeps soundness. -/
theorem execTestLane_sound {fz : Fuses} (m : Master) (n : Fin 256) (s : State) (hs : s.sound fz = true) :
    ∃ z, execTestLane m n s = finish s z ∧ z.sound fz = true := ⟨_, rfl, by simp (maxDischargeDepth := 99) +contextual [*]⟩

/-- `execTestMem` keeps soundness. -/
theorem execTestMem_sound {fz : Fuses} (m : Master) (i : Fin 4) (full : Bool) (s : State) (hs : s.sound fz = true) :
    ∃ z, execTestMem m i full s = finish s z ∧ z.sound fz = true := ⟨_, rfl, by simp (maxDischargeDepth := 99) +contextual [*]⟩

/-- `execTestConv` keeps soundness. -/
theorem execTestConv_sound {fz : Fuses} (m : Master) (c : Fin 2) (s : State) (hs : s.sound fz = true) :
    ∃ z, execTestConv m c s = finish s z ∧ z.sound fz = true := ⟨_, rfl, by simp (maxDischargeDepth := 99) +contextual [*]⟩

/-- `execTestFgcal` keeps soundness. -/
theorem execTestFgcal_sound {fz : Fuses} (m : Master) (c : Fin 2) (s : State) (hs : s.sound fz = true) :
    ∃ z, execTestFgcal m c s = finish s z ∧ z.sound fz = true := ⟨_, rfl, by simp (maxDischargeDepth := 99) +contextual [*]⟩

/-- `execTestEz` keeps soundness. -/
theorem execTestEz_sound {fz : Fuses} (m : Master) (s : State) (hs : s.sound fz = true) :
    ∃ z, execTestEz m s = finish s z ∧ z.sound fz = true := ⟨_, rfl, by simp (maxDischargeDepth := 99) +contextual [*]⟩

/-- `execTestAbort` keeps soundness. -/
theorem execTestAbort_sound {fz : Fuses} (m : Master) (s : State) (hs : s.sound fz = true) :
    ∃ z, execTestAbort m s = finish s z ∧ z.sound fz = true := ⟨_, rfl, by simp (maxDischargeDepth := 99) +contextual [*]⟩

/-- `execTestEnd` keeps soundness. -/
theorem execTestEnd_sound {fz : Fuses} (r : TestResult) (s : State) (hs : s.sound fz = true) :
    ∃ z, execTestEnd r s = finish s z ∧ z.sound fz = true := ⟨_, rfl, by simp (maxDischargeDepth := 99) +contextual [*]⟩

/-- `execJournalRecordWrite` keeps soundness. -/
theorem execJournalRecordWrite_sound {fz : Fuses} (s : State) (hs : s.sound fz = true) :
    ∃ z, execJournalRecordWrite s = finish s z ∧ z.sound fz = true := ⟨_, rfl, by simp (maxDischargeDepth := 99) +contextual [*]⟩

/-- `execJrnlWriteUser` keeps soundness. -/
theorem execJrnlWriteUser_sound {fz : Fuses} (m : Master) (s : State) (hs : s.sound fz = true) :
    ∃ z, execJrnlWriteUser m s = finish s z ∧ z.sound fz = true := ⟨_, rfl, by simp (maxDischargeDepth := 99) +contextual [*]⟩

/-! ## Machine/DbgOps.lean -/

/-- `State.dbgSay` keeps soundness. -/
@[simp ↓] theorem State.dbgSay_sound {fz : Fuses} (s : State) (tag : Nat) (c : DbgCode) (hs : s.sound fz = true) :
    ((State.dbgSay s tag c)).sound fz = true := by
  simp (maxDischargeDepth := 99) +contextual [State.dbgSay, *]

/-- `State.dbgData` keeps soundness. -/
@[simp ↓] theorem State.dbgData_sound {fz : Fuses} (s : State) (tag : Nat) (v : Nat) (hs : s.sound fz = true) :
    ((State.dbgData s tag v)).sound fz = true := by
  simp (maxDischargeDepth := 99) +contextual [State.dbgData, *]

/-- `State.dbgErr` keeps soundness. -/
@[simp ↓] theorem State.dbgErr_sound {fz : Fuses} (s : State) (tag : Nat) (code : Nat) (hs : s.sound fz = true) :
    ((State.dbgErr s tag code)).sound fz = true := by
  simp (maxDischargeDepth := 99) +contextual [State.dbgErr, *]

/-- `State.setCpu` keeps soundness. -/
@[simp ↓] theorem State.setCpu_sound {fz : Fuses} (s : State) (k : Nat) (c : CoreState) (hs : s.sound fz = true) :
    ((State.setCpu s k c)).sound fz = true := by
  simp (maxDischargeDepth := 99) +contextual [State.setCpu, *]

/-- `State.cpuStop` keeps soundness. -/
@[simp ↓] theorem State.cpuStop_sound {fz : Fuses} (s : State) (k : Nat) (cause : Nat) (hs : s.sound fz = true) :
    ((State.cpuStop s k cause)).sound fz = true := by
  simp (maxDischargeDepth := 99) +contextual [State.cpuStop, *]

/-- `State.cpuHalt` keeps soundness. -/
@[simp ↓] theorem State.cpuHalt_sound {fz : Fuses} (s : State) (k : Nat) (cause : Nat) (hs : s.sound fz = true) :
    ((State.cpuHalt s k cause)).sound fz = true := by
  simp (maxDischargeDepth := 99) +contextual [State.cpuHalt, *]

/-- `State.cpuRun` keeps soundness. -/
@[simp ↓] theorem State.cpuRun_sound {fz : Fuses} (s : State) (k : Nat) (hs : s.sound fz = true) :
    ((State.cpuRun s k)).sound fz = true := by
  simp (maxDischargeDepth := 99) +contextual [State.cpuRun, *]

/-- `State.cpuCtl` keeps soundness. -/
@[simp ↓] theorem State.cpuCtl_sound {fz : Fuses} (s : State) (tag : Nat) (op : Nat) (hs : s.sound fz = true) :
    ((State.cpuCtl s tag op)).sound fz = true := by
  unfold State.cpuCtl
  repeat' first
    | (extract_lets +onlyGivenNames x
       have hx : State.sound fz x = true := by
         simp only [x]
         repeat' split
         all_goals simp (maxDischargeDepth := 99) +contextual [*]
       clear_value x)
    | (extract_lets +onlyGivenNames x
       have hx : State.sound fz x.1 = true := by
         simp only [x]
         repeat' split
         all_goals simp (maxDischargeDepth := 99) +contextual [*]
       clear_value x)
    | (extract_lets +onlyGivenNames x
       have hx : ∀ s a, State.sound fz s = true → State.sound fz (x s a) = true := by
         intro s a hs
         simp only [x]
         simp (maxDischargeDepth := 99) +contextual [*]
       clear_value x)
    | (extract_lets +onlyGivenNames x; clear_value x)
    | split
  all_goals simp (maxDischargeDepth := 99) +contextual [*]

/-- `State.regCmd` keeps soundness. -/
@[simp ↓] theorem State.regCmd_sound {fz : Fuses} (s : State) (tag : Nat) (op : Nat) (hs : s.sound fz = true) :
    ((State.regCmd s tag op)).sound fz = true := by
  simp (maxDischargeDepth := 99) +contextual [State.regCmd, *]

/-- `State.breakHit` keeps soundness. -/
@[simp ↓] theorem State.breakHit_sound {fz : Fuses} (s : State) (k : Nat) (b : Nat) (hs : s.sound fz = true) :
    ((State.breakHit s k b)).sound fz = true := by
  simp (maxDischargeDepth := 99) +contextual [State.breakHit, *]

/-- `State.tokenWrite` keeps soundness. -/
@[simp ↓] theorem State.tokenWrite_sound {fz : Fuses} (s : State) (data : Nat) (hs : s.sound fz = true) :
    ((State.tokenWrite s data)).sound fz = true := by
  simp (maxDischargeDepth := 99) +contextual [State.tokenWrite, *]

/-- `State.unlockEnds` keeps soundness. -/
@[simp ↓] theorem State.unlockEnds_sound {fz : Fuses} (s : State) (result : Nat) (rights : Nat) (hs : s.sound fz = true) :
    ((State.unlockEnds s result rights)).sound fz = true := by
  simp (maxDischargeDepth := 99) +contextual [State.unlockEnds, *]

/-- `State.unlockSubmit` keeps soundness. -/
@[simp ↓] theorem State.unlockSubmit_sound {fz : Fuses} (s : State) (tag : Nat) (hs : s.sound fz = true) :
    ((State.unlockSubmit s tag)).sound fz = true := by
  simp (maxDischargeDepth := 99) +contextual [State.unlockSubmit, *]

/-- `State.unlockDone` keeps soundness. -/
@[simp ↓] theorem State.unlockDone_sound {fz : Fuses} (s : State) (hs : s.sound fz = true) :
    ((State.unlockDone s)).sound fz = true := by
  simp (maxDischargeDepth := 99) +contextual [State.unlockDone, *]

/-- `State.unlockCmd` keeps soundness. -/
@[simp ↓] theorem State.unlockCmd_sound {fz : Fuses} (s : State) (tag : Nat) (op : Nat) (hs : s.sound fz = true) :
    ((State.unlockCmd s tag op)).sound fz = true := by
  unfold State.unlockCmd
  repeat' first
    | (extract_lets +onlyGivenNames x
       have hx : State.sound fz x = true := by
         simp only [x]
         repeat' split
         all_goals simp (maxDischargeDepth := 99) +contextual [*]
       clear_value x)
    | (extract_lets +onlyGivenNames x
       have hx : State.sound fz x.1 = true := by
         simp only [x]
         repeat' split
         all_goals simp (maxDischargeDepth := 99) +contextual [*]
       clear_value x)
    | (extract_lets +onlyGivenNames x
       have hx : ∀ s a, State.sound fz s = true → State.sound fz (x s a) = true := by
         intro s a hs
         simp only [x]
         simp (maxDischargeDepth := 99) +contextual [*]
       clear_value x)
    | (extract_lets +onlyGivenNames x; clear_value x)
    | split
  all_goals simp (maxDischargeDepth := 99) +contextual [*]

/-- `State.busCmd` keeps soundness. -/
@[simp ↓] theorem State.busCmd_sound {fz : Fuses} (s : State) (tag : Nat) (data : Nat) (hs : s.sound fz = true) :
    ((State.busCmd s tag data)).sound fz = true := by
  simp (maxDischargeDepth := 99) +contextual [State.busCmd, *]

/-- `State.busDone` keeps soundness. -/
@[simp ↓] theorem State.busDone_sound {fz : Fuses} (s : State) (hs : s.sound fz = true) :
    ((State.busDone s)).sound fz = true := by
  unfold State.busDone
  repeat' first
    | (extract_lets +onlyGivenNames x
       have hx : State.sound fz x = true := by
         simp only [x]
         repeat' split
         all_goals simp (maxDischargeDepth := 99) +contextual [*]
       clear_value x)
    | (extract_lets +onlyGivenNames x
       have hx : State.sound fz x.1 = true := by
         simp only [x]
         repeat' split
         all_goals simp (maxDischargeDepth := 99) +contextual [*]
       clear_value x)
    | (extract_lets +onlyGivenNames x
       have hx : ∀ s a, State.sound fz s = true → State.sound fz (x s a) = true := by
         intro s a hs
         simp only [x]
         simp (maxDischargeDepth := 99) +contextual [*]
       clear_value x)
    | (extract_lets +onlyGivenNames x; clear_value x)
    | split
  all_goals simp (maxDischargeDepth := 99) +contextual [*]

/-- `State.bpWrite` keeps soundness. -/
@[simp ↓] theorem State.bpWrite_sound {fz : Fuses} (s : State) (reg : Nat) (data : Nat) (hs : s.sound fz = true) :
    ((State.bpWrite s reg data)).sound fz = true := by
  simp (maxDischargeDepth := 99) +contextual [State.bpWrite, *]

/-- `State.setDbg` keeps soundness. -/
@[simp ↓] theorem State.setDbg_sound {fz : Fuses} (s : State) (d : Dbg) (hs : s.sound fz = true) :
    ((State.setDbg s d)).sound fz = true := by
  simp (maxDischargeDepth := 99) +contextual [State.setDbg, *]

/-- `State.dbgWrite` keeps soundness. -/
@[simp ↓] theorem State.dbgWrite_sound {fz : Fuses} (s : State) (reg : Nat) (data : Nat) (hs : s.sound fz = true) :
    ((State.dbgWrite s reg data)).sound fz = true := by
  unfold State.dbgWrite
  repeat' first
    | (extract_lets +onlyGivenNames x
       have hx : State.sound fz x = true := by
         simp only [x]
         repeat' split
         all_goals simp (maxDischargeDepth := 99) +contextual [*]
       clear_value x)
    | (extract_lets +onlyGivenNames x
       have hx : State.sound fz x.1 = true := by
         simp only [x]
         repeat' split
         all_goals simp (maxDischargeDepth := 99) +contextual [*]
       clear_value x)
    | (extract_lets +onlyGivenNames x
       have hx : ∀ s a, State.sound fz s = true → State.sound fz (x s a) = true := by
         intro s a hs
         simp only [x]
         simp (maxDischargeDepth := 99) +contextual [*]
       clear_value x)
    | (extract_lets +onlyGivenNames x; clear_value x)
    | split
  all_goals simp (maxDischargeDepth := 99) +contextual [*]

/-- `State.dbgFrame` keeps soundness. -/
@[simp ↓] theorem State.dbgFrame_sound {fz : Fuses} (s : State) (wr : Bool) (tag : Nat) (reg : Nat) (data : Nat) (hs : s.sound fz = true) :
    ((State.dbgFrame s wr tag reg data)).sound fz = true := by
  unfold State.dbgFrame
  repeat' first
    | (extract_lets +onlyGivenNames x
       have hx : State.sound fz x = true := by
         simp only [x]
         repeat' split
         all_goals simp (maxDischargeDepth := 99) +contextual [*]
       clear_value x)
    | (extract_lets +onlyGivenNames x
       have hx : State.sound fz x.1 = true := by
         simp only [x]
         repeat' split
         all_goals simp (maxDischargeDepth := 99) +contextual [*]
       clear_value x)
    | (extract_lets +onlyGivenNames x
       have hx : ∀ s a, State.sound fz s = true → State.sound fz (x s a) = true := by
         intro s a hs
         simp only [x]
         simp (maxDischargeDepth := 99) +contextual [*]
       clear_value x)
    | (extract_lets +onlyGivenNames x; clear_value x)
    | split
  all_goals simp (maxDischargeDepth := 99) +contextual [*]

/-- `State.dbgTakes` keeps soundness. -/
@[simp ↓] theorem State.dbgTakes_sound {fz : Fuses} (s : State) (wr : Bool) (tag : Nat) (reg : Nat) (data : Nat) (crcOk : Bool) (hs : s.sound fz = true) :
    ((State.dbgTakes s wr tag reg data crcOk)).sound fz = true := by
  simp (maxDischargeDepth := 99) +contextual [State.dbgTakes, *]

/-! ## Machine/Debug.lean -/

/-- `execDebugLineReset` keeps soundness. -/
theorem execDebugLineReset_sound {fz : Fuses} (s : State) (hs : s.sound fz = true) :
    ∃ z, execDebugLineReset s = finish s z ∧ z.sound fz = true := ⟨_, rfl, by simp (maxDischargeDepth := 99) +contextual [*]⟩

/-- `execDebugFrame` keeps soundness. -/
theorem execDebugFrame_sound {fz : Fuses} (wr : Bool) (tag : Fin 8) (reg : Fin 128) (data : Word) (crc : Fin 65536) (s : State) (hs : s.sound fz = true) :
    ∃ z, execDebugFrame wr tag reg data crc s = finish s z ∧ z.sound fz = true := ⟨_, rfl, by simp (maxDischargeDepth := 99) +contextual [*]⟩

/-- `execDbgBusRead` keeps soundness. -/
theorem execDbgBusRead_sound {fz : Fuses} (tag : Fin 8) (autoinc : Bool) (s : State) (hs : s.sound fz = true) :
    ∃ z, execDbgBusRead tag autoinc s = finish s z ∧ z.sound fz = true := ⟨_, rfl, by simp (maxDischargeDepth := 99) +contextual [*]⟩

/-- `execDbgBusWrite` keeps soundness. -/
theorem execDbgBusWrite_sound {fz : Fuses} (tag : Fin 8) (autoinc : Bool) (s : State) (hs : s.sound fz = true) :
    ∃ z, execDbgBusWrite tag autoinc s = finish s z ∧ z.sound fz = true := ⟨_, rfl, by simp (maxDischargeDepth := 99) +contextual [*]⟩

/-- `execDbgBusDone` keeps soundness. -/
theorem execDbgBusDone_sound {fz : Fuses} (s : State) (hs : s.sound fz = true) :
    ∃ z, execDbgBusDone s = finish s z ∧ z.sound fz = true := ⟨_, rfl, by simp (maxDischargeDepth := 99) +contextual [*]⟩

/-- `execTokenWrite` keeps soundness. -/
theorem execTokenWrite_sound {fz : Fuses} (tag : Fin 8) (data : Word) (s : State) (hs : s.sound fz = true) :
    ∃ z, execTokenWrite tag data s = finish s z ∧ z.sound fz = true := ⟨_, rfl, by simp (maxDischargeDepth := 99) +contextual [*]⟩

/-- `execUnlockSubmit` keeps soundness. -/
theorem execUnlockSubmit_sound {fz : Fuses} (tag : Fin 8) (s : State) (hs : s.sound fz = true) :
    ∃ z, execUnlockSubmit tag s = finish s z ∧ z.sound fz = true := ⟨_, rfl, by simp (maxDischargeDepth := 99) +contextual [*]⟩

/-- `execUnlockDone` keeps soundness. -/
theorem execUnlockDone_sound {fz : Fuses} (s : State) (hs : s.sound fz = true) :
    ∃ z, execUnlockDone s = finish s z ∧ z.sound fz = true := ⟨_, rfl, by simp (maxDischargeDepth := 99) +contextual [*]⟩

/-- `execUnlockRelock` keeps soundness. -/
theorem execUnlockRelock_sound {fz : Fuses} (tag : Fin 8) (s : State) (hs : s.sound fz = true) :
    ∃ z, execUnlockRelock tag s = finish s z ∧ z.sound fz = true := ⟨_, rfl, by simp (maxDischargeDepth := 99) +contextual [*]⟩

/-- `execCpuHalt` keeps soundness. -/
theorem execCpuHalt_sound {fz : Fuses} (tag : Fin 8) (s : State) (hs : s.sound fz = true) :
    ∃ z, execCpuHalt tag s = finish s z ∧ z.sound fz = true := ⟨_, rfl, by simp (maxDischargeDepth := 99) +contextual [*]⟩

/-- `execCpuResume` keeps soundness. -/
theorem execCpuResume_sound {fz : Fuses} (tag : Fin 8) (s : State) (hs : s.sound fz = true) :
    ∃ z, execCpuResume tag s = finish s z ∧ z.sound fz = true := ⟨_, rfl, by simp (maxDischargeDepth := 99) +contextual [*]⟩

/-- `execCpuStep` keeps soundness. -/
theorem execCpuStep_sound {fz : Fuses} (tag : Fin 8) (s : State) (hs : s.sound fz = true) :
    ∃ z, execCpuStep tag s = finish s z ∧ z.sound fz = true := ⟨_, rfl, by simp (maxDischargeDepth := 99) +contextual [*]⟩

/-- `execCpuHaltAll` keeps soundness. -/
theorem execCpuHaltAll_sound {fz : Fuses} (tag : Fin 8) (s : State) (hs : s.sound fz = true) :
    ∃ z, execCpuHaltAll tag s = finish s z ∧ z.sound fz = true := ⟨_, rfl, by simp (maxDischargeDepth := 99) +contextual [*]⟩

/-- `execCpuResumeAll` keeps soundness. -/
theorem execCpuResumeAll_sound {fz : Fuses} (tag : Fin 8) (s : State) (hs : s.sound fz = true) :
    ∃ z, execCpuResumeAll tag s = finish s z ∧ z.sound fz = true := ⟨_, rfl, by simp (maxDischargeDepth := 99) +contextual [*]⟩

/-- `execRegCmdRead` keeps soundness. -/
theorem execRegCmdRead_sound {fz : Fuses} (tag : Fin 8) (s : State) (hs : s.sound fz = true) :
    ∃ z, execRegCmdRead tag s = finish s z ∧ z.sound fz = true := ⟨_, rfl, by simp (maxDischargeDepth := 99) +contextual [*]⟩

/-- `execRegCmdWrite` keeps soundness. -/
theorem execRegCmdWrite_sound {fz : Fuses} (tag : Fin 8) (s : State) (hs : s.sound fz = true) :
    ∃ z, execRegCmdWrite tag s = finish s z ∧ z.sound fz = true := ⟨_, rfl, by simp (maxDischargeDepth := 99) +contextual [*]⟩

/-- `execBreakpointHit` keeps soundness. -/
theorem execBreakpointHit_sound {fz : Fuses} (k : Fin 8) (b : Fin 4) (s : State) (hs : s.sound fz = true) :
    ∃ z, execBreakpointHit k b s = finish s z ∧ z.sound fz = true := ⟨_, rfl, by simp (maxDischargeDepth := 99) +contextual [*]⟩

/-- `execDbgOffWrite` keeps soundness. -/
theorem execDbgOffWrite_sound {fz : Fuses} (m : Master) (s : State) (hs : s.sound fz = true) :
    ∃ z, execDbgOffWrite m s = finish s z ∧ z.sound fz = true := ⟨_, rfl, by simp (maxDischargeDepth := 99) +contextual [*]⟩

/-- `execJtagInstruction` keeps soundness. -/
theorem execJtagInstruction_sound {fz : Fuses} (ir : Fin 256) (s : State) (hs : s.sound fz = true) :
    ∃ z, execJtagInstruction ir s = finish s z ∧ z.sound fz = true := ⟨_, rfl, by simp (maxDischargeDepth := 99) +contextual [*]⟩

end Sys2Proof.Machine
end

