-- ==== Sys2Proof/Laws/State.lean ====
section
/-! SUPPORT. What each update of the state leaves unchanged, field by field, and what reading a field, a counter or a
context DWORD gives after one is written. -/

namespace Sys2Proof.Machine

variable (s : State)

@[simp] theorem State.fset_ctrs (f : Fl) (v : Nat) : (s.fset f v).ctrs = s.ctrs := rfl
@[simp] theorem State.fset_hold (f : Fl) (v : Nat) : (s.fset f v).hold = s.hold := rfl
@[simp] theorem State.fset_dev (f : Fl) (v : Nat) : (s.fset f v).dev = s.dev := rfl
@[simp] theorem State.fset_cfw (f : Fl) (v : Nat) : (s.fset f v).cfw = s.cfw := rfl
@[simp] theorem State.fset_host (f : Fl) (v : Nat) : (s.fset f v).host = s.host := rfl
@[simp] theorem State.fset_bus (f : Fl) (v : Nat) : (s.fset f v).bus = s.bus := rfl
@[simp] theorem State.fset_sec (f : Fl) (v : Nat) : (s.fset f v).sec = s.sec := rfl
@[simp] theorem State.fset_fuses (f : Fl) (v : Nat) : (s.fset f v).fuses = s.fuses := rfl
@[simp] theorem State.fset_svc (f : Fl) (v : Nat) : (s.fset f v).svc = s.svc := rfl
@[simp] theorem State.fset_dbg (f : Fl) (v : Nat) : (s.fset f v).dbg = s.dbg := rfl
@[simp] theorem State.fset_twin (f : Fl) (v : Nat) : (s.fset f v).twin = s.twin := rfl
@[simp] theorem State.fset_carriers (f : Fl) (v : Nat) : (s.fset f v).carriers = s.carriers := rfl
@[simp] theorem State.fset_reels (f : Fl) (v : Nat) : (s.fset f v).reels = s.reels := rfl
@[simp] theorem State.fset_lanes (f : Fl) (v : Nat) : (s.fset f v).lanes = s.lanes := rfl
@[simp] theorem State.fset_slIn (f : Fl) (v : Nat) : (s.fset f v).slIn = s.slIn := rfl
@[simp] theorem State.fset_slOut (f : Fl) (v : Nat) : (s.fset f v).slOut = s.slOut := rfl
@[simp] theorem State.fset_fore (f : Fl) (v : Nat) : (s.fset f v).fore = s.fore := rfl
@[simp] theorem State.fset_tim (f : Fl) (v : Nat) : (s.fset f v).tim = s.tim := rfl
@[simp] theorem State.fset_lblTx (f : Fl) (v : Nat) : (s.fset f v).lblTx = s.lblTx := rfl
@[simp] theorem State.fset_lblRx (f : Fl) (v : Nat) : (s.fset f v).lblRx = s.lblRx := rfl
@[simp] theorem State.fset_odu (f : Fl) (v : Nat) : (s.fset f v).odu = s.odu := rfl
@[simp] theorem State.fset_core (f : Fl) (v : Nat) : (s.fset f v).core = s.core := rfl
@[simp] theorem State.fset_prot (f : Fl) (v : Nat) : (s.fset f v).prot = s.prot := rfl
@[simp] theorem State.fset_mem (f : Fl) (v : Nat) : (s.fset f v).mem = s.mem := rfl
@[simp] theorem State.fset_ctx (f : Fl) (v : Nat) : (s.fset f v).ctx = s.ctx := rfl
@[simp] theorem State.fset_sram (f : Fl) (v : Nat) : (s.fset f v).sram = s.sram := rfl
@[simp] theorem State.fset_out (f : Fl) (v : Nat) : (s.fset f v).out = s.out := rfl
@[simp] theorem State.fset_free (f : Fl) (v : Nat) : (s.fset f v).free = s.free := rfl
@[simp] theorem State.fset_pending (f : Fl) (v : Nat) : (s.fset f v).pending = s.pending := rfl

@[simp] theorem State.fput_ctrs (f : Fl) (b : Bool) : (s.fput f b).ctrs = s.ctrs := rfl
@[simp] theorem State.fput_hold (f : Fl) (b : Bool) : (s.fput f b).hold = s.hold := rfl
@[simp] theorem State.fput_dev (f : Fl) (b : Bool) : (s.fput f b).dev = s.dev := rfl
@[simp] theorem State.fput_cfw (f : Fl) (b : Bool) : (s.fput f b).cfw = s.cfw := rfl
@[simp] theorem State.fput_host (f : Fl) (b : Bool) : (s.fput f b).host = s.host := rfl
@[simp] theorem State.fput_bus (f : Fl) (b : Bool) : (s.fput f b).bus = s.bus := rfl
@[simp] theorem State.fput_sec (f : Fl) (b : Bool) : (s.fput f b).sec = s.sec := rfl
@[simp] theorem State.fput_fuses (f : Fl) (b : Bool) : (s.fput f b).fuses = s.fuses := rfl
@[simp] theorem State.fput_svc (f : Fl) (b : Bool) : (s.fput f b).svc = s.svc := rfl
@[simp] theorem State.fput_dbg (f : Fl) (b : Bool) : (s.fput f b).dbg = s.dbg := rfl
@[simp] theorem State.fput_twin (f : Fl) (b : Bool) : (s.fput f b).twin = s.twin := rfl
@[simp] theorem State.fput_carriers (f : Fl) (b : Bool) : (s.fput f b).carriers = s.carriers := rfl
@[simp] theorem State.fput_reels (f : Fl) (b : Bool) : (s.fput f b).reels = s.reels := rfl
@[simp] theorem State.fput_lanes (f : Fl) (b : Bool) : (s.fput f b).lanes = s.lanes := rfl
@[simp] theorem State.fput_slIn (f : Fl) (b : Bool) : (s.fput f b).slIn = s.slIn := rfl
@[simp] theorem State.fput_slOut (f : Fl) (b : Bool) : (s.fput f b).slOut = s.slOut := rfl
@[simp] theorem State.fput_fore (f : Fl) (b : Bool) : (s.fput f b).fore = s.fore := rfl
@[simp] theorem State.fput_tim (f : Fl) (b : Bool) : (s.fput f b).tim = s.tim := rfl
@[simp] theorem State.fput_lblTx (f : Fl) (b : Bool) : (s.fput f b).lblTx = s.lblTx := rfl
@[simp] theorem State.fput_lblRx (f : Fl) (b : Bool) : (s.fput f b).lblRx = s.lblRx := rfl
@[simp] theorem State.fput_odu (f : Fl) (b : Bool) : (s.fput f b).odu = s.odu := rfl
@[simp] theorem State.fput_core (f : Fl) (b : Bool) : (s.fput f b).core = s.core := rfl
@[simp] theorem State.fput_prot (f : Fl) (b : Bool) : (s.fput f b).prot = s.prot := rfl
@[simp] theorem State.fput_mem (f : Fl) (b : Bool) : (s.fput f b).mem = s.mem := rfl
@[simp] theorem State.fput_ctx (f : Fl) (b : Bool) : (s.fput f b).ctx = s.ctx := rfl
@[simp] theorem State.fput_sram (f : Fl) (b : Bool) : (s.fput f b).sram = s.sram := rfl
@[simp] theorem State.fput_out (f : Fl) (b : Bool) : (s.fput f b).out = s.out := rfl
@[simp] theorem State.fput_free (f : Fl) (b : Bool) : (s.fput f b).free = s.free := rfl
@[simp] theorem State.fput_pending (f : Fl) (b : Bool) : (s.fput f b).pending = s.pending := rfl

@[simp] theorem State.raise_ctrs (p b : Nat) : (s.raise p b).ctrs = s.ctrs := rfl
@[simp] theorem State.raise_hold (p b : Nat) : (s.raise p b).hold = s.hold := rfl
@[simp] theorem State.raise_dev (p b : Nat) : (s.raise p b).dev = s.dev := rfl
@[simp] theorem State.raise_cfw (p b : Nat) : (s.raise p b).cfw = s.cfw := rfl
@[simp] theorem State.raise_host (p b : Nat) : (s.raise p b).host = s.host := rfl
@[simp] theorem State.raise_bus (p b : Nat) : (s.raise p b).bus = s.bus := rfl
@[simp] theorem State.raise_sec (p b : Nat) : (s.raise p b).sec = s.sec := rfl
@[simp] theorem State.raise_fuses (p b : Nat) : (s.raise p b).fuses = s.fuses := rfl
@[simp] theorem State.raise_svc (p b : Nat) : (s.raise p b).svc = s.svc := rfl
@[simp] theorem State.raise_dbg (p b : Nat) : (s.raise p b).dbg = s.dbg := rfl
@[simp] theorem State.raise_twin (p b : Nat) : (s.raise p b).twin = s.twin := rfl
@[simp] theorem State.raise_carriers (p b : Nat) : (s.raise p b).carriers = s.carriers := rfl
@[simp] theorem State.raise_reels (p b : Nat) : (s.raise p b).reels = s.reels := rfl
@[simp] theorem State.raise_lanes (p b : Nat) : (s.raise p b).lanes = s.lanes := rfl
@[simp] theorem State.raise_slIn (p b : Nat) : (s.raise p b).slIn = s.slIn := rfl
@[simp] theorem State.raise_slOut (p b : Nat) : (s.raise p b).slOut = s.slOut := rfl
@[simp] theorem State.raise_fore (p b : Nat) : (s.raise p b).fore = s.fore := rfl
@[simp] theorem State.raise_tim (p b : Nat) : (s.raise p b).tim = s.tim := rfl
@[simp] theorem State.raise_lblTx (p b : Nat) : (s.raise p b).lblTx = s.lblTx := rfl
@[simp] theorem State.raise_lblRx (p b : Nat) : (s.raise p b).lblRx = s.lblRx := rfl
@[simp] theorem State.raise_odu (p b : Nat) : (s.raise p b).odu = s.odu := rfl
@[simp] theorem State.raise_core (p b : Nat) : (s.raise p b).core = s.core := rfl
@[simp] theorem State.raise_prot (p b : Nat) : (s.raise p b).prot = s.prot := rfl
@[simp] theorem State.raise_mem (p b : Nat) : (s.raise p b).mem = s.mem := rfl
@[simp] theorem State.raise_ctx (p b : Nat) : (s.raise p b).ctx = s.ctx := rfl
@[simp] theorem State.raise_sram (p b : Nat) : (s.raise p b).sram = s.sram := rfl
@[simp] theorem State.raise_out (p b : Nat) : (s.raise p b).out = s.out := rfl
@[simp] theorem State.raise_free (p b : Nat) : (s.raise p b).free = s.free := rfl
@[simp] theorem State.raise_pending (p b : Nat) : (s.raise p b).pending = s.pending := rfl

@[simp] theorem State.setFault_ctrs (p : Nat) : (s.setFault p).ctrs = s.ctrs := rfl
@[simp] theorem State.setFault_hold (p : Nat) : (s.setFault p).hold = s.hold := rfl
@[simp] theorem State.setFault_dev (p : Nat) : (s.setFault p).dev = s.dev := rfl
@[simp] theorem State.setFault_cfw (p : Nat) : (s.setFault p).cfw = s.cfw := rfl
@[simp] theorem State.setFault_host (p : Nat) : (s.setFault p).host = s.host := rfl
@[simp] theorem State.setFault_bus (p : Nat) : (s.setFault p).bus = s.bus := rfl
@[simp] theorem State.setFault_sec (p : Nat) : (s.setFault p).sec = s.sec := rfl
@[simp] theorem State.setFault_fuses (p : Nat) : (s.setFault p).fuses = s.fuses := rfl
@[simp] theorem State.setFault_svc (p : Nat) : (s.setFault p).svc = s.svc := rfl
@[simp] theorem State.setFault_dbg (p : Nat) : (s.setFault p).dbg = s.dbg := rfl
@[simp] theorem State.setFault_twin (p : Nat) : (s.setFault p).twin = s.twin := rfl
@[simp] theorem State.setFault_carriers (p : Nat) : (s.setFault p).carriers = s.carriers := rfl
@[simp] theorem State.setFault_reels (p : Nat) : (s.setFault p).reels = s.reels := rfl
@[simp] theorem State.setFault_lanes (p : Nat) : (s.setFault p).lanes = s.lanes := rfl
@[simp] theorem State.setFault_slIn (p : Nat) : (s.setFault p).slIn = s.slIn := rfl
@[simp] theorem State.setFault_slOut (p : Nat) : (s.setFault p).slOut = s.slOut := rfl
@[simp] theorem State.setFault_fore (p : Nat) : (s.setFault p).fore = s.fore := rfl
@[simp] theorem State.setFault_tim (p : Nat) : (s.setFault p).tim = s.tim := rfl
@[simp] theorem State.setFault_lblTx (p : Nat) : (s.setFault p).lblTx = s.lblTx := rfl
@[simp] theorem State.setFault_lblRx (p : Nat) : (s.setFault p).lblRx = s.lblRx := rfl
@[simp] theorem State.setFault_odu (p : Nat) : (s.setFault p).odu = s.odu := rfl
@[simp] theorem State.setFault_core (p : Nat) : (s.setFault p).core = s.core := rfl
@[simp] theorem State.setFault_prot (p : Nat) : (s.setFault p).prot = s.prot := rfl
@[simp] theorem State.setFault_mem (p : Nat) : (s.setFault p).mem = s.mem := rfl
@[simp] theorem State.setFault_ctx (p : Nat) : (s.setFault p).ctx = s.ctx := rfl
@[simp] theorem State.setFault_sram (p : Nat) : (s.setFault p).sram = s.sram := rfl
@[simp] theorem State.setFault_out (p : Nat) : (s.setFault p).out = s.out := rfl
@[simp] theorem State.setFault_free (p : Nat) : (s.setFault p).free = s.free := rfl
@[simp] theorem State.setFault_pending (p : Nat) : (s.setFault p).pending = s.pending := rfl

@[simp] theorem State.bumpSnap_ctrs (p : Nat) : (s.bumpSnap p).ctrs = s.ctrs := rfl
@[simp] theorem State.bumpSnap_hold (p : Nat) : (s.bumpSnap p).hold = s.hold := rfl
@[simp] theorem State.bumpSnap_dev (p : Nat) : (s.bumpSnap p).dev = s.dev := rfl
@[simp] theorem State.bumpSnap_cfw (p : Nat) : (s.bumpSnap p).cfw = s.cfw := rfl
@[simp] theorem State.bumpSnap_host (p : Nat) : (s.bumpSnap p).host = s.host := rfl
@[simp] theorem State.bumpSnap_bus (p : Nat) : (s.bumpSnap p).bus = s.bus := rfl
@[simp] theorem State.bumpSnap_sec (p : Nat) : (s.bumpSnap p).sec = s.sec := rfl
@[simp] theorem State.bumpSnap_fuses (p : Nat) : (s.bumpSnap p).fuses = s.fuses := rfl
@[simp] theorem State.bumpSnap_svc (p : Nat) : (s.bumpSnap p).svc = s.svc := rfl
@[simp] theorem State.bumpSnap_dbg (p : Nat) : (s.bumpSnap p).dbg = s.dbg := rfl
@[simp] theorem State.bumpSnap_twin (p : Nat) : (s.bumpSnap p).twin = s.twin := rfl
@[simp] theorem State.bumpSnap_carriers (p : Nat) : (s.bumpSnap p).carriers = s.carriers := rfl
@[simp] theorem State.bumpSnap_reels (p : Nat) : (s.bumpSnap p).reels = s.reels := rfl
@[simp] theorem State.bumpSnap_lanes (p : Nat) : (s.bumpSnap p).lanes = s.lanes := rfl
@[simp] theorem State.bumpSnap_slIn (p : Nat) : (s.bumpSnap p).slIn = s.slIn := rfl
@[simp] theorem State.bumpSnap_slOut (p : Nat) : (s.bumpSnap p).slOut = s.slOut := rfl
@[simp] theorem State.bumpSnap_fore (p : Nat) : (s.bumpSnap p).fore = s.fore := rfl
@[simp] theorem State.bumpSnap_tim (p : Nat) : (s.bumpSnap p).tim = s.tim := rfl
@[simp] theorem State.bumpSnap_lblTx (p : Nat) : (s.bumpSnap p).lblTx = s.lblTx := rfl
@[simp] theorem State.bumpSnap_lblRx (p : Nat) : (s.bumpSnap p).lblRx = s.lblRx := rfl
@[simp] theorem State.bumpSnap_odu (p : Nat) : (s.bumpSnap p).odu = s.odu := rfl
@[simp] theorem State.bumpSnap_core (p : Nat) : (s.bumpSnap p).core = s.core := rfl
@[simp] theorem State.bumpSnap_prot (p : Nat) : (s.bumpSnap p).prot = s.prot := rfl
@[simp] theorem State.bumpSnap_mem (p : Nat) : (s.bumpSnap p).mem = s.mem := rfl
@[simp] theorem State.bumpSnap_ctx (p : Nat) : (s.bumpSnap p).ctx = s.ctx := rfl
@[simp] theorem State.bumpSnap_sram (p : Nat) : (s.bumpSnap p).sram = s.sram := rfl
@[simp] theorem State.bumpSnap_out (p : Nat) : (s.bumpSnap p).out = s.out := rfl
@[simp] theorem State.bumpSnap_free (p : Nat) : (s.bumpSnap p).free = s.free := rfl
@[simp] theorem State.bumpSnap_pending (p : Nat) : (s.bumpSnap p).pending = s.pending := rfl

@[simp] theorem State.sansHeader_ctrs (p : Nat) : (s.sansHeader p).ctrs = s.ctrs := rfl
@[simp] theorem State.sansHeader_hold (p : Nat) : (s.sansHeader p).hold = s.hold := rfl
@[simp] theorem State.sansHeader_dev (p : Nat) : (s.sansHeader p).dev = s.dev := rfl
@[simp] theorem State.sansHeader_cfw (p : Nat) : (s.sansHeader p).cfw = s.cfw := rfl
@[simp] theorem State.sansHeader_host (p : Nat) : (s.sansHeader p).host = s.host := rfl
@[simp] theorem State.sansHeader_bus (p : Nat) : (s.sansHeader p).bus = s.bus := rfl
@[simp] theorem State.sansHeader_sec (p : Nat) : (s.sansHeader p).sec = s.sec := rfl
@[simp] theorem State.sansHeader_fuses (p : Nat) : (s.sansHeader p).fuses = s.fuses := rfl
@[simp] theorem State.sansHeader_svc (p : Nat) : (s.sansHeader p).svc = s.svc := rfl
@[simp] theorem State.sansHeader_dbg (p : Nat) : (s.sansHeader p).dbg = s.dbg := rfl
@[simp] theorem State.sansHeader_twin (p : Nat) : (s.sansHeader p).twin = s.twin := rfl
@[simp] theorem State.sansHeader_carriers (p : Nat) : (s.sansHeader p).carriers = s.carriers := rfl
@[simp] theorem State.sansHeader_reels (p : Nat) : (s.sansHeader p).reels = s.reels := rfl
@[simp] theorem State.sansHeader_lanes (p : Nat) : (s.sansHeader p).lanes = s.lanes := rfl
@[simp] theorem State.sansHeader_slIn (p : Nat) : (s.sansHeader p).slIn = s.slIn := rfl
@[simp] theorem State.sansHeader_slOut (p : Nat) : (s.sansHeader p).slOut = s.slOut := rfl
@[simp] theorem State.sansHeader_fore (p : Nat) : (s.sansHeader p).fore = s.fore := rfl
@[simp] theorem State.sansHeader_tim (p : Nat) : (s.sansHeader p).tim = s.tim := rfl
@[simp] theorem State.sansHeader_lblTx (p : Nat) : (s.sansHeader p).lblTx = s.lblTx := rfl
@[simp] theorem State.sansHeader_lblRx (p : Nat) : (s.sansHeader p).lblRx = s.lblRx := rfl
@[simp] theorem State.sansHeader_odu (p : Nat) : (s.sansHeader p).odu = s.odu := rfl
@[simp] theorem State.sansHeader_core (p : Nat) : (s.sansHeader p).core = s.core := rfl
@[simp] theorem State.sansHeader_prot (p : Nat) : (s.sansHeader p).prot = s.prot := rfl
@[simp] theorem State.sansHeader_mem (p : Nat) : (s.sansHeader p).mem = s.mem := rfl
@[simp] theorem State.sansHeader_ctx (p : Nat) : (s.sansHeader p).ctx = s.ctx := rfl
@[simp] theorem State.sansHeader_sram (p : Nat) : (s.sansHeader p).sram = s.sram := rfl
@[simp] theorem State.sansHeader_out (p : Nat) : (s.sansHeader p).out = s.out := rfl
@[simp] theorem State.sansHeader_free (p : Nat) : (s.sansHeader p).free = s.free := rfl
@[simp] theorem State.sansHeader_pending (p : Nat) : (s.sansHeader p).pending = s.pending := rfl

@[simp] theorem State.cadd_fields (c : Ct) (n : Nat) : (s.cadd c n).fields = s.fields := rfl
@[simp] theorem State.cadd_hold (c : Ct) (n : Nat) : (s.cadd c n).hold = s.hold := rfl
@[simp] theorem State.cadd_dev (c : Ct) (n : Nat) : (s.cadd c n).dev = s.dev := rfl
@[simp] theorem State.cadd_cfw (c : Ct) (n : Nat) : (s.cadd c n).cfw = s.cfw := rfl
@[simp] theorem State.cadd_host (c : Ct) (n : Nat) : (s.cadd c n).host = s.host := rfl
@[simp] theorem State.cadd_bus (c : Ct) (n : Nat) : (s.cadd c n).bus = s.bus := rfl
@[simp] theorem State.cadd_sec (c : Ct) (n : Nat) : (s.cadd c n).sec = s.sec := rfl
@[simp] theorem State.cadd_fuses (c : Ct) (n : Nat) : (s.cadd c n).fuses = s.fuses := rfl
@[simp] theorem State.cadd_svc (c : Ct) (n : Nat) : (s.cadd c n).svc = s.svc := rfl
@[simp] theorem State.cadd_dbg (c : Ct) (n : Nat) : (s.cadd c n).dbg = s.dbg := rfl
@[simp] theorem State.cadd_twin (c : Ct) (n : Nat) : (s.cadd c n).twin = s.twin := rfl
@[simp] theorem State.cadd_carriers (c : Ct) (n : Nat) : (s.cadd c n).carriers = s.carriers := rfl
@[simp] theorem State.cadd_reels (c : Ct) (n : Nat) : (s.cadd c n).reels = s.reels := rfl
@[simp] theorem State.cadd_lanes (c : Ct) (n : Nat) : (s.cadd c n).lanes = s.lanes := rfl
@[simp] theorem State.cadd_slIn (c : Ct) (n : Nat) : (s.cadd c n).slIn = s.slIn := rfl
@[simp] theorem State.cadd_slOut (c : Ct) (n : Nat) : (s.cadd c n).slOut = s.slOut := rfl
@[simp] theorem State.cadd_fore (c : Ct) (n : Nat) : (s.cadd c n).fore = s.fore := rfl
@[simp] theorem State.cadd_tim (c : Ct) (n : Nat) : (s.cadd c n).tim = s.tim := rfl
@[simp] theorem State.cadd_lblTx (c : Ct) (n : Nat) : (s.cadd c n).lblTx = s.lblTx := rfl
@[simp] theorem State.cadd_lblRx (c : Ct) (n : Nat) : (s.cadd c n).lblRx = s.lblRx := rfl
@[simp] theorem State.cadd_odu (c : Ct) (n : Nat) : (s.cadd c n).odu = s.odu := rfl
@[simp] theorem State.cadd_core (c : Ct) (n : Nat) : (s.cadd c n).core = s.core := rfl
@[simp] theorem State.cadd_prot (c : Ct) (n : Nat) : (s.cadd c n).prot = s.prot := rfl
@[simp] theorem State.cadd_mem (c : Ct) (n : Nat) : (s.cadd c n).mem = s.mem := rfl
@[simp] theorem State.cadd_ctx (c : Ct) (n : Nat) : (s.cadd c n).ctx = s.ctx := rfl
@[simp] theorem State.cadd_sram (c : Ct) (n : Nat) : (s.cadd c n).sram = s.sram := rfl
@[simp] theorem State.cadd_out (c : Ct) (n : Nat) : (s.cadd c n).out = s.out := rfl
@[simp] theorem State.cadd_free (c : Ct) (n : Nat) : (s.cadd c n).free = s.free := rfl
@[simp] theorem State.cadd_pending (c : Ct) (n : Nat) : (s.cadd c n).pending = s.pending := rfl

@[simp] theorem State.cset_fields (c : Ct) (n : Nat) : (s.cset c n).fields = s.fields := rfl
@[simp] theorem State.cset_hold (c : Ct) (n : Nat) : (s.cset c n).hold = s.hold := rfl
@[simp] theorem State.cset_dev (c : Ct) (n : Nat) : (s.cset c n).dev = s.dev := rfl
@[simp] theorem State.cset_cfw (c : Ct) (n : Nat) : (s.cset c n).cfw = s.cfw := rfl
@[simp] theorem State.cset_host (c : Ct) (n : Nat) : (s.cset c n).host = s.host := rfl
@[simp] theorem State.cset_bus (c : Ct) (n : Nat) : (s.cset c n).bus = s.bus := rfl
@[simp] theorem State.cset_sec (c : Ct) (n : Nat) : (s.cset c n).sec = s.sec := rfl
@[simp] theorem State.cset_fuses (c : Ct) (n : Nat) : (s.cset c n).fuses = s.fuses := rfl
@[simp] theorem State.cset_svc (c : Ct) (n : Nat) : (s.cset c n).svc = s.svc := rfl
@[simp] theorem State.cset_dbg (c : Ct) (n : Nat) : (s.cset c n).dbg = s.dbg := rfl
@[simp] theorem State.cset_twin (c : Ct) (n : Nat) : (s.cset c n).twin = s.twin := rfl
@[simp] theorem State.cset_carriers (c : Ct) (n : Nat) : (s.cset c n).carriers = s.carriers := rfl
@[simp] theorem State.cset_reels (c : Ct) (n : Nat) : (s.cset c n).reels = s.reels := rfl
@[simp] theorem State.cset_lanes (c : Ct) (n : Nat) : (s.cset c n).lanes = s.lanes := rfl
@[simp] theorem State.cset_slIn (c : Ct) (n : Nat) : (s.cset c n).slIn = s.slIn := rfl
@[simp] theorem State.cset_slOut (c : Ct) (n : Nat) : (s.cset c n).slOut = s.slOut := rfl
@[simp] theorem State.cset_fore (c : Ct) (n : Nat) : (s.cset c n).fore = s.fore := rfl
@[simp] theorem State.cset_tim (c : Ct) (n : Nat) : (s.cset c n).tim = s.tim := rfl
@[simp] theorem State.cset_lblTx (c : Ct) (n : Nat) : (s.cset c n).lblTx = s.lblTx := rfl
@[simp] theorem State.cset_lblRx (c : Ct) (n : Nat) : (s.cset c n).lblRx = s.lblRx := rfl
@[simp] theorem State.cset_odu (c : Ct) (n : Nat) : (s.cset c n).odu = s.odu := rfl
@[simp] theorem State.cset_core (c : Ct) (n : Nat) : (s.cset c n).core = s.core := rfl
@[simp] theorem State.cset_prot (c : Ct) (n : Nat) : (s.cset c n).prot = s.prot := rfl
@[simp] theorem State.cset_mem (c : Ct) (n : Nat) : (s.cset c n).mem = s.mem := rfl
@[simp] theorem State.cset_ctx (c : Ct) (n : Nat) : (s.cset c n).ctx = s.ctx := rfl
@[simp] theorem State.cset_sram (c : Ct) (n : Nat) : (s.cset c n).sram = s.sram := rfl
@[simp] theorem State.cset_out (c : Ct) (n : Nat) : (s.cset c n).out = s.out := rfl
@[simp] theorem State.cset_free (c : Ct) (n : Nat) : (s.cset c n).free = s.free := rfl
@[simp] theorem State.cset_pending (c : Ct) (n : Nat) : (s.cset c n).pending = s.pending := rfl

@[simp] theorem State.holdPages_fields (p : Nat → Bool) : (s.holdPages p).fields = s.fields := rfl
@[simp] theorem State.holdPages_ctrs (p : Nat → Bool) : (s.holdPages p).ctrs = s.ctrs := rfl
@[simp] theorem State.holdPages_dev (p : Nat → Bool) : (s.holdPages p).dev = s.dev := rfl
@[simp] theorem State.holdPages_cfw (p : Nat → Bool) : (s.holdPages p).cfw = s.cfw := rfl
@[simp] theorem State.holdPages_host (p : Nat → Bool) : (s.holdPages p).host = s.host := rfl
@[simp] theorem State.holdPages_bus (p : Nat → Bool) : (s.holdPages p).bus = s.bus := rfl
@[simp] theorem State.holdPages_sec (p : Nat → Bool) : (s.holdPages p).sec = s.sec := rfl
@[simp] theorem State.holdPages_fuses (p : Nat → Bool) : (s.holdPages p).fuses = s.fuses := rfl
@[simp] theorem State.holdPages_svc (p : Nat → Bool) : (s.holdPages p).svc = s.svc := rfl
@[simp] theorem State.holdPages_dbg (p : Nat → Bool) : (s.holdPages p).dbg = s.dbg := rfl
@[simp] theorem State.holdPages_twin (p : Nat → Bool) : (s.holdPages p).twin = s.twin := rfl
@[simp] theorem State.holdPages_carriers (p : Nat → Bool) : (s.holdPages p).carriers = s.carriers := rfl
@[simp] theorem State.holdPages_reels (p : Nat → Bool) : (s.holdPages p).reels = s.reels := rfl
@[simp] theorem State.holdPages_lanes (p : Nat → Bool) : (s.holdPages p).lanes = s.lanes := rfl
@[simp] theorem State.holdPages_slIn (p : Nat → Bool) : (s.holdPages p).slIn = s.slIn := rfl
@[simp] theorem State.holdPages_slOut (p : Nat → Bool) : (s.holdPages p).slOut = s.slOut := rfl
@[simp] theorem State.holdPages_fore (p : Nat → Bool) : (s.holdPages p).fore = s.fore := rfl
@[simp] theorem State.holdPages_tim (p : Nat → Bool) : (s.holdPages p).tim = s.tim := rfl
@[simp] theorem State.holdPages_lblTx (p : Nat → Bool) : (s.holdPages p).lblTx = s.lblTx := rfl
@[simp] theorem State.holdPages_lblRx (p : Nat → Bool) : (s.holdPages p).lblRx = s.lblRx := rfl
@[simp] theorem State.holdPages_odu (p : Nat → Bool) : (s.holdPages p).odu = s.odu := rfl
@[simp] theorem State.holdPages_core (p : Nat → Bool) : (s.holdPages p).core = s.core := rfl
@[simp] theorem State.holdPages_prot (p : Nat → Bool) : (s.holdPages p).prot = s.prot := rfl
@[simp] theorem State.holdPages_mem (p : Nat → Bool) : (s.holdPages p).mem = s.mem := rfl
@[simp] theorem State.holdPages_ctx (p : Nat → Bool) : (s.holdPages p).ctx = s.ctx := rfl
@[simp] theorem State.holdPages_sram (p : Nat → Bool) : (s.holdPages p).sram = s.sram := rfl
@[simp] theorem State.holdPages_out (p : Nat → Bool) : (s.holdPages p).out = s.out := rfl
@[simp] theorem State.holdPages_free (p : Nat → Bool) : (s.holdPages p).free = s.free := rfl
@[simp] theorem State.holdPages_pending (p : Nat → Bool) : (s.holdPages p).pending = s.pending := rfl

@[simp] theorem State.emit_fields (o : Out) : (s.emit o).fields = s.fields := rfl
@[simp] theorem State.emit_ctrs (o : Out) : (s.emit o).ctrs = s.ctrs := rfl
@[simp] theorem State.emit_hold (o : Out) : (s.emit o).hold = s.hold := rfl
@[simp] theorem State.emit_dev (o : Out) : (s.emit o).dev = s.dev := rfl
@[simp] theorem State.emit_cfw (o : Out) : (s.emit o).cfw = s.cfw := rfl
@[simp] theorem State.emit_host (o : Out) : (s.emit o).host = s.host := rfl
@[simp] theorem State.emit_bus (o : Out) : (s.emit o).bus = s.bus := rfl
@[simp] theorem State.emit_sec (o : Out) : (s.emit o).sec = s.sec := rfl
@[simp] theorem State.emit_fuses (o : Out) : (s.emit o).fuses = s.fuses := rfl
@[simp] theorem State.emit_svc (o : Out) : (s.emit o).svc = s.svc := rfl
@[simp] theorem State.emit_dbg (o : Out) : (s.emit o).dbg = s.dbg := rfl
@[simp] theorem State.emit_twin (o : Out) : (s.emit o).twin = s.twin := rfl
@[simp] theorem State.emit_carriers (o : Out) : (s.emit o).carriers = s.carriers := rfl
@[simp] theorem State.emit_reels (o : Out) : (s.emit o).reels = s.reels := rfl
@[simp] theorem State.emit_lanes (o : Out) : (s.emit o).lanes = s.lanes := rfl
@[simp] theorem State.emit_slIn (o : Out) : (s.emit o).slIn = s.slIn := rfl
@[simp] theorem State.emit_slOut (o : Out) : (s.emit o).slOut = s.slOut := rfl
@[simp] theorem State.emit_fore (o : Out) : (s.emit o).fore = s.fore := rfl
@[simp] theorem State.emit_tim (o : Out) : (s.emit o).tim = s.tim := rfl
@[simp] theorem State.emit_lblTx (o : Out) : (s.emit o).lblTx = s.lblTx := rfl
@[simp] theorem State.emit_lblRx (o : Out) : (s.emit o).lblRx = s.lblRx := rfl
@[simp] theorem State.emit_odu (o : Out) : (s.emit o).odu = s.odu := rfl
@[simp] theorem State.emit_core (o : Out) : (s.emit o).core = s.core := rfl
@[simp] theorem State.emit_prot (o : Out) : (s.emit o).prot = s.prot := rfl
@[simp] theorem State.emit_mem (o : Out) : (s.emit o).mem = s.mem := rfl
@[simp] theorem State.emit_ctx (o : Out) : (s.emit o).ctx = s.ctx := rfl
@[simp] theorem State.emit_sram (o : Out) : (s.emit o).sram = s.sram := rfl
@[simp] theorem State.emit_free (o : Out) : (s.emit o).free = s.free := rfl
@[simp] theorem State.emit_pending (o : Out) : (s.emit o).pending = s.pending := rfl

@[simp] theorem State.tick_fields : (s.tick).fields = s.fields := rfl
@[simp] theorem State.tick_ctrs : (s.tick).ctrs = s.ctrs := rfl
@[simp] theorem State.tick_hold : (s.tick).hold = s.hold := rfl
@[simp] theorem State.tick_dev : (s.tick).dev = s.dev := rfl
@[simp] theorem State.tick_cfw : (s.tick).cfw = s.cfw := rfl
@[simp] theorem State.tick_host : (s.tick).host = s.host := rfl
@[simp] theorem State.tick_bus : (s.tick).bus = s.bus := rfl
@[simp] theorem State.tick_sec : (s.tick).sec = s.sec := rfl
@[simp] theorem State.tick_fuses : (s.tick).fuses = s.fuses := rfl
@[simp] theorem State.tick_svc : (s.tick).svc = s.svc := rfl
@[simp] theorem State.tick_dbg : (s.tick).dbg = s.dbg := rfl
@[simp] theorem State.tick_twin : (s.tick).twin = s.twin := rfl
@[simp] theorem State.tick_carriers : (s.tick).carriers = s.carriers := rfl
@[simp] theorem State.tick_reels : (s.tick).reels = s.reels := rfl
@[simp] theorem State.tick_lanes : (s.tick).lanes = s.lanes := rfl
@[simp] theorem State.tick_slIn : (s.tick).slIn = s.slIn := rfl
@[simp] theorem State.tick_slOut : (s.tick).slOut = s.slOut := rfl
@[simp] theorem State.tick_fore : (s.tick).fore = s.fore := rfl
@[simp] theorem State.tick_tim : (s.tick).tim = s.tim := rfl
@[simp] theorem State.tick_lblTx : (s.tick).lblTx = s.lblTx := rfl
@[simp] theorem State.tick_lblRx : (s.tick).lblRx = s.lblRx := rfl
@[simp] theorem State.tick_odu : (s.tick).odu = s.odu := rfl
@[simp] theorem State.tick_core : (s.tick).core = s.core := rfl
@[simp] theorem State.tick_prot : (s.tick).prot = s.prot := rfl
@[simp] theorem State.tick_mem : (s.tick).mem = s.mem := rfl
@[simp] theorem State.tick_ctx : (s.tick).ctx = s.ctx := rfl
@[simp] theorem State.tick_sram : (s.tick).sram = s.sram := rfl
@[simp] theorem State.tick_out : (s.tick).out = s.out := rfl
@[simp] theorem State.tick_pending : (s.tick).pending = s.pending := rfl

@[simp] theorem State.withPending_fields (q : List Instr) : (s.withPending q).fields = s.fields := rfl
@[simp] theorem State.withPending_ctrs (q : List Instr) : (s.withPending q).ctrs = s.ctrs := rfl
@[simp] theorem State.withPending_hold (q : List Instr) : (s.withPending q).hold = s.hold := rfl
@[simp] theorem State.withPending_dev (q : List Instr) : (s.withPending q).dev = s.dev := rfl
@[simp] theorem State.withPending_cfw (q : List Instr) : (s.withPending q).cfw = s.cfw := rfl
@[simp] theorem State.withPending_host (q : List Instr) : (s.withPending q).host = s.host := rfl
@[simp] theorem State.withPending_bus (q : List Instr) : (s.withPending q).bus = s.bus := rfl
@[simp] theorem State.withPending_sec (q : List Instr) : (s.withPending q).sec = s.sec := rfl
@[simp] theorem State.withPending_fuses (q : List Instr) : (s.withPending q).fuses = s.fuses := rfl
@[simp] theorem State.withPending_svc (q : List Instr) : (s.withPending q).svc = s.svc := rfl
@[simp] theorem State.withPending_dbg (q : List Instr) : (s.withPending q).dbg = s.dbg := rfl
@[simp] theorem State.withPending_twin (q : List Instr) : (s.withPending q).twin = s.twin := rfl
@[simp] theorem State.withPending_carriers (q : List Instr) : (s.withPending q).carriers = s.carriers := rfl
@[simp] theorem State.withPending_reels (q : List Instr) : (s.withPending q).reels = s.reels := rfl
@[simp] theorem State.withPending_lanes (q : List Instr) : (s.withPending q).lanes = s.lanes := rfl
@[simp] theorem State.withPending_slIn (q : List Instr) : (s.withPending q).slIn = s.slIn := rfl
@[simp] theorem State.withPending_slOut (q : List Instr) : (s.withPending q).slOut = s.slOut := rfl
@[simp] theorem State.withPending_fore (q : List Instr) : (s.withPending q).fore = s.fore := rfl
@[simp] theorem State.withPending_tim (q : List Instr) : (s.withPending q).tim = s.tim := rfl
@[simp] theorem State.withPending_lblTx (q : List Instr) : (s.withPending q).lblTx = s.lblTx := rfl
@[simp] theorem State.withPending_lblRx (q : List Instr) : (s.withPending q).lblRx = s.lblRx := rfl
@[simp] theorem State.withPending_odu (q : List Instr) : (s.withPending q).odu = s.odu := rfl
@[simp] theorem State.withPending_core (q : List Instr) : (s.withPending q).core = s.core := rfl
@[simp] theorem State.withPending_prot (q : List Instr) : (s.withPending q).prot = s.prot := rfl
@[simp] theorem State.withPending_mem (q : List Instr) : (s.withPending q).mem = s.mem := rfl
@[simp] theorem State.withPending_ctx (q : List Instr) : (s.withPending q).ctx = s.ctx := rfl
@[simp] theorem State.withPending_sram (q : List Instr) : (s.withPending q).sram = s.sram := rfl
@[simp] theorem State.withPending_out (q : List Instr) : (s.withPending q).out = s.out := rfl
@[simp] theorem State.withPending_free (q : List Instr) : (s.withPending q).free = s.free := rfl

@[simp] theorem State.setCar_fields (c : Nat) (v : Carrier) : (s.setCar c v).fields = s.fields := rfl
@[simp] theorem State.setCar_ctrs (c : Nat) (v : Carrier) : (s.setCar c v).ctrs = s.ctrs := rfl
@[simp] theorem State.setCar_hold (c : Nat) (v : Carrier) : (s.setCar c v).hold = s.hold := rfl
@[simp] theorem State.setCar_dev (c : Nat) (v : Carrier) : (s.setCar c v).dev = s.dev := rfl
@[simp] theorem State.setCar_cfw (c : Nat) (v : Carrier) : (s.setCar c v).cfw = s.cfw := rfl
@[simp] theorem State.setCar_host (c : Nat) (v : Carrier) : (s.setCar c v).host = s.host := rfl
@[simp] theorem State.setCar_bus (c : Nat) (v : Carrier) : (s.setCar c v).bus = s.bus := rfl
@[simp] theorem State.setCar_sec (c : Nat) (v : Carrier) : (s.setCar c v).sec = s.sec := rfl
@[simp] theorem State.setCar_fuses (c : Nat) (v : Carrier) : (s.setCar c v).fuses = s.fuses := rfl
@[simp] theorem State.setCar_svc (c : Nat) (v : Carrier) : (s.setCar c v).svc = s.svc := rfl
@[simp] theorem State.setCar_dbg (c : Nat) (v : Carrier) : (s.setCar c v).dbg = s.dbg := rfl
@[simp] theorem State.setCar_twin (c : Nat) (v : Carrier) : (s.setCar c v).twin = s.twin := rfl
@[simp] theorem State.setCar_reels (c : Nat) (v : Carrier) : (s.setCar c v).reels = s.reels := rfl
@[simp] theorem State.setCar_lanes (c : Nat) (v : Carrier) : (s.setCar c v).lanes = s.lanes := rfl
@[simp] theorem State.setCar_slIn (c : Nat) (v : Carrier) : (s.setCar c v).slIn = s.slIn := rfl
@[simp] theorem State.setCar_slOut (c : Nat) (v : Carrier) : (s.setCar c v).slOut = s.slOut := rfl
@[simp] theorem State.setCar_fore (c : Nat) (v : Carrier) : (s.setCar c v).fore = s.fore := rfl
@[simp] theorem State.setCar_tim (c : Nat) (v : Carrier) : (s.setCar c v).tim = s.tim := rfl
@[simp] theorem State.setCar_lblTx (c : Nat) (v : Carrier) : (s.setCar c v).lblTx = s.lblTx := rfl
@[simp] theorem State.setCar_lblRx (c : Nat) (v : Carrier) : (s.setCar c v).lblRx = s.lblRx := rfl
@[simp] theorem State.setCar_odu (c : Nat) (v : Carrier) : (s.setCar c v).odu = s.odu := rfl
@[simp] theorem State.setCar_core (c : Nat) (v : Carrier) : (s.setCar c v).core = s.core := rfl
@[simp] theorem State.setCar_prot (c : Nat) (v : Carrier) : (s.setCar c v).prot = s.prot := rfl
@[simp] theorem State.setCar_mem (c : Nat) (v : Carrier) : (s.setCar c v).mem = s.mem := rfl
@[simp] theorem State.setCar_ctx (c : Nat) (v : Carrier) : (s.setCar c v).ctx = s.ctx := rfl
@[simp] theorem State.setCar_sram (c : Nat) (v : Carrier) : (s.setCar c v).sram = s.sram := rfl
@[simp] theorem State.setCar_out (c : Nat) (v : Carrier) : (s.setCar c v).out = s.out := rfl
@[simp] theorem State.setCar_free (c : Nat) (v : Carrier) : (s.setCar c v).free = s.free := rfl
@[simp] theorem State.setCar_pending (c : Nat) (v : Carrier) : (s.setCar c v).pending = s.pending := rfl

@[simp] theorem State.setLane_fields (n : Nat) (v : Lane) : (s.setLane n v).fields = s.fields := rfl
@[simp] theorem State.setLane_ctrs (n : Nat) (v : Lane) : (s.setLane n v).ctrs = s.ctrs := rfl
@[simp] theorem State.setLane_hold (n : Nat) (v : Lane) : (s.setLane n v).hold = s.hold := rfl
@[simp] theorem State.setLane_dev (n : Nat) (v : Lane) : (s.setLane n v).dev = s.dev := rfl
@[simp] theorem State.setLane_cfw (n : Nat) (v : Lane) : (s.setLane n v).cfw = s.cfw := rfl
@[simp] theorem State.setLane_host (n : Nat) (v : Lane) : (s.setLane n v).host = s.host := rfl
@[simp] theorem State.setLane_bus (n : Nat) (v : Lane) : (s.setLane n v).bus = s.bus := rfl
@[simp] theorem State.setLane_sec (n : Nat) (v : Lane) : (s.setLane n v).sec = s.sec := rfl
@[simp] theorem State.setLane_fuses (n : Nat) (v : Lane) : (s.setLane n v).fuses = s.fuses := rfl
@[simp] theorem State.setLane_svc (n : Nat) (v : Lane) : (s.setLane n v).svc = s.svc := rfl
@[simp] theorem State.setLane_dbg (n : Nat) (v : Lane) : (s.setLane n v).dbg = s.dbg := rfl
@[simp] theorem State.setLane_twin (n : Nat) (v : Lane) : (s.setLane n v).twin = s.twin := rfl
@[simp] theorem State.setLane_carriers (n : Nat) (v : Lane) : (s.setLane n v).carriers = s.carriers := rfl
@[simp] theorem State.setLane_reels (n : Nat) (v : Lane) : (s.setLane n v).reels = s.reels := rfl
@[simp] theorem State.setLane_slIn (n : Nat) (v : Lane) : (s.setLane n v).slIn = s.slIn := rfl
@[simp] theorem State.setLane_slOut (n : Nat) (v : Lane) : (s.setLane n v).slOut = s.slOut := rfl
@[simp] theorem State.setLane_fore (n : Nat) (v : Lane) : (s.setLane n v).fore = s.fore := rfl
@[simp] theorem State.setLane_tim (n : Nat) (v : Lane) : (s.setLane n v).tim = s.tim := rfl
@[simp] theorem State.setLane_lblTx (n : Nat) (v : Lane) : (s.setLane n v).lblTx = s.lblTx := rfl
@[simp] theorem State.setLane_lblRx (n : Nat) (v : Lane) : (s.setLane n v).lblRx = s.lblRx := rfl
@[simp] theorem State.setLane_odu (n : Nat) (v : Lane) : (s.setLane n v).odu = s.odu := rfl
@[simp] theorem State.setLane_core (n : Nat) (v : Lane) : (s.setLane n v).core = s.core := rfl
@[simp] theorem State.setLane_prot (n : Nat) (v : Lane) : (s.setLane n v).prot = s.prot := rfl
@[simp] theorem State.setLane_mem (n : Nat) (v : Lane) : (s.setLane n v).mem = s.mem := rfl
@[simp] theorem State.setLane_ctx (n : Nat) (v : Lane) : (s.setLane n v).ctx = s.ctx := rfl
@[simp] theorem State.setLane_sram (n : Nat) (v : Lane) : (s.setLane n v).sram = s.sram := rfl
@[simp] theorem State.setLane_out (n : Nat) (v : Lane) : (s.setLane n v).out = s.out := rfl
@[simp] theorem State.setLane_free (n : Nat) (v : Lane) : (s.setLane n v).free = s.free := rfl
@[simp] theorem State.setLane_pending (n : Nat) (v : Lane) : (s.setLane n v).pending = s.pending := rfl

@[simp] theorem State.setLrx_fields (x : Nat) (v : LblRx) : (s.setLrx x v).fields = s.fields := rfl
@[simp] theorem State.setLrx_ctrs (x : Nat) (v : LblRx) : (s.setLrx x v).ctrs = s.ctrs := rfl
@[simp] theorem State.setLrx_hold (x : Nat) (v : LblRx) : (s.setLrx x v).hold = s.hold := rfl
@[simp] theorem State.setLrx_dev (x : Nat) (v : LblRx) : (s.setLrx x v).dev = s.dev := rfl
@[simp] theorem State.setLrx_cfw (x : Nat) (v : LblRx) : (s.setLrx x v).cfw = s.cfw := rfl
@[simp] theorem State.setLrx_host (x : Nat) (v : LblRx) : (s.setLrx x v).host = s.host := rfl
@[simp] theorem State.setLrx_bus (x : Nat) (v : LblRx) : (s.setLrx x v).bus = s.bus := rfl
@[simp] theorem State.setLrx_sec (x : Nat) (v : LblRx) : (s.setLrx x v).sec = s.sec := rfl
@[simp] theorem State.setLrx_fuses (x : Nat) (v : LblRx) : (s.setLrx x v).fuses = s.fuses := rfl
@[simp] theorem State.setLrx_svc (x : Nat) (v : LblRx) : (s.setLrx x v).svc = s.svc := rfl
@[simp] theorem State.setLrx_dbg (x : Nat) (v : LblRx) : (s.setLrx x v).dbg = s.dbg := rfl
@[simp] theorem State.setLrx_twin (x : Nat) (v : LblRx) : (s.setLrx x v).twin = s.twin := rfl
@[simp] theorem State.setLrx_carriers (x : Nat) (v : LblRx) : (s.setLrx x v).carriers = s.carriers := rfl
@[simp] theorem State.setLrx_reels (x : Nat) (v : LblRx) : (s.setLrx x v).reels = s.reels := rfl
@[simp] theorem State.setLrx_lanes (x : Nat) (v : LblRx) : (s.setLrx x v).lanes = s.lanes := rfl
@[simp] theorem State.setLrx_slIn (x : Nat) (v : LblRx) : (s.setLrx x v).slIn = s.slIn := rfl
@[simp] theorem State.setLrx_slOut (x : Nat) (v : LblRx) : (s.setLrx x v).slOut = s.slOut := rfl
@[simp] theorem State.setLrx_fore (x : Nat) (v : LblRx) : (s.setLrx x v).fore = s.fore := rfl
@[simp] theorem State.setLrx_tim (x : Nat) (v : LblRx) : (s.setLrx x v).tim = s.tim := rfl
@[simp] theorem State.setLrx_lblTx (x : Nat) (v : LblRx) : (s.setLrx x v).lblTx = s.lblTx := rfl
@[simp] theorem State.setLrx_odu (x : Nat) (v : LblRx) : (s.setLrx x v).odu = s.odu := rfl
@[simp] theorem State.setLrx_core (x : Nat) (v : LblRx) : (s.setLrx x v).core = s.core := rfl
@[simp] theorem State.setLrx_prot (x : Nat) (v : LblRx) : (s.setLrx x v).prot = s.prot := rfl
@[simp] theorem State.setLrx_mem (x : Nat) (v : LblRx) : (s.setLrx x v).mem = s.mem := rfl
@[simp] theorem State.setLrx_ctx (x : Nat) (v : LblRx) : (s.setLrx x v).ctx = s.ctx := rfl
@[simp] theorem State.setLrx_sram (x : Nat) (v : LblRx) : (s.setLrx x v).sram = s.sram := rfl
@[simp] theorem State.setLrx_out (x : Nat) (v : LblRx) : (s.setLrx x v).out = s.out := rfl
@[simp] theorem State.setLrx_free (x : Nat) (v : LblRx) : (s.setLrx x v).free = s.free := rfl
@[simp] theorem State.setLrx_pending (x : Nat) (v : LblRx) : (s.setLrx x v).pending = s.pending := rfl

@[simp] theorem State.setRun_fields (x : Nat) (r : PointRun) : (s.setRun x r).fields = s.fields := rfl
@[simp] theorem State.setRun_ctrs (x : Nat) (r : PointRun) : (s.setRun x r).ctrs = s.ctrs := rfl
@[simp] theorem State.setRun_hold (x : Nat) (r : PointRun) : (s.setRun x r).hold = s.hold := rfl
@[simp] theorem State.setRun_dev (x : Nat) (r : PointRun) : (s.setRun x r).dev = s.dev := rfl
@[simp] theorem State.setRun_cfw (x : Nat) (r : PointRun) : (s.setRun x r).cfw = s.cfw := rfl
@[simp] theorem State.setRun_host (x : Nat) (r : PointRun) : (s.setRun x r).host = s.host := rfl
@[simp] theorem State.setRun_bus (x : Nat) (r : PointRun) : (s.setRun x r).bus = s.bus := rfl
@[simp] theorem State.setRun_sec (x : Nat) (r : PointRun) : (s.setRun x r).sec = s.sec := rfl
@[simp] theorem State.setRun_fuses (x : Nat) (r : PointRun) : (s.setRun x r).fuses = s.fuses := rfl
@[simp] theorem State.setRun_svc (x : Nat) (r : PointRun) : (s.setRun x r).svc = s.svc := rfl
@[simp] theorem State.setRun_dbg (x : Nat) (r : PointRun) : (s.setRun x r).dbg = s.dbg := rfl
@[simp] theorem State.setRun_twin (x : Nat) (r : PointRun) : (s.setRun x r).twin = s.twin := rfl
@[simp] theorem State.setRun_carriers (x : Nat) (r : PointRun) : (s.setRun x r).carriers = s.carriers := rfl
@[simp] theorem State.setRun_reels (x : Nat) (r : PointRun) : (s.setRun x r).reels = s.reels := rfl
@[simp] theorem State.setRun_lanes (x : Nat) (r : PointRun) : (s.setRun x r).lanes = s.lanes := rfl
@[simp] theorem State.setRun_slIn (x : Nat) (r : PointRun) : (s.setRun x r).slIn = s.slIn := rfl
@[simp] theorem State.setRun_slOut (x : Nat) (r : PointRun) : (s.setRun x r).slOut = s.slOut := rfl
@[simp] theorem State.setRun_fore (x : Nat) (r : PointRun) : (s.setRun x r).fore = s.fore := rfl
@[simp] theorem State.setRun_tim (x : Nat) (r : PointRun) : (s.setRun x r).tim = s.tim := rfl
@[simp] theorem State.setRun_lblTx (x : Nat) (r : PointRun) : (s.setRun x r).lblTx = s.lblTx := rfl
@[simp] theorem State.setRun_lblRx (x : Nat) (r : PointRun) : (s.setRun x r).lblRx = s.lblRx := rfl
@[simp] theorem State.setRun_core (x : Nat) (r : PointRun) : (s.setRun x r).core = s.core := rfl
@[simp] theorem State.setRun_prot (x : Nat) (r : PointRun) : (s.setRun x r).prot = s.prot := rfl
@[simp] theorem State.setRun_mem (x : Nat) (r : PointRun) : (s.setRun x r).mem = s.mem := rfl
@[simp] theorem State.setRun_ctx (x : Nat) (r : PointRun) : (s.setRun x r).ctx = s.ctx := rfl
@[simp] theorem State.setRun_sram (x : Nat) (r : PointRun) : (s.setRun x r).sram = s.sram := rfl
@[simp] theorem State.setRun_out (x : Nat) (r : PointRun) : (s.setRun x r).out = s.out := rfl
@[simp] theorem State.setRun_free (x : Nat) (r : PointRun) : (s.setRun x r).free = s.free := rfl
@[simp] theorem State.setRun_pending (x : Nat) (r : PointRun) : (s.setRun x r).pending = s.pending := rfl

@[simp] theorem State.setPg_fields (g : Nat) (v : PgState) : (s.setPg g v).fields = s.fields := rfl
@[simp] theorem State.setPg_ctrs (g : Nat) (v : PgState) : (s.setPg g v).ctrs = s.ctrs := rfl
@[simp] theorem State.setPg_hold (g : Nat) (v : PgState) : (s.setPg g v).hold = s.hold := rfl
@[simp] theorem State.setPg_dev (g : Nat) (v : PgState) : (s.setPg g v).dev = s.dev := rfl
@[simp] theorem State.setPg_cfw (g : Nat) (v : PgState) : (s.setPg g v).cfw = s.cfw := rfl
@[simp] theorem State.setPg_host (g : Nat) (v : PgState) : (s.setPg g v).host = s.host := rfl
@[simp] theorem State.setPg_bus (g : Nat) (v : PgState) : (s.setPg g v).bus = s.bus := rfl
@[simp] theorem State.setPg_sec (g : Nat) (v : PgState) : (s.setPg g v).sec = s.sec := rfl
@[simp] theorem State.setPg_fuses (g : Nat) (v : PgState) : (s.setPg g v).fuses = s.fuses := rfl
@[simp] theorem State.setPg_svc (g : Nat) (v : PgState) : (s.setPg g v).svc = s.svc := rfl
@[simp] theorem State.setPg_dbg (g : Nat) (v : PgState) : (s.setPg g v).dbg = s.dbg := rfl
@[simp] theorem State.setPg_twin (g : Nat) (v : PgState) : (s.setPg g v).twin = s.twin := rfl
@[simp] theorem State.setPg_carriers (g : Nat) (v : PgState) : (s.setPg g v).carriers = s.carriers := rfl
@[simp] theorem State.setPg_reels (g : Nat) (v : PgState) : (s.setPg g v).reels = s.reels := rfl
@[simp] theorem State.setPg_lanes (g : Nat) (v : PgState) : (s.setPg g v).lanes = s.lanes := rfl
@[simp] theorem State.setPg_slIn (g : Nat) (v : PgState) : (s.setPg g v).slIn = s.slIn := rfl
@[simp] theorem State.setPg_slOut (g : Nat) (v : PgState) : (s.setPg g v).slOut = s.slOut := rfl
@[simp] theorem State.setPg_fore (g : Nat) (v : PgState) : (s.setPg g v).fore = s.fore := rfl
@[simp] theorem State.setPg_tim (g : Nat) (v : PgState) : (s.setPg g v).tim = s.tim := rfl
@[simp] theorem State.setPg_lblTx (g : Nat) (v : PgState) : (s.setPg g v).lblTx = s.lblTx := rfl
@[simp] theorem State.setPg_lblRx (g : Nat) (v : PgState) : (s.setPg g v).lblRx = s.lblRx := rfl
@[simp] theorem State.setPg_odu (g : Nat) (v : PgState) : (s.setPg g v).odu = s.odu := rfl
@[simp] theorem State.setPg_core (g : Nat) (v : PgState) : (s.setPg g v).core = s.core := rfl
@[simp] theorem State.setPg_mem (g : Nat) (v : PgState) : (s.setPg g v).mem = s.mem := rfl
@[simp] theorem State.setPg_ctx (g : Nat) (v : PgState) : (s.setPg g v).ctx = s.ctx := rfl
@[simp] theorem State.setPg_sram (g : Nat) (v : PgState) : (s.setPg g v).sram = s.sram := rfl
@[simp] theorem State.setPg_out (g : Nat) (v : PgState) : (s.setPg g v).out = s.out := rfl
@[simp] theorem State.setPg_free (g : Nat) (v : PgState) : (s.setPg g v).free = s.free := rfl
@[simp] theorem State.setPg_pending (g : Nat) (v : PgState) : (s.setPg g v).pending = s.pending := rfl

@[simp] theorem State.setAligner_fields (g : Nat) (v : Aligner) : (s.setAligner g v).fields = s.fields := rfl
@[simp] theorem State.setAligner_ctrs (g : Nat) (v : Aligner) : (s.setAligner g v).ctrs = s.ctrs := rfl
@[simp] theorem State.setAligner_hold (g : Nat) (v : Aligner) : (s.setAligner g v).hold = s.hold := rfl
@[simp] theorem State.setAligner_dev (g : Nat) (v : Aligner) : (s.setAligner g v).dev = s.dev := rfl
@[simp] theorem State.setAligner_cfw (g : Nat) (v : Aligner) : (s.setAligner g v).cfw = s.cfw := rfl
@[simp] theorem State.setAligner_host (g : Nat) (v : Aligner) : (s.setAligner g v).host = s.host := rfl
@[simp] theorem State.setAligner_bus (g : Nat) (v : Aligner) : (s.setAligner g v).bus = s.bus := rfl
@[simp] theorem State.setAligner_sec (g : Nat) (v : Aligner) : (s.setAligner g v).sec = s.sec := rfl
@[simp] theorem State.setAligner_fuses (g : Nat) (v : Aligner) : (s.setAligner g v).fuses = s.fuses := rfl
@[simp] theorem State.setAligner_svc (g : Nat) (v : Aligner) : (s.setAligner g v).svc = s.svc := rfl
@[simp] theorem State.setAligner_dbg (g : Nat) (v : Aligner) : (s.setAligner g v).dbg = s.dbg := rfl
@[simp] theorem State.setAligner_twin (g : Nat) (v : Aligner) : (s.setAligner g v).twin = s.twin := rfl
@[simp] theorem State.setAligner_carriers (g : Nat) (v : Aligner) : (s.setAligner g v).carriers = s.carriers := rfl
@[simp] theorem State.setAligner_reels (g : Nat) (v : Aligner) : (s.setAligner g v).reels = s.reels := rfl
@[simp] theorem State.setAligner_lanes (g : Nat) (v : Aligner) : (s.setAligner g v).lanes = s.lanes := rfl
@[simp] theorem State.setAligner_slIn (g : Nat) (v : Aligner) : (s.setAligner g v).slIn = s.slIn := rfl
@[simp] theorem State.setAligner_slOut (g : Nat) (v : Aligner) : (s.setAligner g v).slOut = s.slOut := rfl
@[simp] theorem State.setAligner_fore (g : Nat) (v : Aligner) : (s.setAligner g v).fore = s.fore := rfl
@[simp] theorem State.setAligner_tim (g : Nat) (v : Aligner) : (s.setAligner g v).tim = s.tim := rfl
@[simp] theorem State.setAligner_lblTx (g : Nat) (v : Aligner) : (s.setAligner g v).lblTx = s.lblTx := rfl
@[simp] theorem State.setAligner_lblRx (g : Nat) (v : Aligner) : (s.setAligner g v).lblRx = s.lblRx := rfl
@[simp] theorem State.setAligner_odu (g : Nat) (v : Aligner) : (s.setAligner g v).odu = s.odu := rfl
@[simp] theorem State.setAligner_core (g : Nat) (v : Aligner) : (s.setAligner g v).core = s.core := rfl
@[simp] theorem State.setAligner_mem (g : Nat) (v : Aligner) : (s.setAligner g v).mem = s.mem := rfl
@[simp] theorem State.setAligner_ctx (g : Nat) (v : Aligner) : (s.setAligner g v).ctx = s.ctx := rfl
@[simp] theorem State.setAligner_sram (g : Nat) (v : Aligner) : (s.setAligner g v).sram = s.sram := rfl
@[simp] theorem State.setAligner_out (g : Nat) (v : Aligner) : (s.setAligner g v).out = s.out := rfl
@[simp] theorem State.setAligner_free (g : Nat) (v : Aligner) : (s.setAligner g v).free = s.free := rfl
@[simp] theorem State.setAligner_pending (g : Nat) (v : Aligner) : (s.setAligner g v).pending = s.pending := rfl

@[simp] theorem State.setChan_fields (k : Nat) (c : DmaChan) : (s.setChan k c).fields = s.fields := rfl
@[simp] theorem State.setChan_ctrs (k : Nat) (c : DmaChan) : (s.setChan k c).ctrs = s.ctrs := rfl
@[simp] theorem State.setChan_hold (k : Nat) (c : DmaChan) : (s.setChan k c).hold = s.hold := rfl
@[simp] theorem State.setChan_dev (k : Nat) (c : DmaChan) : (s.setChan k c).dev = s.dev := rfl
@[simp] theorem State.setChan_cfw (k : Nat) (c : DmaChan) : (s.setChan k c).cfw = s.cfw := rfl
@[simp] theorem State.setChan_bus (k : Nat) (c : DmaChan) : (s.setChan k c).bus = s.bus := rfl
@[simp] theorem State.setChan_sec (k : Nat) (c : DmaChan) : (s.setChan k c).sec = s.sec := rfl
@[simp] theorem State.setChan_fuses (k : Nat) (c : DmaChan) : (s.setChan k c).fuses = s.fuses := rfl
@[simp] theorem State.setChan_svc (k : Nat) (c : DmaChan) : (s.setChan k c).svc = s.svc := rfl
@[simp] theorem State.setChan_dbg (k : Nat) (c : DmaChan) : (s.setChan k c).dbg = s.dbg := rfl
@[simp] theorem State.setChan_twin (k : Nat) (c : DmaChan) : (s.setChan k c).twin = s.twin := rfl
@[simp] theorem State.setChan_carriers (k : Nat) (c : DmaChan) : (s.setChan k c).carriers = s.carriers := rfl
@[simp] theorem State.setChan_reels (k : Nat) (c : DmaChan) : (s.setChan k c).reels = s.reels := rfl
@[simp] theorem State.setChan_lanes (k : Nat) (c : DmaChan) : (s.setChan k c).lanes = s.lanes := rfl
@[simp] theorem State.setChan_slIn (k : Nat) (c : DmaChan) : (s.setChan k c).slIn = s.slIn := rfl
@[simp] theorem State.setChan_slOut (k : Nat) (c : DmaChan) : (s.setChan k c).slOut = s.slOut := rfl
@[simp] theorem State.setChan_fore (k : Nat) (c : DmaChan) : (s.setChan k c).fore = s.fore := rfl
@[simp] theorem State.setChan_tim (k : Nat) (c : DmaChan) : (s.setChan k c).tim = s.tim := rfl
@[simp] theorem State.setChan_lblTx (k : Nat) (c : DmaChan) : (s.setChan k c).lblTx = s.lblTx := rfl
@[simp] theorem State.setChan_lblRx (k : Nat) (c : DmaChan) : (s.setChan k c).lblRx = s.lblRx := rfl
@[simp] theorem State.setChan_odu (k : Nat) (c : DmaChan) : (s.setChan k c).odu = s.odu := rfl
@[simp] theorem State.setChan_core (k : Nat) (c : DmaChan) : (s.setChan k c).core = s.core := rfl
@[simp] theorem State.setChan_prot (k : Nat) (c : DmaChan) : (s.setChan k c).prot = s.prot := rfl
@[simp] theorem State.setChan_mem (k : Nat) (c : DmaChan) : (s.setChan k c).mem = s.mem := rfl
@[simp] theorem State.setChan_ctx (k : Nat) (c : DmaChan) : (s.setChan k c).ctx = s.ctx := rfl
@[simp] theorem State.setChan_sram (k : Nat) (c : DmaChan) : (s.setChan k c).sram = s.sram := rfl
@[simp] theorem State.setChan_out (k : Nat) (c : DmaChan) : (s.setChan k c).out = s.out := rfl
@[simp] theorem State.setChan_free (k : Nat) (c : DmaChan) : (s.setChan k c).free = s.free := rfl
@[simp] theorem State.setChan_pending (k : Nat) (c : DmaChan) : (s.setChan k c).pending = s.pending := rfl

@[simp] theorem State.setDbg_fields (d : Dbg) : (s.setDbg d).fields = s.fields := rfl
@[simp] theorem State.setDbg_ctrs (d : Dbg) : (s.setDbg d).ctrs = s.ctrs := rfl
@[simp] theorem State.setDbg_hold (d : Dbg) : (s.setDbg d).hold = s.hold := rfl
@[simp] theorem State.setDbg_dev (d : Dbg) : (s.setDbg d).dev = s.dev := rfl
@[simp] theorem State.setDbg_cfw (d : Dbg) : (s.setDbg d).cfw = s.cfw := rfl
@[simp] theorem State.setDbg_host (d : Dbg) : (s.setDbg d).host = s.host := rfl
@[simp] theorem State.setDbg_bus (d : Dbg) : (s.setDbg d).bus = s.bus := rfl
@[simp] theorem State.setDbg_sec (d : Dbg) : (s.setDbg d).sec = s.sec := rfl
@[simp] theorem State.setDbg_fuses (d : Dbg) : (s.setDbg d).fuses = s.fuses := rfl
@[simp] theorem State.setDbg_svc (d : Dbg) : (s.setDbg d).svc = s.svc := rfl
@[simp] theorem State.setDbg_twin (d : Dbg) : (s.setDbg d).twin = s.twin := rfl
@[simp] theorem State.setDbg_carriers (d : Dbg) : (s.setDbg d).carriers = s.carriers := rfl
@[simp] theorem State.setDbg_reels (d : Dbg) : (s.setDbg d).reels = s.reels := rfl
@[simp] theorem State.setDbg_lanes (d : Dbg) : (s.setDbg d).lanes = s.lanes := rfl
@[simp] theorem State.setDbg_slIn (d : Dbg) : (s.setDbg d).slIn = s.slIn := rfl
@[simp] theorem State.setDbg_slOut (d : Dbg) : (s.setDbg d).slOut = s.slOut := rfl
@[simp] theorem State.setDbg_fore (d : Dbg) : (s.setDbg d).fore = s.fore := rfl
@[simp] theorem State.setDbg_tim (d : Dbg) : (s.setDbg d).tim = s.tim := rfl
@[simp] theorem State.setDbg_lblTx (d : Dbg) : (s.setDbg d).lblTx = s.lblTx := rfl
@[simp] theorem State.setDbg_lblRx (d : Dbg) : (s.setDbg d).lblRx = s.lblRx := rfl
@[simp] theorem State.setDbg_odu (d : Dbg) : (s.setDbg d).odu = s.odu := rfl
@[simp] theorem State.setDbg_core (d : Dbg) : (s.setDbg d).core = s.core := rfl
@[simp] theorem State.setDbg_prot (d : Dbg) : (s.setDbg d).prot = s.prot := rfl
@[simp] theorem State.setDbg_mem (d : Dbg) : (s.setDbg d).mem = s.mem := rfl
@[simp] theorem State.setDbg_ctx (d : Dbg) : (s.setDbg d).ctx = s.ctx := rfl
@[simp] theorem State.setDbg_sram (d : Dbg) : (s.setDbg d).sram = s.sram := rfl
@[simp] theorem State.setDbg_out (d : Dbg) : (s.setDbg d).out = s.out := rfl
@[simp] theorem State.setDbg_free (d : Dbg) : (s.setDbg d).free = s.free := rfl
@[simp] theorem State.setDbg_pending (d : Dbg) : (s.setDbg d).pending = s.pending := rfl

@[simp] theorem State.setCpu_fields (k : Nat) (c : CoreState) : (s.setCpu k c).fields = s.fields := rfl
@[simp] theorem State.setCpu_ctrs (k : Nat) (c : CoreState) : (s.setCpu k c).ctrs = s.ctrs := rfl
@[simp] theorem State.setCpu_hold (k : Nat) (c : CoreState) : (s.setCpu k c).hold = s.hold := rfl
@[simp] theorem State.setCpu_dev (k : Nat) (c : CoreState) : (s.setCpu k c).dev = s.dev := rfl
@[simp] theorem State.setCpu_cfw (k : Nat) (c : CoreState) : (s.setCpu k c).cfw = s.cfw := rfl
@[simp] theorem State.setCpu_host (k : Nat) (c : CoreState) : (s.setCpu k c).host = s.host := rfl
@[simp] theorem State.setCpu_bus (k : Nat) (c : CoreState) : (s.setCpu k c).bus = s.bus := rfl
@[simp] theorem State.setCpu_sec (k : Nat) (c : CoreState) : (s.setCpu k c).sec = s.sec := rfl
@[simp] theorem State.setCpu_fuses (k : Nat) (c : CoreState) : (s.setCpu k c).fuses = s.fuses := rfl
@[simp] theorem State.setCpu_svc (k : Nat) (c : CoreState) : (s.setCpu k c).svc = s.svc := rfl
@[simp] theorem State.setCpu_twin (k : Nat) (c : CoreState) : (s.setCpu k c).twin = s.twin := rfl
@[simp] theorem State.setCpu_carriers (k : Nat) (c : CoreState) : (s.setCpu k c).carriers = s.carriers := rfl
@[simp] theorem State.setCpu_reels (k : Nat) (c : CoreState) : (s.setCpu k c).reels = s.reels := rfl
@[simp] theorem State.setCpu_lanes (k : Nat) (c : CoreState) : (s.setCpu k c).lanes = s.lanes := rfl
@[simp] theorem State.setCpu_slIn (k : Nat) (c : CoreState) : (s.setCpu k c).slIn = s.slIn := rfl
@[simp] theorem State.setCpu_slOut (k : Nat) (c : CoreState) : (s.setCpu k c).slOut = s.slOut := rfl
@[simp] theorem State.setCpu_fore (k : Nat) (c : CoreState) : (s.setCpu k c).fore = s.fore := rfl
@[simp] theorem State.setCpu_tim (k : Nat) (c : CoreState) : (s.setCpu k c).tim = s.tim := rfl
@[simp] theorem State.setCpu_lblTx (k : Nat) (c : CoreState) : (s.setCpu k c).lblTx = s.lblTx := rfl
@[simp] theorem State.setCpu_lblRx (k : Nat) (c : CoreState) : (s.setCpu k c).lblRx = s.lblRx := rfl
@[simp] theorem State.setCpu_odu (k : Nat) (c : CoreState) : (s.setCpu k c).odu = s.odu := rfl
@[simp] theorem State.setCpu_core (k : Nat) (c : CoreState) : (s.setCpu k c).core = s.core := rfl
@[simp] theorem State.setCpu_prot (k : Nat) (c : CoreState) : (s.setCpu k c).prot = s.prot := rfl
@[simp] theorem State.setCpu_mem (k : Nat) (c : CoreState) : (s.setCpu k c).mem = s.mem := rfl
@[simp] theorem State.setCpu_ctx (k : Nat) (c : CoreState) : (s.setCpu k c).ctx = s.ctx := rfl
@[simp] theorem State.setCpu_sram (k : Nat) (c : CoreState) : (s.setCpu k c).sram = s.sram := rfl
@[simp] theorem State.setCpu_out (k : Nat) (c : CoreState) : (s.setCpu k c).out = s.out := rfl
@[simp] theorem State.setCpu_free (k : Nat) (c : CoreState) : (s.setCpu k c).free = s.free := rfl
@[simp] theorem State.setCpu_pending (k : Nat) (c : CoreState) : (s.setCpu k c).pending = s.pending := rfl

@[simp] theorem State.setTim_fields (t : Timing) : (s.setTim t).fields = s.fields := rfl
@[simp] theorem State.setTim_ctrs (t : Timing) : (s.setTim t).ctrs = s.ctrs := rfl
@[simp] theorem State.setTim_hold (t : Timing) : (s.setTim t).hold = s.hold := rfl
@[simp] theorem State.setTim_dev (t : Timing) : (s.setTim t).dev = s.dev := rfl
@[simp] theorem State.setTim_cfw (t : Timing) : (s.setTim t).cfw = s.cfw := rfl
@[simp] theorem State.setTim_host (t : Timing) : (s.setTim t).host = s.host := rfl
@[simp] theorem State.setTim_bus (t : Timing) : (s.setTim t).bus = s.bus := rfl
@[simp] theorem State.setTim_sec (t : Timing) : (s.setTim t).sec = s.sec := rfl
@[simp] theorem State.setTim_fuses (t : Timing) : (s.setTim t).fuses = s.fuses := rfl
@[simp] theorem State.setTim_svc (t : Timing) : (s.setTim t).svc = s.svc := rfl
@[simp] theorem State.setTim_dbg (t : Timing) : (s.setTim t).dbg = s.dbg := rfl
@[simp] theorem State.setTim_twin (t : Timing) : (s.setTim t).twin = s.twin := rfl
@[simp] theorem State.setTim_carriers (t : Timing) : (s.setTim t).carriers = s.carriers := rfl
@[simp] theorem State.setTim_reels (t : Timing) : (s.setTim t).reels = s.reels := rfl
@[simp] theorem State.setTim_lanes (t : Timing) : (s.setTim t).lanes = s.lanes := rfl
@[simp] theorem State.setTim_slIn (t : Timing) : (s.setTim t).slIn = s.slIn := rfl
@[simp] theorem State.setTim_slOut (t : Timing) : (s.setTim t).slOut = s.slOut := rfl
@[simp] theorem State.setTim_fore (t : Timing) : (s.setTim t).fore = s.fore := rfl
@[simp] theorem State.setTim_lblTx (t : Timing) : (s.setTim t).lblTx = s.lblTx := rfl
@[simp] theorem State.setTim_lblRx (t : Timing) : (s.setTim t).lblRx = s.lblRx := rfl
@[simp] theorem State.setTim_odu (t : Timing) : (s.setTim t).odu = s.odu := rfl
@[simp] theorem State.setTim_core (t : Timing) : (s.setTim t).core = s.core := rfl
@[simp] theorem State.setTim_prot (t : Timing) : (s.setTim t).prot = s.prot := rfl
@[simp] theorem State.setTim_mem (t : Timing) : (s.setTim t).mem = s.mem := rfl
@[simp] theorem State.setTim_ctx (t : Timing) : (s.setTim t).ctx = s.ctx := rfl
@[simp] theorem State.setTim_sram (t : Timing) : (s.setTim t).sram = s.sram := rfl
@[simp] theorem State.setTim_out (t : Timing) : (s.setTim t).out = s.out := rfl
@[simp] theorem State.setTim_free (t : Timing) : (s.setTim t).free = s.free := rfl
@[simp] theorem State.setTim_pending (t : Timing) : (s.setTim t).pending = s.pending := rfl

@[simp] theorem State.setRef_fields (r : Nat) (v : RefState) : (s.setRef r v).fields = s.fields := rfl
@[simp] theorem State.setRef_ctrs (r : Nat) (v : RefState) : (s.setRef r v).ctrs = s.ctrs := rfl
@[simp] theorem State.setRef_hold (r : Nat) (v : RefState) : (s.setRef r v).hold = s.hold := rfl
@[simp] theorem State.setRef_dev (r : Nat) (v : RefState) : (s.setRef r v).dev = s.dev := rfl
@[simp] theorem State.setRef_cfw (r : Nat) (v : RefState) : (s.setRef r v).cfw = s.cfw := rfl
@[simp] theorem State.setRef_host (r : Nat) (v : RefState) : (s.setRef r v).host = s.host := rfl
@[simp] theorem State.setRef_bus (r : Nat) (v : RefState) : (s.setRef r v).bus = s.bus := rfl
@[simp] theorem State.setRef_sec (r : Nat) (v : RefState) : (s.setRef r v).sec = s.sec := rfl
@[simp] theorem State.setRef_fuses (r : Nat) (v : RefState) : (s.setRef r v).fuses = s.fuses := rfl
@[simp] theorem State.setRef_svc (r : Nat) (v : RefState) : (s.setRef r v).svc = s.svc := rfl
@[simp] theorem State.setRef_dbg (r : Nat) (v : RefState) : (s.setRef r v).dbg = s.dbg := rfl
@[simp] theorem State.setRef_twin (r : Nat) (v : RefState) : (s.setRef r v).twin = s.twin := rfl
@[simp] theorem State.setRef_carriers (r : Nat) (v : RefState) : (s.setRef r v).carriers = s.carriers := rfl
@[simp] theorem State.setRef_reels (r : Nat) (v : RefState) : (s.setRef r v).reels = s.reels := rfl
@[simp] theorem State.setRef_lanes (r : Nat) (v : RefState) : (s.setRef r v).lanes = s.lanes := rfl
@[simp] theorem State.setRef_slIn (r : Nat) (v : RefState) : (s.setRef r v).slIn = s.slIn := rfl
@[simp] theorem State.setRef_slOut (r : Nat) (v : RefState) : (s.setRef r v).slOut = s.slOut := rfl
@[simp] theorem State.setRef_fore (r : Nat) (v : RefState) : (s.setRef r v).fore = s.fore := rfl
@[simp] theorem State.setRef_lblTx (r : Nat) (v : RefState) : (s.setRef r v).lblTx = s.lblTx := rfl
@[simp] theorem State.setRef_lblRx (r : Nat) (v : RefState) : (s.setRef r v).lblRx = s.lblRx := rfl
@[simp] theorem State.setRef_odu (r : Nat) (v : RefState) : (s.setRef r v).odu = s.odu := rfl
@[simp] theorem State.setRef_core (r : Nat) (v : RefState) : (s.setRef r v).core = s.core := rfl
@[simp] theorem State.setRef_prot (r : Nat) (v : RefState) : (s.setRef r v).prot = s.prot := rfl
@[simp] theorem State.setRef_mem (r : Nat) (v : RefState) : (s.setRef r v).mem = s.mem := rfl
@[simp] theorem State.setRef_ctx (r : Nat) (v : RefState) : (s.setRef r v).ctx = s.ctx := rfl
@[simp] theorem State.setRef_sram (r : Nat) (v : RefState) : (s.setRef r v).sram = s.sram := rfl
@[simp] theorem State.setRef_out (r : Nat) (v : RefState) : (s.setRef r v).out = s.out := rfl
@[simp] theorem State.setRef_free (r : Nat) (v : RefState) : (s.setRef r v).free = s.free := rfl
@[simp] theorem State.setRef_pending (r : Nat) (v : RefState) : (s.setRef r v).pending = s.pending := rfl

@[simp] theorem State.setSa_fields (a : Nat) (v : SaState) : (s.setSa a v).fields = s.fields := rfl
@[simp] theorem State.setSa_ctrs (a : Nat) (v : SaState) : (s.setSa a v).ctrs = s.ctrs := rfl
@[simp] theorem State.setSa_hold (a : Nat) (v : SaState) : (s.setSa a v).hold = s.hold := rfl
@[simp] theorem State.setSa_dev (a : Nat) (v : SaState) : (s.setSa a v).dev = s.dev := rfl
@[simp] theorem State.setSa_cfw (a : Nat) (v : SaState) : (s.setSa a v).cfw = s.cfw := rfl
@[simp] theorem State.setSa_host (a : Nat) (v : SaState) : (s.setSa a v).host = s.host := rfl
@[simp] theorem State.setSa_bus (a : Nat) (v : SaState) : (s.setSa a v).bus = s.bus := rfl
@[simp] theorem State.setSa_fuses (a : Nat) (v : SaState) : (s.setSa a v).fuses = s.fuses := rfl
@[simp] theorem State.setSa_svc (a : Nat) (v : SaState) : (s.setSa a v).svc = s.svc := rfl
@[simp] theorem State.setSa_dbg (a : Nat) (v : SaState) : (s.setSa a v).dbg = s.dbg := rfl
@[simp] theorem State.setSa_twin (a : Nat) (v : SaState) : (s.setSa a v).twin = s.twin := rfl
@[simp] theorem State.setSa_carriers (a : Nat) (v : SaState) : (s.setSa a v).carriers = s.carriers := rfl
@[simp] theorem State.setSa_reels (a : Nat) (v : SaState) : (s.setSa a v).reels = s.reels := rfl
@[simp] theorem State.setSa_lanes (a : Nat) (v : SaState) : (s.setSa a v).lanes = s.lanes := rfl
@[simp] theorem State.setSa_slIn (a : Nat) (v : SaState) : (s.setSa a v).slIn = s.slIn := rfl
@[simp] theorem State.setSa_slOut (a : Nat) (v : SaState) : (s.setSa a v).slOut = s.slOut := rfl
@[simp] theorem State.setSa_fore (a : Nat) (v : SaState) : (s.setSa a v).fore = s.fore := rfl
@[simp] theorem State.setSa_tim (a : Nat) (v : SaState) : (s.setSa a v).tim = s.tim := rfl
@[simp] theorem State.setSa_lblTx (a : Nat) (v : SaState) : (s.setSa a v).lblTx = s.lblTx := rfl
@[simp] theorem State.setSa_lblRx (a : Nat) (v : SaState) : (s.setSa a v).lblRx = s.lblRx := rfl
@[simp] theorem State.setSa_odu (a : Nat) (v : SaState) : (s.setSa a v).odu = s.odu := rfl
@[simp] theorem State.setSa_core (a : Nat) (v : SaState) : (s.setSa a v).core = s.core := rfl
@[simp] theorem State.setSa_prot (a : Nat) (v : SaState) : (s.setSa a v).prot = s.prot := rfl
@[simp] theorem State.setSa_mem (a : Nat) (v : SaState) : (s.setSa a v).mem = s.mem := rfl
@[simp] theorem State.setSa_ctx (a : Nat) (v : SaState) : (s.setSa a v).ctx = s.ctx := rfl
@[simp] theorem State.setSa_sram (a : Nat) (v : SaState) : (s.setSa a v).sram = s.sram := rfl
@[simp] theorem State.setSa_out (a : Nat) (v : SaState) : (s.setSa a v).out = s.out := rfl
@[simp] theorem State.setSa_free (a : Nat) (v : SaState) : (s.setSa a v).free = s.free := rfl
@[simp] theorem State.setSa_pending (a : Nat) (v : SaState) : (s.setSa a v).pending = s.pending := rfl

@[simp] theorem State.setCtxDw_fields (x d v : Nat) : (s.setCtxDw x d v).fields = s.fields := rfl
@[simp] theorem State.setCtxDw_ctrs (x d v : Nat) : (s.setCtxDw x d v).ctrs = s.ctrs := rfl
@[simp] theorem State.setCtxDw_hold (x d v : Nat) : (s.setCtxDw x d v).hold = s.hold := rfl
@[simp] theorem State.setCtxDw_dev (x d v : Nat) : (s.setCtxDw x d v).dev = s.dev := rfl
@[simp] theorem State.setCtxDw_cfw (x d v : Nat) : (s.setCtxDw x d v).cfw = s.cfw := rfl
@[simp] theorem State.setCtxDw_host (x d v : Nat) : (s.setCtxDw x d v).host = s.host := rfl
@[simp] theorem State.setCtxDw_bus (x d v : Nat) : (s.setCtxDw x d v).bus = s.bus := rfl
@[simp] theorem State.setCtxDw_sec (x d v : Nat) : (s.setCtxDw x d v).sec = s.sec := rfl
@[simp] theorem State.setCtxDw_fuses (x d v : Nat) : (s.setCtxDw x d v).fuses = s.fuses := rfl
@[simp] theorem State.setCtxDw_svc (x d v : Nat) : (s.setCtxDw x d v).svc = s.svc := rfl
@[simp] theorem State.setCtxDw_dbg (x d v : Nat) : (s.setCtxDw x d v).dbg = s.dbg := rfl
@[simp] theorem State.setCtxDw_twin (x d v : Nat) : (s.setCtxDw x d v).twin = s.twin := rfl
@[simp] theorem State.setCtxDw_carriers (x d v : Nat) : (s.setCtxDw x d v).carriers = s.carriers := rfl
@[simp] theorem State.setCtxDw_reels (x d v : Nat) : (s.setCtxDw x d v).reels = s.reels := rfl
@[simp] theorem State.setCtxDw_lanes (x d v : Nat) : (s.setCtxDw x d v).lanes = s.lanes := rfl
@[simp] theorem State.setCtxDw_slIn (x d v : Nat) : (s.setCtxDw x d v).slIn = s.slIn := rfl
@[simp] theorem State.setCtxDw_slOut (x d v : Nat) : (s.setCtxDw x d v).slOut = s.slOut := rfl
@[simp] theorem State.setCtxDw_fore (x d v : Nat) : (s.setCtxDw x d v).fore = s.fore := rfl
@[simp] theorem State.setCtxDw_tim (x d v : Nat) : (s.setCtxDw x d v).tim = s.tim := rfl
@[simp] theorem State.setCtxDw_lblTx (x d v : Nat) : (s.setCtxDw x d v).lblTx = s.lblTx := rfl
@[simp] theorem State.setCtxDw_lblRx (x d v : Nat) : (s.setCtxDw x d v).lblRx = s.lblRx := rfl
@[simp] theorem State.setCtxDw_odu (x d v : Nat) : (s.setCtxDw x d v).odu = s.odu := rfl
@[simp] theorem State.setCtxDw_core (x d v : Nat) : (s.setCtxDw x d v).core = s.core := rfl
@[simp] theorem State.setCtxDw_prot (x d v : Nat) : (s.setCtxDw x d v).prot = s.prot := rfl
@[simp] theorem State.setCtxDw_mem (x d v : Nat) : (s.setCtxDw x d v).mem = s.mem := rfl
@[simp] theorem State.setCtxDw_sram (x d v : Nat) : (s.setCtxDw x d v).sram = s.sram := rfl
@[simp] theorem State.setCtxDw_out (x d v : Nat) : (s.setCtxDw x d v).out = s.out := rfl
@[simp] theorem State.setCtxDw_free (x d v : Nat) : (s.setCtxDw x d v).free = s.free := rfl
@[simp] theorem State.setCtxDw_pending (x d v : Nat) : (s.setCtxDw x d v).pending = s.pending := rfl

@[simp] theorem State.setCtxBits_fields (x d lo w v : Nat) : (s.setCtxBits x d lo w v).fields = s.fields := rfl
@[simp] theorem State.setCtxBits_ctrs (x d lo w v : Nat) : (s.setCtxBits x d lo w v).ctrs = s.ctrs := rfl
@[simp] theorem State.setCtxBits_hold (x d lo w v : Nat) : (s.setCtxBits x d lo w v).hold = s.hold := rfl
@[simp] theorem State.setCtxBits_dev (x d lo w v : Nat) : (s.setCtxBits x d lo w v).dev = s.dev := rfl
@[simp] theorem State.setCtxBits_cfw (x d lo w v : Nat) : (s.setCtxBits x d lo w v).cfw = s.cfw := rfl
@[simp] theorem State.setCtxBits_host (x d lo w v : Nat) : (s.setCtxBits x d lo w v).host = s.host := rfl
@[simp] theorem State.setCtxBits_bus (x d lo w v : Nat) : (s.setCtxBits x d lo w v).bus = s.bus := rfl
@[simp] theorem State.setCtxBits_sec (x d lo w v : Nat) : (s.setCtxBits x d lo w v).sec = s.sec := rfl
@[simp] theorem State.setCtxBits_fuses (x d lo w v : Nat) : (s.setCtxBits x d lo w v).fuses = s.fuses := rfl
@[simp] theorem State.setCtxBits_svc (x d lo w v : Nat) : (s.setCtxBits x d lo w v).svc = s.svc := rfl
@[simp] theorem State.setCtxBits_dbg (x d lo w v : Nat) : (s.setCtxBits x d lo w v).dbg = s.dbg := rfl
@[simp] theorem State.setCtxBits_twin (x d lo w v : Nat) : (s.setCtxBits x d lo w v).twin = s.twin := rfl
@[simp] theorem State.setCtxBits_carriers (x d lo w v : Nat) : (s.setCtxBits x d lo w v).carriers = s.carriers := rfl
@[simp] theorem State.setCtxBits_reels (x d lo w v : Nat) : (s.setCtxBits x d lo w v).reels = s.reels := rfl
@[simp] theorem State.setCtxBits_lanes (x d lo w v : Nat) : (s.setCtxBits x d lo w v).lanes = s.lanes := rfl
@[simp] theorem State.setCtxBits_slIn (x d lo w v : Nat) : (s.setCtxBits x d lo w v).slIn = s.slIn := rfl
@[simp] theorem State.setCtxBits_slOut (x d lo w v : Nat) : (s.setCtxBits x d lo w v).slOut = s.slOut := rfl
@[simp] theorem State.setCtxBits_fore (x d lo w v : Nat) : (s.setCtxBits x d lo w v).fore = s.fore := rfl
@[simp] theorem State.setCtxBits_tim (x d lo w v : Nat) : (s.setCtxBits x d lo w v).tim = s.tim := rfl
@[simp] theorem State.setCtxBits_lblTx (x d lo w v : Nat) : (s.setCtxBits x d lo w v).lblTx = s.lblTx := rfl
@[simp] theorem State.setCtxBits_lblRx (x d lo w v : Nat) : (s.setCtxBits x d lo w v).lblRx = s.lblRx := rfl
@[simp] theorem State.setCtxBits_odu (x d lo w v : Nat) : (s.setCtxBits x d lo w v).odu = s.odu := rfl
@[simp] theorem State.setCtxBits_core (x d lo w v : Nat) : (s.setCtxBits x d lo w v).core = s.core := rfl
@[simp] theorem State.setCtxBits_prot (x d lo w v : Nat) : (s.setCtxBits x d lo w v).prot = s.prot := rfl
@[simp] theorem State.setCtxBits_mem (x d lo w v : Nat) : (s.setCtxBits x d lo w v).mem = s.mem := rfl
@[simp] theorem State.setCtxBits_sram (x d lo w v : Nat) : (s.setCtxBits x d lo w v).sram = s.sram := rfl
@[simp] theorem State.setCtxBits_out (x d lo w v : Nat) : (s.setCtxBits x d lo w v).out = s.out := rfl
@[simp] theorem State.setCtxBits_free (x d lo w v : Nat) : (s.setCtxBits x d lo w v).free = s.free := rfl
@[simp] theorem State.setCtxBits_pending (x d lo w v : Nat) : (s.setCtxBits x d lo w v).pending = s.pending := rfl

@[simp] theorem State.setEz_fields (k : Nat) (v : EzLane) : (s.setEz k v).fields = s.fields := rfl
@[simp] theorem State.setEz_ctrs (k : Nat) (v : EzLane) : (s.setEz k v).ctrs = s.ctrs := rfl
@[simp] theorem State.setEz_hold (k : Nat) (v : EzLane) : (s.setEz k v).hold = s.hold := rfl
@[simp] theorem State.setEz_dev (k : Nat) (v : EzLane) : (s.setEz k v).dev = s.dev := rfl
@[simp] theorem State.setEz_cfw (k : Nat) (v : EzLane) : (s.setEz k v).cfw = s.cfw := rfl
@[simp] theorem State.setEz_host (k : Nat) (v : EzLane) : (s.setEz k v).host = s.host := rfl
@[simp] theorem State.setEz_bus (k : Nat) (v : EzLane) : (s.setEz k v).bus = s.bus := rfl
@[simp] theorem State.setEz_sec (k : Nat) (v : EzLane) : (s.setEz k v).sec = s.sec := rfl
@[simp] theorem State.setEz_fuses (k : Nat) (v : EzLane) : (s.setEz k v).fuses = s.fuses := rfl
@[simp] theorem State.setEz_svc (k : Nat) (v : EzLane) : (s.setEz k v).svc = s.svc := rfl
@[simp] theorem State.setEz_dbg (k : Nat) (v : EzLane) : (s.setEz k v).dbg = s.dbg := rfl
@[simp] theorem State.setEz_carriers (k : Nat) (v : EzLane) : (s.setEz k v).carriers = s.carriers := rfl
@[simp] theorem State.setEz_reels (k : Nat) (v : EzLane) : (s.setEz k v).reels = s.reels := rfl
@[simp] theorem State.setEz_lanes (k : Nat) (v : EzLane) : (s.setEz k v).lanes = s.lanes := rfl
@[simp] theorem State.setEz_slIn (k : Nat) (v : EzLane) : (s.setEz k v).slIn = s.slIn := rfl
@[simp] theorem State.setEz_slOut (k : Nat) (v : EzLane) : (s.setEz k v).slOut = s.slOut := rfl
@[simp] theorem State.setEz_fore (k : Nat) (v : EzLane) : (s.setEz k v).fore = s.fore := rfl
@[simp] theorem State.setEz_tim (k : Nat) (v : EzLane) : (s.setEz k v).tim = s.tim := rfl
@[simp] theorem State.setEz_lblTx (k : Nat) (v : EzLane) : (s.setEz k v).lblTx = s.lblTx := rfl
@[simp] theorem State.setEz_lblRx (k : Nat) (v : EzLane) : (s.setEz k v).lblRx = s.lblRx := rfl
@[simp] theorem State.setEz_odu (k : Nat) (v : EzLane) : (s.setEz k v).odu = s.odu := rfl
@[simp] theorem State.setEz_core (k : Nat) (v : EzLane) : (s.setEz k v).core = s.core := rfl
@[simp] theorem State.setEz_prot (k : Nat) (v : EzLane) : (s.setEz k v).prot = s.prot := rfl
@[simp] theorem State.setEz_mem (k : Nat) (v : EzLane) : (s.setEz k v).mem = s.mem := rfl
@[simp] theorem State.setEz_ctx (k : Nat) (v : EzLane) : (s.setEz k v).ctx = s.ctx := rfl
@[simp] theorem State.setEz_sram (k : Nat) (v : EzLane) : (s.setEz k v).sram = s.sram := rfl
@[simp] theorem State.setEz_out (k : Nat) (v : EzLane) : (s.setEz k v).out = s.out := rfl
@[simp] theorem State.setEz_free (k : Nat) (v : EzLane) : (s.setEz k v).free = s.free := rfl
@[simp] theorem State.setEz_pending (k : Nat) (v : EzLane) : (s.setEz k v).pending = s.pending := rfl

@[simp] theorem State.twinRecord_fields (b : TwinBody) : (s.twinRecord b).fields = s.fields := rfl
@[simp] theorem State.twinRecord_ctrs (b : TwinBody) : (s.twinRecord b).ctrs = s.ctrs := rfl
@[simp] theorem State.twinRecord_hold (b : TwinBody) : (s.twinRecord b).hold = s.hold := rfl
@[simp] theorem State.twinRecord_dev (b : TwinBody) : (s.twinRecord b).dev = s.dev := rfl
@[simp] theorem State.twinRecord_cfw (b : TwinBody) : (s.twinRecord b).cfw = s.cfw := rfl
@[simp] theorem State.twinRecord_host (b : TwinBody) : (s.twinRecord b).host = s.host := rfl
@[simp] theorem State.twinRecord_bus (b : TwinBody) : (s.twinRecord b).bus = s.bus := rfl
@[simp] theorem State.twinRecord_sec (b : TwinBody) : (s.twinRecord b).sec = s.sec := rfl
@[simp] theorem State.twinRecord_fuses (b : TwinBody) : (s.twinRecord b).fuses = s.fuses := rfl
@[simp] theorem State.twinRecord_svc (b : TwinBody) : (s.twinRecord b).svc = s.svc := rfl
@[simp] theorem State.twinRecord_dbg (b : TwinBody) : (s.twinRecord b).dbg = s.dbg := rfl
@[simp] theorem State.twinRecord_carriers (b : TwinBody) : (s.twinRecord b).carriers = s.carriers := rfl
@[simp] theorem State.twinRecord_reels (b : TwinBody) : (s.twinRecord b).reels = s.reels := rfl
@[simp] theorem State.twinRecord_lanes (b : TwinBody) : (s.twinRecord b).lanes = s.lanes := rfl
@[simp] theorem State.twinRecord_slIn (b : TwinBody) : (s.twinRecord b).slIn = s.slIn := rfl
@[simp] theorem State.twinRecord_slOut (b : TwinBody) : (s.twinRecord b).slOut = s.slOut := rfl
@[simp] theorem State.twinRecord_fore (b : TwinBody) : (s.twinRecord b).fore = s.fore := rfl
@[simp] theorem State.twinRecord_tim (b : TwinBody) : (s.twinRecord b).tim = s.tim := rfl
@[simp] theorem State.twinRecord_lblTx (b : TwinBody) : (s.twinRecord b).lblTx = s.lblTx := rfl
@[simp] theorem State.twinRecord_lblRx (b : TwinBody) : (s.twinRecord b).lblRx = s.lblRx := rfl
@[simp] theorem State.twinRecord_odu (b : TwinBody) : (s.twinRecord b).odu = s.odu := rfl
@[simp] theorem State.twinRecord_core (b : TwinBody) : (s.twinRecord b).core = s.core := rfl
@[simp] theorem State.twinRecord_prot (b : TwinBody) : (s.twinRecord b).prot = s.prot := rfl
@[simp] theorem State.twinRecord_mem (b : TwinBody) : (s.twinRecord b).mem = s.mem := rfl
@[simp] theorem State.twinRecord_ctx (b : TwinBody) : (s.twinRecord b).ctx = s.ctx := rfl
@[simp] theorem State.twinRecord_sram (b : TwinBody) : (s.twinRecord b).sram = s.sram := rfl
@[simp] theorem State.twinRecord_out (b : TwinBody) : (s.twinRecord b).out = s.out := rfl
@[simp] theorem State.twinRecord_free (b : TwinBody) : (s.twinRecord b).free = s.free := rfl
@[simp] theorem State.twinRecord_pending (b : TwinBody) : (s.twinRecord b).pending = s.pending := rfl

@[simp] theorem State.twinRecordLater_fields (b : TwinBody) : (s.twinRecordLater b).fields = s.fields := rfl
@[simp] theorem State.twinRecordLater_ctrs (b : TwinBody) : (s.twinRecordLater b).ctrs = s.ctrs := rfl
@[simp] theorem State.twinRecordLater_hold (b : TwinBody) : (s.twinRecordLater b).hold = s.hold := rfl
@[simp] theorem State.twinRecordLater_dev (b : TwinBody) : (s.twinRecordLater b).dev = s.dev := rfl
@[simp] theorem State.twinRecordLater_cfw (b : TwinBody) : (s.twinRecordLater b).cfw = s.cfw := rfl
@[simp] theorem State.twinRecordLater_host (b : TwinBody) : (s.twinRecordLater b).host = s.host := rfl
@[simp] theorem State.twinRecordLater_bus (b : TwinBody) : (s.twinRecordLater b).bus = s.bus := rfl
@[simp] theorem State.twinRecordLater_sec (b : TwinBody) : (s.twinRecordLater b).sec = s.sec := rfl
@[simp] theorem State.twinRecordLater_fuses (b : TwinBody) : (s.twinRecordLater b).fuses = s.fuses := rfl
@[simp] theorem State.twinRecordLater_svc (b : TwinBody) : (s.twinRecordLater b).svc = s.svc := rfl
@[simp] theorem State.twinRecordLater_dbg (b : TwinBody) : (s.twinRecordLater b).dbg = s.dbg := rfl
@[simp] theorem State.twinRecordLater_carriers (b : TwinBody) : (s.twinRecordLater b).carriers = s.carriers := rfl
@[simp] theorem State.twinRecordLater_reels (b : TwinBody) : (s.twinRecordLater b).reels = s.reels := rfl
@[simp] theorem State.twinRecordLater_lanes (b : TwinBody) : (s.twinRecordLater b).lanes = s.lanes := rfl
@[simp] theorem State.twinRecordLater_slIn (b : TwinBody) : (s.twinRecordLater b).slIn = s.slIn := rfl
@[simp] theorem State.twinRecordLater_slOut (b : TwinBody) : (s.twinRecordLater b).slOut = s.slOut := rfl
@[simp] theorem State.twinRecordLater_fore (b : TwinBody) : (s.twinRecordLater b).fore = s.fore := rfl
@[simp] theorem State.twinRecordLater_tim (b : TwinBody) : (s.twinRecordLater b).tim = s.tim := rfl
@[simp] theorem State.twinRecordLater_lblTx (b : TwinBody) : (s.twinRecordLater b).lblTx = s.lblTx := rfl
@[simp] theorem State.twinRecordLater_lblRx (b : TwinBody) : (s.twinRecordLater b).lblRx = s.lblRx := rfl
@[simp] theorem State.twinRecordLater_odu (b : TwinBody) : (s.twinRecordLater b).odu = s.odu := rfl
@[simp] theorem State.twinRecordLater_core (b : TwinBody) : (s.twinRecordLater b).core = s.core := rfl
@[simp] theorem State.twinRecordLater_prot (b : TwinBody) : (s.twinRecordLater b).prot = s.prot := rfl
@[simp] theorem State.twinRecordLater_mem (b : TwinBody) : (s.twinRecordLater b).mem = s.mem := rfl
@[simp] theorem State.twinRecordLater_ctx (b : TwinBody) : (s.twinRecordLater b).ctx = s.ctx := rfl
@[simp] theorem State.twinRecordLater_sram (b : TwinBody) : (s.twinRecordLater b).sram = s.sram := rfl
@[simp] theorem State.twinRecordLater_out (b : TwinBody) : (s.twinRecordLater b).out = s.out := rfl
@[simp] theorem State.twinRecordLater_free (b : TwinBody) : (s.twinRecordLater b).free = s.free := rfl
@[simp] theorem State.twinRecordLater_pending (b : TwinBody) : (s.twinRecordLater b).pending = s.pending := rfl

@[simp] theorem State.fuseManifest_fields : (s.fuseManifest).fields = s.fields := rfl
@[simp] theorem State.fuseManifest_ctrs : (s.fuseManifest).ctrs = s.ctrs := rfl
@[simp] theorem State.fuseManifest_hold : (s.fuseManifest).hold = s.hold := rfl
@[simp] theorem State.fuseManifest_dev : (s.fuseManifest).dev = s.dev := rfl
@[simp] theorem State.fuseManifest_cfw : (s.fuseManifest).cfw = s.cfw := rfl
@[simp] theorem State.fuseManifest_host : (s.fuseManifest).host = s.host := rfl
@[simp] theorem State.fuseManifest_bus : (s.fuseManifest).bus = s.bus := rfl
@[simp] theorem State.fuseManifest_sec : (s.fuseManifest).sec = s.sec := rfl
@[simp] theorem State.fuseManifest_svc : (s.fuseManifest).svc = s.svc := rfl
@[simp] theorem State.fuseManifest_dbg : (s.fuseManifest).dbg = s.dbg := rfl
@[simp] theorem State.fuseManifest_twin : (s.fuseManifest).twin = s.twin := rfl
@[simp] theorem State.fuseManifest_carriers : (s.fuseManifest).carriers = s.carriers := rfl
@[simp] theorem State.fuseManifest_reels : (s.fuseManifest).reels = s.reels := rfl
@[simp] theorem State.fuseManifest_lanes : (s.fuseManifest).lanes = s.lanes := rfl
@[simp] theorem State.fuseManifest_slIn : (s.fuseManifest).slIn = s.slIn := rfl
@[simp] theorem State.fuseManifest_slOut : (s.fuseManifest).slOut = s.slOut := rfl
@[simp] theorem State.fuseManifest_fore : (s.fuseManifest).fore = s.fore := rfl
@[simp] theorem State.fuseManifest_tim : (s.fuseManifest).tim = s.tim := rfl
@[simp] theorem State.fuseManifest_lblTx : (s.fuseManifest).lblTx = s.lblTx := rfl
@[simp] theorem State.fuseManifest_lblRx : (s.fuseManifest).lblRx = s.lblRx := rfl
@[simp] theorem State.fuseManifest_odu : (s.fuseManifest).odu = s.odu := rfl
@[simp] theorem State.fuseManifest_core : (s.fuseManifest).core = s.core := rfl
@[simp] theorem State.fuseManifest_prot : (s.fuseManifest).prot = s.prot := rfl
@[simp] theorem State.fuseManifest_mem : (s.fuseManifest).mem = s.mem := rfl
@[simp] theorem State.fuseManifest_ctx : (s.fuseManifest).ctx = s.ctx := rfl
@[simp] theorem State.fuseManifest_sram : (s.fuseManifest).sram = s.sram := rfl
@[simp] theorem State.fuseManifest_out : (s.fuseManifest).out = s.out := rfl
@[simp] theorem State.fuseManifest_free : (s.fuseManifest).free = s.free := rfl
@[simp] theorem State.fuseManifest_pending : (s.fuseManifest).pending = s.pending := rfl

@[simp] theorem State.fuseControl_fields : (s.fuseControl).fields = s.fields := rfl
@[simp] theorem State.fuseControl_ctrs : (s.fuseControl).ctrs = s.ctrs := rfl
@[simp] theorem State.fuseControl_hold : (s.fuseControl).hold = s.hold := rfl
@[simp] theorem State.fuseControl_dev : (s.fuseControl).dev = s.dev := rfl
@[simp] theorem State.fuseControl_cfw : (s.fuseControl).cfw = s.cfw := rfl
@[simp] theorem State.fuseControl_host : (s.fuseControl).host = s.host := rfl
@[simp] theorem State.fuseControl_bus : (s.fuseControl).bus = s.bus := rfl
@[simp] theorem State.fuseControl_sec : (s.fuseControl).sec = s.sec := rfl
@[simp] theorem State.fuseControl_svc : (s.fuseControl).svc = s.svc := rfl
@[simp] theorem State.fuseControl_dbg : (s.fuseControl).dbg = s.dbg := rfl
@[simp] theorem State.fuseControl_twin : (s.fuseControl).twin = s.twin := rfl
@[simp] theorem State.fuseControl_carriers : (s.fuseControl).carriers = s.carriers := rfl
@[simp] theorem State.fuseControl_reels : (s.fuseControl).reels = s.reels := rfl
@[simp] theorem State.fuseControl_lanes : (s.fuseControl).lanes = s.lanes := rfl
@[simp] theorem State.fuseControl_slIn : (s.fuseControl).slIn = s.slIn := rfl
@[simp] theorem State.fuseControl_slOut : (s.fuseControl).slOut = s.slOut := rfl
@[simp] theorem State.fuseControl_fore : (s.fuseControl).fore = s.fore := rfl
@[simp] theorem State.fuseControl_tim : (s.fuseControl).tim = s.tim := rfl
@[simp] theorem State.fuseControl_lblTx : (s.fuseControl).lblTx = s.lblTx := rfl
@[simp] theorem State.fuseControl_lblRx : (s.fuseControl).lblRx = s.lblRx := rfl
@[simp] theorem State.fuseControl_odu : (s.fuseControl).odu = s.odu := rfl
@[simp] theorem State.fuseControl_core : (s.fuseControl).core = s.core := rfl
@[simp] theorem State.fuseControl_prot : (s.fuseControl).prot = s.prot := rfl
@[simp] theorem State.fuseControl_mem : (s.fuseControl).mem = s.mem := rfl
@[simp] theorem State.fuseControl_ctx : (s.fuseControl).ctx = s.ctx := rfl
@[simp] theorem State.fuseControl_sram : (s.fuseControl).sram = s.sram := rfl
@[simp] theorem State.fuseControl_out : (s.fuseControl).out = s.out := rfl
@[simp] theorem State.fuseControl_free : (s.fuseControl).free = s.free := rfl
@[simp] theorem State.fuseControl_pending : (s.fuseControl).pending = s.pending := rfl

@[simp] theorem State.fuseLifecycle_fields (l : Lifecycle) : (s.fuseLifecycle l).fields = s.fields := rfl
@[simp] theorem State.fuseLifecycle_ctrs (l : Lifecycle) : (s.fuseLifecycle l).ctrs = s.ctrs := rfl
@[simp] theorem State.fuseLifecycle_hold (l : Lifecycle) : (s.fuseLifecycle l).hold = s.hold := rfl
@[simp] theorem State.fuseLifecycle_dev (l : Lifecycle) : (s.fuseLifecycle l).dev = s.dev := rfl
@[simp] theorem State.fuseLifecycle_cfw (l : Lifecycle) : (s.fuseLifecycle l).cfw = s.cfw := rfl
@[simp] theorem State.fuseLifecycle_host (l : Lifecycle) : (s.fuseLifecycle l).host = s.host := rfl
@[simp] theorem State.fuseLifecycle_bus (l : Lifecycle) : (s.fuseLifecycle l).bus = s.bus := rfl
@[simp] theorem State.fuseLifecycle_sec (l : Lifecycle) : (s.fuseLifecycle l).sec = s.sec := rfl
@[simp] theorem State.fuseLifecycle_svc (l : Lifecycle) : (s.fuseLifecycle l).svc = s.svc := rfl
@[simp] theorem State.fuseLifecycle_dbg (l : Lifecycle) : (s.fuseLifecycle l).dbg = s.dbg := rfl
@[simp] theorem State.fuseLifecycle_twin (l : Lifecycle) : (s.fuseLifecycle l).twin = s.twin := rfl
@[simp] theorem State.fuseLifecycle_carriers (l : Lifecycle) : (s.fuseLifecycle l).carriers = s.carriers := rfl
@[simp] theorem State.fuseLifecycle_reels (l : Lifecycle) : (s.fuseLifecycle l).reels = s.reels := rfl
@[simp] theorem State.fuseLifecycle_lanes (l : Lifecycle) : (s.fuseLifecycle l).lanes = s.lanes := rfl
@[simp] theorem State.fuseLifecycle_slIn (l : Lifecycle) : (s.fuseLifecycle l).slIn = s.slIn := rfl
@[simp] theorem State.fuseLifecycle_slOut (l : Lifecycle) : (s.fuseLifecycle l).slOut = s.slOut := rfl
@[simp] theorem State.fuseLifecycle_fore (l : Lifecycle) : (s.fuseLifecycle l).fore = s.fore := rfl
@[simp] theorem State.fuseLifecycle_tim (l : Lifecycle) : (s.fuseLifecycle l).tim = s.tim := rfl
@[simp] theorem State.fuseLifecycle_lblTx (l : Lifecycle) : (s.fuseLifecycle l).lblTx = s.lblTx := rfl
@[simp] theorem State.fuseLifecycle_lblRx (l : Lifecycle) : (s.fuseLifecycle l).lblRx = s.lblRx := rfl
@[simp] theorem State.fuseLifecycle_odu (l : Lifecycle) : (s.fuseLifecycle l).odu = s.odu := rfl
@[simp] theorem State.fuseLifecycle_core (l : Lifecycle) : (s.fuseLifecycle l).core = s.core := rfl
@[simp] theorem State.fuseLifecycle_prot (l : Lifecycle) : (s.fuseLifecycle l).prot = s.prot := rfl
@[simp] theorem State.fuseLifecycle_mem (l : Lifecycle) : (s.fuseLifecycle l).mem = s.mem := rfl
@[simp] theorem State.fuseLifecycle_ctx (l : Lifecycle) : (s.fuseLifecycle l).ctx = s.ctx := rfl
@[simp] theorem State.fuseLifecycle_sram (l : Lifecycle) : (s.fuseLifecycle l).sram = s.sram := rfl
@[simp] theorem State.fuseLifecycle_out (l : Lifecycle) : (s.fuseLifecycle l).out = s.out := rfl
@[simp] theorem State.fuseLifecycle_free (l : Lifecycle) : (s.fuseLifecycle l).free = s.free := rfl
@[simp] theorem State.fuseLifecycle_pending (l : Lifecycle) : (s.fuseLifecycle l).pending = s.pending := rfl

@[simp] theorem State.attnRelease_fields : (s.attnRelease).fields = s.fields := rfl
@[simp] theorem State.attnRelease_ctrs : (s.attnRelease).ctrs = s.ctrs := rfl
@[simp] theorem State.attnRelease_hold : (s.attnRelease).hold = s.hold := rfl
@[simp] theorem State.attnRelease_dev : (s.attnRelease).dev = s.dev := rfl
@[simp] theorem State.attnRelease_cfw : (s.attnRelease).cfw = s.cfw := rfl
@[simp] theorem State.attnRelease_host : (s.attnRelease).host = s.host := rfl
@[simp] theorem State.attnRelease_bus : (s.attnRelease).bus = s.bus := rfl
@[simp] theorem State.attnRelease_sec : (s.attnRelease).sec = s.sec := rfl
@[simp] theorem State.attnRelease_fuses : (s.attnRelease).fuses = s.fuses := rfl
@[simp] theorem State.attnRelease_dbg : (s.attnRelease).dbg = s.dbg := rfl
@[simp] theorem State.attnRelease_twin : (s.attnRelease).twin = s.twin := rfl
@[simp] theorem State.attnRelease_carriers : (s.attnRelease).carriers = s.carriers := rfl
@[simp] theorem State.attnRelease_reels : (s.attnRelease).reels = s.reels := rfl
@[simp] theorem State.attnRelease_lanes : (s.attnRelease).lanes = s.lanes := rfl
@[simp] theorem State.attnRelease_slIn : (s.attnRelease).slIn = s.slIn := rfl
@[simp] theorem State.attnRelease_slOut : (s.attnRelease).slOut = s.slOut := rfl
@[simp] theorem State.attnRelease_fore : (s.attnRelease).fore = s.fore := rfl
@[simp] theorem State.attnRelease_tim : (s.attnRelease).tim = s.tim := rfl
@[simp] theorem State.attnRelease_lblTx : (s.attnRelease).lblTx = s.lblTx := rfl
@[simp] theorem State.attnRelease_lblRx : (s.attnRelease).lblRx = s.lblRx := rfl
@[simp] theorem State.attnRelease_odu : (s.attnRelease).odu = s.odu := rfl
@[simp] theorem State.attnRelease_core : (s.attnRelease).core = s.core := rfl
@[simp] theorem State.attnRelease_prot : (s.attnRelease).prot = s.prot := rfl
@[simp] theorem State.attnRelease_mem : (s.attnRelease).mem = s.mem := rfl
@[simp] theorem State.attnRelease_ctx : (s.attnRelease).ctx = s.ctx := rfl
@[simp] theorem State.attnRelease_sram : (s.attnRelease).sram = s.sram := rfl
@[simp] theorem State.attnRelease_out : (s.attnRelease).out = s.out := rfl
@[simp] theorem State.attnRelease_free : (s.attnRelease).free = s.free := rfl
@[simp] theorem State.attnRelease_pending : (s.attnRelease).pending = s.pending := rfl

@[simp] theorem State.setTracker_fields (eg : Bool) (g : Nat) (t : Tracker) : (s.setTracker eg g t).fields = s.fields := rfl
@[simp] theorem State.setTracker_ctrs (eg : Bool) (g : Nat) (t : Tracker) : (s.setTracker eg g t).ctrs = s.ctrs := rfl
@[simp] theorem State.setTracker_hold (eg : Bool) (g : Nat) (t : Tracker) : (s.setTracker eg g t).hold = s.hold := rfl
@[simp] theorem State.setTracker_dev (eg : Bool) (g : Nat) (t : Tracker) : (s.setTracker eg g t).dev = s.dev := rfl
@[simp] theorem State.setTracker_cfw (eg : Bool) (g : Nat) (t : Tracker) : (s.setTracker eg g t).cfw = s.cfw := rfl
@[simp] theorem State.setTracker_host (eg : Bool) (g : Nat) (t : Tracker) : (s.setTracker eg g t).host = s.host := rfl
@[simp] theorem State.setTracker_bus (eg : Bool) (g : Nat) (t : Tracker) : (s.setTracker eg g t).bus = s.bus := rfl
@[simp] theorem State.setTracker_sec (eg : Bool) (g : Nat) (t : Tracker) : (s.setTracker eg g t).sec = s.sec := rfl
@[simp] theorem State.setTracker_fuses (eg : Bool) (g : Nat) (t : Tracker) : (s.setTracker eg g t).fuses = s.fuses := rfl
@[simp] theorem State.setTracker_svc (eg : Bool) (g : Nat) (t : Tracker) : (s.setTracker eg g t).svc = s.svc := rfl
@[simp] theorem State.setTracker_dbg (eg : Bool) (g : Nat) (t : Tracker) : (s.setTracker eg g t).dbg = s.dbg := rfl
@[simp] theorem State.setTracker_twin (eg : Bool) (g : Nat) (t : Tracker) : (s.setTracker eg g t).twin = s.twin := rfl
@[simp] theorem State.setTracker_carriers (eg : Bool) (g : Nat) (t : Tracker) : (s.setTracker eg g t).carriers = s.carriers := rfl
@[simp] theorem State.setTracker_reels (eg : Bool) (g : Nat) (t : Tracker) : (s.setTracker eg g t).reels = s.reels := rfl
@[simp] theorem State.setTracker_lanes (eg : Bool) (g : Nat) (t : Tracker) : (s.setTracker eg g t).lanes = s.lanes := rfl
@[simp] theorem State.setTracker_slIn (eg : Bool) (g : Nat) (t : Tracker) : (s.setTracker eg g t).slIn = s.slIn := rfl
@[simp] theorem State.setTracker_slOut (eg : Bool) (g : Nat) (t : Tracker) : (s.setTracker eg g t).slOut = s.slOut := rfl
@[simp] theorem State.setTracker_fore (eg : Bool) (g : Nat) (t : Tracker) : (s.setTracker eg g t).fore = s.fore := rfl
@[simp] theorem State.setTracker_tim (eg : Bool) (g : Nat) (t : Tracker) : (s.setTracker eg g t).tim = s.tim := rfl
@[simp] theorem State.setTracker_lblTx (eg : Bool) (g : Nat) (t : Tracker) : (s.setTracker eg g t).lblTx = s.lblTx := rfl
@[simp] theorem State.setTracker_lblRx (eg : Bool) (g : Nat) (t : Tracker) : (s.setTracker eg g t).lblRx = s.lblRx := rfl
@[simp] theorem State.setTracker_core (eg : Bool) (g : Nat) (t : Tracker) : (s.setTracker eg g t).core = s.core := rfl
@[simp] theorem State.setTracker_prot (eg : Bool) (g : Nat) (t : Tracker) : (s.setTracker eg g t).prot = s.prot := rfl
@[simp] theorem State.setTracker_mem (eg : Bool) (g : Nat) (t : Tracker) : (s.setTracker eg g t).mem = s.mem := rfl
@[simp] theorem State.setTracker_ctx (eg : Bool) (g : Nat) (t : Tracker) : (s.setTracker eg g t).ctx = s.ctx := rfl
@[simp] theorem State.setTracker_sram (eg : Bool) (g : Nat) (t : Tracker) : (s.setTracker eg g t).sram = s.sram := rfl
@[simp] theorem State.setTracker_out (eg : Bool) (g : Nat) (t : Tracker) : (s.setTracker eg g t).out = s.out := rfl
@[simp] theorem State.setTracker_free (eg : Bool) (g : Nat) (t : Tracker) : (s.setTracker eg g t).free = s.free := rfl
@[simp] theorem State.setTracker_pending (eg : Bool) (g : Nat) (t : Tracker) : (s.setTracker eg g t).pending = s.pending := rfl

@[simp] theorem State.setGen_fields (k : Nat) (g : Gen) : (s.setGen k g).fields = s.fields := rfl
@[simp] theorem State.setGen_ctrs (k : Nat) (g : Gen) : (s.setGen k g).ctrs = s.ctrs := rfl
@[simp] theorem State.setGen_hold (k : Nat) (g : Gen) : (s.setGen k g).hold = s.hold := rfl
@[simp] theorem State.setGen_dev (k : Nat) (g : Gen) : (s.setGen k g).dev = s.dev := rfl
@[simp] theorem State.setGen_cfw (k : Nat) (g : Gen) : (s.setGen k g).cfw = s.cfw := rfl
@[simp] theorem State.setGen_host (k : Nat) (g : Gen) : (s.setGen k g).host = s.host := rfl
@[simp] theorem State.setGen_bus (k : Nat) (g : Gen) : (s.setGen k g).bus = s.bus := rfl
@[simp] theorem State.setGen_sec (k : Nat) (g : Gen) : (s.setGen k g).sec = s.sec := rfl
@[simp] theorem State.setGen_fuses (k : Nat) (g : Gen) : (s.setGen k g).fuses = s.fuses := rfl
@[simp] theorem State.setGen_svc (k : Nat) (g : Gen) : (s.setGen k g).svc = s.svc := rfl
@[simp] theorem State.setGen_dbg (k : Nat) (g : Gen) : (s.setGen k g).dbg = s.dbg := rfl
@[simp] theorem State.setGen_twin (k : Nat) (g : Gen) : (s.setGen k g).twin = s.twin := rfl
@[simp] theorem State.setGen_carriers (k : Nat) (g : Gen) : (s.setGen k g).carriers = s.carriers := rfl
@[simp] theorem State.setGen_reels (k : Nat) (g : Gen) : (s.setGen k g).reels = s.reels := rfl
@[simp] theorem State.setGen_lanes (k : Nat) (g : Gen) : (s.setGen k g).lanes = s.lanes := rfl
@[simp] theorem State.setGen_slIn (k : Nat) (g : Gen) : (s.setGen k g).slIn = s.slIn := rfl
@[simp] theorem State.setGen_slOut (k : Nat) (g : Gen) : (s.setGen k g).slOut = s.slOut := rfl
@[simp] theorem State.setGen_fore (k : Nat) (g : Gen) : (s.setGen k g).fore = s.fore := rfl
@[simp] theorem State.setGen_tim (k : Nat) (g : Gen) : (s.setGen k g).tim = s.tim := rfl
@[simp] theorem State.setGen_lblTx (k : Nat) (g : Gen) : (s.setGen k g).lblTx = s.lblTx := rfl
@[simp] theorem State.setGen_lblRx (k : Nat) (g : Gen) : (s.setGen k g).lblRx = s.lblRx := rfl
@[simp] theorem State.setGen_odu (k : Nat) (g : Gen) : (s.setGen k g).odu = s.odu := rfl
@[simp] theorem State.setGen_prot (k : Nat) (g : Gen) : (s.setGen k g).prot = s.prot := rfl
@[simp] theorem State.setGen_mem (k : Nat) (g : Gen) : (s.setGen k g).mem = s.mem := rfl
@[simp] theorem State.setGen_ctx (k : Nat) (g : Gen) : (s.setGen k g).ctx = s.ctx := rfl
@[simp] theorem State.setGen_sram (k : Nat) (g : Gen) : (s.setGen k g).sram = s.sram := rfl
@[simp] theorem State.setGen_out (k : Nat) (g : Gen) : (s.setGen k g).out = s.out := rfl
@[simp] theorem State.setGen_free (k : Nat) (g : Gen) : (s.setGen k g).free = s.free := rfl
@[simp] theorem State.setGen_pending (k : Nat) (g : Gen) : (s.setGen k g).pending = s.pending := rfl

@[simp] theorem State.setCfwPoint_fields (x : Nat) (v : CfwPoint) : (s.setCfwPoint x v).fields = s.fields := rfl
@[simp] theorem State.setCfwPoint_ctrs (x : Nat) (v : CfwPoint) : (s.setCfwPoint x v).ctrs = s.ctrs := rfl
@[simp] theorem State.setCfwPoint_hold (x : Nat) (v : CfwPoint) : (s.setCfwPoint x v).hold = s.hold := rfl
@[simp] theorem State.setCfwPoint_dev (x : Nat) (v : CfwPoint) : (s.setCfwPoint x v).dev = s.dev := rfl
@[simp] theorem State.setCfwPoint_host (x : Nat) (v : CfwPoint) : (s.setCfwPoint x v).host = s.host := rfl
@[simp] theorem State.setCfwPoint_bus (x : Nat) (v : CfwPoint) : (s.setCfwPoint x v).bus = s.bus := rfl
@[simp] theorem State.setCfwPoint_sec (x : Nat) (v : CfwPoint) : (s.setCfwPoint x v).sec = s.sec := rfl
@[simp] theorem State.setCfwPoint_fuses (x : Nat) (v : CfwPoint) : (s.setCfwPoint x v).fuses = s.fuses := rfl
@[simp] theorem State.setCfwPoint_svc (x : Nat) (v : CfwPoint) : (s.setCfwPoint x v).svc = s.svc := rfl
@[simp] theorem State.setCfwPoint_dbg (x : Nat) (v : CfwPoint) : (s.setCfwPoint x v).dbg = s.dbg := rfl
@[simp] theorem State.setCfwPoint_twin (x : Nat) (v : CfwPoint) : (s.setCfwPoint x v).twin = s.twin := rfl
@[simp] theorem State.setCfwPoint_carriers (x : Nat) (v : CfwPoint) : (s.setCfwPoint x v).carriers = s.carriers := rfl
@[simp] theorem State.setCfwPoint_reels (x : Nat) (v : CfwPoint) : (s.setCfwPoint x v).reels = s.reels := rfl
@[simp] theorem State.setCfwPoint_lanes (x : Nat) (v : CfwPoint) : (s.setCfwPoint x v).lanes = s.lanes := rfl
@[simp] theorem State.setCfwPoint_slIn (x : Nat) (v : CfwPoint) : (s.setCfwPoint x v).slIn = s.slIn := rfl
@[simp] theorem State.setCfwPoint_slOut (x : Nat) (v : CfwPoint) : (s.setCfwPoint x v).slOut = s.slOut := rfl
@[simp] theorem State.setCfwPoint_fore (x : Nat) (v : CfwPoint) : (s.setCfwPoint x v).fore = s.fore := rfl
@[simp] theorem State.setCfwPoint_tim (x : Nat) (v : CfwPoint) : (s.setCfwPoint x v).tim = s.tim := rfl
@[simp] theorem State.setCfwPoint_lblTx (x : Nat) (v : CfwPoint) : (s.setCfwPoint x v).lblTx = s.lblTx := rfl
@[simp] theorem State.setCfwPoint_lblRx (x : Nat) (v : CfwPoint) : (s.setCfwPoint x v).lblRx = s.lblRx := rfl
@[simp] theorem State.setCfwPoint_odu (x : Nat) (v : CfwPoint) : (s.setCfwPoint x v).odu = s.odu := rfl
@[simp] theorem State.setCfwPoint_core (x : Nat) (v : CfwPoint) : (s.setCfwPoint x v).core = s.core := rfl
@[simp] theorem State.setCfwPoint_prot (x : Nat) (v : CfwPoint) : (s.setCfwPoint x v).prot = s.prot := rfl
@[simp] theorem State.setCfwPoint_mem (x : Nat) (v : CfwPoint) : (s.setCfwPoint x v).mem = s.mem := rfl
@[simp] theorem State.setCfwPoint_ctx (x : Nat) (v : CfwPoint) : (s.setCfwPoint x v).ctx = s.ctx := rfl
@[simp] theorem State.setCfwPoint_sram (x : Nat) (v : CfwPoint) : (s.setCfwPoint x v).sram = s.sram := rfl
@[simp] theorem State.setCfwPoint_out (x : Nat) (v : CfwPoint) : (s.setCfwPoint x v).out = s.out := rfl
@[simp] theorem State.setCfwPoint_free (x : Nat) (v : CfwPoint) : (s.setCfwPoint x v).free = s.free := rfl
@[simp] theorem State.setCfwPoint_pending (x : Nat) (v : CfwPoint) : (s.setCfwPoint x v).pending = s.pending := rfl

@[simp] theorem State.setCfwMsi_fields (x : Nat) (v : CfwMsi) : (s.setCfwMsi x v).fields = s.fields := rfl
@[simp] theorem State.setCfwMsi_ctrs (x : Nat) (v : CfwMsi) : (s.setCfwMsi x v).ctrs = s.ctrs := rfl
@[simp] theorem State.setCfwMsi_hold (x : Nat) (v : CfwMsi) : (s.setCfwMsi x v).hold = s.hold := rfl
@[simp] theorem State.setCfwMsi_dev (x : Nat) (v : CfwMsi) : (s.setCfwMsi x v).dev = s.dev := rfl
@[simp] theorem State.setCfwMsi_host (x : Nat) (v : CfwMsi) : (s.setCfwMsi x v).host = s.host := rfl
@[simp] theorem State.setCfwMsi_bus (x : Nat) (v : CfwMsi) : (s.setCfwMsi x v).bus = s.bus := rfl
@[simp] theorem State.setCfwMsi_sec (x : Nat) (v : CfwMsi) : (s.setCfwMsi x v).sec = s.sec := rfl
@[simp] theorem State.setCfwMsi_fuses (x : Nat) (v : CfwMsi) : (s.setCfwMsi x v).fuses = s.fuses := rfl
@[simp] theorem State.setCfwMsi_svc (x : Nat) (v : CfwMsi) : (s.setCfwMsi x v).svc = s.svc := rfl
@[simp] theorem State.setCfwMsi_dbg (x : Nat) (v : CfwMsi) : (s.setCfwMsi x v).dbg = s.dbg := rfl
@[simp] theorem State.setCfwMsi_twin (x : Nat) (v : CfwMsi) : (s.setCfwMsi x v).twin = s.twin := rfl
@[simp] theorem State.setCfwMsi_carriers (x : Nat) (v : CfwMsi) : (s.setCfwMsi x v).carriers = s.carriers := rfl
@[simp] theorem State.setCfwMsi_reels (x : Nat) (v : CfwMsi) : (s.setCfwMsi x v).reels = s.reels := rfl
@[simp] theorem State.setCfwMsi_lanes (x : Nat) (v : CfwMsi) : (s.setCfwMsi x v).lanes = s.lanes := rfl
@[simp] theorem State.setCfwMsi_slIn (x : Nat) (v : CfwMsi) : (s.setCfwMsi x v).slIn = s.slIn := rfl
@[simp] theorem State.setCfwMsi_slOut (x : Nat) (v : CfwMsi) : (s.setCfwMsi x v).slOut = s.slOut := rfl
@[simp] theorem State.setCfwMsi_fore (x : Nat) (v : CfwMsi) : (s.setCfwMsi x v).fore = s.fore := rfl
@[simp] theorem State.setCfwMsi_tim (x : Nat) (v : CfwMsi) : (s.setCfwMsi x v).tim = s.tim := rfl
@[simp] theorem State.setCfwMsi_lblTx (x : Nat) (v : CfwMsi) : (s.setCfwMsi x v).lblTx = s.lblTx := rfl
@[simp] theorem State.setCfwMsi_lblRx (x : Nat) (v : CfwMsi) : (s.setCfwMsi x v).lblRx = s.lblRx := rfl
@[simp] theorem State.setCfwMsi_odu (x : Nat) (v : CfwMsi) : (s.setCfwMsi x v).odu = s.odu := rfl
@[simp] theorem State.setCfwMsi_core (x : Nat) (v : CfwMsi) : (s.setCfwMsi x v).core = s.core := rfl
@[simp] theorem State.setCfwMsi_prot (x : Nat) (v : CfwMsi) : (s.setCfwMsi x v).prot = s.prot := rfl
@[simp] theorem State.setCfwMsi_mem (x : Nat) (v : CfwMsi) : (s.setCfwMsi x v).mem = s.mem := rfl
@[simp] theorem State.setCfwMsi_ctx (x : Nat) (v : CfwMsi) : (s.setCfwMsi x v).ctx = s.ctx := rfl
@[simp] theorem State.setCfwMsi_sram (x : Nat) (v : CfwMsi) : (s.setCfwMsi x v).sram = s.sram := rfl
@[simp] theorem State.setCfwMsi_out (x : Nat) (v : CfwMsi) : (s.setCfwMsi x v).out = s.out := rfl
@[simp] theorem State.setCfwMsi_free (x : Nat) (v : CfwMsi) : (s.setCfwMsi x v).free = s.free := rfl
@[simp] theorem State.setCfwMsi_pending (x : Nat) (v : CfwMsi) : (s.setCfwMsi x v).pending = s.pending := rfl

@[simp] theorem State.setCfwGroup_fields (g : Nat) (v : CfwGroup) : (s.setCfwGroup g v).fields = s.fields := rfl
@[simp] theorem State.setCfwGroup_ctrs (g : Nat) (v : CfwGroup) : (s.setCfwGroup g v).ctrs = s.ctrs := rfl
@[simp] theorem State.setCfwGroup_hold (g : Nat) (v : CfwGroup) : (s.setCfwGroup g v).hold = s.hold := rfl
@[simp] theorem State.setCfwGroup_dev (g : Nat) (v : CfwGroup) : (s.setCfwGroup g v).dev = s.dev := rfl
@[simp] theorem State.setCfwGroup_host (g : Nat) (v : CfwGroup) : (s.setCfwGroup g v).host = s.host := rfl
@[simp] theorem State.setCfwGroup_bus (g : Nat) (v : CfwGroup) : (s.setCfwGroup g v).bus = s.bus := rfl
@[simp] theorem State.setCfwGroup_sec (g : Nat) (v : CfwGroup) : (s.setCfwGroup g v).sec = s.sec := rfl
@[simp] theorem State.setCfwGroup_fuses (g : Nat) (v : CfwGroup) : (s.setCfwGroup g v).fuses = s.fuses := rfl
@[simp] theorem State.setCfwGroup_svc (g : Nat) (v : CfwGroup) : (s.setCfwGroup g v).svc = s.svc := rfl
@[simp] theorem State.setCfwGroup_dbg (g : Nat) (v : CfwGroup) : (s.setCfwGroup g v).dbg = s.dbg := rfl
@[simp] theorem State.setCfwGroup_twin (g : Nat) (v : CfwGroup) : (s.setCfwGroup g v).twin = s.twin := rfl
@[simp] theorem State.setCfwGroup_carriers (g : Nat) (v : CfwGroup) : (s.setCfwGroup g v).carriers = s.carriers := rfl
@[simp] theorem State.setCfwGroup_reels (g : Nat) (v : CfwGroup) : (s.setCfwGroup g v).reels = s.reels := rfl
@[simp] theorem State.setCfwGroup_lanes (g : Nat) (v : CfwGroup) : (s.setCfwGroup g v).lanes = s.lanes := rfl
@[simp] theorem State.setCfwGroup_slIn (g : Nat) (v : CfwGroup) : (s.setCfwGroup g v).slIn = s.slIn := rfl
@[simp] theorem State.setCfwGroup_slOut (g : Nat) (v : CfwGroup) : (s.setCfwGroup g v).slOut = s.slOut := rfl
@[simp] theorem State.setCfwGroup_fore (g : Nat) (v : CfwGroup) : (s.setCfwGroup g v).fore = s.fore := rfl
@[simp] theorem State.setCfwGroup_tim (g : Nat) (v : CfwGroup) : (s.setCfwGroup g v).tim = s.tim := rfl
@[simp] theorem State.setCfwGroup_lblTx (g : Nat) (v : CfwGroup) : (s.setCfwGroup g v).lblTx = s.lblTx := rfl
@[simp] theorem State.setCfwGroup_lblRx (g : Nat) (v : CfwGroup) : (s.setCfwGroup g v).lblRx = s.lblRx := rfl
@[simp] theorem State.setCfwGroup_odu (g : Nat) (v : CfwGroup) : (s.setCfwGroup g v).odu = s.odu := rfl
@[simp] theorem State.setCfwGroup_core (g : Nat) (v : CfwGroup) : (s.setCfwGroup g v).core = s.core := rfl
@[simp] theorem State.setCfwGroup_prot (g : Nat) (v : CfwGroup) : (s.setCfwGroup g v).prot = s.prot := rfl
@[simp] theorem State.setCfwGroup_mem (g : Nat) (v : CfwGroup) : (s.setCfwGroup g v).mem = s.mem := rfl
@[simp] theorem State.setCfwGroup_ctx (g : Nat) (v : CfwGroup) : (s.setCfwGroup g v).ctx = s.ctx := rfl
@[simp] theorem State.setCfwGroup_sram (g : Nat) (v : CfwGroup) : (s.setCfwGroup g v).sram = s.sram := rfl
@[simp] theorem State.setCfwGroup_out (g : Nat) (v : CfwGroup) : (s.setCfwGroup g v).out = s.out := rfl
@[simp] theorem State.setCfwGroup_free (g : Nat) (v : CfwGroup) : (s.setCfwGroup g v).free = s.free := rfl
@[simp] theorem State.setCfwGroup_pending (g : Nat) (v : CfwGroup) : (s.setCfwGroup g v).pending = s.pending := rfl

@[simp] theorem State.memClear_fields (i lo hi : Nat) : (s.memClear i lo hi).fields = s.fields := rfl
@[simp] theorem State.memClear_ctrs (i lo hi : Nat) : (s.memClear i lo hi).ctrs = s.ctrs := rfl
@[simp] theorem State.memClear_hold (i lo hi : Nat) : (s.memClear i lo hi).hold = s.hold := rfl
@[simp] theorem State.memClear_dev (i lo hi : Nat) : (s.memClear i lo hi).dev = s.dev := rfl
@[simp] theorem State.memClear_cfw (i lo hi : Nat) : (s.memClear i lo hi).cfw = s.cfw := rfl
@[simp] theorem State.memClear_host (i lo hi : Nat) : (s.memClear i lo hi).host = s.host := rfl
@[simp] theorem State.memClear_bus (i lo hi : Nat) : (s.memClear i lo hi).bus = s.bus := rfl
@[simp] theorem State.memClear_sec (i lo hi : Nat) : (s.memClear i lo hi).sec = s.sec := rfl
@[simp] theorem State.memClear_fuses (i lo hi : Nat) : (s.memClear i lo hi).fuses = s.fuses := rfl
@[simp] theorem State.memClear_svc (i lo hi : Nat) : (s.memClear i lo hi).svc = s.svc := rfl
@[simp] theorem State.memClear_dbg (i lo hi : Nat) : (s.memClear i lo hi).dbg = s.dbg := rfl
@[simp] theorem State.memClear_twin (i lo hi : Nat) : (s.memClear i lo hi).twin = s.twin := rfl
@[simp] theorem State.memClear_carriers (i lo hi : Nat) : (s.memClear i lo hi).carriers = s.carriers := rfl
@[simp] theorem State.memClear_reels (i lo hi : Nat) : (s.memClear i lo hi).reels = s.reels := rfl
@[simp] theorem State.memClear_lanes (i lo hi : Nat) : (s.memClear i lo hi).lanes = s.lanes := rfl
@[simp] theorem State.memClear_slIn (i lo hi : Nat) : (s.memClear i lo hi).slIn = s.slIn := rfl
@[simp] theorem State.memClear_slOut (i lo hi : Nat) : (s.memClear i lo hi).slOut = s.slOut := rfl
@[simp] theorem State.memClear_fore (i lo hi : Nat) : (s.memClear i lo hi).fore = s.fore := rfl
@[simp] theorem State.memClear_tim (i lo hi : Nat) : (s.memClear i lo hi).tim = s.tim := rfl
@[simp] theorem State.memClear_lblTx (i lo hi : Nat) : (s.memClear i lo hi).lblTx = s.lblTx := rfl
@[simp] theorem State.memClear_lblRx (i lo hi : Nat) : (s.memClear i lo hi).lblRx = s.lblRx := rfl
@[simp] theorem State.memClear_odu (i lo hi : Nat) : (s.memClear i lo hi).odu = s.odu := rfl
@[simp] theorem State.memClear_core (i lo hi : Nat) : (s.memClear i lo hi).core = s.core := rfl
@[simp] theorem State.memClear_prot (i lo hi : Nat) : (s.memClear i lo hi).prot = s.prot := rfl
@[simp] theorem State.memClear_ctx (i lo hi : Nat) : (s.memClear i lo hi).ctx = s.ctx := rfl
@[simp] theorem State.memClear_sram (i lo hi : Nat) : (s.memClear i lo hi).sram = s.sram := rfl
@[simp] theorem State.memClear_out (i lo hi : Nat) : (s.memClear i lo hi).out = s.out := rfl
@[simp] theorem State.memClear_free (i lo hi : Nat) : (s.memClear i lo hi).free = s.free := rfl
@[simp] theorem State.memClear_pending (i lo hi : Nat) : (s.memClear i lo hi).pending = s.pending := rfl

@[simp] theorem State.withPending_pending (q : List Instr) : (s.withPending q).pending = q := rfl

/-! ## Reading after writing -/

/-- A field reads what was written, in its width. -/
@[simp] theorem fget_fset_self (f : Fl) (v : Nat) : (s.fset f v).fget f = v % 2 ^ f.w := by
  simp [State.fget, State.fset]

/-- A write of a field leaves every field of another place. -/
theorem fget_fset_other {f g : Fl} (v : Nat) (h : g.key ≠ f.key) : (s.fset f v).fget g = s.fget g := by
  simp [State.fget, State.fset, spGet_spSet_other g.rst (v % 2 ^ f.w) s.fields h]

/-- A write of several fields leaves every field of another place. -/
theorem fget_fsets_other {g : Fl} : (l : List (Fl × Nat)) → (s : State) → (∀ e ∈ l, g.key ≠ e.1.key) →
    (s.fsets l).fget g = s.fget g
  | [], _, _ => rfl
  | (f, v) :: l, s, h => by
    rw [State.fsets, fget_fsets_other l (s.fset f v) fun e he => h e (List.mem_cons_of_mem _ he),
      fget_fset_other s v (h (f, v) (List.mem_cons_self ..))]

/-- A one-bit field reads the flag that was written, whatever its width above zero. -/
theorem flag_fput_self (f : Fl) (b : Bool) (hw : 1 ≤ f.w) : (s.fput f b).flag f = b := by
  have h2 : 2 ≤ 2 ^ f.w := Nat.pow_le_pow_right (n := 2) (by decide) hw
  cases b <;> simp [State.flag, State.fput, b2n, Nat.mod_eq_of_lt (show 1 < 2 ^ f.w by omega)]

/-- A counter reads its old value plus what was added, in its width (R65). -/
@[simp] theorem cget_cadd_self (c : Ct) (n : Nat) : (s.cadd c n).cget c = (s.cget c + n) % 2 ^ c.w := by
  simp [State.cget, State.cadd]

/-- Counting leaves every other counter. -/
theorem cget_cadd_other {c d : Ct} (n : Nat) (h : d.key ≠ c.key) : (s.cadd c n).cget d = s.cget d := by
  simp [State.cget, State.cadd, spGet_spPut_other 0 _ s.ctrs h]

/-- A carrier reads what was written beside its registers. -/
@[simp] theorem car_setCar_self (c : Nat) (v : Carrier) : (s.setCar c v).car c = v := by
  simp [State.car, State.setCar]

/-- A lane reads what was written beside its registers. -/
@[simp] theorem lane_setLane_self (n : Nat) (v : Lane) : (s.setLane n v).lane n = v := by
  simp [State.lane, State.setLane]

@[simp] theorem State.fsets_ctrs : (l : List (Fl × Nat)) → (s : State) → (s.fsets l).ctrs = s.ctrs
  | [], _ => rfl
  | (f, v) :: l, s => State.fsets_ctrs l (s.fset f v)
@[simp] theorem State.fsets_hold : (l : List (Fl × Nat)) → (s : State) → (s.fsets l).hold = s.hold
  | [], _ => rfl
  | (f, v) :: l, s => State.fsets_hold l (s.fset f v)
@[simp] theorem State.fsets_dev : (l : List (Fl × Nat)) → (s : State) → (s.fsets l).dev = s.dev
  | [], _ => rfl
  | (f, v) :: l, s => State.fsets_dev l (s.fset f v)
@[simp] theorem State.fsets_cfw : (l : List (Fl × Nat)) → (s : State) → (s.fsets l).cfw = s.cfw
  | [], _ => rfl
  | (f, v) :: l, s => State.fsets_cfw l (s.fset f v)
@[simp] theorem State.fsets_host : (l : List (Fl × Nat)) → (s : State) → (s.fsets l).host = s.host
  | [], _ => rfl
  | (f, v) :: l, s => State.fsets_host l (s.fset f v)
@[simp] theorem State.fsets_bus : (l : List (Fl × Nat)) → (s : State) → (s.fsets l).bus = s.bus
  | [], _ => rfl
  | (f, v) :: l, s => State.fsets_bus l (s.fset f v)
@[simp] theorem State.fsets_sec : (l : List (Fl × Nat)) → (s : State) → (s.fsets l).sec = s.sec
  | [], _ => rfl
  | (f, v) :: l, s => State.fsets_sec l (s.fset f v)
@[simp] theorem State.fsets_fuses : (l : List (Fl × Nat)) → (s : State) → (s.fsets l).fuses = s.fuses
  | [], _ => rfl
  | (f, v) :: l, s => State.fsets_fuses l (s.fset f v)
@[simp] theorem State.fsets_svc : (l : List (Fl × Nat)) → (s : State) → (s.fsets l).svc = s.svc
  | [], _ => rfl
  | (f, v) :: l, s => State.fsets_svc l (s.fset f v)
@[simp] theorem State.fsets_dbg : (l : List (Fl × Nat)) → (s : State) → (s.fsets l).dbg = s.dbg
  | [], _ => rfl
  | (f, v) :: l, s => State.fsets_dbg l (s.fset f v)
@[simp] theorem State.fsets_twin : (l : List (Fl × Nat)) → (s : State) → (s.fsets l).twin = s.twin
  | [], _ => rfl
  | (f, v) :: l, s => State.fsets_twin l (s.fset f v)
@[simp] theorem State.fsets_carriers : (l : List (Fl × Nat)) → (s : State) → (s.fsets l).carriers = s.carriers
  | [], _ => rfl
  | (f, v) :: l, s => State.fsets_carriers l (s.fset f v)
@[simp] theorem State.fsets_reels : (l : List (Fl × Nat)) → (s : State) → (s.fsets l).reels = s.reels
  | [], _ => rfl
  | (f, v) :: l, s => State.fsets_reels l (s.fset f v)
@[simp] theorem State.fsets_lanes : (l : List (Fl × Nat)) → (s : State) → (s.fsets l).lanes = s.lanes
  | [], _ => rfl
  | (f, v) :: l, s => State.fsets_lanes l (s.fset f v)
@[simp] theorem State.fsets_slIn : (l : List (Fl × Nat)) → (s : State) → (s.fsets l).slIn = s.slIn
  | [], _ => rfl
  | (f, v) :: l, s => State.fsets_slIn l (s.fset f v)
@[simp] theorem State.fsets_slOut : (l : List (Fl × Nat)) → (s : State) → (s.fsets l).slOut = s.slOut
  | [], _ => rfl
  | (f, v) :: l, s => State.fsets_slOut l (s.fset f v)
@[simp] theorem State.fsets_fore : (l : List (Fl × Nat)) → (s : State) → (s.fsets l).fore = s.fore
  | [], _ => rfl
  | (f, v) :: l, s => State.fsets_fore l (s.fset f v)
@[simp] theorem State.fsets_tim : (l : List (Fl × Nat)) → (s : State) → (s.fsets l).tim = s.tim
  | [], _ => rfl
  | (f, v) :: l, s => State.fsets_tim l (s.fset f v)
@[simp] theorem State.fsets_lblTx : (l : List (Fl × Nat)) → (s : State) → (s.fsets l).lblTx = s.lblTx
  | [], _ => rfl
  | (f, v) :: l, s => State.fsets_lblTx l (s.fset f v)
@[simp] theorem State.fsets_lblRx : (l : List (Fl × Nat)) → (s : State) → (s.fsets l).lblRx = s.lblRx
  | [], _ => rfl
  | (f, v) :: l, s => State.fsets_lblRx l (s.fset f v)
@[simp] theorem State.fsets_odu : (l : List (Fl × Nat)) → (s : State) → (s.fsets l).odu = s.odu
  | [], _ => rfl
  | (f, v) :: l, s => State.fsets_odu l (s.fset f v)
@[simp] theorem State.fsets_core : (l : List (Fl × Nat)) → (s : State) → (s.fsets l).core = s.core
  | [], _ => rfl
  | (f, v) :: l, s => State.fsets_core l (s.fset f v)
@[simp] theorem State.fsets_prot : (l : List (Fl × Nat)) → (s : State) → (s.fsets l).prot = s.prot
  | [], _ => rfl
  | (f, v) :: l, s => State.fsets_prot l (s.fset f v)
@[simp] theorem State.fsets_mem : (l : List (Fl × Nat)) → (s : State) → (s.fsets l).mem = s.mem
  | [], _ => rfl
  | (f, v) :: l, s => State.fsets_mem l (s.fset f v)
@[simp] theorem State.fsets_ctx : (l : List (Fl × Nat)) → (s : State) → (s.fsets l).ctx = s.ctx
  | [], _ => rfl
  | (f, v) :: l, s => State.fsets_ctx l (s.fset f v)
@[simp] theorem State.fsets_sram : (l : List (Fl × Nat)) → (s : State) → (s.fsets l).sram = s.sram
  | [], _ => rfl
  | (f, v) :: l, s => State.fsets_sram l (s.fset f v)
@[simp] theorem State.fsets_out : (l : List (Fl × Nat)) → (s : State) → (s.fsets l).out = s.out
  | [], _ => rfl
  | (f, v) :: l, s => State.fsets_out l (s.fset f v)
@[simp] theorem State.fsets_free : (l : List (Fl × Nat)) → (s : State) → (s.fsets l).free = s.free
  | [], _ => rfl
  | (f, v) :: l, s => State.fsets_free l (s.fset f v)
@[simp] theorem State.fsets_pending : (l : List (Fl × Nat)) → (s : State) → (s.fsets l).pending = s.pending
  | [], _ => rfl
  | (f, v) :: l, s => State.fsets_pending l (s.fset f v)

end Sys2Proof.Machine
end

