-- ==== Sys2Proof/Laws/Step.lean ====
section
/-! SUPPORT. What a step and a run can do: every command completes, keeps the queue behind it, and keeps soundness. -/

namespace Sys2Proof.Machine

/-- What follows a command's effect leaves the queue. -/
@[simp] theorem settle_pending (s t : State) : (settle s t).pending = s.pending := by
  rw [settle]

/-- Every command completes, with an effect that what follows it settles. -/
theorem exec_finishes (c : Instr) (s : State) : ∃ t, exec c s = finish s t := by
  cases c <;> exact ⟨_, rfl⟩

/-- What a command's effect leaves is what `settle` makes of it. -/
theorem finish_eq (s t : State) : finish s t = .next (settle s t) := rfl

/-- Every command's effect keeps soundness. -/
theorem exec_effect_sound {u : Fuses} (c : Instr) (s : State) (hs : s.sound u = true) :
    ∃ t, exec c s = finish s t ∧ t.sound u = true := by
  cases c
  case registerWrite m page dw be data => exact execRegisterWrite_sound m page dw be data s hs
  case setAliasWrite m page dw be data => exact execSetAliasWrite_sound m page dw be data s hs
  case clearAliasWrite m page dw be data => exact execClearAliasWrite_sound m page dw be data s hs
  case toggleAliasWrite m page dw be data => exact execToggleAliasWrite_sound m page dw be data s hs
  case lockWrite m page data => exact execLockWrite_sound m page data s hs
  case intForceWrite m page data => exact execIntForceWrite_sound m page data s hs
  case snapshotTake m page onTick => exact execSnapshotTake_sound m page onTick s hs
  case blockEnable m page => exact execBlockEnable_sound m page s hs
  case blockDisable m page => exact execBlockDisable_sound m page s hs
  case drainComplete f => exact execDrainComplete_sound f s hs
  case blockReset m page => exact execBlockReset_sound m page s hs
  case readyReached page => exact execReadyReached_sound page s hs
  case readyTimeout page => exact execReadyTimeout_sound page s hs
  case modeReqEnterMaintenance m => exact execModeReqEnterMaintenance_sound m s hs
  case modeReqLeaveMaintenance m => exact execModeReqLeaveMaintenance_sound m s hs
  case modeReqEnterService m => exact execModeReqEnterService_sound m s hs
  case modeReqRestartFirmware m => exact execModeReqRestartFirmware_sound m s hs
  case roleWrite m role => exact execRoleWrite_sound m role s hs
  case bringupExit => exact execBringupExit_sound s hs
  case fullResetCommand m => exact execFullResetCommand_sound m s hs
  case resetNAsserted => exact execResetNAsserted_sound s hs
  case perstNAsserted => exact execPerstNAsserted_sound s hs
  case vddAonApplied xo mv => exact execVddAonApplied_sound xo mv s hs
  case vddAonLost => exact execVddAonLost_sound s hs
  case railStateChange r mv held => exact execRailStateChange_sound r mv held s hs
  case railFatalTimeout r => exact execRailFatalTimeout_sound r s hs
  case temperatureSample t => exact execTemperatureSample_sound t s hs
  case xoInLoss => exact execXoInLoss_sound s hs
  case rootPllLockChange locked => exact execRootPllLockChange_sound locked s hs
  case watchdogKick m timeout => exact execWatchdogKick_sound m timeout s hs
  case watchdogExpiry => exact execWatchdogExpiry_sound s hs
  case bootComplete b => exact execBootComplete_sound b s hs
  case cfwTtiExpect m index data => exact execCfwTtiExpect_sound m index data s hs
  case cfwPointStatus m index => exact execCfwPointStatus_sound m index s hs
  case cfwMsiStatus m index => exact execCfwMsiStatus_sound m index s hs
  case cfwSdCfg m index data => exact execCfwSdCfg_sound m index data s hs
  case cfwPgStatus m index => exact execCfwPgStatus_sound m index s hs
  case cfwPmBins m index => exact execCfwPmBins_sound m index s hs
  case cfwCommandDone => exact execCfwCommandDone_sound s hs
  case cfwPublish ifVer => exact execCfwPublish_sound ifVer s hs
  case carrierRateWrite m c slot be data => exact execCarrierRateWrite_sound m c slot be data s hs
  case rateEvaluationDone c => exact execRateEvaluationDone_sound c s hs
  case carrierEnable m c => exact execCarrierEnable_sound m c s hs
  case enginePowerOn m c => exact execEnginePowerOn_sound m c s hs
  case enginePowered c => exact execEnginePowered_sound c s hs
  case enginePowerOff m c => exact execEnginePowerOff_sound m c s hs
  case txEnableWrite m c be data => exact execTxEnableWrite_sound m c be data s hs
  case foregroundCalibration m c => exact execForegroundCalibration_sound m c s hs
  case converterLoopTest m c => exact execConverterLoopTest_sound m c s hs
  case calibrationDone c fail ms res => exact execCalibrationDone_sound c fail ms res s hs
  case backgroundCalibration c k gain time => exact execBackgroundCalibration_sound c k gain time s hs
  case carrierSigFall c => exact execCarrierSigFall_sound c s hs
  case carrierSigRise c => exact execCarrierSigRise_sound c s hs
  case freezeExpiry c => exact execFreezeExpiry_sound c s hs
  case rxStageAdvance c est => exact execRxStageAdvance_sound c est s hs
  case adcPowerStep c db => exact execAdcPowerStep_sound c db s hs
  case precursorWindowEnd pilots0 wrong0 pilots1 wrong1 => exact execPrecursorWindowEnd_sound pilots0 wrong0 pilots1 wrong1 s hs
  case adcClipCheck c est clipped samples => exact execAdcClipCheck_sound c est clipped samples s hs
  case captureArm m c data => exact execCaptureArm_sound m c data s hs
  case captureAbort m c => exact execCaptureAbort_sound m c s hs
  case captureTrigger c cycle before after => exact execCaptureTrigger_sound c cycle before after s hs
  case captureCopyDone c => exact execCaptureCopyDone_sound c s hs
  case histogramDone c cycle x y => exact execHistogramDone_sound c cycle x y s hs
  case feCommand m c data => exact execFeCommand_sound m c data s hs
  case feTransactionDone c ack bytes => exact execFeTransactionDone_sound c ack bytes s hs
  case ldpcCodewordEncode c n empty => exact execLdpcCodewordEncode_sound c n empty s hs
  case ldpcCodewordDecode c n llr => exact execLdpcCodewordDecode_sound c n llr s hs
  case lineFrameTransmit c pay => exact execLineFrameTransmit_sound c pay s hs
  case lineFrameReceived c cycle => exact execLineFrameReceived_sound c cycle s hs
  case otucCandidate c u => exact execOtucCandidate_sound c u s hs
  case hypothesisCheck c h => exact execHypothesisCheck_sound c h s hs
  case otucFrameCheck c => exact execOtucFrameCheck_sound c s hs
  case tribReadActive m index eg table => exact execTribReadActive_sound m index eg table s hs
  case tribWriteStaged m index eg table => exact execTribWriteStaged_sound m index eg table s hs
  case tribReadStaged m index eg table => exact execTribReadStaged_sound m index eg table s hs
  case tribApply m port eg => exact execTribApply_sound m port eg s hs
  case tribApplyActivate => exact execTribApplyActivate_sound s hs
  case tribDiscard m port eg => exact execTribDiscard_sound m port eg s hs
  case oduFrameReceived eg g f ecc => exact execOduFrameReceived_sound eg g f ecc s hs
  case defectPersistenceExpiry c => exact execDefectPersistenceExpiry_sound c s hs
  case ctxRead m index => exact execCtxRead_sound m index s hs
  case ctxWriteCfg m index => exact execCtxWriteCfg_sound m index s hs
  case ctxClearCounts m index => exact execCtxClearCounts_sound m index s hs
  case ctxFree m index => exact execCtxFree_sound m index s hs
  case ctxReadPm m index => exact execCtxReadPm_sound m index s hs
  case ctxClearPm m index => exact execCtxClearPm_sound m index s hs
  case tickBoundary => exact execTickBoundary_sound s hs
  case pmRecordsWrite => exact execPmRecordsWrite_sound s hs
  case ppsInEdge offset => exact execPpsInEdge_sound offset s hs
  case ppsInLoss => exact execPpsInLoss_sound s hs
  case coreFrameBoundary f => exact execCoreFrameBoundary_sound f s hs
  case superframeBoundary f => exact execSuperframeBoundary_sound f s hs
  case cmEntryWrite m e region be data => exact execCmEntryWrite_sound m e region be data s hs
  case cmCopy m => exact execCmCopy_sound m s hs
  case cmFill m => exact execCmFill_sound m s hs
  case cmVerify m => exact execCmVerify_sound m s hs
  case cmVerifyDone bad => exact execCmVerifyDone_sound bad s hs
  case cmArm m atSf => exact execCmArm_sound m atSf s hs
  case cmDisarm m => exact execCmDisarm_sound m s hs
  case cmTest m => exact execCmTest_sound m s hs
  case cmOperationDone fail => exact execCmOperationDone_sound fail s hs
  case protectionEvaluation g ecc => exact execProtectionEvaluation_sound g ecc s hs
  case holdoffExpiry g p => exact execHoldoffExpiry_sound g p s hs
  case wtrExpiry g => exact execWtrExpiry_sound g s hs
  case speculationWindowExpiry g => exact execSpeculationWindowExpiry_sound g s hs
  case guardExpiry g => exact execGuardExpiry_sound g s hs
  case indexFrame g p mfas crc cycle => exact execIndexFrame_sound g p mfas crc cycle s hs
  case fillComplete g => exact execFillComplete_sound g s hs
  case admitGroup m g => exact execAdmitGroup_sound m g s hs
  case release m g => exact execRelease_sound m g s hs
  case query m g => exact execQuery_sound m g s hs
  case carrierBondEnable m en => exact execCarrierBondEnable_sound m en s hs
  case slotLaneBondEnable m j data => exact execSlotLaneBondEnable_sound m j data s hs
  case stackReadyLoss k => exact execStackReadyLoss_sound k s hs
  case mtestFreeBlocks m k => exact execMtestFreeBlocks_sound m k s hs
  case mtestWholeStack m k => exact execMtestWholeStack_sound m k s hs
  case mtestDone k fail => exact execMtestDone_sound k fail s hs
  case scrubPass k corr uncorr => exact execScrubPass_sound k corr uncorr s hs
  case octetPllWrite m k b be data => exact execOctetPllWrite_sound m k b be data s hs
  case octetPllLock k b => exact execOctetPllLock_sound k b s hs
  case laneEnable m n => exact execLaneEnable_sound m n s hs
  case txFirWrite m n be data => exact execTxFirWrite_sound m n be data s hs
  case laneSigFall n => exact execLaneSigFall_sound n s hs
  case laneSigRise n => exact execLaneSigRise_sound n s hs
  case cdrLockFall n held => exact execCdrLockFall_sound n held s hs
  case cdrLockRise n => exact execCdrLockRise_sound n s hs
  case trainingFrameReceived n seen next later => exact execTrainingFrameReceived_sound n seen next later s hs
  case trainingFrameSent n next => exact execTrainingFrameSent_sound n next s hs
  case equaliserConverged n dc peak dfe => exact execEqualiserConverged_sound n dc peak dfe s hs
  case noAckTimeout n => exact execNoAckTimeout_sound n s hs
  case trainingTimeout n => exact execTrainingTimeout_sound n s hs
  case trainingBackoffExpiry n => exact execTrainingBackoffExpiry_sound n s hs
  case trainStart m n => exact execTrainStart_sound m n s hs
  case trainAbort m n => exact execTrainAbort_sound m n s hs
  case trainResetBackoff m n => exact execTrainResetBackoff_sound m n s hs
  case idleHoldExpiry n => exact execIdleHoldExpiry_sound n s hs
  case txModeRequest m n mode => exact execTxModeRequest_sound m n mode s hs
  case sleepWarmupDone n => exact execSleepWarmupDone_sound n s hs
  case galopReceived n => exact execGalopReceived_sound n s hs
  case galopWaitTimeout n => exact execGalopWaitTimeout_sound n s hs
  case rxSleepWrite m n on => exact execRxSleepWrite_sound m n on s hs
  case rxWakeDone n => exact execRxWakeDone_sound n s hs
  case eyeMeasure m n eye phase volt dwell => exact execEyeMeasure_sound m n eye phase volt dwell s hs
  case eyeAbandon m n => exact execEyeAbandon_sound m n s hs
  case eyeDone n errors => exact execEyeDone_sound n errors s hs
  case loopbackWrite m n be data => exact execLoopbackWrite_sound m n be data s hs
  case flexoFrameReceived n place am otuc => exact execFlexoFrameReceived_sound n place am otuc s hs
  case rsCodewordDecode n fixed => exact execRsCodewordDecode_sound n fixed s hs
  case slotLaneFrameTransmit n => exact execSlotLaneFrameTransmit_sound n s hs
  case slotLaneFrameReceived n h cycle line fixes => exact execSlotLaneFrameReceived_sound n h cycle line fixes s hs
  case slotLaneCandidate n place frame => exact execSlotLaneCandidate_sound n place frame s hs
  case forerunnerFrameReceived n h line => exact execForerunnerFrameReceived_sound n h line s hs
  case forerunnerCandidate n place line => exact execForerunnerCandidate_sound n place line s hs
  case forerunnerBlockComplete n k empty more => exact execForerunnerBlockComplete_sound n k empty more s hs
  case forerunnerFrameStart cycle => exact execForerunnerFrameStart_sound s cycle hs
  case framePulseEdge cycle long => exact execFramePulseEdge_sound cycle long s hs
  case framePulseLoss => exact execFramePulseLoss_sound s hs
  case squelchHoldExpiry => exact execSquelchHoldExpiry_sound s hs
  case forerunnerFecBlock c blk x y inner fixes => exact execForerunnerFecBlock_sound c blk x y inner fixes s hs
  case referenceSelection off => exact execReferenceSelection_sound off s hs
  case referenceFailure r gross => exact execReferenceFailure_sound r gross s hs
  case referenceSample r off => exact execReferenceSample_sound r off s hs
  case referenceWtrExpiry r => exact execReferenceWtrExpiry_sound r s hs
  case acquisitionLocked => exact execAcquisitionLocked_sound s hs
  case acquisitionTimeout => exact execAcquisitionTimeout_sound s hs
  case historySample off => exact execHistorySample_sound off s hs
  case holdLimitExpiry => exact execHoldLimitExpiry_sound s hs
  case boleroComplete => exact execBoleroComplete_sound s hs
  case emzalRetryExpiry => exact execEmzalRetryExpiry_sound s hs
  case emzalCallHeard side => exact execEmzalCallHeard_sound side s hs
  case emzalListenTimeout => exact execEmzalListenTimeout_sound s hs
  case emzalSoloEnd => exact execEmzalSoloEnd_sound s hs
  case emzalSoloBEnd => exact execEmzalSoloBEnd_sound s hs
  case emzalAlignmentCodeword k header cell arrival erle corr uncorr => exact execEmzalAlignmentCodeword_sound k header cell arrival erle corr uncorr s hs
  case emzalLinkUp => exact execEmzalLinkUp_sound s hs
  case emzalDuplexTimeout => exact execEmzalDuplexTimeout_sound s hs
  case emzalLinkLoss k sigLost => exact execEmzalLinkLoss_sound k sigLost s hs
  case linkGraceExpiry => exact execLinkGraceExpiry_sound s hs
  case partnerReadingChange a b held => exact execPartnerReadingChange_sound a b held s hs
  case claimWatchExpiry => exact execClaimWatchExpiry_sound s hs
  case discoveryTimeout => exact execDiscoveryTimeout_sound s hs
  case waltzMessageReceived tRx check msg => exact execWaltzMessageReceived_sound tRx check msg s hs
  case twinHandover m => exact execTwinHandover_sound m s hs
  case twinTakeover m => exact execTwinTakeover_sound m s hs
  case twinResync m => exact execTwinResync_sound m s hs
  case twinClear m => exact execTwinClear_sound m s hs
  case handoverFailTimeout => exact execHandoverFailTimeout_sound s hs
  case resyncRetryExpiry => exact execResyncRetryExpiry_sound s hs
  case copyEnWrite m en => exact execCopyEnWrite_sound m en s hs
  case labelSendUser m c len => exact execLabelSendUser_sound m c len s hs
  case labelGasp m c code => exact execLabelGasp_sound m c code s hs
  case labelAbort m c => exact execLabelAbort_sound m c s hs
  case identPeriodExpiry c => exact execIdentPeriodExpiry_sound c s hs
  case labelPacketSent c => exact execLabelPacketSent_sound c s hs
  case labelCandidate x sf c netid time => exact execLabelCandidate_sound x sf c netid time s hs
  case labelHeaderDecoded x header corrected => exact execLabelHeaderDecoded_sound x header corrected s hs
  case labelSymbolBoundary x => exact execLabelSymbolBoundary_sound x s hs
  case labelPacketEnd x now bytes corrected rate snr depth => exact execLabelPacketEnd_sound x now bytes corrected rate snr depth s hs
  case rxqPop m x => exact execRxqPop_sound m x s hs
  case rxqFlush m x => exact execRxqFlush_sound m x s hs
  case pcieLinkChange gen width => exact execPcieLinkChange_sound gen width s hs
  case functionLevelReset pf1 => exact execFunctionLevelReset_sound pf1 s hs
  case intRearm m vec pf1 => exact execIntRearm_sound m vec pf1 s hs
  case msixUnmask pf1 vec => exact execMsixUnmask_sound pf1 vec s hs
  case busMasterChange pf1 bme d3hot => exact execBusMasterChange_sound pf1 bme d3hot s hs
  case dmaTailWrite m k tail => exact execDmaTailWrite_sound m k tail s hs
  case dmaDescriptorStart k d => exact execDmaDescriptorStart_sound k d s hs
  case dmaDescriptorDone k hostData how => exact execDmaDescriptorDone_sound k hostData how s hs
  case dmaChannelDisable m k => exact execDmaChannelDisable_sound m k s hs
  case eventRingCoalesce => exact execEventRingCoalesce_sound s hs
  case busRequest r busy beats => exact execBusRequest_sound r busy beats s hs
  case ageLimitExpiry id => exact execAgeLimitExpiry_sound id s hs
  case masterReset m => exact execMasterReset_sound m s hs
  case counterOverflow k => exact execCounterOverflow_sound k s hs
  case sampleRecordWrite k payload => exact execSampleRecordWrite_sound k payload s hs
  case freezeWrite m frozen halt => exact execFreezeWrite_sound m frozen halt s hs
  case mboxClaim m => exact execMboxClaim_sound m s hs
  case mboxRelease m => exact execMboxRelease_sound m s hs
  case mboxIdleTimeout => exact execMboxIdleTimeout_sound s hs
  case attest m len => exact execAttest_sound m len s hs
  case keyLoad m len => exact execKeyLoad_sound m len s hs
  case keySwitch m len => exact execKeySwitch_sound m len s hs
  case keySwitchEffect sa => exact execKeySwitchEffect_sound sa s hs
  case keyErase m len => exact execKeyErase_sound m len s hs
  case saSet m len => exact execSaSet_sound m len s hs
  case saRead m len => exact execSaRead_sound m len s hs
  case update m len flashOk => exact execUpdate_sound m len flashOk s hs
  case svnCommit m len => exact execSvnCommit_sound m len s hs
  case lifecycle m len => exact execLifecycle_sound m len s hs
  case mboxCommandDone => exact execMboxCommandDone_sound s hs
  case coreRunWrite m run => exact execCoreRunWrite_sound m run s hs
  case securedMultiframe sa slices confirmed => exact execSecuredMultiframe_sound sa slices confirmed s hs
  case consoleBreak => exact execConsoleBreak_sound s hs
  case fladarStatus => exact execFladarStatus_sound s hs
  case fladarRails => exact execFladarRails_sound s hs
  case fladarTemp => exact execFladarTemp_sound s hs
  case fladarRd page off n => exact execFladarRd_sound page off n s hs
  case fladarWr page off data => exact execFladarWr_sound page off data s hs
  case fladarMon v => exact execFladarMon_sound v s hs
  case fladarEye n eye => exact execFladarEye_sound n eye s hs
  case fladarJrnl k => exact execFladarJrnl_sound k s hs
  case fladarMode op => exact execFladarMode_sound op s hs
  case fladarMbox op data => exact execFladarMbox_sound op data s hs
  case fladarReset => exact execFladarReset_sound s hs
  case fladarClearFatal => exact execFladarClearFatal_sound s hs
  case fladarAck => exact execFladarAck_sound s hs
  case fladarEcho on => exact execFladarEcho_sound on s hs
  case attnClr m => exact execAttnClr_sound m s hs
  case testRails m => exact execTestRails_sound m s hs
  case testEye m n eye => exact execTestEye_sound m n eye s hs
  case testCtxmem m => exact execTestCtxmem_sound m s hs
  case testCore m lane => exact execTestCore_sound m lane s hs
  case testLane m n => exact execTestLane_sound m n s hs
  case testMem m k full => exact execTestMem_sound m k full s hs
  case testConv m c => exact execTestConv_sound m c s hs
  case testFgcal m c => exact execTestFgcal_sound m c s hs
  case testEz m => exact execTestEz_sound m s hs
  case testAbort m => exact execTestAbort_sound m s hs
  case testEnd r => exact execTestEnd_sound r s hs
  case journalRecordWrite => exact execJournalRecordWrite_sound s hs
  case jrnlWriteUser m => exact execJrnlWriteUser_sound m s hs
  case debugLineReset => exact execDebugLineReset_sound s hs
  case debugFrame wr tag reg data crc => exact execDebugFrame_sound wr tag reg data crc s hs
  case dbgBusRead tag autoinc => exact execDbgBusRead_sound tag autoinc s hs
  case dbgBusWrite tag autoinc => exact execDbgBusWrite_sound tag autoinc s hs
  case dbgBusDone => exact execDbgBusDone_sound s hs
  case tokenWrite tag data => exact execTokenWrite_sound tag data s hs
  case unlockSubmit tag => exact execUnlockSubmit_sound tag s hs
  case unlockDone => exact execUnlockDone_sound s hs
  case unlockRelock tag => exact execUnlockRelock_sound tag s hs
  case cpuHalt tag => exact execCpuHalt_sound tag s hs
  case cpuResume tag => exact execCpuResume_sound tag s hs
  case cpuStep tag => exact execCpuStep_sound tag s hs
  case cpuHaltAll tag => exact execCpuHaltAll_sound tag s hs
  case cpuResumeAll tag => exact execCpuResumeAll_sound tag s hs
  case regCmdRead tag => exact execRegCmdRead_sound tag s hs
  case regCmdWrite tag => exact execRegCmdWrite_sound tag s hs
  case breakpointHit k b => exact execBreakpointHit_sound k b s hs
  case dbgOffWrite m => exact execDbgOffWrite_sound m s hs
  case jtagInstruction ir => exact execJtagInstruction_sound ir s hs
  case resetNReleased perst side src => exact execResetNReleased_sound perst side src s hs
  case xoInReturn => exact execXoInReturn_sound s hs
  case referenceFailureEnd r => exact execReferenceFailureEnd_sound r s hs
  case wardenIntegrityFailure => exact execWardenIntegrityFailure_sound s hs
  case laneCtrlWrite m n be data => exact execLaneCtrlWrite_sound m n be data s hs

/-- Every command completes and leaves the queue behind it. -/
theorem exec_next (c : Instr) (s : State) : ∃ t, exec c s = .next t ∧ t.pending = s.pending := by
  obtain ⟨t, h⟩ := exec_finishes c s
  exact ⟨settle s t, h.trans (finish_eq s t), settle_pending s t⟩

/-- Every command keeps soundness. -/
theorem exec_keeps_sound {u : Fuses} {c : Instr} {s t : State} (h : s.sound u = true) (ht : exec c s = .next t) :
    t.sound u = true := by
  obtain ⟨t', hf, hs⟩ := exec_effect_sound c s h
  rw [hf, finish_eq] at ht
  injection ht with ht
  rw [← ht]
  exact settle_sound s t' hs

/-- With a command in front, a step is that command on the state with the queue's rest. -/
theorem step_of_pending {s : State} {c : Instr} {q : List Instr} (h : s.pending = c :: q) :
    step s = exec c (s.withPending q) := by
  unfold step
  rw [h]

/-- An empty queue: the block idles. -/
theorem step_idle {s : State} (h : s.pending = []) : step s = .next s := by
  unfold step
  rw [h]

end Sys2Proof.Machine
end

