-- ==== Sys2Proof/Tests/Slice0.lean ====
section
/-! SUPPORT. Tests: each check of WellFormed refuses an ill-formed term; concrete states that meet the hypotheses of each
statement, clause by clause; and single commands whose results the spec gives. -/

namespace Sys2Proof.Tests

open Sys2Proof Sys2Proof.Machine

/-! ## WellFormed refuses -/

theorem test_wf_busReq_long : (Instr.busRequest ⟨.dma, .m, 0, .read (List.replicate 65 15), none⟩ false none).wf = false := by decide
theorem test_wf_busReq_warden : (Instr.busRequest ⟨.warden, .m, 0x8000000000, .read [15], none⟩ false none).wf = false := by decide
theorem test_wf_secured : (Instr.securedMultiframe 0 [⟨[[], [], [], []]⟩] true).wf = false := by decide
theorem test_wf_emzal : (Instr.emzalAlignmentCodeword 0 0 [1] 0 0 0 0).wf = false := by decide
theorem test_wf_busReq_empty : (Instr.busRequest ⟨.dma, .m, 0, .write [], none⟩ false none).wf = false := by decide
theorem test_wf_busReq_byteEnables : (Instr.busRequest ⟨.dma, .m, 0, .write [(16, 0)], none⟩ false none).wf = false := by decide
theorem test_wf_busReq_data : (Instr.busRequest ⟨.dma, .m, 0, .write [(15, 4294967296)], none⟩ false none).wf = false := by decide
theorem test_wf_busReq_unaligned : (Instr.busRequest ⟨.pf0, .m, 2, .read [15], none⟩ false none).wf = false := by decide
theorem test_wf_busReq_wide : (Instr.busRequest ⟨.dma, .m, 1099511627776, .read [15], none⟩ false none).wf = false := by decide
theorem test_wf_descriptor : (Instr.dmaDescriptorStart 0 ⟨0, 0, 4294967296, 0⟩).wf = false := by decide
theorem test_wf_oduFrame : (Instr.oduFrameReceived false 0 ⟨true, 0, [], 0, [], none⟩ []).wf = false := by decide
theorem test_wf_coreFrame : (Instr.coreFrameBoundary ⟨[(46080, [])], [], [], 0, [], [], [], []⟩).wf = false := by decide
theorem test_wf_superframe : (Instr.superframeBoundary ⟨[], [], [46080], 0, [], [], [], []⟩).wf = false := by decide
theorem test_wf_rails : (Instr.vddAonApplied true [900]).wf = false := by decide
theorem test_wf_ttiExpect : (Instr.cfwTtiExpect .pf0 0 []).wf = false := by decide
theorem test_wf_verifyDone : (Instr.cmVerifyDone [46080]).wf = false := by decide
theorem test_wf_rd_none : (Instr.fladarRd 0 0 0).wf = false := by decide
theorem test_wf_rd_unaligned : (Instr.fladarRd 0 2 1).wf = false := by decide
theorem test_wf_wr : (Instr.fladarWr 0 1 0).wf = false := by decide
theorem test_wf_fuse_bit : (Instr.bootComplete ⟨true, true, [⟨4, 0, 64⟩], none, none, 0⟩).wf = false := by decide
theorem test_wf_fuse_twice : (Instr.bootComplete ⟨true, true, [⟨5, 0, 3⟩, ⟨5, 2, 3⟩], none, none, 0⟩).wf = false := by decide
theorem test_wf_jrnl : (Instr.fladarJrnl 0).wf = false := by decide
theorem test_wf_decode : (Instr.ldpcCodewordDecode 0 0 []).wf = false := by decide
theorem test_wf_slice : (Instr.lineFrameTransmit 0 ⟨0, [[[]]]⟩).wf = false := by decide
theorem test_wf_fec : (Instr.forerunnerFecBlock 0 0 [] [] [] []).wf = false := by decide
theorem test_wf_accepts : (Instr.busRequest ⟨.dma, .m, 0x1000, .write [(15, 1)], none⟩ false none).wf = true := by decide

/-! ## Small states -/

/-- A device in a mode with its reset pins high, all else as after reset. -/
def base (m : Mode) : State := { dev := { mode := m, rstLow := false, perstLow := false } }
/-- A Standalone device. -/
def st : State := base .standalone
/-- A device in Maintenance. -/
def maint : State := base .maintenance
/-- A device in the TWIN role, its link in a state. -/
def twin (m : Mode) (link : Nat) : State := (base m).fsets [(F.dev_ROLE_ROLE, 2), (F.twin_TWIN_STATUS_LINK, link)]
/-- A Standalone device with the engines of both carriers on. -/
def eng : State := st.fsets [(F.car_PWR_CTRL_ENGINE_PWR 0, 1), (F.car_PWR_CTRL_ENGINE_PWR 1, 1)]
/-- A Standalone device whose carrier 0 is lit and sends. -/
def lit : State :=
  let s := eng.fsets [(F.hdr_BLK_STATUS_READY 0x10, 1), (enFl 0x10, 1), (F.car_TX_CTRL_TX_EN 0, 1), (F.lbl_LBL_TX_CFG_EN 0, 1)]
  s.setCar 0 { s.car 0 with chain := true }

/-! ## The statements' hypotheses are met -/

theorem test_hypotheses_RegisterWritesReachTheirPage : st.reaches .pf0 0 ∧ st.reaches .warden 0x2C0 := by decide
theorem test_hypotheses_HeaderCommandsComplete : st.reaches .pf0 0 ∧ st.reaches .pf0 0x40 ∧ (0x40 : Nat) ≠ 0 := by decide
theorem test_hypotheses_BlockControlCompletes :
    (st.reaches .pf0 0x10 ∧ hasEnable 0x10 = true) ∧
    (st.reaches .pf0 0x2B0 ∧ st.reaches .pf0 0x2B3 ∧ hasEnable 0x2B3 = true) ∧
    (let s := st.fset (enFl 0x2B3) 0
     s.reaches .pf0 0x2B3 ∧ s.enabled 0x2B3 = false ∧ s.draining 0x2B3 = false) ∧
    st.enabled 0x2B0 = true ∧ st.dev.mode ≠ .maintenance := by decide
theorem test_hypotheses_ReadinessEventsComplete : st.live = true ∧ st.readyAwaited 0x60 = true := by decide
theorem test_hypotheses_ModeRequestsAccepted :
    (st.reaches .pf0 0 ∧ st.transiting = false ∧ maintFromOk st.dev.mode = true ∧ serviceFrom st.dev.mode = true) ∧
    (maint.reaches .pf0 0 ∧ maint.transiting = false ∧ maint.dev.mode = .maintenance) ∧
    (let s : State := { base .service with sec := { ({} : Sec) with run := { ({} : RunningImages) with keys := [⟨1, []⟩] } } }
     s.reaches .pf0 0 ∧ s.transiting = false ∧ s.dev.mode = .service ∧ s.sec.run.keys ≠ []) := by decide
theorem test_hypotheses_DevicePageCommandsComplete : st.reaches .pf0 0 ∧ st.dev.mode ≠ .service := by decide
theorem test_hypotheses_FirmwareCommandsComplete :
    (let s : State := { st with cfw := { ({} : Cfw) with cmd := some ⟨2, 0, []⟩ } }
     s.live = true ∧ s.cfw.cmd = some ⟨2, 0, []⟩) ∧
    (let s : State := { dev := { mode := .standalone, fwRunning := true } }
     s.reaches .pf0 1 ∧ s.dev.fwRunning = true ∧ s.cfw.cmd = none) := by decide
theorem test_hypotheses_ResetPinsComplete :
    (st.dev.aonOn = true ∧ st.dev.mode ≠ .dormant ∧ st.dev.mode ≠ .reset) ∧
    ((base .reset).dev.aonOn = true ∧ (base .reset).dev.mode = .reset ∧ (base .reset).missingItems ≠ []) ∧
    (st.fset F.dev_RESET_CFG_PERST_FULL 1).flag F.dev_RESET_CFG_PERST_FULL = true ∧
    (st.fset F.dev_RESET_CFG_PERST_FULL 0).flag F.dev_RESET_CFG_PERST_FULL = false := by decide
theorem test_hypotheses_PowerEventsComplete :
    (({ dev := { aonOn := false } } : State).dev.aonOn = false) ∧ (st.dev.aonOn = true ∧ st.live = true) ∧
    (st.fset (F.svc_RAIL_STATE 8) 4).fget (F.svc_RAIL_STATE 8) = 4 ∧ (st.fset (F.svc_RAIL_STATE 0) 4).fget (F.svc_RAIL_STATE 0) = 4 ∧
    (st.fset F.svc_SVC_STATUS_XO_PRESENT 1).flag F.svc_SVC_STATUS_XO_PRESENT = true ∧
    (st.fset F.svc_SVC_STATUS_ROOT_LOCK 1).flag F.svc_SVC_STATUS_ROOT_LOCK = true := by decide
theorem test_hypotheses_BootAndBringUpComplete :
    (base .boot).dev.mode = .boot ∧
    (let s := (base .bringUp).fsets [(F.hdr_BLK_STATUS_READY 0x80, 1), (F.dev_ROLE_ROLE, 1)]
     s.dev.mode = .bringUp ∧ s.ready 0x80 = true ∧ s.fget F.dev_ROLE_ROLE = 1) ∧
    (let s := (base .bringUp).fsets [(F.hdr_BLK_STATUS_READY 0x80, 1), (F.dev_ROLE_ROLE, 3)]
     s.dev.mode = .bringUp ∧ s.ready 0x80 = true ∧ s.fget F.dev_ROLE_ROLE = 3) ∧
    (let s : State := ({ dev := { mode := .standalone, fwRunning := true } } : State).fset F.dev_CTLFW_WDOG_TIMEOUT 100
     serviceFrom s.dev.mode = true ∧ s.dev.fwRunning = true ∧ s.fget F.dev_CTLFW_WDOG_TIMEOUT ≠ 0 ∧
       s.anyDebugHalt = false) := by decide
theorem test_hypotheses_CarrierControlCompletes :
    (eng.reaches .pf0 0x20 ∧ eng.enabled 0x20 = false ∧ eng.draining 0x20 = false ∧ (eng.car 1).cal = none) ∧
    (let s := eng.fset (enFl 0x10) 1
     s.reaches .pf0 0x10 ∧ s.enabled 0x10 = true) ∧
    (let s := eng.fset (F.hdr_BLK_STATUS_DRAINING 0x10) 1
     s.reaches .pf0 0x10 ∧ s.draining 0x10 = true) ∧
    (let s := eng.fsets [(F.car_CFG_STATUS_VALID 0, 1), (F.car_CFG_STATUS_CALC 0, 0)]
     s.enabled 0x10 = false ∧ s.engine 0 = true ∧ s.flag (F.car_CFG_STATUS_CALC 0) = false ∧ s.draining 0x10 = false ∧
       s.flag (F.car_CFG_STATUS_VALID 0) = true ∧ (s.car 0).cal = none) := by decide
theorem test_hypotheses_CarrierCommandsComplete :
    (let s := ({ eng with dev := { mode := .maintenance } } : State).fset (enFl 0x10) 1
     s.reaches .pf0 0x12 ∧ (s.car 0).cal = none ∧ s.enabled 0x10 = true ∧ s.dev.mode = .maintenance) ∧
    (let s := eng.fset (F.hdr_BLK_STATUS_READY 0x2B1) 1
     let d : Word := 0xAC
     s.reaches .pf0 0x25 ∧ bitsOf d.toNat 2 3 < 5 ∧ bitsOf d.toNat 5 3 < 6 ∧ bitOf d.toNat 1 = false ∧
       s.capBusy 1 = false ∧ s.ready 0x2B1 = true) ∧
    (let d : Word := 0x200002
     eng.reaches .pf0 0x11 ∧ bitsOf d.toNat 0 2 ≠ 0 ∧ bitsOf d.toNat 0 2 ≠ 3 ∧ bitsOf d.toNat 16 6 ≠ 0 ∧
       bitsOf d.toNat 16 6 ≤ 32 ∧ eng.flag (F.fe_FE_STATUS_BUSY 0) = false) := by decide
theorem test_hypotheses_CarrierEventsComplete :
    (st.live = true ∧ eng.engine 1 = true ∧ eng.flag (F.car_RX_STATUS_SIG 0) = false) ∧
    (st.fset (F.car_CFG_STATUS_CALC 0) 1).flag (F.car_CFG_STATUS_CALC 0) = true ∧
    (st.fset (F.car_PWR_CTRL_ENGINE_ON 0) 1).flag (F.car_PWR_CTRL_ENGINE_ON 0) = true ∧
    (st.fset (F.car_RX_STATUS_FROZEN 0) 1).flag (F.car_RX_STATUS_FROZEN 0) = true := by decide
theorem test_hypotheses_CarrierChecksComplete :
    (let s := eng.fset (F.car_RX_STATUS_STAGE 0) 2
     s.live = true ∧ s.engine 0 = true ∧ s.flag (F.car_RX_STATUS_FROZEN 0) = false ∧ 2 ≤ s.fget (F.car_RX_STATUS_STAGE 0)) ∧
    (let s := (eng.fset (F.cap_CAPTURE_STATUS_STATE 0) 1).setCar 0 { cap := { seen := some ⟨[], [], []⟩ } }
     s.fget (F.cap_CAPTURE_STATUS_STATE 0) = 1 ∧ (s.car 0).cap.seen = some ⟨[], [], []⟩) ∧
    (eng.fset (F.cap_CAPTURE_STATUS_STATE 0) 2).fget (F.cap_CAPTURE_STATUS_STATE 0) = 2 ∧
    (let s := (eng.fset (F.cap_CAPTURE_STATUS_STATE 1) 3).setCar 1 { cap := { seen := some ⟨[], [], []⟩ } }
     s.fget (F.cap_CAPTURE_STATUS_STATE 1) = 3 ∧ (s.car 1).cap.seen = some ⟨[], [], []⟩) := by decide
theorem test_hypotheses_LineCommandsComplete : 
    (lit.live = true ∧ lit.sendsFrames 0 = true ∧ lit.carBonded = false) ∧
    (let s := (lit.fsets [(F.bond_CBOND_CTRL_EN, 1), (F.car_TX_CTRL_TX_EN 1, 1)]).setCar 1 { lit.car 1 with chain := true }
     s.sendsFrames 0 = true ∧ s.sendsFrames 1 = true ∧ s.carBonded = true) ∧
    (let s := lit.fset (F.car_RATE_MODE 0) 1; s.txRuns 0 = true ∧ s.foreMode 0 = true) := by decide
theorem test_hypotheses_TributaryCommandsComplete :
    st.reaches .pf0 0x40 ∧ st.odu.applying = none ∧ (st.applyCheck false 0).1 = 0 ∧ (st.applyCheck true 255).1 = 0 := by decide
theorem test_hypotheses_OduEventsComplete :
    st.live = true ∧
    ({ st with odu := { st.odu with applying := some (false, 0, 0) } } : State).odu.applying = some (false, 0, 0) ∧
    ({ st with odu := { st.odu with recordsDue := true } } : State).odu.recordsDue = true ∧
    (st.fset F.odu_TICK_STATUS_PPS_PRESENT 1).flag F.odu_TICK_STATUS_PPS_PRESENT = true := by decide
theorem test_hypotheses_ContextCommandsComplete :
    st.reaches .pf0 0x60 ∧ (261119 : Nat) < 261120 ∧
    st.cfgResult (st.withConfig 0 ((List.range 6).map fun i => st.fget (F.ctx_CTX_DATA_DATA i))) .pf0 0 = 0 ∧
    st.ctxEn 261119 = false ∧ st.slotGroupHeld 261119 = false ∧ st.odu.activeI.names 261119 = false ∧
    st.odu.activeE.names 261119 = false ∧ st.pgNames 261119 = false ∧ (8191 : Nat) < 8192 := by decide
theorem test_hypotheses_ConnectionMemoryCommandsComplete :
    (st.reaches .pf0 0x82 ∧ st.reaches .pf0 (cmPlace 46079).1 ∧ st.cmView.2 = false ∧ st.cmState = 0) ∧
    (st.reaches .pf0 0x80 ∧ st.cmIdle = true ∧ st.shadowOk = true ∧ st.cmState ≠ 3) ∧
    ((st.setCmState 4).reaches .pf0 0x82 ∧ (st.setCmState 4).cmView.2 = false ∧ (st.setCmState 4).cmState = 4) ∧
    (st.setCmState 3).reaches .pf0 0x80 ∧ (st.setCmState 3).cmState = 3 ∧ (st.setCmState 3).dev.mode ≠ .twinActive :=
  ⟨by decide +kernel, by decide +kernel, by decide +kernel, by decide +kernel⟩
theorem test_hypotheses_ConnectionMemoryEventsComplete :
    st.live = true ∧ (st.setCmState 2).cmState = 2 ∧
    (let s := ({ st with core := { st.core with op := 1 } } : State).setCmState 1
     s.cmState = 1 ∧ s.core.op = 1) := by decide
theorem test_hypotheses_ProtectionEventsComplete :
    (let s : State := { st with ctx := [(0, 2)] }
     s.live = true ∧ s.ctxType 0 = 2 ∧ (s.run 0).ecc = false) ∧
    (let s : State := st.setRun 0 { st.run 0 with ecc := true }
     s.live = true ∧ (s.run 0).ecc = true) := by decide
/-- Context 1 is an enabled protection group whose alignment group is context 2. -/
def grp : State := { st with ctx := [(16, 2 + 16 + 128), (18, 0), (32, 4 + 16), (34, 1)] }
theorem test_hypotheses_SkewBufferCommandsComplete :
    (st.reaches .pf0 0x90 ∧ st.reaches .pf0 0x92 ∧ st.enabled 0x10 = false ∧ st.enabled 0x20 = false ∧ st.carBonded = false) ∧
    (let s : State := { grp with prot := { grp.prot with aligners := [(1, {})] } }
     s.reaches .pf0 0x90 ∧ s.ctxType 1 = 2 ∧ s.admitted 1 = true) := by decide
theorem test_hypotheses_StackCommandsComplete :
    (let s := maint.fsets [(F.hdr_BLK_STATUS_READY 0x2B3, 1), (F.prot_SKEW_CFG_STACKS, 0), (F.mem_SCRUB_CFG_SCRUB_EN 3, 1)]
     s.reaches .pf0 0x2B3 ∧ s.ready 0x2B3 = true ∧ s.fget (F.mem_MTEST_STATUS_STATE 3) ≠ 1 ∧ s.shadowOk = true ∧
       s.dev.mode = .maintenance ∧ bitOf (s.fget F.prot_SKEW_CFG_STACKS) 3 = false ∧ s.live = true ∧
       s.flag (F.mem_SCRUB_CFG_SCRUB_EN 3) = true) ∧
    (st.fset (F.mem_MTEST_STATUS_STATE 0) 1).fget (F.mem_MTEST_STATUS_STATE 0) = 1 := by decide

/-- The stacks of SKEW_CFG are ready. -/
def stacked (s : State) : State := (List.range 4).foldl (fun s i => s.fset (F.hdr_BLK_STATUS_READY (0x2B0 + i)) 1) s
theorem test_hypotheses_SkewBufferCommandsComplete_admit :
    (stacked { st with ctx := [(16, 0x92), (20, 2), (32, 0x14), (33, 100), (34, 1)] }).reaches .pf0 0x90 ∧
    ((stacked { st with ctx := [(16, 0x92), (20, 2), (32, 0x14), (33, 100), (34, 1)] }).admitCheck 1).1 = 0 :=
  ⟨by decide, by decide⟩
theorem test_hypotheses_SkewBufferCommandsComplete_carriers :
    let s := (stacked st).fsets [(F.car_RATE_SLICES 0, 32), (F.car_RATE_SLICES 1, 32), (F.lm_LM_CFG_BOND_EN 0, 1),
      (F.lm_LM_CFG_BOND_EN 1, 1)]
    s.reaches .pf0 0x92 ∧ s.enabled 0x10 = false ∧ s.enabled 0x20 = false ∧ s.carBonded = false ∧ s.bondRefusal = 0 :=
  ⟨by decide, by decide, by decide, by decide, by decide⟩
/-- Lanes 254 and 255 are enabled as slot lanes. -/
def slots : State := st.fsets [(enFl 0x1FE, 1), (enFl 0x1FF, 1), (F.lane_LANE_CFG_FORMAT 254, 3), (F.lane_LANE_CFG_FORMAT 255, 3)]
theorem test_hypotheses_SkewBufferCommandsComplete_lanes :
    slots.reaches .pf0 0x92 ∧ slots.flag (F.bond_SLB_CFG_EN 127) = false ∧ slots.bondValid 127 254 2 = true ∧
    (let w := slots.mergedWord 0x92 (0x100 + 8 * 127) 0 0xF 0x22FE
     bitOf w 13 = true ∧ bitsOf w 0 8 = 254 ∧ bitsOf w 8 5 = 2) :=
  ⟨by decide, by decide, by decide, by decide⟩
/-- Lane 255 is enabled, its state machine in a state. -/
def laneIn (x : Nat) : State := st.fsets [(enFl 0x1FF, 1), (F.lane_TRAIN_STATUS_STATE 255, x)]
theorem test_hypotheses_LaneControlCompletes :
    (st.reaches .pf0 0x21F ∧ st.reaches .pf0 (lanePage 255) ∧ st.enabled 0x1FF = false ∧ st.draining 0x1FF = false ∧
      st.laneRateOk 255 = false ∧ bitsOf (st.mergedWord 0x1FF 0x68 0 15 0) 0 4 = 0 ∧ st.laneUnused 255 = true ∧
      st.shadowOk = true ∧ maint.dev.mode = .maintenance ∧
      ({ maint with odu := { maint.odu with activeI := { su := [(40800, 0)] } } } : State).laneUnused 255 = false) ∧
    (let s := st.fsets [(F.oct_PLL_A_RATE_SEL 31, 1), (F.oct_PLL_A_LOCK 31, 1), (F.lane_LANE_CFG_FORMAT 255, 3)]
     s.reaches .pf0 0x1FF ∧ s.laneRateOk 255 = true ∧ s.enabled 0x1FF = false ∧ s.draining 0x1FF = false) :=
  ⟨by decide +kernel, by decide +kernel⟩
theorem test_hypotheses_LaneTrainingCompletes :
    ((laneIn 5).reaches .pf0 (lanePage 255) ∧ (laneIn 5).trainState 255 = 5 ∧ (laneIn 5).live = true ∧
      (laneIn 5).flag (F.lane_TRAIN_CFG_RETRY_EN 255) = true) ∧
    ((laneIn 1).attempting 255 = true ∧ (laneIn 3).attempting 255 = true ∧ (laneIn 1).trainState 255 = 1 ∧
      (laneIn 2).trainState 255 = 2) ∧
    (((laneIn 3).setLane 255 { outstanding := true }).attempting 255 = true ∧
      (((laneIn 3).setLane 255 { outstanding := true }).lane 255).outstanding = true) ∧
    (let s := (laneIn 4).fset (F.lane_RX_STATUS_FROZEN 255) 1
     s.flag (F.lane_RX_STATUS_FROZEN 255) = true ∧ s.flag (F.lane_RX_STATUS_RX_ASLEEP 255) = false ∧ s.trainState 255 = 4) :=
  ⟨by decide, by decide, by decide, by decide⟩
theorem test_hypotheses_LaneSignalCompletes :
    (st.reaches .pf0 (lanePage 255) ∧ st.testsOk = true ∧ st.flag (F.lane_RX_STATUS_RX_ASLEEP 255) = false ∧
      st.attempting 255 = false ∧ (st.lane 255).eye = none ∧ st.live = true) ∧
    (let s := st.setLane 255 { eye := some true }
     (s.lane 255).eye = some true ∧ (s.lane 255).eye.isSome = true ∧ s.flag (F.lane_RX_STATUS_RX_ASLEEP 255) = false ∧
      s.attempting 255 = false) ∧
    (let s := (laneIn 4).fset (F.lane_RX_STATUS_SIG 255) 1
     s.enabled 0x1FF = true ∧ s.flag (F.lane_RX_STATUS_SIG 255) = true) ∧
    (let s := (laneIn 4).fset (F.lane_RX_STATUS_TX_STATE 255) 3
     s.fget (F.lane_RX_STATUS_TX_STATE 255) = 3 ∧ s.txWanted 255 ≠ 0) ∧
    (let s := ((laneIn 4).fset (F.lane_RX_STATUS_SIG 255) 1).setLane 255 { galopWait := true }
     s.flag (F.lane_RX_STATUS_SIG 255) = true ∧ (s.lane 255).galopWait = true) ∧
    (let s := st.fset (F.lane_RX_STATUS_RX_ASLEEP 255) 1
     s.flag (F.lane_RX_STATUS_RX_ASLEEP 255) = true ∧ s.flag (F.lane_LANE_CTRL_RX_SLEEP 255) = false) :=
  ⟨by decide, by decide, by decide, by decide, by decide, by decide⟩
theorem test_hypotheses_LaneFramesComplete : st.live = true := by decide
theorem test_hypotheses_TimingEventsComplete :
    st.booted = true ∧
    (let s := st.fsets [(F.ref_REF_STATUS_VALID 8, 1), (F.ref_REF_STATUS_ELIGIBLE 8, 0)]
     s.booted = true ∧ s.flag (F.ref_REF_STATUS_VALID 8) = true ∧ s.flag (F.ref_REF_STATUS_ELIGIBLE 8) = false) ∧
    (st.fset F.tim_DPLL_STATUS_STATE 1).fget F.tim_DPLL_STATUS_STATE = 1 ∧
    (st.fset F.tim_DPLL_STATUS_STATE 4).fget F.tim_DPLL_STATUS_STATE = 4 := ⟨by decide, by decide, by decide, by decide⟩
theorem test_hypotheses_TwinEventsComplete :
    ((twin .twinActive 0).paired = true ∧ (twin .twinActive 0).link = 0 ∧
      (twin .twinActive 0).flag F.twin_TWIN_STATUS_SIDE_CONFLICT = false) ∧
    ((twin .twinActive 1).paired = true ∧ (twin .twinActive 1).link = 1 ∧ true ≠ (twin .twinActive 1).sideB ∧
      (twin .twinActive 1).sideB = false) ∧
    ((twin .twinActive 2).link = 2 ∧ (twin .twinActive 3).link = 3 ∧ (twin .twinActive 4).link = 4 ∧
      (twin .twinActive 5).linkUp = true ∧ (twin .twinActive 5).paired = true) ∧
    (let s : State := { (twin .twinActive 4).fsets ((List.range 4).map fun k => (F.ez_EZ_STATUS_AM_LOCK k, 1)) with
       twin := { ({} : Twin) with partnerAligned := true } }
     s.paired = true ∧ s.link = 4 ∧ s.ezAligned = true ∧ s.twin.partnerAligned = true ∧ s.dev.twinRole ≠ 3) ∧
    (let s : State := { twin .twinStandby 0 with dev := { mode := .twinStandby, twinRole := 2 }
                                                 twin := { ({} : Twin) with grace := true, discovering := true } }
     s.paired = true ∧ s.twin.grace = true ∧ s.dev.twinRole = 2 ∧ s.twin.discovering = true) ∧
    (let s : State := { twin .twinActive 5 with twin := { ({} : Twin) with sw := .handedOver } }
     s.paired = true ∧ s.twin.sw = .handedOver ∧ s.reading ≠ 1) ∧
    (let s : State := { twin .twinStale 5 with dev := { mode := .twinStale, twinRole := 3 }
                                               twin := { ({} : Twin) with resync := 6 } }
     s.paired = true ∧ s.twin.resync = 6 ∧ s.dev.twinRole = 3 ∧ s.linkUp = true) :=
  ⟨by decide, by decide, by decide, by decide, by decide, by decide, by decide⟩
/-- The header of an eligible partner. -/
def eligibleHdr : WaltzHeader := ⟨0, 0, 0, 6, 2, true, true, false, false, false, false, false, true, 0, 0⟩
theorem test_hypotheses_TwinCommandsComplete :
    (let s : State := { twin .twinActive 5 with twin := { ({} : Twin) with lastHdr := some eligibleHdr } }
     s.reaches .pf0 0x250 ∧ s.dev.mode = .twinActive ∧ s.switching = false ∧ s.partnerEligible = true ∧ s.linkUp = true ∧
       s.flag F.twin_TWIN_STATUS_INTERLOCK_FAULT = false) ∧
    ((twin .twinStandby 0).reaches .pf0 0x250 ∧ (twin .twinStandby 0).dev.mode = .twinStandby ∧
      (twin .twinStandby 0).switching = false ∧ (twin .twinStandby 0).reading = 0) ∧
    ((twin .twinStale 5).reaches .pf0 0x250 ∧ (twin .twinStale 5).dev.mode = .twinStale ∧
      (twin .twinStale 5).twin.resync = 0 ∧ (twin .twinStale 5).linkUp = true ∧
      (twin .twinStale 5).flag F.twin_TWIN_STATUS_SIDE_CONFLICT = false) :=
  ⟨by decide, by decide, by decide⟩
theorem test_hypotheses_LabelCommandsComplete :
    (lit.reaches .pf0 (lblPage 0) ∧ lit.lblCanSend 0 = true ∧ lit.flag (F.lbl_LBL_TX_CFG_EN 0) = true ∧
      (lit.ltx 0).user = none ∧ lit.ltx 0 = {} ∧ 1 ≤ (64 : Byte).toNat ∧ (64 : Byte).toNat ≤ 64) ∧
    (st.reaches .pf0 (lblPage 1) ∧ st.lblCanSend 1 = false) ∧
    ((lit.setLtx 0 { cur := some ⟨2, [], 7⟩ }).ltx 0).cur = some ⟨2, [], 7⟩ ∧
    (st.reaches .pf0 (rxPage 0) ∧ st.reaches .pf0 (rxPage 3)) := ⟨by decide, by decide, by decide, by decide⟩
theorem test_hypotheses_LabelEventsComplete :
    let s := lit.fset (F.lbl_LBL_TX_CFG_PERIOD 0) 1
    s.live = true ∧ s.fget (F.lbl_LBL_TX_CFG_PERIOD 0) ≠ 0 ∧ s.lblCanSend 0 = true ∧ s.flag (F.lbl_LBL_TX_CFG_EN 0) = true :=
  ⟨by decide, by decide, by decide, by decide⟩
/-- A device whose host link is up, with its functions ready for messages, and DMA channel 15 running with work. -/
def linked : State :=
  let s := st.fsets [(F.pcie_LINK_STATUS_UP, 1), (F.dma_CH_CFG_EN 15, 1), (F.dma_CH_STATUS_STATE 15, 1), (F.dma_CH_TAIL_TAIL 15, 1),
    (F.hdr_INT_STATUS_INT 0, 1), (F.hdr_INT_ENABLE_EN 0, 1), (F.hdr_INT_VECTOR_VEC0 0, 63)]
  { s with host := { s.host with pf0 := { s.host.pf0 with msixEn := true, bme := true, unmasked := [63] } } }
theorem test_hypotheses_HostCommandsComplete :
    (linked.live = true ∧ linked.flag (F.dma_CH_CFG_EN 15) = true ∧ linked.fget (F.dma_CH_STATUS_STATE 15) = 1 ∧
      (linked.chan 15).job = none ∧ linked.chPending 15 = true ∧ linked.dmaReady = true) ∧
    (linked.descRefused ⟨0, 0, 4, 0⟩ = none ∧ linked.descRefused ⟨0, 0, 0, 0⟩ = some 7) ∧
    (linked.reaches .pf0 0x260 ∧ linked.reaches .pf0 0x261 ∧ (requestedVectors linked 0).contains 63 = true ∧
      (linked.pf 0).unmasked.contains 63 = true ∧ linked.msgReady 0 = true) := ⟨by decide, by decide, by decide⟩
theorem test_hypotheses_BusCommandsComplete : st.live = true ∧ Master.dma ≠ .warden ∧ st.reaches .pf0 0x272 := by decide
/-- PF0 owns the mailbox. -/
def owned : State := st.fsets [(F.sec_MBOX_STATUS_OWNED, 1), (F.sec_MBOX_STATUS_OWNER, 0), (F.sec_MBOX_STATUS_DONE, 1)]
theorem test_hypotheses_MailboxCommandsComplete :
    owned.reaches .pf0 0x280 ∧ owned.mboxOwnedBy .pf0 = true ∧ owned.flag F.sec_MBOX_STATUS_DONE = true :=
  ⟨by decide, by decide, by decide⟩
theorem test_hypotheses_SecurityCommandsComplete :
    (owned.reaches .pf0 0x280 ∧ owned.mboxOwnedBy .pf0 = true ∧ isCore (.core 7) = true ∧ owned.live = true ∧
      owned.flag F.sec_MBOX_STATUS_OWNED = true ∧ owned.flag F.sec_MBOX_STATUS_DONE = true) ∧
    (let s : State := ({ st with ctx := [(16 * 262143, 48)] } : State).setSa 1023 { switchSf := some none, switchDue := true }
     s.saEn 1023 = true ∧ (s.sa 1023).switchSf.isSome = true ∧ (s.sa 1023).switchDue = true ∧ s.saSource 1023 = true) ∧
    (let s : State := { st with ctx := [(16 * 261120, 16)] }
     s.live = true ∧ s.saEn 0 = true ∧ s.saSource 0 = false) := ⟨by decide, by decide, by decide⟩
theorem test_hypotheses_ConsoleCommandsComplete : st.dev.aonOn = true ∧ st.live = true ∧ pageAon 0x2A0 = true := by decide
theorem test_hypotheses_TestsStart :
    st.reaches .pf0 0x2A0 ∧ Master.pf0 ≠ .service ∧ st.svc.test = none ∧
    st.testPermitted 1 (testArgs 0 false false 1) = true ∧ st.domainOff (testPage 1 0) = false ∧
    st.testBlockBusy 1 (testArgs 0 false false 1) = false ∧
    (let s := maint.fset (F.lane_LANE_CFG_FORMAT 255) 3
     s.testPermitted 4 (testArgs 255 false true 1) = true ∧ (s.coreTestUnit (testArgs 255 false true 1)).isSome = true ∧
       s.testBlockBusy 4 (testArgs 255 false true 1) = false) :=
  ⟨by decide, by decide, by decide, by decide, by decide, by decide, by decide⟩
theorem test_hypotheses_ServiceEventsComplete :
    (st.reaches .pf0 0x2A0 ∧ Master.pf0 ≠ .service ∧ st.dev.aonOn = true ∧ st.live = true ∧ st.reaches .pf0 0x2A1) ∧
    (let s : State := { st.fset F.svc_MON_CTRL_VIEW 3 with sec := { st.sec with cmd := some { op := 7, master := 0, result := 0, out := [] } } }
     s.fget F.svc_MON_CTRL_VIEW = 3 ∧ (s.sec.cmd.any fun c => c.op == 7) = true) ∧
    (let s : State := { st.fset F.svc_MON_CTRL_VIEW 3 with svc := { st.svc with updateVerdict := 3 } }
     s.fget F.svc_MON_CTRL_VIEW = 3 ∧ (s.sec.cmd.any fun c => c.op == 7) = false ∧ s.svc.updateVerdict = 3) ∧
    ({ st with svc := { st.svc with updateVerdict := 2 } } : State).svc.updateVerdict = 2 := by decide
/-- A debug port with every right, the selected core released and halted. -/
def opened : State :=
  let s := st.fset F.sec_CTL_CORE_CTRL_RUN 1
  { s with dbg := { s.dbg with rights := 7, cores := [(0, { halted := true })] } }
theorem test_hypotheses_DebugFramesComplete :
    opened.live = true ∧ opened.dbgOff = false ∧ opened.dbg.busOp = none ∧ bitOf opened.dbg.rights 0 = true ∧
    bitOf opened.dbg.rights 1 = true ∧ bitOf opened.dbg.rights 2 = true ∧ opened.cpuInReset opened.dbg.cpuSel = false ∧
    (opened.cpu opened.dbg.cpuSel).halted = true ∧ regNumOk opened.dbg.regNum = true ∧ opened.dbg.regNum ≠ 0x1000 := by decide
theorem test_hypotheses_DebugEventsComplete :
    (let s := st.fset F.sec_CTL_CORE_CTRL_RUN 1
     let s : State := { s with dbg := { s.dbg with cores := [(0, { bps := [{ ctl := 4 }] })] } }
     s.live = true ∧ s.cpuInReset 0 = false ∧ (s.cpu 0).halted = false ∧ ((s.cpu 0).bps.getD 0 {}).ctl % 8 ≠ 0 ∧
       bitOf ((s.cpu 0).bps.getD 0 {}).ctl 3 = false) ∧ st.reaches .pf0 0x2A2 := ⟨by decide, by decide⟩
theorem test_hypotheses_CommandsRefused :
    (let s : State := { dev := { mode := .standalone, req := .enterMaint } }
     s.reaches .pf0 0 ∧ s.dev.req ≠ .none) ∧
    (st.reaches .pf0 1 ∧ st.dev.fwRunning = false) ∧
    (let s : State := { st with odu := { st.odu with applying := some (false, 0, 0) } }
     s.reaches .pf0 0x40 ∧ s.odu.applying.isSome = true) ∧
    (st.odu.applying = none ∧ 257 < (258 : Nat) ∧ 46079 < (46080 : Nat)) ∧
    ((twin .standalone 0).reaches .pf0 0x250 ∧ (twin .standalone 0).dev.mode ≠ .twinActive ∧
      (twin .standalone 0).dev.mode ≠ .twinStandby ∧ (twin .standalone 0).dev.mode ≠ .twinStale ∧
      (twin .standalone 0).switching = false) ∧
    (let s : State := { twin .twinActive 5 with twin := { ({} : Twin) with handoverReq := true } }
     s.reaches .pf0 0x250 ∧ s.switching = true) ∧
    (let s : State := { st with svc := { st.svc with test := some { num := 1, req := testArgs 0 false false 1 } } }
     s.reaches .pf0 0x2A0 ∧ s.svc.test.isSome = true) ∧
    ((base .quarantine).reaches .pf0 0x2A0 ∧ (base .quarantine).svc.test = none ∧ (base .quarantine).testsOk = false) ∧
    (st.live = true ∧ dbgReg 0x10 = some .bus ∧ st.dbgRight .bus = false ∧ dbgReg 2 = some .open_ ∧
      (st.fset F.dbg_DBG_CTRL_DBG_OFF 1).dbgOff = true) :=
  ⟨by decide, by decide, by decide, by decide, by decide, by decide, by decide, by decide, by decide⟩
theorem test_hypotheses_UnreachedWritesAreAnswered :
    ((base .dormant).dev.mode = .dormant ∧ ¬ (Master.pf0 = .service ∧ pageAon 0 = true)) ∧
    (st.dev.mode ≠ .dormant ∧ pageMapped 2 = false ∧ pageMapped 0x40 = true ∧ pageMapped 0x2C1 = false ∧ pageMapped 0x3FF = false) ∧
    ((base .reset).dev.mode = .reset ∧ (base .boot).dev.mode = .boot ∧
      ¬ (Master.pf0 = .warden ∨ (0x40 : Nat) = 0 ∨ (Master.pf0 = .service ∧ pageAon 0x40 = true))) ∧
    (st.domainOff 0x250 = true ∧ pageMapped 0x250 = true ∧ st.dev.mode ≠ .reset ∧ st.dev.mode ≠ .boot) ∧
    (let s : State := { st with bus := { st.bus with shield := [0x10] } }
     s.domainOff 0x10 = false ∧ s.bus.shield.contains (basePage 0x10) = true ∧ pageMapped 0x10 = true) ∧
    (st.domainOff 0x29F = false ∧ st.bus.shield.contains (basePage 0x29F) = false ∧ pageSecure 0x29F = true ∧
      Master.pf0 ≠ .warden ∧ Master.pf0 ≠ .pf1 ∧ pageMapped 0x29F = true) :=
  ⟨by decide, by decide, by decide, by decide, by decide, by decide⟩
theorem test_hypotheses_StepRunsTheFront :
    ({ st with pending := [.vddAonLost] } : State).pending = .vddAonLost :: [] ∧ st.pending = [] := ⟨rfl, rfl⟩
theorem test_hypotheses_EveryStepKeepsSound :
    st.sound {} = true ∧ st.queueWf = true ∧ step st = .next st := ⟨by decide, by decide, rfl⟩
theorem test_hypotheses_SettleLeavesTheRest :
    (let t := st.fsets ((List.range 9).map fun r => (F.ref_REF_STATUS_SRC_FAIL r, 1))
     t.dev.mode = st.dev.mode ∧ t.dev.perstLow = false ∧ t.twin.resync = 0 ∧ t.dev.mode ≠ .twinStale ∧
       t.dev.mode ≠ .twinStandby ∧ t.svc.test = none ∧
       (∀ r, r < 9 → 4 ≤ r → t.srcFail r = t.flag (F.ref_REF_STATUS_SRC_FAIL r)) ∧ t.fget F.tim_DPLL_STATUS_SEL_REF ≠ 8) ∧
    (let u := (modeFollows st st).perstFollow.twinFollow.testFollow.timingFollow.leavesTwin
     u.dbg.unlockWait = false ∧ u.svc.conMbox = none ∧ u.svc.notices = []) :=
  ⟨by decide, by decide +kernel⟩
theorem test_hypotheses_RequestedVectorsExact : spSorted linked.fields = true ∧ 63 ∈ requestedVectors linked 0 := by decide
theorem test_hypotheses_RateFrozenWhileEnabled :
    (0x10 : Nat) = carPage 0 ∧ 4 * 0x10 = (0x40 : Nat) ∧ 4 * 0x11 = (0x44 : Nat) ∧ st.reaches .pf0 0x10 ∧
    st.enabled 0x10 = false ∧ st.draining 0x10 = false ∧ (st.fset (enFl 0x10) 1).enabled 0x10 = true ∧
    (st.fset (F.hdr_BLK_STATUS_DRAINING 0x10) 1).draining 0x10 = true ∧
    st.flag (F.hdr_ERR_LOG_VALID 0x10) = false ∧ (st.logErr 0x10 1 0 0 0).flag (F.hdr_ERR_LOG_VALID 0x10) = true := by decide
theorem test_hypotheses_ErrorLogTakesTheFirst :
    st.flag (F.hdr_ERR_LOG_VALID 0x10) = false ∧ (st.logErr 0x10 15 15 3 0x3FFC).flag (F.hdr_ERR_LOG_VALID 0x10) = true ∧
    15 < 16 ∧ 3 < 4 ∧ 0x3FFC < 0x4000 ∧ 0x3FFC % 4 = 0 := by decide
theorem test_hypotheses_SwapExchangesPages :
    ({ st with core := { st.core with arm := some none } } : State).core.arm = some none := rfl
theorem test_hypotheses_ConnectionMemoryWriteFrame :
    st.reaches .pf0 (cmPlace 0).1 ∧ st.reaches .pf0 (cmPlace 46079).1 ∧ st.cmView.2 = false ∧ st.cmState = 0 := by decide
theorem test_hypotheses_MemoryStoreLaws : Memory.wf st.mem = true := by decide
theorem test_hypotheses_DmaWritesOnlyItsBytes :
    let d : Descriptor := ⟨0, 2 ^ 62 + 0x7E0000000, 4, 0⟩
    let s := (linked.setChan 15 { linked.chan 15 with job := some { d := d } }).fset (F.hdr_BLK_STATUS_READY 0x2B0) 1
    s.descRefused d = none ∧ s.ready (0x2B0 + bitsOf d.devAddr 35 2) = true ∧
    s.bus.shield.contains (0x2B0 + bitsOf d.devAddr 35 2) = false ∧ s.live = true ∧ (s.chan 15).job = some { d := d } ∧ s.fget (F.dma_CH_STATUS_STATE 15) = 1 ∧ d.ctrl % 2 = 0 ∧
    d.devAddr / 2 ^ 62 = 1 ∧ d.len ≤ ([1, 2, 3, 4] : List Byte).length := by decide
theorem test_hypotheses_FatalEntersQuarantine : st.live = true ∧ 7 < 8 ∧ 65535 < 65536 := by decide
theorem test_hypotheses_OutputsDarkOutsideTraffic :
    (base .twinStandby).dev.mode ∈ [Mode.dormant, .reset, .boot, .bringUp, .twinStandby, .twinStale, .quarantine] ∧
    (base .twinStandby).loopSel 255 = 0 := by decide
theorem test_hypotheses_LabelSendsOnlyWithLight :
    ((lit.setLtx 0 { cur := some ⟨2, [], 7⟩ }).ltx 0).cur.isSome = true ∧
    ((st.setLtx 0 { cur := some ⟨2, [], 7⟩ }).ltx 0).cur.isSome = true ∧ ¬ (st.laser 0 = true ∧ st.txRuns 0 = true) ∧
    (lit.laser 0 = true ∧ lit.txRuns 0 = true) := ⟨by decide, by decide, by decide, by decide⟩
theorem test_hypotheses_ServiceMonitorShowsTheVerdict :
    (st.fset F.svc_MON_CTRL_VIEW 3).fget F.svc_MON_CTRL_VIEW = 3 ∧ st.fget F.svc_MON_CTRL_VIEW = 0 ∧
    (st.fget F.dev_FATAL_CODE = 0 ∧ st.fget F.svc_TEST_STATUS_STATE = 0 ∧ st.sec.cmd.isNone = true ∧ st.svc.updateVerdict = 0) ∧
    (st.fset F.svc_TEST_STATUS_STATE 1).fget F.svc_TEST_STATUS_STATE = 1 ∧
    (st.fset F.svc_TEST_STATUS_STATE 2).fget F.svc_TEST_STATUS_STATE = 2 ∧
    (st.fset F.svc_TEST_STATUS_STATE 3).fget F.svc_TEST_STATUS_STATE = 3 ∧
    (st.fset F.svc_SVC_STATUS_XO_PRESENT 0).flag F.svc_SVC_STATUS_XO_PRESENT = false ∧
    (let s := (st.fset F.svc_SVC_STATUS_XO_PRESENT 1).fsets ((List.range 9).map fun r => (F.svc_RAIL_STATE r, 1 + r % 2))
     s.flag F.svc_SVC_STATUS_XO_PRESENT = true ∧ s.railsIn = true) ∧
    (let s := st.fset (F.svc_RAIL_STATE 8) 4
     s.fget (F.svc_RAIL_STATE 8) ≠ 1 ∧ s.fget (F.svc_RAIL_STATE 8) ≠ 2) :=
  ⟨by decide, by decide, by decide, by decide, by decide, by decide, by decide, by decide, by decide⟩

/-! ## Single commands, with the results that the spec's own examples and tables give -/

/-- The state after one command. -/
def after (c : Instr) (s : State) : State :=
  match exec c s with
  | .next t => t
  | .fault _ => s
  | .refused _ => s

/-- R57's example: CAP_ID and INSTANCE of lanes 0 and 255. -/
theorem test_capId_lane0 : capId 0x100 = 0x10110008 ∧ (pageIdent 0x100).2.2 = 0 := by decide
theorem test_capId_lane255 : capId 0x1FF = 0x20010008 ∧ (pageIdent 0x1FF).2.2 = 0xFF := by decide +kernel
/-- R57: the highest mapped page ends the list. -/
theorem test_capId_last : capId 0x2C0 / 2 ^ 20 = 0 := by decide +kernel

/-- R67's example: PERST_FULL 0 and locked; a SET of it through the alias changes nothing and is recorded. -/
def lockExample : State := after (.setAliasWrite .pf0 0 0x14 15 1) (st.fsets [(F.dev_RESET_CFG_PERST_FULL, 0), (F.hdr_LOCK_LOCK 0, 2)])
theorem test_lock_keeps : lockExample.fget F.dev_RESET_CFG_PERST_FULL = 0 := by decide +kernel
theorem test_lock_viol : (lockExample.regRead .pf0 0 0x2C).2 = 0x00010001 := by decide +kernel
theorem test_lock_errLog : (lockExample.regRead .pf0 0 0x30).2 = 0x80014101 := by decide +kernel
theorem test_lock_interrupt : bitOf (lockExample.fget (F.hdr_INT_STATUS_INT 0)) 31 = true := by decide +kernel

/-- R60: a write under byte enables writes the bytes enabled. -/
theorem test_write_byteEnables : (after (.registerWrite .pf0 0 5 2 0xFFFFFFFF) st).fget (F.hdr_INT_ENABLE_EN 0) = 0xFF00 := by
  decide +kernel
/-- R62: CLEAR and TOGGLE. -/
theorem test_clear : (after (.clearAliasWrite .pf0 0 5 15 0xF) (st.fset (F.hdr_INT_ENABLE_EN 0) 0x3C)).fget
    (F.hdr_INT_ENABLE_EN 0) = 0x30 := by decide +kernel
theorem test_toggle : (after (.toggleAliasWrite .pf0 0 5 15 0xF) (st.fset (F.hdr_INT_ENABLE_EN 0) 0x3C)).fget
    (F.hdr_INT_ENABLE_EN 0) = 0x33 := by decide +kernel
/-- R76: a write by PF1 is dropped. -/
theorem test_pf1_drops : (after (.registerWrite .pf1 0 5 15 1) st).fget (F.hdr_INT_ENABLE_EN 0) = 0 := by decide +kernel

/-- R123's example: B = 71,929 at H_CODE 103. -/
theorem test_lineBlocks : lineBlocks 103 = 71929 := by decide
/-- R124: D by the overhead, by the majority of its copies, and by the previous frame. -/
theorem test_chooseD : chooseD 103 true (List.replicate 18 0 ++ [2] ++ List.replicate 6 0) 8 = 2 ∧
    chooseD 103 false (List.replicate 18 0 ++ [3, 0, 0, 4, 0, 0, 4]) 8 = 4 ∧
    chooseD 103 true (List.replicate 18 0 ++ [3, 0, 0, 5, 0, 0, 4]) 8 = 8 := by decide
/-- R184: entries 3,839 and 3,840 stand at the end of one window page and the start of the next. -/
theorem test_cmPlace : cmPlace 3839 = (0x82, 0x3FFC) ∧ cmPlace 3840 = (0x83, 0x400) := by decide

/-- R33, R37: a host request takes a Standalone device that need not drain into Maintenance: it is pending first. -/
theorem test_mode_pending : (after (.modeReqEnterMaintenance .pf0) st).fget F.dev_MODE_REQ_STATUS = 1 := by decide +kernel
/-- R35, R422: a fatal fault enters Quarantine. -/
theorem test_fatal : (after .wardenIntegrityFailure st).dev.mode = .quarantine := by decide +kernel
theorem test_fatal_code : (after .wardenIntegrityFailure st).fget F.dev_FATAL_CODE = 0x4113 := by decide +kernel
/-- R38: Bring-up is left by its role. -/
theorem test_bringupExit : (after .bringupExit ((base .bringUp).fsets [(F.hdr_BLK_STATUS_READY 0x80, 1),
    (F.dev_ROLE_ROLE, 1)])).dev.mode = .standalone := by decide +kernel
/-- R430: a claim of a free mailbox by PF0, and then by a control core. -/
theorem test_mboxClaim : (after (.mboxClaim .pf0) st).mboxOwnedBy .pf0 = true := by decide +kernel
theorem test_mboxClaim_owned : (after (.mboxClaim (.core 0)) owned).mboxOwnedBy .pf0 = true := by decide +kernel
/-- R190: SWAP_SEQ counts a swap, which makes page B active. -/
theorem test_swap : (({ st with core := { st.core with arm := some none } } : State).swapDue 7 3).fget F.core_SWAP_SEQ_SEQ = 1 ∧
    (({ st with core := { st.core with arm := some none } } : State).swapDue 7 3).activeB = true := by decide +kernel
/-- R214: a byte written reads back, and writing what empty memory reads as leaves nothing listed. -/
theorem test_memory : ((st.memWrite 3 0x7E0000000 [0xAB]).memByte 3 0x7E0000000 = 0xAB) ∧
    ((st.memWrite 3 0x7E0000000 [0xAB]).memWrite 3 0x7E0000000 [0]).mem = [] := by decide +kernel

end Sys2Proof.Tests
end

section
/-! PROOFS. CARRIER.RATE and CARRIER.SLOT while the carrier is enabled or drains (spec/04_coherent_carrier.md, R82): how a
refused write reads in the page's error log, and what it leaves. -/

namespace Sys2Proof.Machine

variable {s t : State} {m : Master} {p k : Nat}

/-! ## The register store after writes elsewhere -/

/-- A field write leaves every other key of the register store, whatever an unlisted key reads as. -/
theorem spGet_fset_other (x : Nat) {f : Fl} (v : Nat) (h : k ≠ f.key) :
    spGet x (s.fset f v).fields k = spGet x s.fields k :=
  spGet_spSet_other x _ s.fields h

/-- So do writes of several fields. -/
theorem spGet_fsets_other (x : Nat) : (l : List (Fl × Nat)) → (s : State) → (∀ e ∈ l, k ≠ e.1.key) →
    spGet x (s.fsets l).fields k = spGet x s.fields k
  | [], _, _ => rfl
  | (f, v) :: l, s, h => by
    obtain ⟨hf, hl⟩ := List.forall_mem_cons.mp h
    rw [State.fsets, spGet_fsets_other x l _ hl, spGet_fset_other x v hf]

/-! ## The error log of a page (R75) -/

/-- The key lies outside the common header of page `p`, whose last register is ERR_LOG (R56). -/
def OutsideHeader (p k : Nat) : Prop := k < p * 0x80000 ∨ p * 0x80000 + 0x34 * 32 ≤ k

/-- A key outside a page's header is none of the header's fields. -/
theorem OutsideHeader.ne_key {off lo w rst : Nat} (hk : OutsideHeader p k) (h : off * 32 + lo < 0x34 * 32) :
    k ≠ (⟨p, off, lo, w, rst⟩ : Fl).key := by
  unfold OutsideHeader at hk
  simp only [Fl.key]
  omega

/-- Fields of one page that begin at different bits are held at different keys. -/
theorem key_ne_key {off lo w rst off' lo' w' rst' : Nat} (h : off * 32 + lo ≠ off' * 32 + lo') :
    (⟨p, off, lo, w, rst⟩ : Fl).key ≠ (⟨p, off', lo', w', rst'⟩ : Fl).key := by
  simp only [Fl.key]
  omega

/-- The first error of a page: its entry in full (R75). -/
theorem logErr_of_empty (h : s.flag (F.hdr_ERR_LOG_VALID p) = false) (code master al off : Nat) :
    s.logErr p code master al off = (s.fsets [(F.hdr_ERR_LOG_CODE p, code), (F.hdr_ERR_LOG_MASTER p, master),
      (F.hdr_ERR_LOG_ALIAS p, al), (F.hdr_ERR_LOG_OFFSET_DW p, off / 4), (F.hdr_ERR_LOG_VALID p, 1)]).raise p 30 := by
  simp [State.logErr, h]

/-- A further error of a page: OVERFLOW (R75). -/
theorem logErr_of_valid (h : s.flag (F.hdr_ERR_LOG_VALID p) = true) (code master al off : Nat) :
    s.logErr p code master al off = (s.fset (F.hdr_ERR_LOG_OVERFLOW p) 1).raise p 30 := by
  simp [State.logErr, h]

/-- Logging an error on a page changes nothing outside its header. -/
theorem spGet_logErr_outside (x : Nat) (hk : OutsideHeader p k) (code master al off : Nat) :
    spGet x (s.logErr p code master al off).fields k = spGet x s.fields k := by
  have hint : k ≠ (F.hdr_INT_STATUS_INT p).key := hk.ne_key (by decide)
  cases h : s.flag (F.hdr_ERR_LOG_VALID p) with
  | true =>
    have hover : k ≠ (F.hdr_ERR_LOG_OVERFLOW p).key := hk.ne_key (by decide)
    rw [logErr_of_valid h, State.raise, spGet_fset_other x _ hint, spGet_fset_other x 1 hover]
  | false =>
    rw [logErr_of_empty h, State.raise, spGet_fset_other x _ hint, spGet_fsets_other x]
    simp only [List.forall_mem_cons, List.not_mem_nil, false_imp_iff, implies_true, and_true]
    exact ⟨hk.ne_key (by decide), hk.ne_key (by decide), hk.ne_key (by decide), hk.ne_key (by decide),
      hk.ne_key (by decide)⟩

/-- The first error of a page leaves its code there. -/
theorem fget_code_logErr (h : s.flag (F.hdr_ERR_LOG_VALID p) = false) (code master al off : Nat) :
    (s.logErr p code master al off).fget (F.hdr_ERR_LOG_CODE p) = code % 16 := by
  rw [logErr_of_empty h, State.raise, fget_fset_other, State.fsets, fget_fsets_other, fget_fset_self]
  · rfl
  · simp only [List.forall_mem_cons, List.not_mem_nil, false_imp_iff, implies_true, and_true]
    exact ⟨key_ne_key (by decide), key_ne_key (by decide), key_ne_key (by decide), key_ne_key (by decide)⟩
  · exact key_ne_key (by decide)

/-- A further error of a page sets OVERFLOW. -/
theorem fget_overflow_logErr (h : s.flag (F.hdr_ERR_LOG_VALID p) = true) (code master al off : Nat) :
    (s.logErr p code master al off).fget (F.hdr_ERR_LOG_OVERFLOW p) = 1 := by
  rw [logErr_of_valid h, State.raise, fget_fset_other, fget_fset_self]
  · rfl
  · exact key_ne_key (by decide)

/-! ## Naming the region of an entry (R56) -/

/-- `g` writes no field but ERR_LOG.ALIAS of page `p`. -/
def OnlyNamesRegion (p : Nat) (g : State → State) : Prop :=
  ∀ t, g t = t ∨ ∃ region, g t = t.fset (F.hdr_ERR_LOG_ALIAS p) region

/-- The instruction's own row names no region. -/
theorem onlyNamesRegion_id (p : Nat) : OnlyNamesRegion p id := fun _ => .inl rfl

/-- The register aperture names the region of a first entry. -/
theorem onlyNamesRegion_aliasLogged (p region : Nat) (s : State) : OnlyNamesRegion p (aliasLogged p region s) := by
  intro t
  unfold aliasLogged
  split
  · exact .inr ⟨region, rfl⟩
  · exact .inl rfl

/-- It leaves every key but that of ERR_LOG.ALIAS. -/
theorem OnlyNamesRegion.spGet_other {g : State → State} (hg : OnlyNamesRegion p g) (x : Nat)
    (hk : k ≠ (F.hdr_ERR_LOG_ALIAS p).key) : spGet x (g t).fields k = spGet x t.fields k := by
  obtain h | ⟨region, h⟩ := hg t
  · rw [h]
  · rw [h, spGet_fset_other x region hk]

/-- It leaves every field at another place than ERR_LOG.ALIAS. -/
theorem OnlyNamesRegion.fget_other {g : State → State} (hg : OnlyNamesRegion p g) {f : Fl}
    (hf : f.key ≠ (F.hdr_ERR_LOG_ALIAS p).key) : (g t).fget f = t.fget f :=
  hg.spGet_other f.rst hf

/-! ## Writes of RATE and SLOT (R82) -/

/-- The offset of CARRIER.SLOT or of CARRIER.RATE. -/
def rateOff (slot : Bool) : Nat := if slot then 0x44 else 0x40

/-- A write to RATE or SLOT through the register aperture is a rate write, in every region. -/
theorem pageWrite_rateOff (c : Fin 2) (slot : Bool) (region be data : Nat) :
    s.pageWrite m (carPage c.val) (rateOff slot) region be data = s.rateWrite m c.val (rateOff slot) region be data :=
  match c, slot with
  | 0, false => rfl
  | 0, true => rfl
  | 1, false => rfl
  | 1, true => rfl

/-- An enabled or draining carrier refuses the write: an error of code 0xA and nothing else (R82). -/
theorem rateWrite_of_busy {c : Nat} (h : s.enabled (carPage c) = true ∨ s.draining (carPage c) = true)
    (off region be data : Nat) :
    s.rateWrite m c off region be data = s.logErr (carPage c) 0xA (masterId m) region off :=
  if_pos (by simpa using h)

/-- A carrier that is neither enabled nor draining takes the write, and evaluates it (R81). -/
theorem rateWrite_of_idle {c : Nat} (he : s.enabled (carPage c) = false) (hd : s.draining (carPage c) = false)
    (off region be data : Nat) :
    s.rateWrite m c off region be data =
      (s.plainWrite m (carPage c) off region be data).fset (F.car_CFG_STATUS_CALC c) 1 :=
  if_neg (by simp [he, hd])

/-- The commands that write RATE or SLOT: the register's own and its aliases', with their region and what names the region
in the page's error log, and the row of the instruction table. -/
def rateCommands (s : State) (m : Master) (c : Fin 2) (slot : Bool) (p dw : Fin 4096) (be : Fin 16) (d : Word) :
    List (Instr × Nat × (State → State)) :=
  [(.registerWrite m p dw be d, 0, aliasLogged p.val 0 s), (.setAliasWrite m p dw be d, 1, aliasLogged p.val 1 s),
    (.clearAliasWrite m p dw be d, 2, aliasLogged p.val 2 s), (.toggleAliasWrite m p dw be d, 3, aliasLogged p.val 3 s),
    (.carrierRateWrite m c slot be d, 0, id)]

section
variable {c : Fin 2} {slot : Bool} {pg dw : Fin 4096} {be : Fin 16} {d : Word} {e : Instr × Nat × (State → State)}

/-- Beside the rate write each of them at most names its region. -/
theorem rateCommands_onlyNameRegion (he : e ∈ rateCommands s m c slot pg dw be d) : OnlyNamesRegion pg.val e.2.2 := by
  simp only [rateCommands, List.mem_cons, List.not_mem_nil, or_false] at he
  obtain rfl | rfl | rfl | rfl | rfl := he
  case inr.inr.inr.inr => exact onlyNamesRegion_id _
  all_goals exact onlyNamesRegion_aliasLogged _ _ _

/-- Each of them that reaches the carrier's page B is a rate write in its region. -/
theorem rateCommands_write (hp : pg.val = carPage c.val) (hoff : 4 * dw.val = rateOff slot) (h : s.reaches m pg.val)
    (he : e ∈ rateCommands s m c slot pg dw be d) :
    writes e.1 s (e.2.2 (s.rateWrite m c.val (4 * dw.val) e.2.1 be.val d.toNat)) := by
  have hpage (region : Nat) : s.pageWrite m pg.val (4 * dw.val) region be.val d.toNat =
      s.rateWrite m c.val (4 * dw.val) region be.val d.toNat := by
    rw [hp, hoff, pageWrite_rateOff]
  simp only [rateCommands, List.mem_cons, List.not_mem_nil, or_false] at he
  obtain rfl | rfl | rfl | rfl | rfl := he
  case inr.inr.inr.inr => exact writes_of_viaPage rfl (hp ▸ h) (by rw [hoff]; rfl)
  all_goals exact writes_of_viaPage rfl h (by rw [hpage])

end

end Sys2Proof.Machine

open Sys2Proof Sys2Proof.Machine

/-- Settles O51: each of the five commands is a rate write, which an enabled or draining carrier answers with an entry of its
error log alone. -/
theorem rateFrozenWhileEnabled : Obligations.RateFrozenWhileEnabled := by
  unfold Obligations.RateFrozenWhileEnabled
  intro s m c slot dw p be d hp hoff hreach e he
  have hwrite := rateCommands_write (slot := slot) hp hoff hreach he
  have hregion : OnlyNamesRegion p.val e.2.2 := rateCommands_onlyNameRegion (c := c) (slot := slot) he
  refine ⟨fun hbusy => ?_, fun hen hdr => ?_⟩
  · refine ⟨_, ?_, fun k x hk => ?_, rfl, fun hv => ?_, fun hv => ?_⟩
    · rw [hp] at hbusy ⊢
      rwa [rateWrite_of_busy hbusy] at hwrite
    · rw [hregion.spGet_other x (OutsideHeader.ne_key hk (by decide)), spGet_logErr_outside x hk]
    · exact (hregion.fget_other (key_ne_key (by decide))).trans (fget_code_logErr hv _ _ _ _)
    · exact (hregion.fget_other (key_ne_key (by decide))).trans (fget_overflow_logErr hv _ _ _ _)
  · rw [hp] at hen hdr ⊢
    rwa [rateWrite_of_idle hen hdr] at hwrite
end

section
/-! PROOFS. A label packet that outlives its light (spec/13_label_channel.md, R367). A console's UPDATE that waits for the
mailbox is taken last of all that follows a command, after the label transmitters have followed their lasers. With RUN it
enters Service (R443), where a device whose datapath is off withholds light (R34). A waiting UPDATE can therefore end the
light of a packet that nothing looks at again before the command is over. -/

namespace Sys2Proof.Machine

/-! ## What puts the light out -/

/-- A carrier whose device withholds light has its laser off (R99). -/
theorem laser_of_not_mayTransmit {s : State} (h : s.mayTransmit = false) (c : Nat) : s.laser c = false := by
  simp [State.laser, State.lightAllowed, h]

/-- Service with the datapath off carries no traffic (R34). -/
theorem mayTransmit_of_datapathOff {s : State} (hmode : s.dev.mode = .service) (hoff : s.dev.datapathOff = true) :
    s.mayTransmit = false := by
  simp [State.mayTransmit, State.outMode, hmode, hoff]

/-- An IDENT period that elapses with PERIOD 0 sends nothing (R366). -/
theorem identDue_of_period_zero {s : State} {c : Nat} (h : s.fget (F.lbl_LBL_TX_CFG_PERIOD c) = 0) : s.identDue c = s :=
  if_pos (by simp [h])

/-! ## A control image with a valid signature

The key is chosen after the signature: with r and s both the header's digest e, verification adds the base point to the
public key, which is the point that makes the sum's x-coordinate e. -/

/-- SHA-256 of the image's body, 64 zero bytes. -/
def idleBodyDigest : Nat := 0xF5A5FD42D16A20302798EF6ED309979B43003D2320D9F0E8EA9831A92759FB4B

/-- SHA-256 of the image's header; build 1 is the first whose digest is the x-coordinate of a point of the curve. -/
def idleHeaderDigest : Nat := 0xCE65A9B5482E868D2EF5261B30B84931D8F6F16C7C184BACDB46B449192DA864

/-- The header of a control image of build 1 with a body of 64 bytes, signed with key 1 (R423). -/
def idleHeader : List Nat :=
  leBytes 4 0x4B5A494D ++ leBytes 2 1 ++ [2, 0] ++ leBytes 4 0 ++ leBytes 4 1 ++ leBytes 4 64 ++ leBytes 4 0 ++ leBytes 4 0 ++
    [1, 0, 0, 0] ++ beBytes 32 idleBodyDigest ++ List.replicate 64 0

/-- The image: header, signature and body. -/
def idleImage : List Nat :=
  idleHeader ++ beBytes 32 idleHeaderDigest ++ beBytes 32 idleHeaderDigest ++ List.replicate 64 0

/-- The keys of the running manifest; key 1 signs control images (R424). -/
def idleKeys : List ManifestKey :=
  [⟨1, []⟩, ⟨2, beBytes 32 0xFE5AF0116EC033E02844ABCB2EF0E64099567DC12163F33EE519221CE12EC1DE ++
    beBytes 32 0xFDCA76409271550E5C744DF9EB38C6643CF2D4227FB221FD3A042936460BB061⟩]

/-- Warden finds nothing wrong with it (R424). -/
theorem controlErr_idleImage : controlErr {} idleKeys idleImage = 0 := by decide +kernel

/-! ## The state and what a command that does nothing makes of it -/

/-- A Standalone device with its datapath marked off, as Boot marks it where it enters Service (R33, R426); carrier 0 is lit
and has a USER packet on the air. The image stands in the staging region of stack 0, and the console's UPDATE that runs it
waits for the mailbox, which is free. -/
def updateWaits : State :=
  let s : State :=
    { dev := { mode := .standalone, rstLow := false, perstLow := false, datapathOff := true }
      mem := memFill 0 [] 0x7E0000000 idleImage
      sec := { run := { keys := idleKeys } }
      svc := { conMbox := some (7, leBytes 4 16 ++ leBytes 4 0) } }
  let s := s.fsets [(F.hdr_BLK_STATUS_READY 0x10, 1), (enFl 0x10, 1), (F.car_TX_CTRL_TX_EN 0, 1),
    (F.lbl_LBL_TX_CFG_PERIOD 0, 0), (F.hdr_BLK_STATUS_READY 0x2B0, 1), (F.sec_MBOX_STATUS_DONE, 1)]
  (s.setCar 0 { chain := true }).setLtx 0 { cur := some ⟨2, [], 7⟩ }

/-- The state is sound and meets the statement itself: its packet has light and chain. -/
theorem updateWaits_sends :
    updateWaits.sound {} = true ∧ updateWaits.laser 0 = true ∧ updateWaits.txRuns 0 = true ∧
      (updateWaits.ltx 0).cur.isSome = true := by decide +kernel

/-- The end of an IDENT period has no effect of its own on it. -/
theorem updateWaits_yields : yields (.identPeriodExpiry 0) updateWaits updateWaits :=
  yields_of_live rfl (by decide) (identDue_of_period_zero (by decide))

/-- What follows is the UPDATE: its image verifies, the device enters Service with the datapath off, and the packet is on the
air as before. -/
theorem settle_updateWaits :
    (settle updateWaits updateWaits).dev.mode = .service ∧ (settle updateWaits updateWaits).dev.datapathOff = true ∧
      ((settle updateWaits updateWaits).ltx 0).cur.isSome = true := by decide +kernel

end Sys2Proof.Machine

open Sys2Proof Sys2Proof.Machine

/-- Refutes O59: in a Standalone device marked with the datapath off, an IDENT period that elapses lets a waiting UPDATE enter
Service, which puts the laser out after the label transmitter has followed it; the packet stays on the air. -/
theorem not_labelSendsOnlyWithLight : ¬ Obligations.LabelSendsOnlyWithLight := by
  unfold Obligations.LabelSendsOnlyWithLight
  rintro ⟨hlight, -⟩
  obtain ⟨hmode, hoff, hcur⟩ := settle_updateWaits
  have hdark : (settle updateWaits updateWaits).laser 0 = false :=
    laser_of_not_mayTransmit (mayTransmit_of_datapathOff hmode hoff) 0
  have hlit := (hlight (.identPeriodExpiry 0) updateWaits _ 0 updateWaits_yields hcur).1
  exact Bool.false_ne_true (hdark.symm.trans hlit)
end

section
/-! PROOFS. The verdict on SVC_MON (spec/17_service_debug.md, R450 to R452). -/

namespace Sys2Proof.Machine

variable {s : State}

/-- Every non-AON rail is in its window where each reads OK or WARN (R448). -/
theorem railsIn_iff :
    s.railsIn = true ↔ ∀ r, r < 9 → s.fget (F.svc_RAIL_STATE r) = 1 ∨ s.fget (F.svc_RAIL_STATE r) = 2 := by
  simp [State.railsIn]

/-- One rail out of its window is enough. -/
theorem railsIn_eq_false {r : Nat} (hr : r < 9) (hok : s.fget (F.svc_RAIL_STATE r) ≠ 1)
    (hwarn : s.fget (F.svc_RAIL_STATE r) ≠ 2) : s.railsIn = false :=
  Bool.eq_false_iff.mpr fun h => (railsIn_iff.mp h r hr).elim hok hwarn

/-! ## The view in effect -/

/-- The verdict view is in effect where it is chosen (R450). -/
theorem monView_of_verdict (h : s.fget F.svc_MON_CTRL_VIEW = 3) : s.monView = 3 := by
  simp [State.monView, h]

/-- The automatic view is the verdict view while there is no fatal code (R452). -/
theorem monView_of_automatic (h : s.fget F.svc_MON_CTRL_VIEW = 0) (hcode : s.fget F.dev_FATAL_CODE = 0) :
    s.monView = 3 := by
  simp [State.monView, h, hcode]

/-- In the verdict view SVC_MON puts out the verdict's level. -/
theorem svcMon_of_monView (h : s.monView = 3) : s.svcMon = .level s.verdictMv := by
  simp [State.svcMon, h]

/-! ## The verdict's level, where no UPDATE has taken the view (R443) -/

section
variable (hcmd : (s.sec.cmd.any fun c => c.op == 7) = false) (hverdict : s.svc.updateVerdict = 0)
include hcmd hverdict

/-- A test that runs. -/
theorem verdictMv_of_running (h : s.fget F.svc_TEST_STATUS_STATE = 1) : s.verdictMv = 600 := by
  simp [State.verdictMv, hcmd, hverdict, h]

/-- A test that passed. -/
theorem verdictMv_of_passed (h : s.fget F.svc_TEST_STATUS_STATE = 2) : s.verdictMv = 300 := by
  simp [State.verdictMv, hcmd, hverdict, h]

/-- A test that failed. -/
theorem verdictMv_of_failed (h : s.fget F.svc_TEST_STATUS_STATE = 3) : s.verdictMv = 900 := by
  simp [State.verdictMv, hcmd, hverdict, h]

/-- With no test run, the standing check (R451). -/
theorem verdictMv_of_noTest (h : s.fget F.svc_TEST_STATUS_STATE = 0) :
    s.verdictMv = if s.flag F.svc_SVC_STATUS_XO_PRESENT && s.railsIn then 300 else 900 := by
  simp [State.verdictMv, hcmd, hverdict, h]

end

end Sys2Proof.Machine

open Sys2Proof Sys2Proof.Machine

/-- Settles O60: the verdict view is in effect, chosen or by the automatic view without a code, and its level is the last
test's, or the standing check's by XO_IN and the nine rails. -/
theorem serviceMonitorShowsTheVerdict : Obligations.ServiceMonitorShowsTheVerdict := by
  unfold Obligations.ServiceMonitorShowsTheVerdict
  intro s hview hcmd hverdict
  have hmon : s.svcMon = .level s.verdictMv :=
    svcMon_of_monView (hview.elim monView_of_verdict fun ⟨hauto, hcode⟩ => monView_of_automatic hauto hcode)
  rw [hmon]
  refine ⟨fun h => ?_, fun h => ?_, fun h => ?_, fun h => ?_⟩
  · rw [verdictMv_of_running hcmd hverdict h]
  · rw [verdictMv_of_passed hcmd hverdict h]
  · rw [verdictMv_of_failed hcmd hverdict h]
  · rw [verdictMv_of_noTest hcmd hverdict h]
    refine ⟨fun hxo hrails => ?_, fun hxo => ?_, fun r hr hok hwarn => ?_⟩
    · simp [hxo, railsIn_iff.mpr hrails]
    · simp [hxo]
    · simp [railsIn_eq_false hr hok hwarn]
end

section
/-! PROOFS. Steps and runs: the step takes the front of the queue, keeps the stores and the fuses, and every queue empties. -/

namespace Sys2Proof.Machine

/-! ## What the queue has to do with soundness -/

/-- Soundness does not look at the queue. -/
theorem withPending_sound (u : Fuses) (s : State) (q : List Instr) : (s.withPending q).sound u = s.sound u := rfl

/-- The queue's rest is well formed where the queue is. -/
theorem queueWf_of_pending_drop {s t : State} (hp : t.pending = s.pending.drop 1) (h : s.queueWf = true) :
    t.queueWf = true := by
  rw [State.queueWf, List.all_eq_true] at h ⊢
  exact fun c hc => h c (List.mem_of_mem_drop (hp ▸ hc))

/-- A step answers a next state that is sound where the state was, with the front of the queue gone. -/
theorem step_next (s : State) :
    ∃ t, step s = .next t ∧ t.pending = s.pending.drop 1 ∧ ∀ u, s.sound u = true → t.sound u = true := by
  cases hq : s.pending with
  | nil => exact ⟨s, step_idle hq, hq, fun _ h => h⟩
  | cons c q =>
    obtain ⟨t, ht, hp⟩ := exec_next c (s.withPending q)
    exact ⟨t, (step_of_pending hq).trans ht, hp, fun u h => exec_keeps_sound (withPending_sound u s q ▸ h) ht⟩

/-! ## Runs -/

/-- A run of any machine begins with a step. -/
theorem core_run_succ (M : Host.Core) {n : Nat} {s t : M.State} (h : M.step s = .next t) :
    M.run (n + 1) s = M.run n t := by
  rw [Host.Core.run, h]

/-- The same of the block's own run. -/
theorem runSteps_succ {n : Nat} {s t : State} (h : step s = .next t) : runSteps (n + 1) s = runSteps n t :=
  core_run_succ core h

/-- A run of `n` steps takes the first `n` commands of the queue. -/
theorem runSteps_next (n : Nat) (s : State) : ∃ t, runSteps n s = .next t ∧ t.pending = s.pending.drop n := by
  induction n generalizing s with
  | zero => exact ⟨s, rfl, rfl⟩
  | succ n ih =>
    obtain ⟨t, ht, hp, -⟩ := step_next s
    obtain ⟨r, hr, hq⟩ := ih t
    exact ⟨r, (runSteps_succ ht).trans hr, by rw [hq, hp, List.drop_drop, Nat.add_comm]⟩

end Sys2Proof.Machine

open Sys2Proof Sys2Proof.Machine

/-- Settles O46: a step keeps soundness because every command does, and the queue's rest is what every command leaves. -/
theorem everyStepKeepsSound : Obligations.EveryStepKeepsSound := by
  unfold Obligations.EveryStepKeepsSound
  intro u s s' hs hstep
  obtain ⟨t, ht, hp, hsound⟩ := step_next s
  obtain rfl : t = s' := by simpa [ht] using hstep
  exact ⟨hsound u hs, hp, queueWf_of_pending_drop hp⟩

/-- Settles O47: a run takes as many commands off the queue as it has steps. -/
theorem everyQueueEmpties : Obligations.EveryQueueEmpties := by
  unfold Obligations.EveryQueueEmpties
  intro s
  obtain ⟨t, ht, hp⟩ := runSteps_next s.pending.length s
  exact ⟨t, ht, by rw [hp, List.drop_length]⟩

/-- Settles O44: the two arms of a step. -/
theorem stepRunsTheFront : Obligations.StepRunsTheFront := by
  unfold Obligations.StepRunsTheFront
  exact fun s => ⟨fun c q h => step_of_pending h, step_idle⟩

/-- Settles O45: after reset nothing is listed in any store, so every read gives the value of an unlisted key. -/
theorem resetIsSound : Obligations.ResetIsSound := by
  unfold Obligations.ResetIsSound
  exact ⟨by decide, rfl, rfl, fun _ => rfl, fun _ => rfl, fun _ _ => rfl, rfl⟩
end

section
/-! PROOFS. The four register regions bit by bit (spec/03_registers.md, R62). -/

namespace Sys2Proof.Machine

/-- The lowest bit of a number without the bits that a mask names. -/
theorem sub_and_mod_two (a b : Nat) : (a - (a &&& b)) % 2 = a % 2 - (a % 2 &&& b % 2) := by
  have hle : a &&& b ≤ a := Nat.and_le_left
  have hmod : (a &&& b) % 2 = a % 2 &&& b % 2 := Nat.and_mod_two_pow (n := 1)
  have hodd : a % 2 &&& b % 2 ≤ a % 2 := Nat.and_le_left
  omega

/-- Its other bits are those of the half of the number without the half of the mask. -/
theorem sub_and_div_two (a b : Nat) : (a - (a &&& b)) / 2 = a / 2 - (a / 2 &&& b / 2) := by
  have hdiv : (a &&& b) / 2 = a / 2 &&& b / 2 := Nat.and_div_two
  have hmod : (a &&& b) % 2 = a % 2 &&& b % 2 := Nat.and_mod_two_pow (n := 1)
  have hodd : a % 2 &&& b % 2 ≤ a % 2 := Nat.and_le_left
  omega

/-- A number without the bits that a mask names keeps the bits that the mask does not name. -/
theorem testBit_sub_and (a b i : Nat) : (a - (a &&& b)).testBit i = (a.testBit i && !b.testBit i) := by
  induction i generalizing a b with
  | zero =>
    simp only [Nat.testBit_zero, sub_and_mod_two]
    rcases Nat.mod_two_eq_zero_or_one a with ha | ha <;> rcases Nat.mod_two_eq_zero_or_one b with hb | hb <;>
      simp [ha, hb]
  | succ i ih => simp only [Nat.testBit_add_one, sub_and_div_two, ih]

end Sys2Proof.Machine

open Sys2Proof Sys2Proof.Machine

/-- Settles O49: each region is a Boolean operation on the bits, where the register region first takes the written bits away. -/
theorem aliasRegionsWriteBits : Obligations.AliasRegionsWriteBits := by
  unfold Obligations.AliasRegionsWriteBits
  intro old d k i
  refine ⟨?_, ?_, ?_, ?_⟩
  · simp only [mergeField, Nat.testBit_or, Nat.testBit_and, testBit_sub_and]
    cases k.testBit i <;> simp
  · simp only [mergeField, Nat.testBit_or, Nat.testBit_and]
  · simp only [mergeField, Nat.testBit_and, testBit_sub_and]
  · simp only [mergeField, Nat.testBit_xor, Nat.testBit_and]
end

section
/-! PROOFS. The interrupt requests of a function (spec/03_registers.md, R64) and the error log of a page (R75). -/

namespace Sys2Proof.Machine

variable {s : State} {p k : Nat}

/-! ## Entries of a store whose keys rise -/

/-- The keys of a store above a bound are above it. -/
theorem lt_of_mem_spAbove {β : Type} {v : β} : {i : Nat} → {m : SparseMap β} → spAbove i m = true → (k, v) ∈ m → i < k
  | _, (j, _) :: _, h, hm => by
    simp only [spAbove, Bool.and_eq_true, decide_eq_true_eq] at h
    obtain heq | hm := List.mem_cons.mp hm
    · exact (Prod.mk.inj heq).1 ▸ h.1
    · exact Nat.lt_trans h.1 (lt_of_mem_spAbove h.2 hm)

/-- A listed key reads as what is listed for it. -/
theorem spGet_of_mem {β : Type} (d : β) {v : β} {m : SparseMap β} (h : spSorted m = true) (hm : (k, v) ∈ m) :
    spGet d m k = v := by
  induction m with
  | nil => cases hm
  | cons e m ih =>
    obtain heq | hm := List.mem_cons.mp hm
    · subst heq; simp [spGet]
    · have hlt : e.1 < k := lt_of_mem_spAbove h hm
      rw [spGet, if_neg (by omega)]
      exact ih (spSorted_of_spAbove m e.1 h) hm

/-- A key that reads as another value than the unlisted one is listed. -/
theorem mem_of_spGet_ne {β : Type} {d : β} {m : SparseMap β} (h : spGet d m k ≠ d) : (k, spGet d m k) ∈ m := by
  induction m with
  | nil => exact absurd rfl h
  | cons e m ih =>
    simp only [spGet] at h ⊢
    split at h
    case isTrue hk => rw [if_pos hk, ← hk]; exact List.mem_cons_self
    case isFalse hk => simp only [if_neg hk]; exact List.mem_cons_of_mem _ (ih h)

/-! ## Requesting pages -/

/-- The keys of the store that hold an INT_STATUS. -/
theorem intPage_eq_some_iff : intPage k = some p ↔ k = (F.hdr_INT_STATUS_INT p).key := by
  simp only [intPage, F.hdr_INT_STATUS_INT, Fl.key, Bool.and_eq_true, beq_iff_eq, Option.ite_none_right_eq_some,
    Option.some.injEq]
  omega

/-- A page requests an interrupt exactly while INT_STATUS AND INT_ENABLE is non-zero. -/
theorem mem_requestingPages_iff (h : spSorted s.fields = true) :
    p ∈ requestingPages s ↔ s.fget (F.hdr_INT_STATUS_INT p) &&& s.fget (F.hdr_INT_ENABLE_EN p) ≠ 0 := by
  rw [requestingPages, List.mem_filterMap]
  constructor
  · rintro ⟨⟨k, v⟩, hm, he⟩
    split at he
    case h_1 q hq =>
      obtain ⟨hne, rfl⟩ := Option.ite_none_right_eq_some.mp he |>.imp_right Option.some.inj
      obtain rfl : k = _ := intPage_eq_some_iff.mp hq
      rw [State.fget, spGet_of_mem _ h hm]
      simpa using hne
    case h_2 => cases he
  · intro hne
    have hlisted : s.fget (F.hdr_INT_STATUS_INT p) ≠ 0 := fun h0 => hne (by rw [h0, Nat.zero_and])
    refine ⟨_, mem_of_spGet_ne hlisted, ?_⟩
    rw [intPage_eq_some_iff.mpr rfl]
    exact if_pos (by simpa [State.fget] using hne)

/-! ## Reading one field after another is written -/

/-- A field reads what was written where the two are held at one place, and as before otherwise. -/
theorem fget_fset (s : State) (f g : Fl) (v : Nat) :
    (s.fset f v).fget g = if g.key = f.key then v % 2 ^ f.w else s.fget g := by
  split
  case isTrue h => simp [State.fget, State.fset, h]
  case isFalse h => exact fget_fset_other s v h

/-- Fields of one page are held at one place where they begin at the same bit. -/
theorem key_eq_key_iff {off lo w rst off' lo' w' rst' : Nat} :
    (⟨p, off, lo, w, rst⟩ : Fl).key = (⟨p, off', lo', w', rst'⟩ : Fl).key ↔ off * 32 + lo = off' * 32 + lo' := by
  simp only [Fl.key]
  omega

/-! ## The entry of an error log -/

/-- Fields of a page's header at other bits than INT_STATUS read after a `raise` as before. -/
theorem fget_raise_other {f : Fl} (bit : Nat) (h : f.key ≠ (F.hdr_INT_STATUS_INT p).key) :
    (s.raise p bit).fget f = s.fget f :=
  fget_fset_other s _ h

/-- Bits are tested alike. -/
theorem bitOf_eq_testBit (x i : Nat) : bitOf x i = x.testBit i := by
  rw [bitOf, Nat.testBit_eq_decide_div_mod_eq]
  rfl

/-- A bit that is raised reads 1. -/
theorem bitOf_raise (s : State) (p : Nat) {bit : Nat} (h : bit < 32) :
    bitOf ((s.raise p bit).fget (F.hdr_INT_STATUS_INT p)) bit = true := by
  have hw : (F.hdr_INT_STATUS_INT p).w = 32 := rfl
  rw [bitOf_eq_testBit, State.raise, fget_fset_self, hw, Nat.testBit_mod_two_pow, Nat.testBit_or,
    Nat.testBit_two_pow_self]
  simp [h]

/-- What an error leaves of the log ends with INT_STATUS.ERR. -/
theorem logErr_eq_raise (s : State) (p code master al off : Nat) :
    ∃ t : State, s.logErr p code master al off = t.raise p 30 := by
  cases h : s.flag (F.hdr_ERR_LOG_VALID p) with
  | true => exact ⟨_, logErr_of_valid h code master al off⟩
  | false => exact ⟨_, logErr_of_empty h code master al off⟩

/-- The first error of a page's log is taken in full, and leaves OVERFLOW. -/
theorem fget_logErr_of_empty (h : s.flag (F.hdr_ERR_LOG_VALID p) = false) (code master al off : Nat) :
    let t := s.logErr p code master al off
    t.fget (F.hdr_ERR_LOG_CODE p) = code % 16 ∧ t.fget (F.hdr_ERR_LOG_MASTER p) = master % 16 ∧
      t.fget (F.hdr_ERR_LOG_ALIAS p) = al % 4 ∧ t.fget (F.hdr_ERR_LOG_OFFSET_DW p) = off / 4 % 4096 ∧
      t.fget (F.hdr_ERR_LOG_OVERFLOW p) = s.fget (F.hdr_ERR_LOG_OVERFLOW p) ∧ t.fget (F.hdr_ERR_LOG_VALID p) = 1 := by
  simp only [logErr_of_empty h, State.raise, State.fsets, fget_fset, F.hdr_ERR_LOG_CODE, F.hdr_ERR_LOG_MASTER,
    F.hdr_ERR_LOG_ALIAS, F.hdr_ERR_LOG_OFFSET_DW, F.hdr_ERR_LOG_OVERFLOW, F.hdr_ERR_LOG_VALID, F.hdr_INT_STATUS_INT,
    key_eq_key_iff]
  simp

/-- A further error leaves the entry and sets OVERFLOW. -/
theorem fget_logErr_of_valid (h : s.flag (F.hdr_ERR_LOG_VALID p) = true) (code master al off : Nat) :
    let t := s.logErr p code master al off
    t.fget (F.hdr_ERR_LOG_CODE p) = s.fget (F.hdr_ERR_LOG_CODE p) ∧
      t.fget (F.hdr_ERR_LOG_MASTER p) = s.fget (F.hdr_ERR_LOG_MASTER p) ∧
      t.fget (F.hdr_ERR_LOG_ALIAS p) = s.fget (F.hdr_ERR_LOG_ALIAS p) ∧
      t.fget (F.hdr_ERR_LOG_OFFSET_DW p) = s.fget (F.hdr_ERR_LOG_OFFSET_DW p) ∧
      t.fget (F.hdr_ERR_LOG_OVERFLOW p) = 1 ∧ t.fget (F.hdr_ERR_LOG_VALID p) = s.fget (F.hdr_ERR_LOG_VALID p) := by
  simp only [logErr_of_valid h, State.raise, fget_fset, F.hdr_ERR_LOG_CODE, F.hdr_ERR_LOG_MASTER, F.hdr_ERR_LOG_ALIAS,
    F.hdr_ERR_LOG_OFFSET_DW, F.hdr_ERR_LOG_OVERFLOW, F.hdr_ERR_LOG_VALID, F.hdr_INT_STATUS_INT, key_eq_key_iff]
  simp

/-- No key but that of INT_STATUS and those of ERR_LOG changes with an error. -/
theorem spGet_logErr_other (x : Nat) (hint : k ≠ p * 0x80000 + 0x10 * 32) (hlog : k / 32 ≠ p * 0x4000 + 0x30)
    (code master al off : Nat) : spGet x (s.logErr p code master al off).fields k = spGet x s.fields k := by
  have hne_int : k ≠ (F.hdr_INT_STATUS_INT p).key := by
    simp only [Fl.key, F.hdr_INT_STATUS_INT]
    omega
  have hne_log {lo w rst : Nat} (hlo : lo < 32) : k ≠ (⟨p, 0x30, lo, w, rst⟩ : Fl).key := by
    simp only [Fl.key]
    omega
  cases h : s.flag (F.hdr_ERR_LOG_VALID p) with
  | true =>
    have hne_over : k ≠ (F.hdr_ERR_LOG_OVERFLOW p).key := hne_log (by decide)
    rw [logErr_of_valid h, State.raise, spGet_fset_other x _ hne_int, spGet_fset_other x 1 hne_over]
  | false =>
    rw [logErr_of_empty h, State.raise, spGet_fset_other x _ hne_int, spGet_fsets_other x]
    simp only [List.forall_mem_cons, List.not_mem_nil, false_imp_iff, implies_true, and_true]
    exact ⟨hne_log (by decide), hne_log (by decide), hne_log (by decide), hne_log (by decide), hne_log (by decide)⟩

end Sys2Proof.Machine

open Sys2Proof Sys2Proof.Machine

/-- Settles O50: a function's vectors are those of the requesting pages that name it. -/
theorem requestedVectorsExact : Obligations.RequestedVectorsExact := by
  unfold Obligations.RequestedVectorsExact
  intro s v h
  simp only [requestedVectors, List.mem_filterMap, mem_requestingPages_iff h]
  constructor <;> simp

/-- Settles O52: an empty log takes the entry in full, a log with a valid entry sets OVERFLOW, and both end with
INT_STATUS.ERR. -/
theorem errorLogTakesTheFirst : Obligations.ErrorLogTakesTheFirst := by
  unfold Obligations.ErrorLogTakesTheFirst
  intro s p code master region off hcode hmaster hregion hoff halign t
  refine ⟨fun h => ?_, fun h => ?_, ?_, ?_, fun k x hint hlog => spGet_logErr_other x hint hlog _ _ _ _⟩
  · obtain ⟨hc, hm, ha, ho, hover, -⟩ := fget_logErr_of_empty h code master region off
    exact ⟨hc.trans (Nat.mod_eq_of_lt hcode), hm.trans (Nat.mod_eq_of_lt hmaster), ha.trans (Nat.mod_eq_of_lt hregion),
      by rw [ho]; omega, hover⟩
  · obtain ⟨hc, hm, ha, ho, hover, -⟩ := fget_logErr_of_valid h code master region off
    exact ⟨hc, hm, ha, ho, by simp [t, State.flag, hover]⟩
  · cases h : s.flag (F.hdr_ERR_LOG_VALID p) with
    | true =>
      obtain ⟨-, -, -, -, -, hv⟩ := fget_logErr_of_valid h code master region off
      simpa [t, State.flag, hv] using h
    | false =>
      obtain ⟨-, -, -, -, -, hv⟩ := fget_logErr_of_empty h code master region off
      simp [t, State.flag, hv]
  · obtain ⟨r, hr⟩ := logErr_eq_raise s p code master region off
    simpa [t, hr] using bitOf_raise r p (by decide)
end

section
/-! PROOFS. The connection memory: the swap (spec/07_slot_core.md, R190), writes through the window (R185), and its commands
and events (R187 to R191, R200). -/

namespace Sys2Proof.Machine

variable {s : State} {m : Master}

/-- A fold of steps that each keep a reading of the state keeps it. -/
theorem foldl_keeps {α β γ : Type} (g : β → γ) {f : β → α → β} (hf : ∀ b a, g (f b a) = g b) (l : List α) (b : β) :
    g (l.foldl f b) = g b := by
  induction l generalizing b with
  | nil => rfl
  | cons a l ih => rw [List.foldl_cons, ih, hf]

/-! ## The swap (R190) -/

/-- Restarting a mapper keeps the registers. -/
@[simp] theorem restartMapper_fields (s : State) (h : Nat) : (s.restartMapper h).fields = s.fields := by
  unfold State.restartMapper
  dsimp only
  split
  · rfl
  · split <;> rfl

/-- Restarting a mapper keeps both pages of the connection memory. -/
@[simp] theorem restartMapper_cmPage (s : State) (h : Nat) (b : Bool) : (s.restartMapper h).cmPage b = s.cmPage b := by
  unfold State.restartMapper
  dsimp only
  split
  · rfl
  · split <;> rfl

/-- A field write keeps both pages. -/
@[simp] theorem fset_cmPage (s : State) (f : Fl) (v : Nat) (b : Bool) : (s.fset f v).cmPage b = s.cmPage b := rfl

/-- Fields read alike in states with the same registers. -/
theorem fget_congr {s t : State} (h : s.fields = t.fields) (f : Fl) : s.fget f = t.fget f := by
  rw [State.fget, State.fget, h]

/-- The state of a swap before it reports: the pages are exchanged and the changed groups' mappers start afresh. -/
def State.swapped (s : State) : State :=
  s.changedGroups.foldl State.restartMapper (s.fput F.core_CORE_STATUS_ACTIVE (!s.activeB))

/-- Beside the exchange a swap writes its three reports, the state and the interrupt bit. -/
theorem swapNow_fields (s : State) (sf frame : Nat) : (s.swapNow sf frame).fields =
    (((s.swapped.fsets [(F.core_SWAP_SEQ_SEQ, s.swapped.fget F.core_SWAP_SEQ_SEQ + 1), (F.core_SWAP_LAST_SF_SF, sf),
      (F.core_SWAP_LAST_FRAME_FRAME, frame)]).setCmState 0).raise 0x80 0).fields := by
  simp only [State.swapNow, State.raise, State.setCmState, State.fset, State.fget]
  rfl

/-- Nothing stays armed. -/
theorem swapNow_core (s : State) (sf frame : Nat) : (s.swapNow sf frame).core = { s.swapped.core with arm := none } := rfl

/-- The exchange writes no field but the active page. -/
theorem fget_swapped (s : State) (f : Fl) :
    s.swapped.fget f = (s.fput F.core_CORE_STATUS_ACTIVE (!s.activeB)).fget f :=
  fget_congr (foldl_keeps State.fields restartMapper_fields _ _) f

/-- Page A stays A and page B stays B. -/
theorem cmPage_swapNow (s : State) (sf frame : Nat) (b : Bool) : (s.swapNow sf frame).cmPage b = s.cmPage b := by
  have hkeeps : s.swapped.cmPage b = s.cmPage b := foldl_keeps (State.cmPage · b) (restartMapper_cmPage · · b) _ _
  rw [← hkeeps, State.cmPage, swapNow_core, State.cmPage]

/-- What a swap makes of the fields that report it. -/
theorem fget_swapNow (s : State) (sf frame : Nat) :
    let t := s.swapNow sf frame
    t.activeB = !s.activeB ∧ t.cmState = 0 ∧ t.fget F.core_SWAP_SEQ_SEQ = (s.fget F.core_SWAP_SEQ_SEQ + 1) % 2 ^ 32 ∧
      t.fget F.core_SWAP_LAST_SF_SF = sf % 2 ^ 32 ∧ t.fget F.core_SWAP_LAST_FRAME_FRAME = frame % 32 ∧
      bitOf (t.fget (F.hdr_INT_STATUS_INT 0x80)) 0 = true := by
  have hactive : s.swapped.flag F.core_CORE_STATUS_ACTIVE = !s.activeB := by
    rw [State.flag, fget_swapped]
    exact flag_fput_self s _ _ (by decide)
  have hseq : s.swapped.fget F.core_SWAP_SEQ_SEQ = s.fget F.core_SWAP_SEQ_SEQ :=
    (fget_swapped s _).trans (fget_fset_other s _ (by decide))
  have hbit : bitOf ((s.swapNow sf frame).fget (F.hdr_INT_STATUS_INT 0x80)) 0 = true := by
    rw [fget_congr (swapNow_fields s sf frame)]
    exact bitOf_raise _ _ (by decide)
  simp (decide := true) only [State.activeB, State.flag, State.cmState, fget_congr (swapNow_fields s sf frame), State.raise,
    State.setCmState, State.fsets, fget_fset, ↓reduceIte] at hactive hbit ⊢
  exact ⟨hactive, trivial, by rw [hseq]; rfl, rfl, rfl, hbit⟩

/-! ## Writes through the window (R184, R185) -/

/-- The window address of an entry leads back to it. -/
theorem cmEntryOf_cmPlace (e : Nat) : cmEntryOf (cmPlace e).1 (cmPlace e).2 = e := by
  simp only [cmEntryOf, cmPlace]
  omega

/-- What a write through the window makes of a page: one entry in its region. -/
def CmPage.merge (p : CmPage) (e region be data : Nat) : CmPage :=
  p.put e (mergeField region (p.entry e) (bitsOf data 0 18) (bitsOf (beMask be) 0 18))

section
variable {e region be data : Nat}

/-- In STAGED a write through a window on the standby page changes that page. -/
theorem cmWrite_of_staged (hview : s.cmView.2 = false) (hstate : s.cmState = 0) :
    s.cmWrite m (cmPlace e).1 (cmPlace e).2 region be data =
      s.setCmPage s.cmView.1 ((s.cmPage s.cmView.1).merge e region be data) := by
  simp [State.cmWrite, hview, hstate, cmEntryOf_cmPlace, CmPage.merge]

/-- In ARMED the write is refused. -/
theorem cmWrite_of_armed (hview : s.cmView.2 = false) (hstate : s.cmState = 4) :
    s.cmWrite m (cmPlace e).1 (cmPlace e).2 region be data =
      s.logErr (cmPlace e).1 0xB (masterId m) region (cmPlace e).2 := by
  simp [State.cmWrite, hview, hstate]

/-- A merged entry reads the value merged, in its 18 bits. -/
theorem entry_merge_self (p : CmPage) : (p.merge e region be data).entry e =
    mergeField region (p.entry e) (bitsOf data 0 18) (bitsOf (beMask be) 0 18) % 2 ^ 18 :=
  spGet_spPut_self ..

/-- Every other entry stays. -/
theorem entry_merge_other (p : CmPage) {u : Nat} (h : u ≠ e) : (p.merge e region be data).entry u = p.entry u :=
  spGet_spPut_other _ _ _ h

end

/-- A page that is replaced holds what it is replaced by. -/
theorem cmPage_setCmPage_self (s : State) (b : Bool) (p : CmPage) : (s.setCmPage b p).cmPage b = p := by
  cases b <;> rfl

/-- The other page stays. -/
theorem cmPage_setCmPage_not (s : State) (b : Bool) (p : CmPage) : (s.setCmPage b p).cmPage (!b) = s.cmPage (!b) := by
  cases b <;> rfl

/-- Replacing a page of the connection memory leaves every store. -/
theorem setCmPage_stores (s : State) (b : Bool) (p : CmPage) :
    (s.setCmPage b p).fields = s.fields ∧ (s.setCmPage b p).ctrs = s.ctrs ∧ (s.setCmPage b p).mem = s.mem ∧
      (s.setCmPage b p).ctx = s.ctx := by
  cases b <;> exact ⟨rfl, rfl, rfl, rfl⟩

end Sys2Proof.Machine

open Sys2Proof Sys2Proof.Machine

/-- Settles O53: the swap turns the active page over and keeps what each page holds. -/
theorem swapExchangesPages : Obligations.SwapExchangesPages := by
  unfold Obligations.SwapExchangesPages
  intro s sf frame harm t
  have ht : t = s.swapNow sf frame := by simp only [t, State.swapDue, harm]
  obtain ⟨hactive, hstate, hseq, hsf, hframe, hbit⟩ := fget_swapNow s sf frame
  rw [ht]
  refine ⟨?_, ?_, rfl, hstate, hseq, hsf, hframe, hbit⟩
  · rw [State.cmActive, hactive, cmPage_swapNow, State.cmStandby]
  · rw [State.cmStandby, hactive, cmPage_swapNow, Bool.not_not, State.cmActive]

/-- Settles O54: the write merges one entry into the standby page, and replaces that page. -/
theorem connectionMemoryWriteFrame : Obligations.ConnectionMemoryWriteFrame := by
  unfold Obligations.ConnectionMemoryWriteFrame
  intro s m e region be d hreach hview hstate
  refine ⟨s.setCmPage s.cmView.1 ((s.cmPage s.cmView.1).merge e.val region.val be.val d.toNat),
    writes_of_viaPage rfl hreach (cmWrite_of_staged hview hstate), ?_, fun u hu => ?_, cmPage_setCmPage_not _ _ _,
    setCmPage_stores _ _ _⟩
  · rw [cmPage_setCmPage_self, entry_merge_self]
  · rw [cmPage_setCmPage_self, entry_merge_other _ hu]

/-- Settles O19: a write by the state of the memory, and each command by the state that permits it. -/
theorem connectionMemoryCommandsComplete : Obligations.ConnectionMemoryCommandsComplete := by
  unfold Obligations.ConnectionMemoryCommandsComplete
  intro s m e region be d atSf
  refine ⟨fun hreach hview => ⟨fun hstate => ?_, fun hstate => ?_⟩, fun hreach => ⟨fun hidle => ⟨?_, ?_, fun hshadow => ?_, ?_⟩,
    fun hstate hmode => ?_, fun hstate => ?_, fun hstate => ?_⟩⟩
  · exact writes_of_viaPage rfl hreach (cmWrite_of_staged hview hstate)
  · exact writes_of_viaPage rfl hreach (cmWrite_of_armed hview hstate)
  · exact writes_of_viaCmd rfl hreach (by simp [State.cmCmd, State.cmStart, hidle])
  · exact writes_of_viaCmd rfl hreach (by simp [State.cmCmd, State.cmStart, hidle])
  · exact writes_of_viaCmd rfl hreach (by simp [State.cmCmd, State.cmStart, hidle, hshadow])
  · exact writes_of_viaCmd rfl hreach (by simp [State.cmCmd, State.cmVerify, hidle])
  · exact writes_of_viaCmd rfl hreach (by simp [State.cmCmd, State.cmArm, hstate, hmode])
  · exact writes_of_viaCmd rfl hreach (by simp [State.cmCmd, State.cmDisarm, hstate])
  · exact writes_of_viaCmd rfl hreach (by simp [State.cmCmd, State.cmArm, hstate, State.log])
/-- Settles O20: VERIFY and COPY end in the state that waits for them; both boundaries are `State.frameBoundary`. -/
theorem connectionMemoryEventsComplete : Obligations.ConnectionMemoryEventsComplete := by
  unfold Obligations.ConnectionMemoryEventsComplete
  intro s bad fail f hlive
  refine ⟨fun hstate => ?_, fun hstate hop => ?_, ?_, ?_⟩
  · exact yields_of_live rfl hlive (by simp [State.verifyDone, hstate])
  · exact yields_of_live rfl hlive (by simp [State.cmOpDone, hstate, hop])
  · exact yields_of_live rfl hlive rfl
  · exact yields_of_live rfl hlive rfl
end

section
/-! PROOFS. The memory stacks as a store (spec/08_protection_skew.md, R214). -/

namespace Sys2Proof.Machine

variable {stack : Nat}

/-- The next offset of a stack has the next key. -/
theorem memKey_succ (stack off : Nat) : memKey stack (off + 1) = memKey stack off + 1 := by
  simp only [memKey]
  omega

/-- Bytes placed at a stack's rising offsets leave every key before and after them. -/
theorem spGet_memFill_outside {l : List Nat} {off k : Nat} (m : Memory)
    (h : k < memKey stack off ∨ memKey stack off + l.length ≤ k) : spGet 0 (memFill stack m off l) k = spGet 0 m k := by
  induction l generalizing off m with
  | nil => rfl
  | cons b l ih =>
    rw [List.length_cons] at h
    rw [memFill, ih _ (by rw [memKey_succ]; omega), spGet_spPut_other _ _ _ (by omega)]

/-- The byte at an offset is the one placed there. -/
theorem spGet_memFill_inside {l : List Nat} {off i : Nat} (m : Memory) (h : i < l.length) :
    spGet 0 (memFill stack m off l) (memKey stack (off + i)) = BitVec.ofNat 8 l[i] := by
  induction l generalizing off i m with
  | nil => cases h
  | cons b l ih =>
    cases i with
    | zero =>
      rw [memFill, spGet_memFill_outside _ (by rw [memKey_succ, Nat.add_zero]; omega)]
      exact spGet_spPut_self ..
    | succ i =>
      rw [memFill, show off + (i + 1) = off + 1 + i by omega, ih _ (Nat.lt_of_succ_lt_succ h)]
      rfl

/-- A write of a stack places its bytes in the store. -/
@[simp] theorem memWrite_mem (s : State) (stack off : Nat) (l : List Nat) :
    (s.memWrite stack off l).mem = memFill stack s.mem off l := rfl

end Sys2Proof.Machine

open Sys2Proof Sys2Proof.Machine

/-- Settles O55: the bytes of a write stand at their own keys and no others. -/
theorem memoryStoreLaws : Obligations.MemoryStoreLaws := by
  unfold Obligations.MemoryStoreLaws
  intro s stack off l
  refine ⟨?_, fun k hk => spGet_memFill_outside _ hk, memFill_wf stack l s.mem off⟩
  refine List.ext_getElem (by simp [State.memRead]) fun i hi _ => ?_
  have hlen : i < l.length := by simpa [State.memRead] using hi
  simp only [State.memRead, State.memByte, memWrite_mem, List.getElem_map, List.getElem_range,
    spGet_memFill_inside s.mem hlen, BitVec.toNat_ofNat]
end

section
/-! PROOFS. What a fatal fault leaves (spec/02_modes.md, R35; spec/16_security.md, R422), and where no light may be sent
(R34, R99, R264). -/

namespace Sys2Proof.Machine

variable {s t u : State}

/-! ## Keeping part of the registers -/

/-- `t` holds what `s` holds at every key of the register store that `P` names. -/
def KeepsFields (P : Nat → Prop) (s t : State) : Prop := ∀ x k, P k → spGet x t.fields k = spGet x s.fields k

namespace KeepsFields

variable {P : Nat → Prop}

/-- States with the same registers. -/
theorem of_fields (h : t.fields = s.fields) : KeepsFields P s t := fun x k _ => by rw [h]

/-- Nothing happens. -/
theorem refl (P : Nat → Prop) (s : State) : KeepsFields P s s := of_fields rfl

/-- One after the other. -/
theorem trans (h : KeepsFields P s t) (h' : KeepsFields P t u) : KeepsFields P s u :=
  fun x k hk => (h' x k hk).trans (h x k hk)

/-- A field that `P` names reads as before. -/
theorem fget (h : KeepsFields P s t) {f : Fl} (hf : P f.key) : t.fget f = s.fget f := h f.rst f.key hf

/-- A field that `P` does not name is written. -/
theorem fset (h : KeepsFields P s t) {f : Fl} (v : Nat) (hf : ¬ P f.key) : KeepsFields P s (t.fset f v) :=
  h.trans fun x _ hk => spGet_fset_other x v fun heq => hf (heq ▸ hk)

/-- Several fields that `P` does not name are written. -/
theorem fsets (h : KeepsFields P s t) (l : List (Fl × Nat)) (hl : ∀ e ∈ l, ¬ P e.1.key) :
    KeepsFields P s (t.fsets l) :=
  h.trans fun x _ hk => spGet_fsets_other x l t fun e he heq => hl e he (heq ▸ hk)

/-- A step that is taken on a condition. -/
theorem onlyIf (h : KeepsFields P s t) {b : Bool} {f : State → State}
    (hf : ∀ t, KeepsFields P s t → KeepsFields P s (f t)) : KeepsFields P s (t.onlyIf b f) := by
  cases b
  · exact h
  · exact hf t h

/-- Either of two. -/
theorem ite {c : Prop} [Decidable c] (ht : KeepsFields P s t) (hu : KeepsFields P s u) :
    KeepsFields P s (if c then t else u) := by
  split
  · exact ht
  · exact hu

/-- A fold of steps that keep. -/
theorem foldl {α : Type} {f : State → α → State} (hf : ∀ t a, KeepsFields P t (f t a)) (l : List α)
    (h : KeepsFields P s t) : KeepsFields P s (l.foldl f t) := by
  induction l generalizing t with
  | nil => exact h
  | cons a l ih => exact ih (h.trans (hf t a))

/-- An output. -/
theorem emit (h : KeepsFields P s t) (o : Out) : KeepsFields P s (t.emit o) := h

/-- An interrupt bit. -/
theorem raise (h : KeepsFields P s t) {p : Nat} (bit : Nat) (hp : ¬ P (F.hdr_INT_STATUS_INT p).key) :
    KeepsFields P s (t.raise p bit) := h.fset _ hp

/-- An entry of an error log. -/
theorem logErr (h : KeepsFields P s t) {p : Nat} (code master al off : Nat)
    (hp : ∀ k, P k → OutsideHeader p k) : KeepsFields P s (t.logErr p code master al off) :=
  h.trans fun x k hk => spGet_logErr_outside x (hp k hk) code master al off

/-- A journal record. -/
theorem jrnl (h : KeepsFields P s t) (typ master page : Nat) (body : List Nat) (hseq : ¬ P F.jr_JRNL_SEQ_SEQ.key)
    (hint : ¬ P (F.hdr_INT_STATUS_INT 0x2A1).key) : KeepsFields P s (t.jrnl typ master page body) := by
  have hrec := (h.fset (nextSeq (t.fget F.jr_JRNL_SEQ_SEQ)) hseq).onlyIf (b := typ == 4 || typ == 11 || typ == 12)
    (f := fun s => { s with svc := { s.svc with attnRec := true } }) fun _ h => h
  exact ite hrec (hrec.raise 0 hint)

end KeepsFields

/-! ## The device's own state -/

/-- A step that is taken on a condition and keeps a reading of the state. -/
theorem onlyIf_keeps {γ : Type} (g : State → γ) (s : State) (b : Bool) {f : State → State} (hf : g (f s) = g s) :
    g (s.onlyIf b f) = g s := by
  cases b
  · rfl
  · exact hf

/-- The same of the device's own state. -/
@[simp] theorem onlyIf_dev (s : State) (b : Bool) {f : State → State} (hf : ∀ t, (f t).dev = t.dev) :
    (s.onlyIf b f).dev = s.dev := onlyIf_keeps State.dev s b (hf s)

/-- A journal record keeps the device's own state. -/
@[simp] theorem jrnl_dev (s : State) (typ master page : Nat) (body : List Nat) : (s.jrnl typ master page body).dev = s.dev := by
  unfold State.jrnl
  dsimp only
  split <;> simp [State.jrnlDrop]

/-! ## A change of mode -/

section
variable (new : Mode) (cause by_ : Nat)

/-- What a change of mode makes of the device's own state. -/
theorem setMode_dev (h : new ≠ s.dev.mode) : ∃ prev maint, (s.setMode new cause by_).dev =
    { s.dev with mode := new, prev := prev, maintPrev := maint, twinRole := roleOf s.dev.twinRole new,
                 broughtUp := s.dev.broughtUp || decide (s.dev.mode = .bringUp) } := by
  unfold State.setMode
  rw [if_neg h]
  refine ⟨?prev, ?maint, ?dev⟩
  case dev =>
    refine (onlyIf_dev _ _ ?_).trans ?_
    · exact fun _ => jrnl_dev ..
    iterate 4
      refine (onlyIf_dev _ _ ?_).trans ?_
      · exact fun _ => rfl
    rfl

/-- A device that changes mode is in the new mode. -/
theorem setMode_mode (s : State) : (s.setMode new cause by_).dev.mode = new := by
  by_cases h : new = s.dev.mode
  · rw [State.setMode, if_pos h, h]
  · obtain ⟨prev, maint, hdev⟩ := setMode_dev new cause by_ h
    rw [hdev]

/-- Of the registers a change of mode writes the twin's interrupts and eligibility, and the journal's. -/
theorem setMode_keeps {P : Nat → Prop} (htwin : ¬ P (F.hdr_INT_STATUS_INT 0x250).key)
    (hel : ¬ P F.twin_TWIN_STATUS_ELIGIBLE.key) (hseq : ¬ P F.jr_JRNL_SEQ_SEQ.key)
    (hint : ¬ P (F.hdr_INT_STATUS_INT 0x2A1).key) (h : KeepsFields P s t) :
    KeepsFields P s (t.setMode new cause by_) := by
  unfold State.setMode
  refine .ite h (.emit ?_ _)
  refine .onlyIf (.onlyIf (.onlyIf (.onlyIf (.onlyIf ?_ fun _ h => h.raise 0 htwin) fun _ h => h.raise 2 htwin)
    fun _ h => h.raise 3 htwin) fun _ h => h.fset _ hel) fun _ h => h.jrnl _ _ _ _ hseq hint
  exact h

end

/-! ## A pending request is dropped -/

/-- Of the registers this writes REQ_STATUS and page 0x000's error log. -/
theorem dropReq_keeps {P : Nat → Prop} (hreq : ¬ P F.dev_MODE_REQ_STATUS.key) (hlog : ∀ k, P k → OutsideHeader 0 k)
    (h : KeepsFields P s t) : KeepsFields P s t.dropReq := by
  unfold State.dropReq State.refusePending
  exact .ite (t := State.logErr _ _ _ _ _ _) ((h.fset 3 hreq).logErr _ _ _ _ hlog) h

/-! ## The key slots -/

/-- Clearing an association's slots keeps the device's own state. -/
@[simp] theorem clearKeys_dev (s : State) (a : Nat) : (s.clearKeys a).dev = s.dev := rfl

/-- Of the registers this writes VALID of the key pages. -/
theorem clearKeys_keeps {P : Nat → Prop} (hP : ∀ k, P k → k < 0x290 * 0x80000) (s : State) (a : Nat) :
    KeepsFields P s (s.clearKeys a) := by
  have hkey : ¬ P (F.key_VALID_VALID (a / 64) (a % 64)).key := fun h => by
    have := hP _ h
    simp only [F.key_VALID_VALID, Fl.key] at this
    omega
  exact (KeepsFields.fset (.of_fields rfl) _ hkey).trans (.fset (.of_fields rfl) _ hkey)

/-- An association reads what was put for it, the others as before. -/
theorem sa_setSa (s : State) (a b : Nat) (v : SaState) : (s.setSa a v).sa b = if b = a then v else s.sa b := by
  split
  case isTrue h => rw [h]; exact spGet_spPut_self ..
  case isFalse h => exact spGet_spPut_other _ _ _ h

/-- A slot reads the key put in it, the other slot and the other associations as before. -/
theorem key_setKey (s : State) (a b slot slot' : Nat) (k : Option (List Nat × Nat)) :
    (s.setKey a slot k).key b slot' = if b = a ∧ (slot' = 0 ↔ slot = 0) then k else s.key b slot' := by
  have hsa (v : SaState) : ((s.setSa a v).showKeys a).sa b = (s.setSa a v).sa b := rfl
  simp only [State.setKey, State.key, hsa, sa_setSa]
  by_cases hb : b = a <;> by_cases h : slot = 0 <;> by_cases h' : slot' = 0 <;> simp [hb, h, h']

/-- Both slots of the association are empty afterwards, and those of the others as before. -/
theorem key_clearKeys (s : State) (a b slot : Nat) :
    (s.clearKeys a).key b slot = if b = a then none else s.key b slot := by
  simp only [State.clearKeys, key_setKey]
  by_cases hb : b = a <;> by_cases h : slot = 0 <;> simp [hb, h]

/-- An association that is not listed has no key. -/
theorem key_of_not_known {a : Nat} (h : a ∉ s.knownSas) (slot : Nat) : s.key a slot = none := by
  have hsa : s.sa a = {} := by
    refine Classical.byContradiction fun hne => ?_
    exact h (List.mem_map_of_mem (f := Prod.fst) (mem_of_spGet_ne hne))
  rw [State.key, hsa]
  split <;> rfl

/-- Once the slots of some associations are cleared, a key is left only where there was one before and of no such association. -/
theorem key_foldl_clearKeys (l : List Nat) (s : State) (a slot : Nat) :
    (l.foldl State.clearKeys s).key a slot = if a ∈ l then none else s.key a slot := by
  induction l generalizing s with
  | nil => rfl
  | cons b l ih =>
    rw [List.foldl_cons, ih, key_clearKeys]
    by_cases ha : a = b <;> simp [ha]

/-- After every association's slots are cleared no key is left. -/
theorem key_clearAllKeys (s : State) (a slot : Nat) : s.clearAllKeys.key a slot = none := by
  rw [State.clearAllKeys, key_foldl_clearKeys]
  split
  · rfl
  · exact key_of_not_known ‹_› slot

/-! ## A fatal fault (R35) -/

/-- The keys of FATAL. -/
def FatalKey (k : Nat) : Prop := k = F.dev_FATAL_CODE.key ∨ k = F.dev_FATAL_CLASS.key

/-- FATAL lies outside page 0x000's header. -/
theorem FatalKey.outsideHeader {k : Nat} (h : FatalKey k) : OutsideHeader 0 k := by
  obtain rfl | rfl := h
  · exact .inr (by decide)
  · exact .inr (by decide)

/-- FATAL lies below the key pages. -/
theorem FatalKey.below {k : Nat} (h : FatalKey k) : k < 0x290 * 0x80000 := by
  obtain rfl | rfl := h <;> decide

/-- A fault in a live device leads to Quarantine. -/
theorem fatal_mode (h : s.live = true) (cls code : Nat) (detail : List Nat) :
    (s.fatal cls code detail).dev.mode = .quarantine := by
  rw [State.fatal, if_neg (by simp [h]), State.clearAllKeys, foldl_keeps State.dev clearKeys_dev]
  exact setMode_mode ..

/-- What follows FATAL keeps it. -/
theorem fatal_keeps (h : s.live = true) (cls code : Nat) (detail : List Nat) :
    KeepsFields FatalKey (s.fsets [(F.dev_FATAL_CODE, code), (F.dev_FATAL_CLASS, cls)]) (s.fatal cls code detail) := by
  rw [State.fatal, if_neg (by simp [h])]
  refine .foldl (clearKeys_keeps fun _ => FatalKey.below) _ (setMode_keeps _ _ _ ?_ ?_ ?_ ?_ (dropReq_keeps ?_
    (fun _ => FatalKey.outsideHeader) (.emit (.jrnl (.refl _ _) _ _ _ _ ?_ ?_) _)))
  all_goals
    simp only [FatalKey]
    decide

/-- No key outlives a fault. -/
theorem key_fatal (h : s.live = true) (cls code : Nat) (detail : List Nat) (a slot : Nat) :
    (s.fatal cls code detail).key a slot = none := by
  rw [State.fatal, if_neg (by simp [h])]
  exact key_clearAllKeys ..

/-! ## Modes without traffic (R34) -/

/-- In the modes outside traffic no light is allowed. -/
theorem lightAllowed_of_mode
    (h : s.dev.mode ∈ [Mode.dormant, .reset, .boot, .bringUp, .twinStandby, .twinStale, .quarantine]) :
    s.lightAllowed = false := by
  have hmay : s.mayTransmit = false := by
    simp only [List.mem_cons, List.not_mem_nil, or_false] at h
    obtain h | h | h | h | h | h | h := h <;> simp [State.mayTransmit, State.outMode, h]
  simp [State.lightAllowed, hmay]

/-- A lane without light that no test drives is held. -/
theorem laneHeld_of_dark (hlight : s.lightAllowed = false) (hmode : s.dev.mode ≠ .maintenance) (n : Nat) :
    s.laneHeld n = true := by
  simp [State.laneHeld, State.laneLit, State.testDrives, hlight, hmode]

/-- A lane that is held sends no data. -/
theorem txWanted_of_held {n : Nat} (h : s.laneHeld n = true) : s.txWanted n ≠ 0 := by
  simp only [State.txWanted, h, Bool.or_true, if_true]
  split <;> omega

end Sys2Proof.Machine

open Sys2Proof Sys2Proof.Machine

/-- Settles O57: FATAL is written first, and neither the journal nor the change of mode nor the clearing of the keys touches
it. -/
theorem fatalEntersQuarantine : Obligations.FatalEntersQuarantine := by
  unfold Obligations.FatalEntersQuarantine
  intro s cls code detail hlive hcls hcode t
  have hkeeps := fatal_keeps hlive cls code detail
  refine ⟨fatal_mode hlive cls code detail, ?_, ?_, key_fatal hlive cls code detail, yields_of_live rfl hlive rfl⟩
  · refine (hkeeps.fget (.inl rfl)).trans ?_
    rw [State.fsets, State.fsets, State.fsets, fget_fset_other _ _ (by decide), fget_fset_self]
    exact Nat.mod_eq_of_lt hcode
  · refine (hkeeps.fget (.inr rfl)).trans ?_
    rw [State.fsets, State.fsets, State.fsets, fget_fset_self]
    exact Nat.mod_eq_of_lt hcls

/-- Settles O58: none of these modes lets light out, and no test drives a lane in them. -/
theorem outputsDarkOutsideTraffic : Obligations.OutputsDarkOutsideTraffic := by
  unfold Obligations.OutputsDarkOutsideTraffic
  intro s h
  have hlight : s.lightAllowed = false := lightAllowed_of_mode h
  have hmode : s.dev.mode ≠ .maintenance := fun heq => by simp [heq] at h
  exact ⟨fun c => by simp [State.laser, hlight], fun n =>
    ⟨laneHeld_of_dark hlight hmode n, txWanted_of_held (laneHeld_of_dark hlight hmode n)⟩⟩
end

section
/-! PROOFS. A DMA descriptor that moves host bytes to a memory stack (spec/14_host_pcie.md, R388 to R391): its bursts are
permitted where the descriptor is, and place its bytes one after the other. -/

namespace Sys2Proof.Machine

variable {s t u : State} {stack off : Nat}

/-! ## What a burst at a stack leaves -/

/-- The key belongs to another page than the event counters'. -/
def OutsideCounters (k : Nat) : Prop := k / 0x80000 ≠ 0x272

/-- `t` is `s` but for the memory stacks, the counters, the event counters' page and the samples that they ask for. -/
def BurstKeeps (s t : State) : Prop :=
  t.ctx = s.ctx ∧ t.bus.shield = s.bus.shield ∧ t.host = s.host ∧ t.twin = s.twin ∧ KeepsFields OutsideCounters s t

/-- The contexts stay. -/
theorem BurstKeeps.ctx : BurstKeeps s t → t.ctx = s.ctx := fun ⟨h, _⟩ => h

/-- The blocks in reset stay. -/
theorem BurstKeeps.shield : BurstKeeps s t → t.bus.shield = s.bus.shield := fun ⟨_, h, _⟩ => h

/-- The host interface stays. -/
theorem BurstKeeps.host : BurstKeeps s t → t.host = s.host := fun ⟨_, _, h, _⟩ => h

/-- The twin block stays. -/
theorem BurstKeeps.twin : BurstKeeps s t → t.twin = s.twin := fun ⟨_, _, _, h, _⟩ => h

/-- The fields outside the counters' page stay. -/
theorem BurstKeeps.fields : BurstKeeps s t → KeepsFields OutsideCounters s t := fun ⟨_, _, _, _, h⟩ => h

/-- Beside a `BurstKeeps` the stacks are as before. -/
def CountsOnly (s t : State) : Prop := BurstKeeps s t ∧ t.mem = s.mem

/-- Nothing happens. -/
theorem BurstKeeps.refl (s : State) : BurstKeeps s s := ⟨rfl, rfl, rfl, rfl, .refl _ _⟩

/-- One after the other. -/
theorem BurstKeeps.trans (h : BurstKeeps s t) (h' : BurstKeeps t u) : BurstKeeps s u :=
  ⟨h'.ctx.trans h.ctx, h'.shield.trans h.shield, h'.host.trans h.host, h'.twin.trans h.twin, h.fields.trans h'.fields⟩

namespace CountsOnly

/-- Nothing happens. -/
theorem refl (s : State) : CountsOnly s s := ⟨.refl s, rfl⟩

/-- One after the other. -/
theorem trans (h : CountsOnly s t) (h' : CountsOnly t u) : CountsOnly s u := ⟨h.1.trans h'.1, h'.2.trans h.2⟩

/-- A counter. -/
theorem cset (h : CountsOnly s t) (c : Ct) (n : Nat) : CountsOnly s (t.cset c n) :=
  h.trans ⟨⟨rfl, rfl, rfl, rfl, .of_fields rfl⟩, rfl⟩

/-- A field of the event counters' page. -/
theorem fset (h : CountsOnly s t) {f : Fl} (v : Nat) (hf : f.key / 0x80000 = 0x272) : CountsOnly s (t.fset f v) :=
  h.trans ⟨⟨rfl, rfl, rfl, rfl, (KeepsFields.refl _ _).fset v fun hne => hne hf⟩, rfl⟩

/-- A step that is taken on a condition. -/
theorem onlyIf (h : CountsOnly s t) {b : Bool} {f : State → State} (hf : ∀ t, CountsOnly s t → CountsOnly s (f t)) :
    CountsOnly s (t.onlyIf b f) := by
  cases b
  · exact h
  · exact hf t h

/-- Either of two. -/
theorem ite {c : Prop} [Decidable c] (ht : CountsOnly s t) (hu : CountsOnly s u) : CountsOnly s (if c then t else u) := by
  split
  · exact ht
  · exact hu

/-- Samples. -/
theorem bus (h : CountsOnly s t) {b : Bus} (hb : b.shield = t.bus.shield) : CountsOnly s { t with bus := b } :=
  h.trans ⟨⟨rfl, hb, rfl, rfl, .of_fields rfl⟩, rfl⟩

/-- A counter overflows. -/
theorem overflowed (h : CountsOnly s t) (txn : Option SampleTxn) (k : Nat) : CountsOnly s (t.overflowed txn k) := by
  unfold State.overflowed
  refine .onlyIf (.onlyIf ((h.fset _ (by decide)).fset _ (by decide)) fun t h => ?_) fun _ h => h.fset _ (by decide)
  exact (h.cset _ _).bus rfl

/-- A counter takes its events. -/
theorem countStep (s0 : State) (txn : Option SampleTxn) (f : Nat → Nat) (p : State × Bool) (k : Nat)
    (h : CountsOnly s p.1) : CountsOnly s (countStep s0 txn f p k).1 := by
  have hadd (n v : Nat) : CountsOnly s (if n = 0 then p.1 else p.1.cset (F.perf_CNT_C k) v) := .ite h (h.cset _ _)
  unfold Sys2Proof.Machine.countStep
  dsimp only
  rw [apply_ite Prod.fst]
  exact .ite ((hadd _ _).overflowed txn k) (hadd _ _)

/-- Every counter takes its events. -/
theorem count (h : CountsOnly s t) (txn : Option SampleTxn) (f : Nat → Nat) : CountsOnly s (t.count txn f) :=
  List.foldlRecOn (motive := fun p => CountsOnly s p.1) (List.range 32) _ h fun p hp k _ => hp.countStep t txn f p k

/-- The events of a transaction are counted. -/
theorem busEvents (h : CountsOnly s t) (r : BusReq) (txn : SampleTxn) (l : List (Nat × Nat)) :
    CountsOnly s (t.busEvents r txn l) := by
  unfold State.busEvents
  exact .ite h (h.count _ _)

/-- Its samples describe it as it completes. -/
theorem sampleTxn (h : CountsOnly s t) (x : SampleTxn) : CountsOnly s (t.sampleTxn x) := h.bus rfl

end CountsOnly

/-! ## The beats of a write to a stack -/

/-- Four bytes are one DWORD, the others' DWORDs follow. -/
theorem dwordsOf_cons (b0 b1 b2 b3 : Nat) (l : List Nat) :
    dwordsOf (b0 :: b1 :: b2 :: b3 :: l) = leNat [b0, b1, b2, b3] :: dwordsOf l := by
  have hlen : (b0 :: b1 :: b2 :: b3 :: l).length / 4 = l.length / 4 + 1 := by simp only [List.length_cons]; omega
  rw [dwordsOf, hlen, List.range_succ_eq_map, List.map_cons, List.map_map, dwordsOf]
  rfl

/-- A write of a whole DWORD places its four bytes. -/
theorem memWriteBe_dword (s : State) (stack off b0 b1 b2 b3 : Nat) :
    (s.memWriteBe stack off 15 (leNat [b0, b1, b2, b3])).mem = memFill stack s.mem off [b0, b1, b2, b3] := by
  have h0 : BitVec.ofNat 8 (leNat [b0, b1, b2, b3]) = BitVec.ofNat 8 b0 :=
    BitVec.eq_of_toNat_eq (by simp only [leNat, BitVec.toNat_ofNat]; omega)
  have h1 : BitVec.ofNat 8 (leNat [b0, b1, b2, b3] / 256) = BitVec.ofNat 8 b1 :=
    BitVec.eq_of_toNat_eq (by simp only [leNat, BitVec.toNat_ofNat]; omega)
  have h2 : BitVec.ofNat 8 (leNat [b0, b1, b2, b3] / 65536) = BitVec.ofNat 8 b2 :=
    BitVec.eq_of_toNat_eq (by simp only [leNat, BitVec.toNat_ofNat]; omega)
  have h3 : BitVec.ofNat 8 (leNat [b0, b1, b2, b3] / 16777216) = BitVec.ofNat 8 b3 :=
    BitVec.eq_of_toNat_eq (by simp only [leNat, BitVec.toNat_ofNat]; omega)
  have hall : bitOf 15 0 = true ∧ bitOf 15 1 = true ∧ bitOf 15 2 = true ∧ bitOf 15 3 = true := by decide
  obtain ⟨hb0, hb1, hb2, hb3⟩ := hall
  simp [State.memWriteBe, List.range_succ, hb0, hb1, hb2, hb3, memFill, h0, h1, h2, h3]

/-- It leaves the rest. -/
theorem memWriteBe_keeps (s : State) (stack off be data : Nat) : BurstKeeps s (s.memWriteBe stack off be data) :=
  List.foldlRecOn (motive := BurstKeeps s) (List.range 4) _ (.refl s) fun t ht i _ => by
    split
    · exact ht.trans ⟨rfl, rfl, rfl, rfl, .of_fields rfl⟩
    · exact ht

/-- Bytes placed one run after another. -/
theorem memFill_append (stack : Nat) (m : Memory) (off : Nat) (l l' : List Nat) :
    memFill stack m off (l ++ l') = memFill stack (memFill stack m off l) (off + l.length) l' := by
  induction l generalizing m off with
  | nil => rfl
  | cons b l ih =>
    rw [List.cons_append, memFill, memFill, ih, List.length_cons, Nat.add_right_comm, Nat.add_assoc]

/-- The beats of a write of whole DWORDs place their bytes. -/
theorem writeBeats_stack (r : BusReq) (s : State) (off : Nat) : (l : List Nat) → l.length % 4 = 0 →
    (s.writeBeats (4 + stack) r off ((dwordsOf l).map fun v => (15, v))).mem = memFill stack s.mem off l ∧
      BurstKeeps s (s.writeBeats (4 + stack) r off ((dwordsOf l).map fun v => (15, v)))
  | [], _ => ⟨rfl, .refl s⟩
  | [_], h | [_, _], h | [_, _, _], h => absurd h (by simp)
  | b0 :: b1 :: b2 :: b3 :: l, h => by
    have hbeat : s.writeBeat (4 + stack) r off 15 (leNat [b0, b1, b2, b3]) =
        s.memWriteBe stack off 15 (leNat [b0, b1, b2, b3]) := by
      simp [State.writeBeat, show 4 + stack ≠ 1 by omega, show 4 + stack ≠ 2 by omega, show 4 + stack ≠ 3 by omega]
    obtain ⟨hmem, hkeeps⟩ := writeBeats_stack r (s.memWriteBe stack off 15 (leNat [b0, b1, b2, b3])) (off + 4) l
      (by simp only [List.length_cons] at h; omega)
    rw [dwordsOf_cons, List.map_cons, State.writeBeats, hbeat]
    rw [memWriteBe_dword] at hmem
    exact ⟨hmem.trans (memFill_append stack s.mem off [b0, b1, b2, b3] l).symm, (memWriteBe_keeps ..).trans hkeeps⟩

/-! ## A burst of the DMA engine at a stack -/

/-- The DMA engine may write every byte of a stretch of a stack. -/
def DmaMayWrite (s : State) (stack off len : Nat) : Prop :=
  ∀ o, off ≤ o → o < off + len →
    o < 2 ^ 35 ∧ memPermitted .dma true (s.ctxBits (coldContext stack o) 0 0 4) stack o = true

/-- A burst at a READY stack that no reset shields, of 64 DWORDs at most, has no error response (R399, R403, R405). -/
theorem burstResp_stack {r : BusReq} (hm : r.master = .dma) (hw : reqWrite r = true) (hn : reqDwords r ≤ 64)
    (hready : s.ready (0x2B0 + stack) = true) (hshield : s.bus.shield.contains (0x2B0 + stack) = false)
    (hmay : DmaMayWrite s stack off (4 * reqDwords r)) : s.burstResp (4 + stack) off r = 0 := by
  have hok : ∀ k ∈ List.range (reqDwords r), (decide (off + 4 * k < 2 ^ 35) && memPermitted r.master (reqWrite r)
      (s.ctxBits (coldContext stack (off + 4 * k)) 0 0 4) stack (off + 4 * k)) = true := fun k hk => by
    have hk := List.mem_range.mp hk
    obtain ⟨hlt, hperm⟩ := hmay (off + 4 * k) (by omega) (by omega)
    rw [hm, hw, hperm, decide_eq_true hlt, Bool.and_self]
  have hcore : coreU r = false := by rw [coreU, hm]; rfl
  have hbad : badAt r = none := if_pos hw
  have hsub : 4 + stack - 4 = stack := by omega
  simp only [State.burstResp, show 4 + stack ≠ 0 by omega, show 4 + stack ≠ 1 by omega, show 4 + stack ≠ 2 by omega,
    show 4 + stack ≠ 3 by omega, Nat.not_lt.mpr hn, if_false, State.memResp, hsub, hshield, hcore,
    List.all_eq_true.mpr hok, hready, hbad]
  rfl

/-- A write that meets no error writes its beats, and its events are counted. -/
theorem perform_write {x : Nat} {r : BusReq} {l : List (Nat × Nat)} (hop : r.op = .write l) (h : s.burstResp x off r = 0)
    (prov : Bool) : ∃ t, s.perform x off r 0 prov = (t, 0, []) ∧ CountsOnly (s.burstRecords (s.writeBeats x r off l)) t := by
  refine ⟨_, ?_, ((CountsOnly.refl _).sampleTxn (txnOf r x (reqDwords r) 0 prov)).busEvents r
    (txnOf r x (reqDwords r) 0 prov) (respEvents (reqDwords r) 0)⟩
  simp [State.perform, h, hop]

/-- The internal address of a stack's byte names its target (R398). -/
theorem targetOf_stack (hs : stack < 4) (ho : off < 2 ^ 35) :
    targetOf (0x8000000000 + (stack * 2 ^ 35 + off)) = some (4 + stack, off) := by
  simp only [targetOf, Bool.and_eq_true, decide_eq_true_eq]
  rw [if_neg (by omega), if_neg (by omega), if_neg (by omega), if_neg (by omega), if_pos (by omega)]
  exact congrArg some (Prod.ext (by dsimp only; omega) (by dsimp only; omega))

/-- A stack is READY, no reset shields it, and the DMA engine may write a stretch of it. -/
def StackTakes (s : State) (stack off len : Nat) : Prop :=
  s.ready (0x2B0 + stack) = true ∧ s.bus.shield.contains (0x2B0 + stack) = false ∧ DmaMayWrite s stack off len

/-- It permits the stretch. -/
theorem StackTakes.may {len : Nat} : StackTakes s stack off len → DmaMayWrite s stack off len := fun ⟨_, _, h⟩ => h

/-- Bursts at stacks change nothing of this. -/
theorem BurstKeeps.takes {len : Nat} (h : BurstKeeps s t) (hs : StackTakes s stack off len) : StackTakes t stack off len := by
  obtain ⟨hready, hopen, hmay⟩ := hs
  refine ⟨?_, by rw [h.shield, hopen], fun o ho ho' => ?_⟩
  · rw [← hready, State.ready, State.ready, State.flag, State.flag, h.fields.fget]
    simp only [OutsideCounters, F.hdr_BLK_STATUS_READY, Fl.key]
    omega
  · rw [State.ctxBits, State.ctxDw, h.ctx]
    exact hmay o ho ho'

/-- Nor does a part of the stretch need more. -/
theorem StackTakes.part {off' len len' : Nat} (h : StackTakes s stack off len) (hoff : off ≤ off')
    (hlen : off' + len' ≤ off + len) : StackTakes s stack off' len' := by
  obtain ⟨hready, hopen, hmay⟩ := h
  exact ⟨hready, hopen, fun o ho ho' => hmay o (by omega) (by omega)⟩

/-- A burst of whole DWORDs that the DMA engine may write places its bytes, and is answered OKAY. -/
theorem access_stack {addr : Nat} {l : List Nat} (htarget : targetOf addr = some (4 + stack, off)) (halign : addr % 4 = 0)
    (hl : l.length % 4 = 0) (hn : l.length ≤ 256) (htakes : StackTakes s stack off l.length) :
    ∃ t, s.access .dma addr (.write ((dwordsOf l).map fun v => (15, v))) = (t, 0, []) ∧
      t.mem = memFill stack s.mem off l ∧ BurstKeeps s t := by
  let r : BusReq := { master := .dma, mode := .m, addr := addr, op := .write ((dwordsOf l).map fun v => (15, v)) }
  have haddr : addr / 4 * 4 = addr := by omega
  have hlen : 4 * reqDwords r = l.length := by
    simp only [r, reqDwords, dwordsOf, List.length_map, List.length_range]
    omega
  let s1 := s.busEvents r (txnOf r (4 + stack) 0 0 (s.targetProv (4 + stack) r)) [(0, 1)]
  have hcounts : CountsOnly s s1 := (CountsOnly.refl s).busEvents _ _ _
  obtain ⟨hready, hopen, hmay⟩ := hcounts.1.takes htakes
  have hresp : s1.burstResp (4 + stack) off r = 0 := burstResp_stack rfl rfl (by omega) hready hopen (hlen ▸ hmay)
  obtain ⟨hmem, hkeeps⟩ := writeBeats_stack (stack := stack) r s1 off l hl
  have hrecords : s1.burstRecords (s1.writeBeats (4 + stack) r off ((dwordsOf l).map fun v => (15, v))) =
      s1.writeBeats (4 + stack) r off ((dwordsOf l).map fun v => (15, v)) := by
    simp [State.burstRecords, hkeeps.twin]
  obtain ⟨t, ht, hcounts'⟩ := perform_write (l := (dwordsOf l).map fun v => (15, v)) rfl hresp
    (s.targetProv (4 + stack) r)
  rw [hrecords] at hcounts'
  refine ⟨t, ?_, ?_, hcounts.1.trans (hkeeps.trans hcounts'.1)⟩
  · simp only [State.access, haddr, htarget]
    exact ht
  · rw [hcounts'.2, hmem, hcounts.2]

/-! ## A descriptor's bursts -/

/-- The bursts of a descriptor at a stack place all its bytes. -/
theorem dmaWrites_stack (hs : stack < 4) (n : Nat) : ∀ {l : List Nat} {s : State} {addr off : Nat} (done : Nat),
    addr = 0x8000000000 + (stack * 2 ^ 35 + off) → l.length ≤ n → l.length % 4 = 0 → off % 4 = 0 →
    StackTakes s stack off l.length →
    ∃ t, s.dmaWrites addr n l done = (t, done + l.length, 0) ∧ t.mem = memFill stack s.mem off l ∧ BurstKeeps s t := by
  induction n with
  | zero =>
    intro l s addr off done _ hn _ _ _
    obtain rfl : l = [] := List.length_eq_zero_iff.mp (Nat.le_zero.mp hn)
    exact ⟨s, rfl, rfl, .refl s⟩
  | succ n ih =>
    intro l s addr off done haddr hn hl hoff htakes
    have hburst : burstBytes addr l.length = min l.length (256 - addr % 256) := by
      rw [burstBytes, if_neg (by omega)]
    generalize hk : burstBytes addr l.length = k at hburst
    by_cases hzero : k = 0
    · obtain rfl : l = [] := List.length_eq_zero_iff.mp (by omega)
      exact ⟨s, by rw [State.dmaWrites, hk, if_pos hzero]; rfl, rfl, .refl s⟩
    · have htake : (l.take k).length = k := by rw [List.length_take]; omega
      have hdrop : (l.drop k).length = l.length - k := List.length_drop
      have hlt : off < 2 ^ 35 := (htakes.may off (Nat.le_refl _) (by omega)).1
      obtain ⟨t, ht, hmem, hkeeps⟩ := access_stack (l := l.take k) (haddr ▸ targetOf_stack hs hlt) (by omega) (by omega)
        (by omega) (htakes.part (Nat.le_refl _) (by omega))
      obtain ⟨w, hw, hmem', hkeeps'⟩ := ih (l := l.drop k) (s := t) (addr := addr + k) (off := off + k) (done + k) (by omega)
        (by omega) (by omega) (by omega) (hkeeps.takes (htakes.part (by omega) (by omega)))
      refine ⟨w, ?_, ?_, hkeeps.trans hkeeps'⟩
      · rw [State.dmaWrites, hk, if_neg hzero]
        simp only [ht, ne_eq, not_true_eq_false, if_false, hw, hdrop, Prod.mk.injEq, true_and, and_true]
        omega
      · rw [hmem', hmem, ← List.take_append_drop k l, memFill_append, List.take_append_drop, htake]

/-! ## What a permitted descriptor may write (R388, R399) -/

/-- The context whose cold store holds a byte has the TYPE that the matrix looks at. -/
theorem ctxTypeOf_eq (s : State) (x : Nat) : ctxTypeOf (s.ctxDw x 0) = s.ctxBits x 0 0 4 := by
  simp [ctxTypeOf, State.ctxBits, bitsOf]

/-- The staging region (R214). -/
theorem stackRegion_eq_three {o : Nat} : stackRegion o = 3 ↔ 0x7E0000000 ≤ o ∧ o < 0x7F0000000 := by
  unfold stackRegion
  repeat' split
  all_goals omega

/-- The cold store (R214). -/
theorem stackRegion_eq_one {o : Nat} : stackRegion o = 1 ↔ 0x780000000 ≤ o ∧ o < 0x7A0000000 := by
  unfold stackRegion
  repeat' split
  all_goals omega

/-- A stretch of the staging region may be written. -/
theorem mayWrite_staging {len : Nat} (hoff : stackRegion off = 3) (hlast : stackRegion (off + len - 1) = 3) :
    DmaMayWrite s stack off len := by
  intro o ho ho'
  rw [stackRegion_eq_three] at hoff hlast
  have hregion : stackRegion o = 3 := stackRegion_eq_three.mpr (by omega)
  exact ⟨by omega, by simp only [memPermitted, hregion]⟩

/-- A stretch of the writable bytes of one context may be written. -/
theorem mayWrite_context {len : Nat} (hoff : 0x780000000 ≤ off) (hlast : stackRegion (off + len - 1) = 1)
    (hone : coldContext stack off = coldContext stack (off + len - 1)) (hx : coldContext stack off < 261120)
    (htype : s.ctxBits (coldContext stack off) 0 0 4 = 1) (hlo : 4160 ≤ (off - 0x780000000) % 8192)
    (hhi : (off + len - 1 - 0x780000000) % 8192 < 4224) : DmaMayWrite s stack off len := by
  intro o ho ho'
  rw [stackRegion_eq_one] at hlast
  simp only [coldContext] at hone
  have hregion : stackRegion o = 1 := stackRegion_eq_one.mpr (by omega)
  have hsame : (o - 0x780000000) / 8192 = (off - 0x780000000) / 8192 := by omega
  have hcontext : coldContext stack o = coldContext stack off := by rw [coldContext, hsame, coldContext]
  have hbyte : 4160 ≤ (o - 0x780000000) % 8192 ∧ (o - 0x780000000) % 8192 < 4224 := by omega
  refine ⟨by omega, ?_⟩
  rw [hcontext, htype]
  simp only [memPermitted, hregion, hcontext, ge_iff_le, if_neg (Nat.not_le.mpr hx)]
  simp [hbyte]

/-- What a descriptor's permission says (R399) is what each byte needs. -/
theorem mayWrite_of_permitted {len : Nat}
    (h : dmaPermitted (s.ctxBits (coldContext stack off) 0 0 4) stack off len true = true) : DmaMayWrite s stack off len := by
  simp only [dmaPermitted, if_true, Bool.and_eq_true, Bool.or_eq_true, decide_eq_true_eq, beq_iff_eq] at h
  obtain ⟨⟨-, hoff⟩, ⟨hfirst, hlast⟩ | ⟨⟨⟨⟨⟨hlast, hone⟩, hx⟩, htype⟩, hlo⟩, hhi⟩⟩ := h
  · exact mayWrite_staging hfirst hlast
  · exact mayWrite_context hoff hlast hone hx htype hlo hhi

/-- A descriptor that is not refused, to a stack, has whole DWORDs at a DWORD's address in the stacks, and may write all its
bytes. -/
theorem mayWrite_of_not_refused {d : Descriptor} (hdir : d.ctrl % 2 = 0) (hmem : d.devAddr / 2 ^ 62 = 1)
    (h : s.descRefused d = none) :
    d.len % 4 = 0 ∧ d.devAddr % 4 = 0 ∧ DmaMayWrite s (bitsOf d.devAddr 35 2) (d.devAddr % 2 ^ 35) d.len := by
  unfold State.descRefused at h
  split at h
  · cases h
  next hvalid =>
    dsimp only at h
    split at h
    next hperm =>
      rw [ctxTypeOf_eq, hdir, beq_self_eq_true] at hperm
      simp only [descValid, Bool.not_eq_true', Bool.not_eq_false, Bool.and_eq_true, beq_iff_eq] at hvalid
      obtain ⟨⟨⟨⟨⟨-, hlen⟩, -⟩, -⟩, haddr⟩, -⟩ := hvalid
      exact ⟨hlen, haddr, mayWrite_of_permitted hperm⟩
    · cases h

/-! ## The descriptor's end (R391) -/

/-- Two bits of the address select the stack, the rest is the offset. -/
theorem dmaAddr_stack {a : Nat} (h : a / 2 ^ 62 = 1) :
    dmaAddr a = 0x8000000000 + (bitsOf a 35 2 * 2 ^ 35 + a % 2 ^ 35) := by
  rw [dmaAddr, if_pos h, bitsOf]
  omega

/-- The end of a descriptor leaves the stacks, shows its status and ends the job. -/
theorem descEnd_effect (s : State) (k : Fin 16) (irq : Bool) (done : Nat) :
    (s.descEnd k.val irq 1 done).mem = s.mem ∧ (s.descEnd k.val irq 1 done).fget (F.dma_CH_STATUS_LAST k.val) = 1 ∧
      ((s.descEnd k.val irq 1 done).chan k.val).job = none := by
  have hstate : (F.dma_CH_STATUS_LAST k.val).key ≠ (F.dma_CH_STATUS_STATE k.val).key := by
    simp only [Fl.key, F.dma_CH_STATUS_LAST, F.dma_CH_STATUS_STATE]
    omega
  have hint : (F.dma_CH_STATUS_LAST k.val).key ≠ (F.hdr_INT_STATUS_INT 0x261).key := by
    simp only [Fl.key, F.dma_CH_STATUS_LAST, F.hdr_INT_STATUS_INT]
    omega
  refine ⟨by cases irq <;> rfl, ?_, ?_⟩
  · cases irq
    · simp [State.descEnd, State.onlyIf, fget_fset, hstate]
      exact Nat.zero_lt_succ 3
    · simp [State.descEnd, State.onlyIf, fget_fset, hstate, fget_raise_other _ hint]
      exact Nat.zero_lt_succ 3
  · have hchan (c : DmaChan) (s : State) : (s.setChan k.val c).chan k.val = c := spGet_spPut_self ..
    cases irq <;> exact congrArg DmaChan.job (hchan _ _)

/-- The bytes of a descriptor that ends well are moved before it ends. -/
theorem dmaMove_stack {d : Descriptor} {hostData : List Nat} (hdir : d.ctrl % 2 = 0) (hmem : d.devAddr / 2 ^ 62 = 1)
    (h : s.descRefused d = none) (hready : s.ready (0x2B0 + bitsOf d.devAddr 35 2) = true)
    (hopen : s.bus.shield.contains (0x2B0 + bitsOf d.devAddr 35 2) = false) (hdata : d.len ≤ hostData.length) :
    ∃ t, s.dmaMove d d.len hostData = (t, d.len, 0) ∧ BurstKeeps s t ∧
      t.mem = memFill (bitsOf d.devAddr 35 2) s.mem (d.devAddr % 2 ^ 35) (hostData.take d.len) := by
  obtain ⟨hlen, haddr, hmay⟩ := mayWrite_of_not_refused hdir hmem h
  have htake : (hostData.take d.len).length = d.len := List.length_take_of_le hdata
  have hall : min (min d.len d.len / 4 * 4) (hostData.length / 4 * 4) = d.len := by omega
  obtain ⟨t, ht, hfill, hkeeps⟩ := dmaWrites_stack (s := s) (l := hostData.take d.len) (stack := bitsOf d.devAddr 35 2)
    (Nat.mod_lt _ (by decide)) (min d.len d.len / 4 * 4) 0 (dmaAddr_stack hmem) (by omega) (by omega) (by omega)
    ⟨hready, hopen, by rw [htake]; exact hmay⟩
  refine ⟨t.cadd F.dma_BYTES_H2D_C d.len, ?_, hkeeps.trans ⟨rfl, rfl, rfl, rfl, .of_fields rfl⟩, hfill⟩
  simp only [State.dmaMove, hdir, if_true, hall, ht, htake, Nat.zero_add]

/-- A descriptor of whole DWORDs that ends well moves its bytes, and ends with status 1. -/
theorem descDone_stack {k : Nat} {d : Descriptor} {hostData : List Nat} {j : DmaJob} (hjob : (s.chan k).job = some j)
    (hd : j.d = d) (hrun : s.fget (F.dma_CH_STATUS_STATE k) = 1)
    (hmove : s.dmaMove d d.len hostData = (t, d.len, 0)) :
    s.descDone k hostData .ok = t.descEnd k (bitOf d.ctrl 1) 1 d.len := by
  subst hd
  simp [State.descDone, hjob, hrun, hmove]
  rfl

end Sys2Proof.Machine

open Sys2Proof Sys2Proof.Machine

/-- Settles O56: the descriptor's bursts place its bytes one run after another, and its end leaves the stacks alone. -/
theorem dmaWritesOnlyItsBytes : Obligations.DmaWritesOnlyItsBytes := by
  unfold Obligations.DmaWritesOnlyItsBytes
  intro s k hostData d hlive ⟨j, hjob, hd⟩ hrun hdir hmem hok hready hopen hdata
  obtain ⟨t, hmove, -, hfill⟩ := dmaMove_stack (hostData := hostData.map BitVec.toNat) hdir hmem hok hready hopen
    (by rwa [List.length_map])
  obtain ⟨hend, hlast, hnone⟩ := descEnd_effect t k (bitOf d.ctrl 1) d.len
  have hlen : ((hostData.map BitVec.toNat).take d.len).length = d.len :=
    List.length_take_of_le (by rwa [List.length_map])
  refine ⟨_, yields_of_live rfl hlive (descDone_stack hjob hd hrun hmove), fun i hi => ?_, fun a ha => ?_, hlast, hnone⟩
  · rw [State.memByte, hend, hfill, spGet_memFill_inside _ (by omega), List.getElem_take, List.getElem_map,
      List.getD_eq_getElem?_getD, List.getElem?_eq_getElem (by omega), Option.getD_some, BitVec.ofNat_toNat, BitVec.setWidth_eq]
  · rw [hend, hfill, spGet_memFill_outside _ (by omega)]
end

section
/-! PROOFS. What follows every command's effect (R64, R99, R261, R367, R386, R455): lanes, label channel, interrupt messages,
console notices and outputs. -/

namespace Sys2Proof.Machine

variable {s t u : State} {n c : Nat}

/-! ## Moving lanes, label channel and interrupt messages only -/

/-- A field's key belongs to a lane's page or a label page. -/
def Follows (k : Nat) : Prop := (0x100 ≤ k / 0x80000 ∧ k / 0x80000 < 0x200) ∨ k / 0x80000 = 0x1C ∨ k / 0x80000 = 0x2C

/-- A counter's key belongs to a lane's page, a label page or the page of MSIX_SENT. -/
def CounterFollows (k : Nat) : Prop :=
  (0x100 ≤ k / 0x4000 ∧ k / 0x4000 < 0x200) ∨ k / 0x4000 = 0x1C ∨ k / 0x4000 = 0x2C ∨ k / 0x4000 = 0x260

/-- The state without what follows a command. -/
def State.rest (s : State) : State :=
  { s with lanes := [], lblTx := [], lblRx := [], host := { s.host with pf0 := {}, pf1 := {} }, fields := [], ctrs := [],
           out := [], free := 0 }

/-- `t` is `s` but for lanes, label channel, pending bits, their registers and counters, and further outputs. -/
def Moves (s t : State) : Prop :=
  t.rest = s.rest ∧ (∃ l, t.out = l ++ s.out) ∧ KeepsFields (¬ Follows ·) s t ∧
    ∀ k, ¬ CounterFollows k → spGet 0 t.ctrs k = spGet 0 s.ctrs k

/-- A field's key belongs where its page does. -/
theorem follows_of_page {p off lo w rst : Nat} (hoff : off < 0x4000) (hlo : lo < 32)
    (hp : (0x100 ≤ p ∧ p < 0x200) ∨ p = 0x1C ∨ p = 0x2C) : Follows (⟨p, off, lo, w, rst⟩ : Fl).key := by
  have hpage : (⟨p, off, lo, w, rst⟩ : Fl).key / 0x80000 = p := by
    simp only [Fl.key]
    omega
  rwa [Follows, hpage]

/-- A field of a lane's page. -/
theorem follows_lane {off lo w rst : Nat} (hn : n < 256) (hoff : off < 0x4000) (hlo : lo < 32) :
    Follows (⟨0x100 + n, off, lo, w, rst⟩ : Fl).key :=
  follows_of_page hoff hlo (.inl ⟨Nat.le_add_right _ _, Nat.add_lt_add_left hn 0x100⟩)

/-- A field of a label page. -/
theorem follows_label {off lo w rst : Nat} (hc : c < 2) (hoff : off < 0x4000) (hlo : lo < 32) :
    Follows (⟨0x1C + 0x10 * c, off, lo, w, rst⟩ : Fl).key :=
  follows_of_page hoff hlo (.inr (by omega))

namespace Moves

/-- Nothing happens. -/
theorem refl (s : State) : Moves s s := ⟨rfl, ⟨[], rfl⟩, .refl _ _, fun _ _ => rfl⟩

/-- One after the other. -/
theorem trans (h : Moves s t) (h' : Moves t u) : Moves s u := by
  obtain ⟨hrest, ⟨l, hl⟩, hfields, hctrs⟩ := h
  obtain ⟨hrest', ⟨l', hl'⟩, hfields', hctrs'⟩ := h'
  exact ⟨hrest'.trans hrest, ⟨l' ++ l, by rw [hl', hl, List.append_assoc]⟩, hfields.trans hfields',
    fun k hk => (hctrs' k hk).trans (hctrs k hk)⟩

/-- A change of the model's own records of lanes, label channel and host functions. -/
theorem own (h : Moves s t) (hrest : u.rest = t.rest) (hout : u.out = t.out) (hfields : u.fields = t.fields)
    (hctrs : u.ctrs = t.ctrs) : Moves s u :=
  h.trans ⟨hrest, ⟨[], hout⟩, .of_fields hfields, fun k _ => by rw [hctrs]⟩

/-- A field. -/
theorem fset (h : Moves s t) {f : Fl} (v : Nat) (hf : Follows f.key) : Moves s (t.fset f v) :=
  h.trans ⟨rfl, ⟨[], rfl⟩, (KeepsFields.refl _ _).fset v (not_not_intro hf), fun _ _ => rfl⟩

/-- Several fields. -/
theorem fsets : (l : List (Fl × Nat)) → {t : State} → Moves s t → (∀ e ∈ l, Follows e.1.key) → Moves s (t.fsets l)
  | [], _, h, _ => h
  | (_, v) :: l, _, h, hl => by
    obtain ⟨hf, hl⟩ := List.forall_mem_cons.mp hl
    exact fsets l (h.fset v hf) hl

/-- A counter. -/
theorem cadd (h : Moves s t) {x : Ct} (n : Nat) (hx : CounterFollows x.key) : Moves s (t.cadd x n) :=
  h.trans ⟨rfl, ⟨[], rfl⟩, .of_fields rfl, fun _ hk => spGet_spPut_other _ _ _ fun heq => hk (heq ▸ hx)⟩

/-- An output. -/
theorem emit (h : Moves s t) (o : Out) : Moves s (t.emit o) :=
  h.trans ⟨rfl, ⟨[o], rfl⟩, .of_fields rfl, fun _ _ => rfl⟩

/-- A step that is taken on a condition. -/
theorem onlyIf (h : Moves s t) {b : Bool} {f : State → State} (hf : ∀ t, Moves s t → Moves s (f t)) :
    Moves s (t.onlyIf b f) := by
  cases b
  · exact h
  · exact hf t h

/-- Either of two. -/
theorem ite {p : Prop} [Decidable p] (ht : Moves s t) (hu : Moves s u) : Moves s (if p then t else u) := by
  split
  · exact ht
  · exact hu

/-- A fold of steps that move nothing else. -/
theorem foldl {α : Type} {f : State → α → State} {l : List α} (h : Moves s t)
    (hf : ∀ t, Moves s t → ∀ a ∈ l, Moves s (f t a)) : Moves s (l.foldl f t) :=
  List.foldlRecOn (motive := Moves s) l f h hf

/-! ## Lanes -/

section
variable (h : Moves s t) (hn : n < 256)
include h

/-- A lane's own record. -/
theorem setLane (n : Nat) (v : Lane) : Moves s (t.setLane n v) := h.own rfl rfl rfl rfl

/-- The next free value is taken. -/
theorem tick : Moves s t.tick := h.own rfl rfl rfl rfl

/-- A stream starts. -/
theorem startStream (n : Nat) : Moves s (t.startStream n) := (h.setLane _ _).onlyIf fun _ h => h.setLane _ _

/-- The lane asks its partner for a preset. -/
theorem request (n body : Nat) : Moves s (t.request n body) := h.setLane _ _

/-- A Galop burst. -/
theorem sendGalop (x : Nat) : Moves s (t.sendGalop x) := h.emit _

include hn

/-- TRAIN_STATUS.STATE. -/
theorem setTrain (x : Nat) : Moves s (t.setTrain n x) := h.fset x (follows_lane hn (by decide) (by decide))

/-- An interrupt bit of a lane. -/
theorem raiseLane (bit : Nat) : Moves s (t.raise (0x100 + n) bit) := h.fset _ (follows_lane hn (by decide) (by decide))

/-- A lane's output taps. -/
theorem setTaps (l : List Int) : Moves s (t.setTaps n l) := by
  refine fset (fsets _ h fun e he => ?_) _ (follows_lane hn (by decide) (by decide))
  rw [← List.map_uncurry_zip_eq_zipWith] at he
  obtain ⟨⟨f, x⟩, hf, rfl⟩ := List.mem_map.mp he
  have hfir : ∀ f ∈ firFields n, Follows f.1.key := by
    simp only [firFields, List.forall_mem_cons, List.not_mem_nil, false_imp_iff, implies_true, and_true]
    exact ⟨follows_lane hn (by decide) (by decide), follows_lane hn (by decide) (by decide),
      follows_lane hn (by decide) (by decide), follows_lane hn (by decide) (by decide),
      follows_lane hn (by decide) (by decide)⟩
  exact hfir f (List.of_mem_zip hf).1

/-- A lane's output state. -/
theorem setTxState (x : Nat) : Moves s (t.setTxState n x) :=
  .ite h ((h.fset x (follows_lane hn (by decide) (by decide))).raiseLane hn 6)

/-- The receiver's precoding is detected. -/
theorem precodeDetected : Moves s (t.precodeDetected n) := (h.fset _ (follows_lane hn (by decide) (by decide))).tick

/-- Precoding without training. -/
theorem plainPrecode : Moves s (t.plainPrecode n) := by
  have htx (on : Bool) : Moves s (t.setPrecodeTx n on) :=
    fset (.ite h (h.setLane _ _)) _ (follows_lane hn (by decide) (by decide))
  unfold State.plainPrecode
  split
  · exact (htx _).fset _ (follows_lane hn (by decide) (by decide))
  · exact (htx _).precodeDetected hn

/-- A lane enters data. -/
theorem toData : Moves s (t.toData n) :=
  ((((h.setLane _ _).fset 0 (follows_lane hn (by decide) (by decide))).setTrain hn 4).startStream n).raiseLane hn 1

/-- A counter of a lane. -/
theorem lcadd {off w : Nat} (hoff : off < 0x4000) (k : Nat) : Moves s (t.lcadd n ⟨0x100 + n, off, w⟩ k) := by
  refine .ite (h.cadd k ?_) h
  simp only [CounterFollows, Ct.key]
  omega

/-- A training attempt starts. -/
theorem startAttempt : Moves s (t.startAttempt n) := by
  unfold State.startAttempt
  refine .ite (((h.setTrain hn 7).startStream n).onlyIf fun _ h => h.plainPrecode hn) (.ite ?_ ?_)
  · exact (h.onlyIf fun _ h => h.setTrain hn 0).fset 7 (follows_lane hn (by decide) (by decide))
  · refine request (lcadd (setTrain (fsets _ (onlyIf (h.setLane _ _) fun _ h => h.setTaps hn _) ?_) hn 1) hn (by decide) 1) _ _
    simp only [List.forall_mem_cons, List.not_mem_nil, false_imp_iff, implies_true, and_true]
    exact ⟨follows_lane hn (by decide) (by decide), follows_lane hn (by decide) (by decide),
      follows_lane hn (by decide) (by decide)⟩

/-- A lane's output takes the state that it should have. -/
theorem applyTx : Moves s (t.applyTx n) := by
  unfold State.applyTx
  refine .ite h (.ite (h.setTxState hn _) (.ite (h.setTxState hn 3) (.ite h (.ite ?_ ?_))))
  · exact (h.setTxState hn 0).sendGalop n
  · exact h.setTxState hn 0

/-- A lane's training is evaluated. -/
theorem trainEval : Moves s (t.trainEval n) := by
  have hzero := h.setTrain hn 0
  unfold State.trainEval
  refine applyTx (.ite hzero (.ite (.ite h ?_) (.ite (.ite h ?_) (.ite ?_ (.ite (.ite h hzero) ?_))))) hn
  · exact ((h.setTrain hn 8).startStream n).onlyIf fun _ h => h.plainPrecode hn
  · exact (h.setTrain hn 6).onlyIf fun _ h => .ite (h.plainPrecode hn) (h.onlyIf fun _ h => h.precodeDetected hn)
  · exact (h.setLane _ _).toData hn
  · split
    case h_4 => exact h
    all_goals exact h.startAttempt hn

end

/-- Lanes act on light that is withheld or restored. -/
theorem lanesFollow (h : Moves s t) (x : State) : Moves s (lanesFollow x t) :=
  .ite h (h.foldl fun _ h _ hn => h.trainEval (List.mem_range.mp (List.mem_filter.mp hn).1))

/-! ## Label channel and other outputs -/

section
variable (h : Moves s t) (hc : c < 2)
include h hc

/-- A label transmitter's own record, as its status shows it. -/
theorem setLtx (v : LblTx) : Moves s (t.setLtx c v) := by
  refine fsets _ (h.own rfl rfl rfl rfl) ?_
  simp only [List.forall_mem_cons, List.not_mem_nil, false_imp_iff, implies_true, and_true]
  exact ⟨follows_label hc (by decide) (by decide), follows_label hc (by decide) (by decide)⟩

/-- A packet goes on the air. -/
theorem lblOnAir (p : LblPacket) : Moves s (t.lblOnAir c p) := (h.setLtx hc _).emit _

/-- The next packet goes on the air. -/
theorem lblNext : Moves s (t.lblNext c) := by
  unfold State.lblNext
  refine .ite h ?_
  split
  · exact ((h.setLtx hc _).fset 0 (follows_label hc (by decide) (by decide))).lblOnAir hc _
  · exact (h.setLtx hc _).lblOnAir hc _
  · exact (h.setLtx hc _).lblOnAir hc _
  · exact h

/-- A packet is cut. -/
theorem lblCut : Moves s (t.lblCut c) := by
  have hcount : CounterFollows (F.lbl_TX_CUT_C c).key := by
    simp only [CounterFollows, Ct.key, F.lbl_TX_CUT_C]
    omega
  exact ((((h.setLtx hc _).emit _).cadd 1 hcount).fset _ (follows_label hc (by decide) (by decide))).fset 2
    (follows_label hc (by decide) (by decide))

/-- A label transmitter follows its carrier's light. -/
theorem lblFollow : Moves s (t.lblFollow c) := lblNext (h.onlyIf fun _ h => h.lblCut hc) hc

/-- A carrier's laser and label transmitter follow their levels. -/
theorem carrierFollows (x : State) : Moves s (carrierFollows c x t) := lblFollow (.ite h (h.emit _)) hc

end

section
variable (h : Moves s t)
include h

/-- A reference output. -/
theorem refOutFollows (k : Nat) (x : State) : Moves s (refOutFollows k x t) := .ite h (h.emit _)

/-- The interlock rails and the output selector. -/
theorem interlockFollows (x : State) : Moves s (interlockFollows x t) := by
  have hrails := Moves.ite (p := x.railDrive = t.railDrive) h (h.emit (.rails t.railDrive))
  exact .ite hrails (hrails.emit _)

/-- A label receiver that does not run lets go of what it receives. -/
theorem lrxFollow (x : Nat) : Moves s (t.lrxFollow x) := .ite h (h.own rfl rfl rfl rfl)

/-! ## Interrupt messages -/

/-- A host function's pending bits. -/
theorem setPf (pf : Nat) (v : PfState) : Moves s (t.setPf pf v) :=
  .ite (h.own rfl rfl rfl rfl) (h.own rfl rfl rfl rfl)

/-- A vector's request rises. -/
theorem vectorRise (pf v : Nat) : Moves s (t.vectorRise pf v) :=
  .ite ((h.emit _).cadd 1 (.inr (.inr (.inr (by decide))))) (h.setPf _ _)

/-- The messages of a function. -/
theorem msixOf (pf : Nat) (x : State) : Moves s (msixOf pf x t) :=
  setPf (h.foldl fun _ h v _ => h.vectorRise pf v) _ _

/-- The interrupt messages of a command. -/
theorem interrupts (x : State) : Moves s (interrupts x t) := (h.msixOf 0 x).msixOf 1 x

end

end Moves

/-! ## Console notices -/

/-- Notices are sent or held back, and nothing else is touched; without any the outputs stay as they are. -/
theorem noticesFollow_eq (s t : State) : ∃ sent notices,
    noticesFollow s t = { t with out := sent, svc := { t.svc with notices := notices } } ∧
    (sent ++ notices).Perm (t.out ++ t.svc.notices) ∧
    (t.svc.notices = [] → (∀ x ∈ t.out, isNotice x = false) → sent = t.out ∧ notices = []) := by
  unfold noticesFollow
  generalize t.out.length - s.out.length = k
  dsimp only
  have hnone (hn : t.svc.notices = []) (hall : ∀ x ∈ t.out, isNotice x = false) :
      (t.svc.notices.isEmpty && !(t.out.take k).any isNotice) = true := by
    simpa [hn] using fun x hx => hall x (List.mem_of_mem_take hx)
  have hnew : ((t.out.take k).filter (!isNotice ·) ++ t.out.drop k ++ ((t.out.take k).filter isNotice ++ t.svc.notices)).Perm
      (t.out ++ t.svc.notices) := by
    rw [List.perm_iff_count]
    intro x
    have hsplit := (List.filter_append_perm isNotice (t.out.take k)).count_eq x
    have hout := congrArg (List.count x) (List.take_append_drop k t.out)
    rw [List.count_append] at hsplit hout
    simp only [List.count_append]
    omega
  split
  · exact ⟨t.out, t.svc.notices, rfl, .rfl, fun hn _ => ⟨rfl, hn⟩⟩
  next hsome =>
    split
    · exact ⟨_, _, rfl, hnew, fun hn hall => absurd (hnone hn hall) hsome⟩
    · exact ⟨_, _, rfl, by rw [List.append_nil]; exact (List.perm_append_comm).trans hnew,
        fun hn hall => absurd (hnone hn hall) hsome⟩

/-! ## The events that a command's effect takes in -/

/-- The state that the mode entered, PERST_N, the twin, the test, the reference sources and the reference left make of a
command's effect. -/
def takesIn (s t : State) : State := (modeFollows s t).perstFollow.twinFollow.testFollow.timingFollow.leavesTwin

/-- With no such event the effect stays as it is. -/
theorem takesIn_quiet (hmode : t.dev.mode = s.dev.mode) (hperst : t.dev.perstLow = false) (hresync : t.twin.resync = 0)
    (hstale : t.dev.mode ≠ .twinStale) (hstandby : t.dev.mode ≠ .twinStandby) (htest : t.svc.test = none)
    (hsrc : ∀ r, r < 9 → 4 ≤ r → t.srcFail r = t.flag (F.ref_REF_STATUS_SRC_FAIL r))
    (hsel : t.fget F.tim_DPLL_STATUS_SEL_REF ≠ 8) : takesIn s t = t := by
  have hm : modeFollows s t = t := if_pos hmode.symm
  have hp : t.perstFollow = t := by simp [State.perstFollow, hperst]
  have hw : t.twinFollow = t := by simp [State.twinFollow, State.onlyIf, hresync, hstale, hstandby]
  have ht : t.testFollow = t := by simp [State.testFollow, State.testUnpowered, State.testForbidden, htest]
  have hs : t.sourcesFollow = t := by
    unfold State.sourcesFollow
    refine List.foldlRecOn (motive := fun u => u = t) _ _ rfl fun u hu r hr => ?_
    rw [List.mem_range'_1] at hr
    rw [hu, if_pos (hsrc r (by omega) (by omega))]
  have hr : t.timingFollow = t := by simp [State.timingFollow, hs]
  have hl : t.leavesTwin = t := by simp [State.leavesTwin, hsel]
  rw [takesIn, hm, hp, hw, ht, hr, hl]

/-- `s` with what `Moves` names as `t` has it. -/
def State.moved (s t : State) : State :=
  { s with lanes := t.lanes, lblTx := t.lblTx, lblRx := t.lblRx, host := { s.host with pf0 := t.host.pf0, pf1 := t.host.pf1 },
           fields := t.fields, ctrs := t.ctrs, out := t.out, free := t.free }

/-- States that differ in what `Moves` names only. -/
theorem Moves.eq_moved (h : Moves s t) : t = s.moved t := by
  obtain ⟨hrest, -⟩ := h
  have hput := congrArg (fun r : State => r.moved t) hrest
  exact hput

/-- No command that waits for the mailbox is released by such a step. -/
theorem Moves.mboxFollow (h : Moves s t) (hunlock : s.dbg.unlockWait = false) (hmbox : s.svc.conMbox = none) :
    Moves s t.mboxFollow := by
  have hd : t.dbg.unlockWait = false := by rw [h.eq_moved]; exact hunlock
  have hm : t.svc.conMbox = none := by rw [h.eq_moved]; exact hmbox
  have hsame : t.mboxFollow = t := by simp [State.mboxFollow, hd, hm]
  rwa [hsame]

/-- What follows the events moves nothing but lanes, label channel and host functions, while no command waits for the mailbox. -/
theorem outputsFollow_moves (hunlock : (takesIn s t).dbg.unlockWait = false) (hmbox : (takesIn s t).svc.conMbox = none) :
    Moves (takesIn s t) (interrupts s (outputsFollow s t)) := by
  have hlanes := (Moves.refl (takesIn s t)).lanesFollow s
  have hcar := (hlanes.carrierFollows (c := 0) (by decide) s).carrierFollows (c := 1) (by decide) s
  have hrest := (((hcar.refOutFollows 0 s).refOutFollows 1 s).interlockFollows s).foldl
    (f := State.lrxFollow) (l := List.range 4) fun _ h x _ => h.lrxFollow x
  exact (hrest.mboxFollow hunlock hmbox).interrupts s

end Sys2Proof.Machine

open Sys2Proof Sys2Proof.Machine

/-- Settles O48. -/
theorem settleLeavesTheRest : Obligations.SettleLeavesTheRest := by
  unfold Obligations.SettleLeavesTheRest
  intro s t
  have hu : (modeFollows s t).perstFollow.twinFollow.testFollow.timingFollow.leavesTwin = takesIn s t := rfl
  dsimp only
  rw [hu]
  refine ⟨takesIn_quiet, fun hunlock hmbox => ?_⟩
  have hmoves := outputsFollow_moves hunlock hmbox
  generalize takesIn s t = u at hmoves
  obtain ⟨sent, notices, heq, hperm, hnone⟩ := noticesFollow_eq s (interrupts s (outputsFollow s t))
  rw [settle, heq]
  generalize interrupts s (outputsFollow s t) = w at hmoves hperm hnone
  obtain ⟨-, ⟨outs, hout⟩, hfields, hctrs⟩ := id hmoves
  have hsvc : w.svc = u.svc := by rw [hmoves.eq_moved]; rfl
  rw [hout, hsvc] at hperm hnone
  refine ⟨w.lanes, w.lblTx, w.lblRx, w.host.pf0, w.host.pf1, w.fields, w.ctrs, outs, sent, notices, w.free, ?_, hperm, hnone,
    fun d k hlane h0 h1 => hfields d k fun hk => ?_, fun k hlane h0 h1 hmsix => hctrs k fun hk => ?_⟩
  · have hput := congrArg (fun r : State =>
      { r with out := sent, svc := { r.svc with notices := notices }, pending := s.pending }) hmoves.eq_moved
    exact hput
  · exact hk.elim hlane (Or.rec h0 h1)
  · exact hk.elim hlane (Or.rec h0 (Or.rec h1 hmsix))
end

section
/-! PROOFS. Writes of registers and headers, and the device page's commands (spec/02_modes.md, spec/03_registers.md). -/

namespace Sys2Proof.Machine

variable {s t : State} {p : Nat}

/-- A data word of four bytes is its own part in the bytes that are all enabled. -/
theorem and_beMask_word (d : Word) : d.toNat &&& beMask 0xF = d.toNat := by
  have hmask : beMask 0xF = 2 ^ 32 - 1 := by decide
  rw [hmask, Nat.and_two_pow_sub_one_eq_mod, Nat.mod_eq_of_lt d.isLt]

/-- BLK_CTRL's lowest bit becomes EN in the register region. -/
theorem mergeField_enable (old d : Nat) : mergeField 0 old d 1 % 2 = d % 2 := by
  rw [mergeField, Nat.and_one_is_mod, Nat.and_one_is_mod]
  have heven : (old - old % 2) % 2 ^ 1 = 0 := by omega
  have hor := Nat.or_mod_two_pow (a := old - old % 2) (b := d % 2) (n := 1)
  rw [heven, Nat.zero_or, Nat.pow_one, Nat.mod_mod] at hor
  exact hor

/-- BLK_CTRL of a block that has an enable, written as a whole. -/
theorem blkCtrl_write (s : State) (m : Master) (hen : hasEnable p = true) (d : Nat) :
    s.blkCtrl m p 0 0xF d = (let t := s.blkEnable m p (d % 2 == 1)
      if bitOf d 1 then t.blkReset m p else t) := by
  have hb : bitOf 0xF 0 = true := by decide
  simp [State.blkCtrl, hen, hb, mergeField_enable]

/-- A memory stack's enable. -/
theorem blkEnable_stack (s : State) (m : Master) (en : Bool) (hlo : 0x2B0 ≤ p) (hhi : p < 0x2B4) :
    s.blkEnable m p en = s.stackEnable m (p - 0x2B0) en := by
  unfold State.blkEnable
  rw [if_neg (by omega), if_neg (by omega), if_neg (by omega), if_pos ⟨hlo, hhi⟩]

/-- A step whose condition holds is taken. -/
theorem onlyIf_of_true {b : Bool} (f : State → State) (h : b = true) : s.onlyIf b f = f s := by rw [h]; rfl

/-- A step whose condition fails is not. -/
theorem onlyIf_of_false {b : Bool} (f : State → State) (h : b = false) : s.onlyIf b f = s := by rw [h]; rfl

/-! ## Writing registers only -/

/-- `t` is `s` but for its registers. -/
def OnlyFields (s t : State) : Prop := t = { s with fields := t.fields }

namespace OnlyFields

/-- Nothing happens. -/
theorem refl (s : State) : OnlyFields s s := rfl

/-- A field. -/
theorem fset (h : OnlyFields s t) (f : Fl) (v : Nat) : OnlyFields s (t.fset f v) := by
  rw [OnlyFields] at h ⊢
  rw [h]
  rfl

/-- Either of two. -/
theorem ite {c : Prop} [Decidable c] {u : State} (ht : OnlyFields s t) (hu : OnlyFields s u) :
    OnlyFields s (if c then t else u) := by
  split
  · exact ht
  · exact hu

/-- A fold of writes. -/
theorem foldl {α : Type} {f : State → α → State} {l : List α} (h : OnlyFields s t)
    (hf : ∀ t, OnlyFields s t → ∀ a ∈ l, OnlyFields s (f t a)) : OnlyFields s (l.foldl f t) :=
  List.foldlRecOn (motive := OnlyFields s) l f h hf

/-- The device's own state stays. -/
theorem dev (h : OnlyFields s t) : t.dev = s.dev := by rw [h]

/-- Control firmware stays. -/
theorem cfw (h : OnlyFields s t) : t.cfw = s.cfw := by rw [h]

/-- A write of the fields of a register. -/
theorem writeFields (s0 : State) (m : Master) (p off region be data : Nat) : (l : List FieldSpec) → {t : State} →
    OnlyFields s t → OnlyFields s (s0.writeFields m p off region be data l t)
  | [], _, h => h
  | _ :: l, _, h => writeFields s0 m p off region be data l (.ite h (h.fset _ _))

/-- An entry of an error log. -/
theorem logErr (h : OnlyFields s t) (p code master al off : Nat) : OnlyFields s (t.logErr p code master al off) := by
  unfold State.logErr
  exact .ite ((h.fset _ _).fset _ _)
    ((((((h.fset _ code).fset _ master).fset _ al).fset _ (off / 4)).fset _ 1).fset _ _)

/-- A register that takes writes. -/
theorem plainWrite (s : State) (m : Master) (p off region be data : Nat) :
    OnlyFields s (s.plainWrite m p off region be data) := by
  unfold State.plainWrite
  split
  · exact .refl s
  · have hw := writeFields s m p off region be data ‹RegSpec›.fields (.refl s)
    exact .ite (((hw.fset _ _).fset _ _).fset _ _ |>.logErr _ _ _ _ _) hw

end OnlyFields

/-! ## Commands of control firmware (R51) -/

/-- ARG and DATA with what a command gives them. -/
def cfwArgs (s : State) (x : Nat) (data : List Nat) : State :=
  (List.range data.length).foldl (fun (s : State) d => s.fset (F.cfw_DATA_DATA d) (data.getD d 0)) (s.fset F.cfw_ARG_INDEX x)

/-- A command waits for its end. -/
def cfwCalled (op : Nat) (t : State) : State :=
  { t with cfw := { t.cfw with cmd := some { op := op, index := t.fget F.cfw_ARG_INDEX
                                             data := (List.range 32).map fun d => t.fget (F.cfw_DATA_DATA d) } } }

/-- The arguments are registers. -/
theorem cfwArgs_onlyFields (s : State) (x : Nat) (data : List Nat) : OnlyFields s (cfwArgs s x data) :=
  (OnlyFields.fset (.refl s) _ _).foldl fun _ h _ _ => h.fset _ _

/-- While control firmware runs and none is in progress a command is taken. -/
theorem cfwCall_taken (s : State) (m : Master) (op x : Nat) (data : List Nat) (hrun : s.dev.fwRunning = true)
    (hnone : s.cfw.cmd = none) : s.cfwCall m op x data = cfwCalled op (cfwArgs s x data) := by
  have hargs := cfwArgs_onlyFields s x data
  have hfree : ¬ (!(cfwArgs s x data).dev.fwRunning || (cfwArgs s x data).cfw.cmd.isSome) = true := by
    simp [hargs.dev, hargs.cfw, hrun, hnone]
  refine (if_neg (by simp [hrun])).trans ?_
  exact if_neg hfree

/-- The end of a command: its result is shown, and CFW_DONE. -/
theorem cfwDone_effect {c : CfwCmd} (h : s.cfw.cmd = some c) : s.cfwDone.cfw.cmd = none ∧
    s.cfwDone.fget F.cfw_RESULT_RESULT = (s.cfwRun c).2.1 % 16 ∧
    bitOf (s.cfwDone.fget (F.hdr_INT_STATUS_INT 1)) 0 = true := by
  unfold State.cfwDone
  split
  · simp_all
  next c' hc =>
    obtain rfl : c' = c := by simpa [hc] using h
    refine ⟨?_, ?_, bitOf_raise _ _ (by decide)⟩
    · have hdata (t : State) := foldl_keeps State.cfw (f := fun (t : State) d => t.fset (F.cfw_DATA_DATA d)
        ((s.cfwRun c').2.2.getD d 0)) (fun _ _ => rfl) (List.range (s.cfwRun c').2.2.length) t
      exact congrArg Cfw.cmd (hdata _)
    rw [fget_raise_other _ (by decide)]
    simp (decide := true) only [State.fsets, fget_fset, ↓reduceIte]
    rfl

end Sys2Proof.Machine

open Sys2Proof Sys2Proof.Machine

/-- Settles O1: the four regions go through the page's gate. -/
theorem registerWritesReachTheirPage : Obligations.RegisterWritesReachTheirPage := by
  unfold Obligations.RegisterWritesReachTheirPage
  intro s m p dw be d hreach
  exact ⟨writes_of_viaPage rfl hreach rfl, writes_of_viaPage rfl hreach rfl, writes_of_viaPage rfl hreach rfl,
    writes_of_viaPage rfl hreach rfl⟩

/-- Settles O2: each of the three registers goes through the page's gate. -/
theorem headerCommandsComplete : Obligations.HeaderCommandsComplete := by
  unfold Obligations.HeaderCommandsComplete
  intro s m p d onTick hreach
  have hon : bitOf (1 + 2 * b2n onTick) 0 = true ∧ bitOf (1 + 2 * b2n onTick) 1 = onTick := by cases onTick <;> decide
  refine ⟨writes_of_viaCmd rfl hreach rfl, writes_of_viaCmd rfl hreach ?_, fun hp => writes_of_viaCmd rfl hreach ?_,
    fun hp => writes_of_viaCmd rfl hreach ?_⟩
  · simp [State.intForce, and_beMask_word]
  · simp [State.snapCtrl, State.snapshot, State.onlyIf, State.snapPage, hp, hon]
  · simp [State.snapCtrl, State.snapshot, State.onlyIf, hp, hon]

/-- Settles O3: BLK_CTRL writes EN and then, where BLK_RST is set, resets. -/
theorem blockControlCompletes : Obligations.BlockControlCompletes := by
  unfold Obligations.BlockControlCompletes
  intro s m p hreach hen
  have hword : s.resetWord p.val % 2 = b2n (s.enabled p.val) ∧ bitOf (s.resetWord p.val) 1 = true := by
    rw [State.resetWord]
    cases s.enabled p.val <;> decide
  have hreset : writes (.blockReset m p) s ((s.blkEnable m p.val (s.enabled p.val)).blkReset m p.val) := by
    refine writes_of_viaCmd rfl hreach ?_
    rw [blkCtrl_write s m hen, hword.1, hword.2]
    cases s.enabled p.val <;> rfl
  have henable : writes (.blockEnable m p) s (s.blkEnable m p.val true) :=
    writes_of_viaCmd rfl hreach (by rw [blkCtrl_write s m hen]; rfl)
  refine ⟨henable, writes_of_viaCmd rfl hreach (by rw [blkCtrl_write s m hen]; rfl), hreset, fun hlo hhi => ?_⟩
  rw [blkEnable_stack s m true hlo hhi] at henable
  rw [blkEnable_stack s m _ hlo hhi] at hreset
  have hp : 0x2B0 + (p.val - 0x2B0) = p.val := by omega
  have hset : s.stackEnable m (p.val - 0x2B0) true = s.fset (enFl p.val) 1 := by rw [State.stackEnable, hp]; rfl
  refine ⟨hset ▸ henable, fun hoff hdrain => ?_, fun hon hmode => ?_⟩
  · have hsame : s.stackEnable m (p.val - 0x2B0) false = s := by simp [State.stackEnable, hp, hoff]
    rw [hoff, hsame, State.blkReset, if_pos (.inr ⟨hoff, hdrain⟩)] at hreset
    exact hreset
  · have hstill : (s.fset (enFl p.val) 1).enabled p.val = true := by
      simp [State.enabled, State.flag, enFl]
    rw [hon, hset, State.blkReset, if_neg (by simp [hstill, hmode])] at hreset
    exact hreset

/-- Settles O4: each event is its own effect in the live device. -/
theorem readinessEventsComplete : Obligations.ReadinessEventsComplete := by
  unfold Obligations.ReadinessEventsComplete
  intro s p f hlive
  refine ⟨yields_of_live rfl hlive rfl, yields_of_live rfl hlive rfl, fun hawait => yields_of_live rfl hlive ?_⟩
  simp [State.readyMissed, hawait]

/-- Settles O5: MODE_REQ is judged with no transition in progress. -/
theorem modeRequestsAccepted : Obligations.ModeRequestsAccepted := by
  unfold Obligations.ModeRequestsAccepted
  intro s m hreach hfree
  have hcmd {c : Instr} {t : State} (op : Nat) (hc : exec c s = finish s (s.reqWrite m op)) (ht : s.modeReq m op = t) :
      yields c s t := yields_of_viaCmd hc hreach (by decide) ht
  refine ⟨fun hmode => hcmd 1 rfl ?_, fun hmode => hcmd 2 rfl ?_, fun hmode => hcmd 3 rfl ?_, fun hmode hkeys => hcmd 4 rfl ?_⟩
  · simp [State.modeReq, hfree, hmode, State.fset]
  · simp [State.modeReq, hfree, hmode, State.fset]
  · simp [State.modeReq, hfree, hmode, State.fset]
  · simp [State.modeReq, hfree, hmode, hkeys, State.fset]

/-- Settles O6: the device page's registers; a kick outside Service is no more than the write. -/
theorem devicePageCommandsComplete : Obligations.DevicePageCommandsComplete := by
  unfold Obligations.DevicePageCommandsComplete
  intro s m role timeout hreach
  refine ⟨yields_of_viaCmd rfl hreach (by decide) rfl, yields_of_viaCmd rfl hreach (by decide) rfl,
    fun hmode => yields_of_viaCmd rfl hreach (by decide) ?_⟩
  have hdev := (OnlyFields.plainWrite s m 0 0x60 0 0xF (2 ^ 31 + timeout.val)).dev
  refine if_neg ?_
  rintro ⟨-, -, -, -, hservice, -⟩
  exact hmode (hdev ▸ hservice)

/-- Settles O7: a command's arguments are registers, so that neither the mode of control firmware nor a command in progress
changes before it is taken. -/
theorem firmwareCommandsComplete : Obligations.FirmwareCommandsComplete := by
  unfold Obligations.FirmwareCommandsComplete
  intro s m x w l v c
  refine ⟨fun hlive => ⟨fun hcmd => ?_, yields_of_live rfl hlive rfl⟩, fun hreach hrun hnone => ?_⟩
  · exact ⟨yields_of_live rfl hlive rfl, cfwDone_effect hcmd⟩
  · have hcall (i : Instr) (op : Nat) (data : List Nat) (hc : exec i s = finish s (s.cfwWriteCmd m op x.val data)) :
        yields i s (cfwCalled op (cfwArgs s x.val data)) := by
      exact yields_of_viaCmd hc hreach (by decide) (cfwCall_taken s m op x.val data hrun hnone)
    have htti := hcall (.cfwTtiExpect m x l) 1 ((l.map fun b : Word => b.toNat).take 32) rfl
    have hsd := hcall (.cfwSdCfg m x w) 4 [w.toNat] rfl
    refine ⟨htti, hsd, ?_⟩
    simp only [List.forall_mem_cons, List.not_mem_nil, false_imp_iff, implies_true, and_true]
    exact ⟨hcall (.cfwPointStatus m x) 2 [] rfl, hcall (.cfwMsiStatus m x) 3 [] rfl, hcall (.cfwPgStatus m x) 5 [] rfl,
      hcall (.cfwPmBins m x) 6 [] rfl⟩

/-- Settles O8: the pins in the powered always-on domain. -/
theorem resetPinsComplete : Obligations.ResetPinsComplete := by
  unfold Obligations.ResetPinsComplete
  intro s perst side src haon
  refine ⟨fun hmode => ⟨yields_of_aon rfl haon ?_, fun hfull => yields_of_aon rfl haon ?_, fun hpart => yields_of_aon rfl haon ?_⟩,
    fun hclear => yields_of_aon rfl haon ?_, fun hp hmode hmiss => yields_of_aon rfl haon ?_⟩
  · exact if_neg hmode
  · exact (if_neg hmode).trans (if_pos hfull)
  · exact (if_neg hmode).trans (if_neg (Bool.eq_false_iff.mp hpart))
  · rcases hclear with rfl | hmode | hmiss
    · rfl
    · simp [State.resetReleased, State.onlyIf, hmode]
    · simp [State.resetReleased, State.onlyIf, hmiss]
  · subst hp
    refine congrArg State.leaveReset (onlyIf_of_true _ ?_)
    simp only [Bool.not_false, Bool.true_and, Bool.and_eq_true, decide_eq_true_eq, Bool.not_eq_true',
      List.isEmpty_eq_false_iff]
    exact ⟨hmode, hmiss⟩
end

section
/-! PROOFS. Power, boot and the way out of Bring-up (spec/02_modes.md, spec/16_security.md, spec/17_service_debug.md). -/

namespace Sys2Proof.Machine

variable {s : State}

/-- A device that leaves Bring-up is in the new mode, and remembers that it was brought up. -/
theorem setMode_from_bringUp (h : s.dev.mode = .bringUp) {new : Mode} (hne : new ≠ .bringUp) (cause by_ : Nat) :
    (s.setMode new cause by_).dev.mode = new ∧ (s.setMode new cause by_).dev.broughtUp = true := by
  obtain ⟨prev, maint, hdev⟩ := setMode_dev new cause by_ (h ▸ hne)
  rw [hdev]
  simp [h]

end Sys2Proof.Machine

open Sys2Proof Sys2Proof.Machine

/-- Settles O9: each event in the powered always-on domain, and VDD_AON itself. -/
theorem powerEventsComplete : Obligations.PowerEventsComplete := by
  unfold Obligations.PowerEventsComplete
  intro s xo mv r r9 held v t
  refine ⟨fun _ => rfl, rfl, fun haon => ⟨yields_of_aon rfl haon rfl, fun hstate => yields_of_aon rfl haon ?_,
    yields_of_aon rfl haon rfl, yields_of_aon rfl haon rfl, fun hxo => yields_of_aon rfl haon ?_,
    fun hlock => yields_of_aon rfl haon ?_, fun hlive => ⟨yields_of_aon rfl haon rfl, yields_of_live rfl hlive rfl⟩⟩⟩
  · simp [State.railFatal, hstate]
  · simp [State.rootLock, hxo]
  · simp [State.rootLock, hlock]

/-- Settles O10: Boot by its first failing check, Bring-up by ROLE, and the watchdog. -/
theorem bootAndBringUpComplete : Obligations.BootAndBringUpComplete := by
  unfold Obligations.BootAndBringUpComplete
  intro s b
  have hboot {t : State} (h : s.bootComplete b = t) : yields (.bootComplete b) s t := h ▸ rfl
  have hexit {t : State} (h : s.bringUpExit = t) : yields .bringupExit s t := h ▸ rfl
  have hbite {t : State} (h : s.watchdogBites = t) : yields .watchdogExpiry s t := h ▸ rfl
  refine ⟨fun hmode => ⟨fun hrom hsram hfuses hlife => hboot ?_, fun hrom => hboot ?_, fun hrom hsram => hboot ?_,
    fun hrom hsram hfuses => hboot ?_⟩, fun hmode hready => ⟨fun hrole => ⟨hexit ?_, ?_⟩, fun hrole => ⟨hexit ?_, ?_⟩⟩,
    fun hfrom hrun hwdog hhalt => hbite ?_⟩
  · simp [State.bootComplete, hmode, hrom, hsram, hfuses, hlife]
  · simp [State.bootComplete, hmode, hrom, State.bootFatal]
  · simp [State.bootComplete, hmode, hrom, hsram, State.bootFatal]
  · simp [State.bootComplete, hmode, hrom, hsram, hfuses, State.bootFatal]
  · simp [State.bringUpExit, hmode, hready, hrole, State.leaveBringUp]
  · exact setMode_from_bringUp hmode (by decide) 1 hwMaster
  · simp [State.bringUpExit, hmode, hready, hrole, State.leaveBringUp]
  · exact setMode_from_bringUp hmode (by decide) 1 hwMaster
  · simp [State.watchdogBites, hfrom, hrun, hwdog, hhalt]
end

section
/-! PROOFS. The coherent carrier: its commands and events (spec/04_coherent_carrier.md). -/

namespace Sys2Proof.Machine

variable {s : State} {c : Nat}

/-- The key belongs to a carrier's own page. -/
def OnCarrierPage (c k : Nat) : Prop := k / 0x80000 = carPage c

/-- What is dropped from a page leaves the registers of the others. -/
theorem dropFields_keeps {P : Nat → Prop} {p : Nat} (lo : Nat) (keep : Bool) (h : ∀ k, P k → k / 0x80000 ≠ p) :
    KeepsFields P s (s.dropFields p lo keep) := by
  intro x k hk
  have hp := h k hk
  rw [State.dropFields, spGet_spDrop, if_neg]
  simp only [Bool.and_eq_true, decide_eq_true_eq, not_and]
  omega

/-- The same, where a DWORD's lowest bit is set, of the fields above it. -/
theorem setBits_lowest (x lo : Nat) (h : 1 ≤ lo) : setBits x 0 1 1 / 2 ^ lo = x / 2 ^ lo := by
  obtain ⟨k, rfl⟩ : ∃ k, lo = k + 1 := ⟨lo - 1, by omega⟩
  have hhalf : setBits x 0 1 1 / 2 = x / 2 := by
    simp only [setBits]
    omega
  rw [Nat.pow_succ', ← Nat.div_div_eq_div_mul, hhalf, Nat.div_div_eq_div_mul]

/-- The lowest bit is set then. -/
theorem bitOf_setBits_lowest (x : Nat) : bitOf (setBits x 0 1 1) 0 = true := by
  simp only [bitOf, setBits, beq_iff_eq]
  omega

/-- A carrier's own record is no register. -/
theorem KeepsFields.setCar {P : Nat → Prop} {t : State} (h : KeepsFields P s t) (c : Nat) (v : Carrier) :
    KeepsFields P s (t.setCar c v) := h

/-- The pages of a carrier beside its own are dropped. -/
def carrierPagesDropped (s : State) (c : Nat) : State :=
  ((List.range 8).map fun k => carPage c + 2 + k).foldl (fun s q => (s.dropFields q 0x40 false).dropCounters q) s

/-- The carrier's own page keeps its registers. -/
theorem carrierPagesDropped_keeps (s : State) (c : Nat) : KeepsFields (OnCarrierPage c) s (carrierPagesDropped s c) := by
  refine List.foldlRecOn (motive := KeepsFields (OnCarrierPage c) s) _ _ (.refl _ _) fun t ht q hq => ?_
  obtain ⟨k, -, rfl⟩ := List.mem_map.mp hq
  refine (ht.trans (dropFields_keeps _ _ fun k hk => ?_)).trans (.of_fields rfl)
  simp only [OnCarrierPage] at hk
  omega

/-- What the engine leaves as it goes off, but for the defects that follow. -/
def engineOff (s : State) (c : Nat) : State :=
  let t := carrierPagesDropped
    (s.fsets [(F.car_PWR_CTRL_ENGINE_ON c, 0), (F.car_PWR_CTRL_ENGINE_PWR c, 0), (F.car_RX_STATUS_SIG c, 0)]) c
  t.setCar c { t.car c with conv := [], cap := {}, units := [], bits := [], rxPay := [], rxOh := none, rxBond := none }

/-- The carrier's own page reads as the first writes of this leave it. -/
theorem engineOff_keeps (s : State) (c : Nat) : KeepsFields (OnCarrierPage c)
    (s.fsets [(F.car_PWR_CTRL_ENGINE_ON c, 0), (F.car_PWR_CTRL_ENGINE_PWR c, 0), (F.car_RX_STATUS_SIG c, 0)])
    (engineOff s c) := by
  rw [engineOff]
  generalize s.fsets [(F.car_PWR_CTRL_ENGINE_ON c, 0), (F.car_PWR_CTRL_ENGINE_PWR c, 0), (F.car_RX_STATUS_SIG c, 0)] = t
  exact (carrierPagesDropped_keeps t c).setCar c _

/-- The engine's switches and the signal read 0 afterwards. -/
theorem fget_engineOff (s : State) (c : Nat) : (engineOff s c).fget (F.car_PWR_CTRL_ENGINE_PWR c) = 0 ∧
    (engineOff s c).fget (F.car_PWR_CTRL_ENGINE_ON c) = 0 ∧ (engineOff s c).fget (F.car_RX_STATUS_SIG c) = 0 := by
  have hpage {off lo w rst : Nat} (h : off * 32 + lo < 0x80000) :
      OnCarrierPage c (⟨0x10 + 0x10 * c, off, lo, w, rst⟩ : Fl).key := by
    simp only [OnCarrierPage, carPage, Fl.key]
    omega
  refine ⟨((engineOff_keeps s c).fget (hpage (by decide))).trans ?_, ((engineOff_keeps s c).fget (hpage (by decide))).trans ?_,
    ((engineOff_keeps s c).fget (hpage (by decide))).trans ?_⟩ <;>
  simp [State.fsets, fget_fset, F.car_PWR_CTRL_ENGINE_PWR, F.car_PWR_CTRL_ENGINE_ON, F.car_RX_STATUS_SIG, key_eq_key_iff]

/-- A carrier's own record leaves the fields. -/
@[simp] theorem fget_setCar (s : State) (c : Nat) (v : Carrier) (f : Fl) : (s.setCar c v).fget f = s.fget f := rfl

/-- So does an output. -/
@[simp] theorem fget_emit (s : State) (o : Out) (f : Fl) : (s.emit o).fget f = s.fget f := rfl

/-- A capture that nothing refuses is armed. -/
theorem capCmd_armed (s : State) (m : Master) (c d : Nat) (hpoint : bitsOf d 2 3 < 5) (htrig : bitsOf d 5 3 < 6)
    (habort : bitOf d 1 = false) (hbusy : s.capBusy c = false) (hready : s.ready (0x2B0 + c) = true) :
    (s.capCmd m c (setBits d 0 1 1)).fget (F.cap_CAPTURE_STATUS_STATE c) = if bitOf d 11 then 3 else 1 := by
  have hbit (lo : Nat) (h : 1 ≤ lo) : bitOf (setBits d 0 1 1) lo = bitOf d lo := by
    rw [bitOf, bitOf, setBits_lowest d lo h]
  have hbits (lo w : Nat) (h : 1 ≤ lo) : bitsOf (setBits d 0 1 1) lo w = bitsOf d lo w := by
    rw [bitsOf, bitsOf, setBits_lowest d lo h]
  unfold State.capCmd
  simp only [bitOf_setBits_lowest, hbit 1 (Nat.le_refl 1), hbit 11 (by decide), hbits 2 3 (by decide), hbits 5 3 (by decide),
    habort, hbusy, hready]
  rw [if_neg (by simp [hpoint, htrig])]
  simp only [Bool.and_false, Bool.false_eq_true, if_false, Bool.not_true, Bool.not_false, Bool.and_true, if_true]
  rw [fget_fset_self]
  cases bitOf d 11 <;> rfl

/-- A signal that comes back ends the freeze, but for the defects that follow. -/
def sigRisen (s : State) (c : Nat) : State :=
  let t := ((s.fset (F.car_RX_STATUS_SIG c) 1).raise (carPage c) 1).fset (F.car_RX_STATUS_FROZEN c) 0
  t.onlyIf (t.fget (F.car_RX_STATUS_STAGE c) == 1) fun t => t.fset (F.car_RX_STATUS_STAGE c) 2

/-- The signal reads 1, and nothing is frozen. -/
theorem flag_sigRisen (s : State) (c : Nat) : (sigRisen s c).flag (F.car_RX_STATUS_SIG c) = true ∧
    (sigRisen s c).flag (F.car_RX_STATUS_FROZEN c) = false := by
  unfold sigRisen State.onlyIf
  dsimp only
  split <;>
  simp [State.flag, fget_fset, State.raise, F.car_RX_STATUS_SIG, F.car_RX_STATUS_FROZEN, F.car_RX_STATUS_STAGE,
    F.hdr_INT_STATUS_INT, carPage, key_eq_key_iff]

/-- After a freeze the chain begins anew. -/
theorem freezeExpires_fields (h : s.flag (F.car_RX_STATUS_FROZEN c) = true) :
    (s.freezeExpires c).fget (F.car_RX_STATUS_STAGE c) = (if s.flag (F.car_RX_STATUS_SIG c) then 2 else 1) ∧
    (s.freezeExpires c).flag (F.car_RX_STATUS_CD_LOCK c) = false ∧
    (s.freezeExpires c).flag (F.car_RX_STATUS_FO_LOCK c) = false := by
  have heq : ∃ v : Carrier, s.freezeExpires c = ((s.setCar c v).fsets
      [(F.car_RX_STATUS_FROZEN c, 0), (F.car_RX_STATUS_CD_LOCK c, 0), (F.car_RX_STATUS_TIM_LOCK c, 0),
        (F.car_RX_STATUS_EQ_CONV c, 0), (F.car_RX_STATUS_FO_LOCK c, 0)]).rxStart c :=
    ⟨_, if_neg (by rw [h]; decide)⟩
  obtain ⟨v, heq⟩ := heq
  rw [heq]
  simp [State.rxStart, State.fsets, State.flag, fget_fset, key_eq_key_iff, F.car_RX_STATUS_SIG,
    F.car_RX_STATUS_FROZEN, F.car_RX_STATUS_CD_LOCK, F.car_RX_STATUS_TIM_LOCK, F.car_RX_STATUS_EQ_CONV,
    F.car_RX_STATUS_FO_LOCK, F.car_RX_STATUS_STAGE]
  split <;> decide

/-- A front-end transfer that nothing refuses is on the bus. -/
theorem feCmd_taken (s : State) (m : Master) (c d : Nat) (hop : bitsOf d 0 2 ≠ 0) (hop' : bitsOf d 0 2 ≠ 3)
    (hlen : bitsOf d 16 6 ≠ 0) (hlen' : bitsOf d 16 6 ≤ 32) (hbusy : s.flag (F.fe_FE_STATUS_BUSY c) = false) :
    (s.feCmd m c d).flag (F.fe_FE_STATUS_BUSY c) = true ∧
    ((s.feCmd m c d).car c).fe = some (bitsOf d 0 2, bitsOf d 8 7, bitsOf d 16 6) := by
  unfold State.feCmd
  simp only [hop, hop', hlen, Nat.not_lt.mpr hlen', hbusy, decide_false, Bool.or_false, Bool.false_eq_true, if_false]
  refine ⟨?_, congrArg Carrier.fe (car_setCar_self ..)⟩
  simp [State.flag, F.fe_FE_STATUS_BUSY]

/-- A capture whose trigger occurs takes its samples. -/
theorem capTrigger_taken {cycle : Nat} {before after : List Nat} {at_ : CapSight}
    (hstate : s.fget (F.cap_CAPTURE_STATUS_STATE c) = 1) (hseen : (s.car c).cap.seen = some at_) :
    (s.capTrigger c cycle before after).fget (F.cap_CAPTURE_STATUS_STATE c) = 2 ∧
    ((s.capTrigger c cycle before after).car c).cap.data = capSamples (s.car c).cap.ctl before after := by
  have heq : ∃ v : Carrier, v.cap.data = capSamples (s.car c).cap.ctl before after ∧
      s.capTrigger c cycle before after = (s.setCar c v).fset (F.cap_CAPTURE_STATUS_STATE c) 2 := by
    simp only [State.capTrigger, hseen, hstate]
    exact ⟨_, rfl, if_neg (by decide)⟩
  obtain ⟨v, hv, heq⟩ := heq
  have hcar : ((s.setCar c v).fset (F.cap_CAPTURE_STATUS_STATE c) 2).car c = v := car_setCar_self s c v
  exact ⟨heq ▸ fget_fset_self _ _ _, by rw [heq, hcar, hv]⟩

end Sys2Proof.Machine

open Sys2Proof Sys2Proof.Machine

/-- Settles O11: the carrier's registers go through its page's gate; the engine goes off where nothing uses it. -/
theorem carrierControlCompletes : Obligations.CarrierControlCompletes := by
  unfold Obligations.CarrierControlCompletes
  intro s m c slot be d hreach
  refine ⟨fun hen hdrain => writes_of_viaPage rfl hreach ?_, fun hbusy => writes_of_viaPage rfl hreach ?_,
    fun hen heng hcalc hdrain hvalid hcal => writes_of_viaPage rfl hreach ?_, writes_of_viaPage rfl hreach rfl,
    fun hen hdrain hcal => ?_, writes_of_viaPage rfl hreach rfl⟩
  · simp [State.rateWrite, hen, hdrain]
  · rw [State.rateWrite, if_pos (by simpa using hbusy)]
  · simp [State.carEnable, hen, heng, hcalc, hdrain, hvalid, hcal]
  · have hoff : s.engineWrite m c.val false = (engineOff s c.val).defects := by
      simp [State.engineWrite, hen, hdrain, hcal, engineOff, carrierPagesDropped]
    exact ⟨_, hoff, writes_of_viaPage rfl hreach hoff, fget_engineOff s c.val⟩

/-- Settles O12: each command with nothing against it. -/
theorem carrierCommandsComplete : Obligations.CarrierCommandsComplete := by
  unfold Obligations.CarrierCommandsComplete
  intro s m c d
  refine ⟨fun hreach hcal hen hmode => ⟨writes_of_viaCmd rfl hreach ?_, writes_of_viaCmd rfl hreach ?_⟩,
    fun hreach => ⟨fun hpoint htrig habort hbusy hready => ⟨writes_of_viaCmd rfl hreach rfl, ?_⟩,
      writes_of_viaCmd rfl hreach ?_⟩, fun hreach hop hop' hlen hlen' hbusy => ?_⟩
  · simp [State.calCmd, hcal, hen, hmode]
  · simp [State.calCmd, hcal, hen, hmode]
  · exact capCmd_armed s m c.val d.toNat hpoint htrig habort hbusy hready
  · rfl
  · exact ⟨writes_of_viaCmd rfl hreach rfl, feCmd_taken s m c.val d.toNat hop hop' hlen hlen' hbusy⟩

/-- Settles O13: each event in the live device; a freeze's end and a signal's return by what they write. -/
theorem carrierEventsComplete : Obligations.CarrierEventsComplete := by
  unfold Obligations.CarrierEventsComplete
  intro s c fail ms res k gain time est hlive
  refine ⟨fun hcalc => yields_of_live rfl hlive ?_, fun hon => yields_of_live rfl hlive ?_, yields_of_live rfl hlive rfl,
    fun heng => yields_of_live rfl hlive ?_, yields_of_live rfl hlive rfl, fun hsig heng => ?_, fun hfrozen => ?_,
    yields_of_live rfl hlive rfl⟩
  · simp [State.rateDone, hcalc]
  · simp [State.enginePowered, hon]
  · simp [State.bgCal, heng]
  · have hrise : s.carSigRise c.val = (sigRisen s c.val).defects := by simp [State.carSigRise, hsig, heng, sigRisen]
    exact ⟨_, hrise, yields_of_live rfl hlive hrise, flag_sigRisen s c.val⟩
  · exact ⟨yields_of_live rfl hlive rfl, freezeExpires_fields hfrozen⟩

/-- Settles O14: each event in the live device; a trigger by what the capture's record then holds. -/
theorem carrierChecksComplete : Obligations.CarrierChecksComplete := by
  unfold Obligations.CarrierChecksComplete
  intro s c db clipped samples p0 w0 p1 w1 est cycle data after x y ack at_ hlive
  refine ⟨yields_of_live rfl hlive rfl, yields_of_live rfl hlive rfl, fun heng hfrozen hstage => yields_of_live rfl hlive ?_,
    fun hstate hseen => ⟨yields_of_live rfl hlive rfl, ?_⟩, fun hstate => yields_of_live rfl hlive ?_,
    fun hstate hseen => yields_of_live rfl hlive ?_, yields_of_live rfl hlive rfl⟩
  · simp [State.msWindow, heng, hfrozen, hstage, State.onlyIf]
  · exact capTrigger_taken hstate hseen
  · simp [State.capCopied, hstate]
  · simp [State.histDone, hstate, hseen]
end

section
/-! PROOFS. Line frames and codewords (spec/05_line_code_framing.md, spec/10_forerunner.md). -/

namespace Sys2Proof.Machine

variable {s : State}

/-- The other carrier reads as before. -/
theorem car_setCar_other (s : State) {c c' : Nat} (v : Carrier) (h : c' ≠ c) : (s.setCar c v).car c' = s.car c' :=
  spGet_spPut_other _ _ _ h

/-- A carrier that sends frames is no forerunner line. -/
theorem sendsFrames_iff (s : State) (c : Nat) : s.sendsFrames c = true ↔ s.txRuns c = true ∧ s.foreMode c = false := by
  simp [State.sendsFrames]

/-- A carrier that sends a frame counts it, and holds its D. -/
theorem car_lineSend_self (s : State) (c d : Nat) : ((s.lineSend c d).car c).txFc = ((s.car c).txFc + 1) % 2 ^ 32 ∧
    ((s.lineSend c d).car c).txD = d := by
  have hcar : ∃ v : Carrier, (s.lineSend c d).car c = v ∧ v.txFc = ((s.car c).txFc + 1) % 2 ^ 32 ∧ v.txD = d :=
    ⟨_, car_setCar_self s c _, rfl, rfl⟩
  obtain ⟨v, hv, hfc, hd⟩ := hcar
  rw [hv]
  exact ⟨hfc, hd⟩

/-- The other carrier does not. -/
theorem car_lineSend_other (s : State) {c c' : Nat} (d : Nat) (h : c' ≠ c) : (s.lineSend c d).car c' = s.car c' :=
  car_setCar_other s _ h

/-- Filling a transmit chain leaves every frame count. -/
theorem txFc_txFill (s : State) (c c' : Nat) (frames : List (List (List Nat))) :
    ((s.txFill c frames).car c').txFc = (s.car c').txFc := by
  by_cases h : c' = c
  · subst h
    rw [State.txFill, car_setCar_self]
  · rw [State.txFill, car_setCar_other _ _ h]

/-- Two carriers that begin anew count alike. -/
theorem txFc_txAfresh (s : State) : (((s.txAfresh 0).txAfresh 1).car 0).txFc = (((s.txAfresh 0).txAfresh 1).car 1).txFc := by
  rw [State.txAfresh, car_setCar_self, car_setCar_other _ _ (by decide), State.txAfresh, car_setCar_self]

/-- A frame of an unbonded carrier is its own. -/
theorem lineTransmit_unbonded {c half : Nat} {frames : List (List (List Nat))} (hsend : s.sendsFrames c = true)
    (hbond : s.carBonded = false) :
    s.lineTransmit c half frames = (s.txFill c frames).lineSend c ((s.txFill c frames).txChooseD c half) := by
  have hfore := ((sendsFrames_iff s c).mp hsend).2
  simp [State.lineTransmit, hfore, hbond, hsend]

/-- A frame that is sent shows the overhead, the level and the pilots of its carrier. -/
theorem out_lineSend (s : State) (c d : Nat) : (s.lineSend c d).out = .lineFrame c ((s.lineSend c d).car c).txOh
    ((s.lineSend c d).payEnergy c) ((s.lineSend c d).fget (F.car_TX_CTRL_LEVEL c)) (pilots 6144) :: s.out := by
  have hcar : (s.lineSend c d).car c = _ := car_setCar_self s c _
  rw [hcar]
  rfl

/-- Two bonded carriers send together, with equal counts and D. -/
theorem lineTransmit_bonded {c half : Nat} {frames : List (List (List Nat))} (hfore : s.foreMode c = false)
    (h0 : s.sendsFrames 0 = true) (h1 : s.sendsFrames 1 = true) (hbond : s.carBonded = true) :
    ((s.lineTransmit c half frames).car 0).txFc = ((s.lineTransmit c half frames).car 1).txFc ∧
    ((s.lineTransmit c half frames).car 0).txD = ((s.lineTransmit c half frames).car 1).txD := by
  have hequal : ∃ (t : State) (d : Nat), s.lineTransmit c half frames = (t.lineSend 0 d).lineSend 1 d ∧
      (t.car 0).txFc = (t.car 1).txFc := by
    refine ⟨_, _, (if_neg (by simp [hfore])).trans (if_pos (by simp [h0, h1, hbond])), ?_⟩
    simp only [txFc_txFill]
    unfold State.onlyIf
    split
    · exact txFc_txAfresh s
    · simp_all
  obtain ⟨t, d, heq, hfc⟩ := hequal
  obtain ⟨hfc1, hd1⟩ := car_lineSend_self (t.lineSend 0 d) 1 d
  obtain ⟨hfc0, hd0⟩ := car_lineSend_self t 0 d
  rw [heq, car_lineSend_other _ d (by decide), hfc1, hd1, hfc0, hd0, car_lineSend_other t d (by decide), hfc]
  exact ⟨rfl, rfl⟩

end Sys2Proof.Machine

open Sys2Proof Sys2Proof.Machine

/-- Settles O15: a transmit chain sends what its mode and its bond say; the receivers' events are their own effects. -/
theorem lineCommandsComplete : Obligations.LineCommandsComplete := by
  unfold Obligations.LineCommandsComplete
  intro s c n llr half u frames cycle h blk x y inner fixes hlive
  refine ⟨fun hsend => ⟨yields_of_live rfl hlive (if_neg (by simp [hsend])), fun hbond => ?_⟩, fun h0 h1 hbond => ?_,
    fun hrun hfore => yields_of_live rfl hlive (if_pos (by simp [hrun, hfore])), yields_of_live rfl hlive rfl,
    yields_of_live rfl hlive rfl, yields_of_live rfl hlive rfl, yields_of_live rfl hlive rfl, yields_of_live rfl hlive rfl,
    yields_of_live rfl hlive rfl⟩
  · refine ⟨yields_of_live rfl hlive rfl, ?_⟩
    rw [lineTransmit_unbonded hsend hbond, (car_lineSend_self _ _ _).1, txFc_txFill]
    exact ⟨rfl, out_lineSend _ _ _⟩
  · have hfore : s.foreMode c.val = false := by
      rcases Fin.exists_fin_two.mp ⟨c, rfl⟩ with rfl | rfl
      · exact ((sendsFrames_iff s 0).mp h0).2
      · exact ((sendsFrames_iff s 1).mp h1).2
    exact ⟨yields_of_live rfl hlive rfl, lineTransmit_bonded hfore h0 h1 hbond⟩
end

section
/-! PROOFS. The tributary map, ODU events and context records (spec/06_odu_monitoring.md). -/

namespace Sys2Proof.Machine

variable {s : State} {m : Master}

/-! ## Activation of a tributary map (R142) -/

/-- What the change of a port's tables leaves behind keeps the tables. -/
theorem foldl_dropTracker_active (eg : Bool) (l : List Nat) (s : State) :
    (l.foldl (dropTracker eg) s).active eg = s.active eg :=
  foldl_keeps (f := dropTracker eg) (State.active · eg) (fun _ _ => rfl) l s

/-- So does restarting mappers. -/
theorem foldl_restartMapper_odu (l : List Nat) (s : State) : (l.foldl State.restartMapper s).odu = s.odu := by
  refine foldl_keeps State.odu (fun t h => ?_) l s
  unfold State.restartMapper
  dsimp only
  split
  · rfl
  · split <;> rfl

/-- The tables read what was put there. -/
theorem active_setActive (s : State) (eg : Bool) (t : TribTables) : (s.setActive eg t).active eg = t := by
  cases eg <;> rfl

/-- The multiplex structure identifiers that a port sends keep the records and the registers. -/
theorem sendMsi_keeps (s : State) (p : Nat) : (s.sendMsi p).odu = s.odu ∧ (s.sendMsi p).fields = s.fields := by
  have hemit (t : State) (g : Nat) : (t.emit (.msi g (t.impliedMsi true g))).odu = t.odu ∧
      (t.emit (.msi g (t.impliedMsi true g))).fields = t.fields := ⟨rfl, rfl⟩
  unfold State.sendMsi
  split
  · exact ⟨rfl, rfl⟩
  · exact ⟨foldl_keeps State.odu (fun t g => (hemit t g).1) _ _, foldl_keeps State.fields (fun t g => (hemit t g).2) _ _⟩

/-- The next free value is no register. -/
theorem KeepsFields.tick {P : Nat → Prop} {t : State} (h : KeepsFields P s t) : KeepsFields P s t.tick := h

/-- Nor is what the core has armed. -/
theorem KeepsFields.disarm {P : Nat → Prop} {t : State} (h : KeepsFields P s t) :
    KeepsFields P s { t with core := { t.core with arm := none } } := h

/-- A verified page that an activation invalidates keeps the ODU records, and the fields of other pages. -/
theorem cmInvalidate_keeps (s : State) : s.cmInvalidate.odu = s.odu ∧
    KeepsFields (· / 0x80000 ≠ 0x80) s s.cmInvalidate := by
  unfold State.cmInvalidate
  refine ⟨onlyIf_keeps State.odu s _ rfl, ?_⟩
  have hresult := (KeepsFields.refl (· / 0x80000 ≠ 0x80) s).onlyIf (b := s.cmState == 2) (f := fun s =>
    ((s.fset F.core_CM_STATUS_RESULT (Config.freeValue s.free)).tick).raise 0x80 1) fun t h =>
      ((h.fset _ (by decide)).tick).raise 1 (by decide)
  exact ((hresult.disarm.fset 0 (by decide)).fset 1 (by decide)).raise 3 (by decide)

/-- An activation is reported, its identifiers are sent, and a verified page is invalidated. -/
def State.activationReported (s : State) (eg : Bool) (p : Nat) : State :=
  let t := (s.tribEnd 0 0).raise 0x40 2
  (t.onlyIf eg fun t => t.sendMsi p).onlyIf (decide (2 ≤ t.cmState)) State.cmInvalidate

/-- The report keeps the ODU records, and shows DONE. -/
theorem activationReported_keeps (s : State) (eg : Bool) (p : Nat) : (s.activationReported eg p).odu = s.odu ∧
    (s.activationReported eg p).flag F.odu_TRIB_STATUS_DONE = true := by
  have hdone : ((s.tribEnd 0 0).raise 0x40 2).fget F.odu_TRIB_STATUS_DONE = 1 := by
    simp (decide := true) only [State.tribEnd, State.fsets, State.raise, fget_fset, ↓reduceIte]
  have hodu : ((s.tribEnd 0 0).raise 0x40 2).odu = s.odu := rfl
  unfold State.activationReported
  generalize (s.tribEnd 0 0).raise 0x40 2 = t at hdone hodu
  have hmsi : (t.onlyIf eg fun t => t.sendMsi p).odu = t.odu ∧ (t.onlyIf eg fun t => t.sendMsi p).fields = t.fields := by
    cases eg
    · exact ⟨rfl, rfl⟩
    · exact sendMsi_keeps t p
  obtain ⟨hmsi, hfields⟩ := hmsi
  dsimp only
  generalize t.onlyIf eg (fun t => t.sendMsi p) = u at hmsi hfields
  have hu : u.flag F.odu_TRIB_STATUS_DONE = true := by rw [State.flag, fget_congr hfields, hdone]; rfl
  obtain ⟨hinv, hkeeps⟩ := cmInvalidate_keeps u
  refine ⟨(onlyIf_keeps State.odu u _ hinv).trans (hmsi.trans hodu), ?_⟩
  cases decide (2 ≤ t.cmState)
  · exact hu
  · exact (congrArg (· != 0) (hkeeps.fget (by decide))).trans hu

/-- An activation puts the port's staged tables in place and reports it; the defects follow. -/
theorem applyNow_of_applying {eg : Bool} {p k : Nat} (h : s.odu.applying = some (eg, p, k)) : ∃ t : State,
    s.applyNow = t.defects ∧ t.active eg = copyPort (s.ownedSu p) p (s.staged eg) (s.active eg) ∧
      t.odu.applying = none ∧ t.flag F.odu_TRIB_STATUS_DONE = true := by
  have heq : ∃ u : State, s.applyNow = (u.activationReported eg p).defects ∧
      u.active eg = copyPort (s.ownedSu p) p (s.staged eg) (s.active eg) ∧ u.odu.applying = none := by
    unfold State.applyNow
    rw [h]
    dsimp only
    refine ⟨_, rfl, ?_, rfl⟩
    cases eg
    · simp only [State.active, Bool.false_eq_true, if_false]
      exact (foldl_dropTracker_active false _ _).trans (active_setActive s false _)
    · simp only [State.active, if_true, foldl_restartMapper_odu]
      exact (foldl_dropTracker_active true _ _).trans (active_setActive s true _)
  obtain ⟨u, heq, hactive, hnone⟩ := heq
  obtain ⟨hodu, hdone⟩ := activationReported_keeps u eg p
  refine ⟨_, heq, ?_, by rw [hodu, hnone], hdone⟩
  rw [← hactive, State.active, State.active, hodu]

/-! ## The end of a context command -/

/-- A context command that ends shows its result, and DONE. -/
theorem ctxEnd_fields (t : State) (r : Nat) :
    (t.ctxEnd r).fget F.ctx_CTX_STATUS_RESULT = r % 8 ∧ (t.ctxEnd r).flag F.ctx_CTX_STATUS_DONE = true := by
  simp (decide := true) only [State.ctxEnd, State.fsets, State.flag, State.raise, fget_fset, ↓reduceIte]
  exact ⟨rfl, trivial⟩

/-- A configuration that passes its checks is taken. -/
theorem ctxWriteCfg_taken {t : State} {x : Nat}
    (h : t.cfgResult (t.withConfig x ((List.range 6).map fun i => t.fget (F.ctx_CTX_DATA_DATA i))) m x = 0) :
    ∃ u : State, t.ctxWriteCfg m x = u.ctxEnd 0 := by
  unfold State.ctxWriteCfg
  simp only [h]
  exact ⟨_, rfl⟩

/-- A context that nothing uses is freed. -/
theorem ctxFree_taken {t : State} {x : Nat} (hopen : (decide (261120 ≤ x) && m != .warden) = false)
    (hen : t.ctxEn x = false) (hheld : t.slotGroupHeld x = false) (hi : t.odu.activeI.names x = false)
    (he : t.odu.activeE.names x = false) (hpg : t.pgNames x = false) :
    t.ctxFree m x = (t.setCtxBits x 0 0 4 0).ctxEnd 0 := by
  simp [State.ctxFree, hopen, hen, hheld, hi, he, hpg]

/-- CLEAR_PM clears one entry's counts. -/
theorem ctxCmd_clearPm {x : Nat} (hx : x < 8192) : (s.ctxCmd m x 6).odu.pm =
    spPut {} s.odu.pm x { spGet {} s.odu.pm x with counts := [0, 0, 0, 0, 0, 0] } := by
  simp only [State.ctxCmd, if_neg (Nat.not_le.mpr hx)]
  rfl

/-- The loss of PPS ends its presence and its alignment. -/
theorem ppsLoss_fields (h : s.flag F.odu_TICK_STATUS_PPS_PRESENT = true) :
    s.ppsLoss.flag F.odu_TICK_STATUS_PPS_PRESENT = false ∧ s.ppsLoss.flag F.odu_TICK_STATUS_PPS_ALIGNED = false := by
  have heq : ∃ u : State, s.ppsLoss =
      ((u.fset F.odu_TICK_STATUS_PPS_PRESENT 0).fset F.odu_TICK_STATUS_PPS_ALIGNED 0).raise 0x40 5 :=
    ⟨_, if_neg (by rw [h]; decide)⟩
  obtain ⟨u, heq⟩ := heq
  rw [heq]
  simp (decide := true) only [State.flag, State.raise, fget_fset, ↓reduceIte]

end Sys2Proof.Machine

open Sys2Proof Sys2Proof.Machine

/-- Settles O16: each command on an index in range, with no APPLY being checked. -/
theorem tributaryCommandsComplete : Obligations.TributaryCommandsComplete := by
  unfold Obligations.TributaryCommandsComplete
  intro s m i eg table hreach hfree
  refine ⟨fun hindex => ⟨writes_of_viaCmd rfl hreach ?_, writes_of_viaCmd rfl hreach ?_, writes_of_viaCmd rfl hreach ?_⟩,
    fun hport => ⟨fun hcheck => writes_of_viaCmd rfl hreach ?_, writes_of_viaCmd rfl hreach ?_⟩⟩
  all_goals try have htable : table.val ≠ 3 := by omega
  · simp [State.tribCmd, hfree, htable, Nat.not_lt.mpr hindex]
  · simp [State.tribCmd, hfree, htable, Nat.not_lt.mpr hindex]
  · simp [State.tribCmd, hfree, htable, Nat.not_lt.mpr hindex]
  · simp [State.tribCmd, hfree, hcheck, Nat.not_lt.mpr hport]
  · simp [State.tribCmd, hfree, Nat.not_lt.mpr hport]

/-- Settles O17: the events in the live device; an activation by `applyNow_of_applying`. -/
theorem oduEventsComplete : Obligations.OduEventsComplete := by
  unfold Obligations.OduEventsComplete
  intro s eg g f ecc c offset hlive
  refine ⟨fun p k happly => ?_, yields_of_live rfl hlive rfl, yields_of_live rfl hlive rfl, yields_of_live rfl hlive rfl,
    fun hdue => ⟨yields_of_live rfl hlive rfl, ?_⟩, yields_of_live rfl hlive rfl,
    fun hpps => ⟨yields_of_live rfl hlive rfl, ?_⟩⟩
  · obtain ⟨t, heq, hrest⟩ := applyNow_of_applying happly
    exact ⟨t, heq, yields_of_live rfl hlive heq, hrest⟩
  · simp [State.pmWrite, hdue]
  · exact ppsLoss_fields hpps

/-- Settles O18: each command on a context that its master may use. -/
theorem contextCommandsComplete : Obligations.ContextCommandsComplete := by
  unfold Obligations.ContextCommandsComplete
  intro s m x hreach
  refine ⟨fun hmay => ?_, fun hx => ⟨writes_of_viaCmd rfl hreach ?_, writes_of_viaCmd rfl hreach rfl, ?_⟩⟩
  · have hopen : (decide (261120 ≤ x.val) && m != .warden) = false := by
      rcases hmay with hx | rfl
      · simp [Nat.not_le.mpr hx]
      · simp
    refine ⟨writes_of_viaCmd rfl hreach ?_, fun hres => ⟨writes_of_viaCmd rfl hreach rfl, ?_⟩,
      writes_of_viaCmd rfl hreach ?_, fun hen hheld hi he hpg => writes_of_viaCmd rfl hreach ?_⟩
    · simp [State.ctxCmd, State.onlyIf, State.ctxRead, hopen]
    · obtain ⟨u, heq⟩ := ctxWriteCfg_taken hres
      have hcmd : s.ctxCmd m x.val 2 = u.ctxEnd 0 := heq
      rw [hcmd]
      exact ctxEnd_fields u 0
    · simp [State.ctxCmd, State.onlyIf, State.ctxClearCounts, hopen]
    · exact ctxFree_taken hopen hen hheld hi he hpg
  · simp [State.ctxCmd, State.onlyIf, Nat.not_le.mpr hx]
  · refine ⟨?_, fun y hy => ?_⟩
    · rw [ctxCmd_clearPm hx, spGet_spPut_self]
    · rw [ctxCmd_clearPm hx, spGet_spPut_other _ _ _ hy]
end

section
/-! PROOFS. Protection, skew buffers and memory stacks (spec/08_protection_skew.md). -/

namespace Sys2Proof.Machine

variable {s : State} {m : Master}

/-- A memory test that ends shows whether it passed, and MTEST_DONE. -/
theorem mtestDone_fields (i : Nat) (fail : Option Nat) (h : s.fget (F.mem_MTEST_STATUS_STATE i) = 1) :
    (s.mtestDone i fail).fget (F.mem_MTEST_STATUS_STATE i) = (if fail.isNone then 2 else 3) ∧
    bitOf ((s.mtestDone i fail).fget (F.hdr_INT_STATUS_INT (0x2B0 + i))) 1 = true := by
  have heq : ∃ u : State, s.mtestDone i fail = (u.fsets [(F.mem_MTEST_STATUS_STATE i, if fail.isNone then 2 else 3),
      (F.mem_MTEST_STATUS_FAIL_BLK i, fail.getD 0)]).raise (0x2B0 + i) 1 := ⟨_, if_neg (by rw [h]; decide)⟩
  obtain ⟨u, heq⟩ := heq
  rw [heq]
  refine ⟨?_, bitOf_raise _ _ (by decide)⟩
  simp [State.raise, State.fsets, fget_fset, F.mem_MTEST_STATUS_STATE, F.mem_MTEST_STATUS_FAIL_BLK, F.hdr_INT_STATUS_INT,
    key_eq_key_iff]
  split <;> decide

/-- A slot-lane bond that its lanes permit starts afresh. -/
theorem slotBond_on {j d : Nat} (hen : bitOf (s.mergedWord 0x92 (0x100 + 8 * j) 0 0xF d) 13 = true)
    (hvalid : s.bondValid j (bitsOf (s.mergedWord 0x92 (0x100 + 8 * j) 0 0xF d) 0 8)
      (bitsOf (s.mergedWord 0x92 (0x100 + 8 * j) 0 0xF d) 8 5) = true)
    (hoff : s.flag (F.bond_SLB_CFG_EN j) = false) :
    let t := s.plainWrite m 0x92 (0x100 + 8 * j) 0 0xF d
    s.slotBond m j 0 0xF d = ((s.bondLanes j ++ t.bondLanes j).foldl laneAfresh (t.bondAfresh j)).defects := by
  unfold State.slotBond
  simp only [hen, hvalid, hoff]
  rfl

end Sys2Proof.Machine

open Sys2Proof Sys2Proof.Machine

/-- Settles O21: each event in the live device; the guard ends where the group's context is sound. -/
theorem protectionEventsComplete : Obligations.ProtectionEventsComplete := by
  unfold Obligations.ProtectionEventsComplete
  intro s g ecc p mfas opu cycle hlive
  refine ⟨yields_of_live rfl hlive rfl, yields_of_live rfl hlive rfl, yields_of_live rfl hlive rfl,
    yields_of_live rfl hlive rfl, fun htype hecc => yields_of_live rfl hlive ?_, fun hecc => yields_of_live rfl hlive ?_,
    yields_of_live rfl hlive rfl, yields_of_live rfl hlive rfl⟩
  · simp [htype, hecc]
  · simp [hecc]

/-- Settles O22: each command with nothing against it. -/
theorem skewBufferCommandsComplete : Obligations.SkewBufferCommandsComplete := by
  unfold Obligations.SkewBufferCommandsComplete
  intro s m g en j d
  refine ⟨fun hreach hdone => ⟨fun hcheck => writes_of_viaCmd rfl hreach ?_, fun htype hadm => writes_of_viaCmd rfl hreach ?_,
    writes_of_viaCmd rfl hreach ?_⟩, fun hreach => ⟨fun h0 h1 => ⟨fun hbond hrefuse => writes_of_viaPage rfl hreach ?_,
    fun hbond => writes_of_viaPage rfl hreach ?_⟩, fun hen hvalid hoff => writes_of_viaPage rfl hreach (slotBond_on hen hvalid hoff)⟩⟩
  · simp [State.admitCmd, hdone, hcheck, State.setAligner]
  · simp [State.admitCmd, hdone, htype, hadm]
  · simp [State.admitCmd, hdone]
  · simp [State.carrierBond, h0, h1, hbond, hrefuse]
  · cases en <;> simp [State.carrierBond, h0, h1, hbond]

/-- Settles O23: each test with nothing against it, and each event in the live device. -/
theorem stackCommandsComplete : Obligations.StackCommandsComplete := by
  unfold Obligations.StackCommandsComplete
  intro s m i fail corr uncorr
  refine ⟨fun hreach hready hstate => ⟨fun hshadow => writes_of_viaCmd rfl hreach ?_,
    fun hmode hfree => writes_of_viaCmd rfl hreach ?_⟩, fun hlive => ⟨yields_of_live rfl hlive rfl,
    fun hstate => ⟨yields_of_live rfl hlive rfl, ?_⟩, fun hready hscrub => yields_of_live rfl hlive (if_neg (by simp [hready, hscrub]))⟩⟩
  · simp [State.mtest, hready, hstate, hshadow]
  · simp [State.mtest, hready, hstate, hmode, hfree]
  · have hnone : (fail.map Fin.val).isNone = fail.isNone := by cases fail <;> rfl
    have hfields := mtestDone_fields i.val (fail.map Fin.val) hstate
    rwa [hnone] at hfields
end

section
/-! PROOFS. Lanes (spec/09_lanes.md), the forerunner slot bus (spec/10_forerunner.md) and the references (spec/11_timing.md). -/

namespace Sys2Proof.Machine

variable {s : State} {m : Master} {n : Nat}

/-- A loopback write that its modes permit: the register, the generator and the loop that it selects. -/
theorem loopWrite_permitted {be d : Nat}
    (h : bitsOf (s.mergedWord (0x100 + n) 0x68 0 be d) 0 4 = 0 ∨ (s.laneUnused n = false ∧ s.dev.mode = .maintenance) ∨
      (s.laneUnused n = true ∧ s.shadowOk = true)) :
    let w := s.plainWrite m (0x100 + n) 0x68 0 be d
    let t := w.onlyIf (s.prbsOn n != w.prbsOn n) fun s => s.emit (.prbsGen n (s.prbsOn n))
    s.loopWrite m n 0 be d = if s.loopSel n = w.loopSel n then
        t.onlyIf (t.dev.mode == .maintenance && !t.lightAllowed) fun s => s.trainEval n
      else (t.setLane n { t.lane n with looped := [] }).trainEval n := by
  unfold State.loopWrite
  dsimp only
  generalize s.mergedWord (0x100 + n) 0x68 0 be d = x at h ⊢
  generalize s.plainWrite m (0x100 + n) 0x68 0 be d = w
  have hloop : (w.onlyIf (s.prbsOn n != w.prbsOn n) fun s => s.emit (.prbsGen n (s.prbsOn n))).loopSel n = w.loopSel n :=
    onlyIf_keeps (State.loopSel · n) w _ rfl
  have hfree : ¬ (((bitsOf x 0 2 != 0 && bitsOf x 0 2 != 3) || (s.laneFormat n == 0 && bitsOf x 2 2 != 0)) &&
      !(if s.laneUnused n then s.shadowOk else s.dev.mode == .maintenance)) = true := by
    rcases h with h | ⟨hused, hmode⟩ | ⟨hunused, hshadow⟩
    · have h0 : bitsOf x 0 2 = 0 := by simp only [bitsOf] at h ⊢; omega
      have h2 : bitsOf x 2 2 = 0 := by simp only [bitsOf] at h ⊢; omega
      simp [h0, h2]
    · simp [hused, hmode]
    · simp [hunused, hshadow]
  rw [if_neg hfree, hloop]
  by_cases heq : s.loopSel n = w.loopSel n
  · simp [heq]
  · simp [heq]

/-- An eye measurement that nothing refuses runs. -/
theorem eyeMeasure_taken (eye phase volt dwell : Nat) (htests : s.testsOk = true)
    (hawake : s.flag (F.lane_RX_STATUS_RX_ASLEEP n) = false) (hidle : s.attempting n = false) (hnone : (s.lane n).eye = none) :
    (s.eyeMeasure m n eye phase volt dwell).flag (F.lane_EYE_STATUS_DONE n) = false ∧
    ((s.eyeMeasure m n eye phase volt dwell).lane n).eye = some (s.flag (F.lane_RX_STATUS_SIG n)) := by
  have hbusy : s.eyeBusy n = false := by simp [State.eyeBusy, hawake, hidle]
  have heq : ∃ v : Lane, v.eye = some (s.flag (F.lane_RX_STATUS_SIG n)) ∧ s.eyeMeasure m n eye phase volt dwell =
      (s.setLane n v).fsets [(F.lane_EYE_STATUS_DONE n, 0), (F.lane_EYE_STATUS_VALID n, 0),
        (F.lane_EYE_CMD_EYE n, if (s.setLane n v).lanePam4 n then eye else 1), (F.lane_EYE_CMD_PHASE n, phase),
        (F.lane_EYE_CMD_VOLT n, if volt = 128 then 129 else volt), (F.lane_EYE_CMD_DWELL n, dwell)] :=
    ⟨_, rfl, (if_neg (by simp [htests])).trans (if_neg (by simp [hbusy, hnone]))⟩
  obtain ⟨v, hv, heq⟩ := heq
  rw [heq]
  refine ⟨?_, (congrArg Lane.eye (lane_setLane_self s n v)).trans hv⟩
  simp [State.flag, State.fsets, fget_fset, key_eq_key_iff, F.lane_EYE_STATUS_DONE, F.lane_EYE_STATUS_VALID,
    F.lane_EYE_CMD_EYE, F.lane_EYE_CMD_PHASE, F.lane_EYE_CMD_VOLT, F.lane_EYE_CMD_DWELL]

/-- A Galop burst that a lane waits for. -/
theorem galopHeard_awaited (hn : n < 256) (hsig : s.flag (F.lane_RX_STATUS_SIG n) = true)
    (hwait : (s.lane n).galopWait = true) :
    let t := (s.setLane n { s.lane n with galopWait := false }).fset (F.lane_RX_STATUS_EQ_CONV n) 1
    s.galopHeard n = if s.framer n = 1 then t.enterOof n else t := by
  have hframer (v : Lane) : ((s.setLane n v).fset (F.lane_RX_STATUS_EQ_CONV n) 1).framer n = s.framer n := by
    rw [State.framer, State.framer, if_pos hn, if_pos hn, fget_fset, if_neg]
    · rfl
    · simp [F.lane_FRM_STATUS_STATE, F.lane_RX_STATUS_EQ_CONV, key_eq_key_iff]
  dsimp only
  refine (if_pos (by simp [hsig, hwait])).trans ?_
  simp [State.onlyIf, hframer]

end Sys2Proof.Machine

open Sys2Proof Sys2Proof.Machine

/-- Settles O24: the lane's registers go through its page's gate. -/
theorem laneControlCompletes : Obligations.LaneControlCompletes := by
  unfold Obligations.LaneControlCompletes
  intro s m k b n be d mode on
  refine ⟨fun hreach => writes_of_viaPage rfl hreach rfl, fun hreach => ⟨fun hen hdrain hrate => writes_of_viaPage rfl hreach ?_,
    fun hen hdrain hrate => writes_of_viaPage rfl hreach ?_, writes_of_viaPage rfl hreach rfl, writes_of_viaPage rfl hreach rfl,
    writes_of_viaPage rfl hreach rfl, writes_of_viaPage rfl hreach rfl, fun hmay => ?_⟩⟩
  · simp [State.laneEnable, hen, hdrain, hrate]
  · simp [State.laneEnable, hen, hdrain, hrate]
  · exact writes_of_viaPage rfl hreach (loopWrite_permitted hmay)

/-- Settles O25: each command and event in the state of the training that it concerns. -/
theorem laneTrainingCompletes : Obligations.LaneTrainingCompletes := by
  unfold Obligations.LaneTrainingCompletes
  intro s m n seen first later next dc peak dfe
  refine ⟨fun hreach => ⟨fun hstate => writes_of_viaCmd rfl hreach ?_, fun hatt => writes_of_viaCmd rfl hreach ?_,
    writes_of_viaCmd rfl hreach rfl⟩, fun hlive => ⟨yields_of_live rfl hlive rfl, yields_of_live rfl hlive rfl,
    yields_of_live rfl hlive rfl, fun hatt hout => yields_of_live rfl hlive ?_, fun hatt => yields_of_live rfl hlive ?_,
    fun hstate hretry => yields_of_live rfl hlive ?_, fun hfrozen hawake hstate => yields_of_live rfl hlive ?_⟩⟩
  · simp [State.trainCmd, hstate]
  · simp [State.trainCmd, hatt]
  · simp [State.noAck, hatt, hout]
  · simp [State.trainTimeout, hatt]
  · simp [State.backoffEnds, hstate, hretry]
  · have hsame : (s.setLane n.val { s.lane n.val with fell := false }).trainState n.val = 4 := hstate
    simp [State.idleHoldEnds, hfrozen, hawake, hsame]

/-- Settles O26: each command with nothing against it, and each event in the state that it concerns. -/
theorem laneSignalCompletes : Obligations.LaneSignalCompletes := by
  unfold Obligations.LaneSignalCompletes
  intro s m k b n held eye phase volt dwell errors
  refine ⟨fun hreach => ⟨fun htests hawake hidle hnone => ⟨writes_of_viaCmd rfl hreach rfl,
      eyeMeasure_taken _ _ _ _ htests hawake hidle hnone⟩, fun hawake hidle hsome => writes_of_viaCmd rfl hreach ?_⟩,
    fun hlive => ⟨yields_of_live rfl hlive rfl, yields_of_live rfl hlive rfl, yields_of_live rfl hlive rfl,
      yields_of_live rfl hlive rfl, fun hen hsig => yields_of_live rfl hlive ?_, fun hstate hwant => yields_of_live rfl hlive ?_,
      fun hsig hwait => yields_of_live rfl hlive ?_, yields_of_live rfl hlive rfl,
      fun hasleep hcfg => yields_of_live rfl hlive ?_, fun e heye => yields_of_live rfl hlive ?_⟩⟩
  · have hnotnone : (s.lane n.val).eye.isNone = false := by simpa using hsome
    simp [State.eyeAbandon, State.eyeBusy, hawake, hidle, State.eyeDropped, hnotnone]
  · simp [State.cdrRise, hen, hsig]
  · simp [State.warmedUp, hstate, hwant]
  · exact galopHeard_awaited n.isLt hsig hwait
  · simp [State.rxWake, hasleep, hcfg]
  · simp only [State.eyeEnds, heye]

/-- Settles O27: each frame in the live device. -/
theorem laneFramesComplete : Obligations.LaneFramesComplete := by
  unfold Obligations.LaneFramesComplete
  intro s n h cycle line fixes place am otuc fixed pl k ws long hlive
  exact ⟨yields_of_live rfl hlive rfl, yields_of_live rfl hlive rfl, yields_of_live rfl hlive rfl,
    yields_of_live rfl hlive rfl, yields_of_live rfl hlive rfl, yields_of_live rfl hlive rfl, yields_of_live rfl hlive rfl,
    yields_of_live rfl hlive rfl, yields_of_live rfl hlive rfl, yields_of_live rfl hlive rfl, yields_of_live rfl hlive rfl,
    yields_of_live rfl hlive rfl⟩

/-- Settles O28: each event once Boot is over. -/
theorem timingEventsComplete : Obligations.TimingEventsComplete := by
  unfold Obligations.TimingEventsComplete
  intro s off r gross hboot
  refine ⟨yields_of_booted rfl hboot rfl, yields_of_booted rfl hboot rfl, yields_of_booted rfl hboot rfl,
    fun hvalid hel => yields_of_booted rfl hboot ?_, fun hstate => yields_of_booted rfl hboot ?_, yields_of_booted rfl hboot rfl,
    yields_of_booted rfl hboot rfl, yields_of_booted rfl hboot rfl, fun hstate => yields_of_booted rfl hboot ?_,
    yields_of_booted rfl hboot rfl⟩
  · simp [State.refWtrExpires, hvalid, hel]
  · simp [State.acqLocked, hstate]
  · simp [State.boleroEnds, hstate]
end

section
/-! PROOFS. The twin (spec/12_twin.md) and the label channel (spec/13_label_channel.md). -/

namespace Sys2Proof.Machine

variable {s t u : State} {m : Master} {c : Nat}

/-! ## The pages that the active twin does not copy -/

/-- Label pages are not copied. -/
theorem copiedPage_lblPage (c : Fin 2) : copiedPage (lblPage c.val) = false := by
  rcases Fin.exists_fin_two.mp ⟨c, rfl⟩ with rfl | rfl <;> decide

/-- Nor are the pages of the label receivers. -/
theorem copiedPage_rxPage (x : Fin 4) : copiedPage (rxPage x.val) = false := by
  revert x
  decide

/-! ## A label transmitter that starts to send (R366, R367) -/

/-- A transmitter reads what was put for it. -/
@[simp] theorem ltx_setLtx_self (s : State) (c : Nat) (v : LblTx) : (s.setLtx c v).ltx c = v := by
  rw [State.setLtx, State.ltx, State.fsets_lblTx, spGet_spPut_self]

/-- It keeps the device's own state. -/
@[simp] theorem setLtx_dev (s : State) (c : Nat) (v : LblTx) : (s.setLtx c v).dev = s.dev := by
  rw [State.setLtx, State.fsets_dev]

/-- It puts nothing out. -/
@[simp] theorem setLtx_out (s : State) (c : Nat) (v : LblTx) : (s.setLtx c v).out = s.out := by
  rw [State.setLtx, State.fsets_out]

/-- The label page's registers but TX_STATUS read as before. -/
theorem fget_setLtx (s : State) (c : Nat) (v : LblTx) {off lo w rst : Nat} (hoff : off ≠ 0x54) (hlo : lo < 32) :
    (s.setLtx c v).fget ⟨0x1C + 0x10 * c, off, lo, w, rst⟩ = s.fget ⟨0x1C + 0x10 * c, off, lo, w, rst⟩ := by
  refine (fget_fsets_other _ _ ?_).trans rfl
  simp only [List.forall_mem_cons, List.not_mem_nil, false_imp_iff, implies_true, and_true, F.lbl_LBL_TX_STATUS_USER_PEND,
    F.lbl_LBL_TX_STATUS_STATE, ne_eq, key_eq_key_iff]
  omega

/-- A carrier sends light by its own page, its record, the mode and the switchover. -/
theorem lblCanSend_congr (hf : KeepsFields (OnCarrierPage c) s t) (hcar : t.car c = s.car c) (hdev : t.dev = s.dev)
    (htwin : t.twin = s.twin) : t.lblCanSend c = s.lblCanSend c := by
  have hpage {off lo w rst : Nat} (h : off * 32 + lo < 0x80000) :
      t.fget ⟨carPage c, off, lo, w, rst⟩ = s.fget ⟨carPage c, off, lo, w, rst⟩ := by
    refine hf.fget ?_
    simp only [OnCarrierPage, Fl.key]
    omega
  have hready : t.ready (carPage c) = s.ready (carPage c) := congrArg (· != 0) (hpage (by decide))
  have hen : t.enabled (carPage c) = s.enabled (carPage c) := congrArg (· != 0) (hpage (by decide))
  have htx : t.flag (F.car_TX_CTRL_TX_EN c) = s.flag (F.car_TX_CTRL_TX_EN c) := congrArg (· != 0) (hpage (by decide))
  simp only [State.lblCanSend, State.laser, State.txRuns, State.lightAllowed, State.mayTransmit, State.outMode,
    State.maintFrom, hready, hen, htx, hcar, hdev, htwin]

/-- A transmitter's own record and TX_STATUS do not matter for it. -/
theorem lblCanSend_setLtx (s : State) (c : Nat) (v : LblTx) : (s.setLtx c v).lblCanSend c = s.lblCanSend c := by
  have hown : KeepsFields (OnCarrierPage c) s { s with lblTx := spPut {} s.lblTx c v } := .of_fields rfl
  refine lblCanSend_congr (hown.fsets _ ?_) ?_ (setLtx_dev ..)
    (by rw [State.setLtx, State.fsets_twin])
  · simp only [List.forall_mem_cons, List.not_mem_nil, false_imp_iff, implies_true, and_true, OnCarrierPage, carPage,
      Fl.key, F.lbl_LBL_TX_STATUS_USER_PEND, F.lbl_LBL_TX_STATUS_STATE]
    omega
  · rw [State.car, State.setLtx, State.fsets_carriers]
    rfl

/-- What a packet that starts shows: the transmitter holds it, and it goes out at the page's depth and network. -/
def Sends (s t : State) (c : Nat) (p : LblPacket) : Prop :=
  (t.ltx c).cur = some p ∧
    t.out = .label c p.kind p.payload p.sf (max 5 (min 40 (s.fget (F.lbl_LBL_TX_CFG_DEPTH c))))
      (lblSymbols p.sf (s.fget (F.lbl_LBL_TX_CFG_NETID c)) (lblType p.kind) p.payload) :: s.out

/-- A packet that is put on the air. -/
theorem lblOnAir_sends (s : State) (c : Nat) (p : LblPacket) : Sends s (s.lblOnAir c p) c p := by
  have hemit (t : State) (o : Out) : (t.emit o).ltx c = t.ltx c ∧ (t.emit o).out = o :: t.out := ⟨rfl, rfl⟩
  unfold State.lblOnAir
  dsimp only
  refine ⟨by rw [(hemit _ _).1, ltx_setLtx_self], ?_⟩
  rw [(hemit _ _).2, setLtx_out]

/-- What goes out after writes that leave DEPTH, NETID and the outputs alone. -/
theorem Sends.of_congr {p : LblPacket} (h : Sends t u c p)
    (hdepth : t.fget (F.lbl_LBL_TX_CFG_DEPTH c) = s.fget (F.lbl_LBL_TX_CFG_DEPTH c))
    (hnet : t.fget (F.lbl_LBL_TX_CFG_NETID c) = s.fget (F.lbl_LBL_TX_CFG_NETID c)) (hout : t.out = s.out) : Sends s u c p :=
  ⟨h.1, by rw [h.2, hdepth, hnet, hout]⟩

section
variable (hsend : s.lblCanSend c = true) (hen : s.flag (F.lbl_LBL_TX_CFG_EN c) = true)
include hsend hen

/-- An idle transmitter that is given a USER sends it at once. -/
theorem lblNext_user (bytes : List Nat) : Sends s ((s.setLtx c { user := some bytes }).lblNext c) c
    ⟨2, bytes, lblSf (s.fget (F.lbl_LBL_TX_CFG_SF c))⟩ := by
  have hsend' := (lblCanSend_setLtx s c { user := some bytes }).trans hsend
  have hen' : (s.setLtx c { user := some bytes }).flag (F.lbl_LBL_TX_CFG_EN c) = true :=
    (congrArg (· != 0) (fget_setLtx s c _ (by decide) (by decide))).trans hen
  have hsf : (s.setLtx c { user := some bytes }).fget (F.lbl_LBL_TX_CFG_SF c) = s.fget (F.lbl_LBL_TX_CFG_SF c) :=
    fget_setLtx s c _ (by decide) (by decide)
  have hnext : (s.setLtx c { user := some bytes }).lblNext c = ((s.setLtx c { user := some bytes }).setLtx c {}).lblOnAir c
      ⟨2, bytes, lblSf (s.fget (F.lbl_LBL_TX_CFG_SF c))⟩ := by
    simp [State.lblNext, hsend', hen', hsf]
  rw [hnext]
  refine (lblOnAir_sends ..).of_congr ?_ ?_ ?_
  · rw [F.lbl_LBL_TX_CFG_DEPTH, fget_setLtx _ _ _ (by decide) (by decide), fget_setLtx _ _ _ (by decide) (by decide)]
  · rw [F.lbl_LBL_TX_CFG_NETID, fget_setLtx _ _ _ (by decide) (by decide), fget_setLtx _ _ _ (by decide) (by decide)]
  · rw [setLtx_out, setLtx_out]

/-- An idle transmitter that is given a GASP of reason 1 sends it at once. -/
theorem gaspDue_idle (hidle : s.ltx c = {}) (code : Nat) : Sends s (s.gaspDue c 1 code) c
    ⟨3, lblSource c ++ [1, code, s.dev.mode.code], lblSf (s.fget (F.lbl_LBL_TX_CFG_GASP_SF c))⟩ := by
  have hfset (t : State) : (t.fset (F.lbl_LBL_TX_STATUS_GASP_DONE c) 0).out = t.out := rfl
  obtain ⟨t, ht⟩ : ∃ t, t = s.setLtx c { gasps := [(1, code)] } := ⟨_, rfl⟩
  have hcfg {off lo w rst : Nat} (hoff : off ≠ 0x54) (hlo : lo < 32) :
      t.fget ⟨0x1C + 0x10 * c, off, lo, w, rst⟩ = s.fget ⟨0x1C + 0x10 * c, off, lo, w, rst⟩ := by
    rw [ht, fget_setLtx _ _ _ hoff hlo]
  have hcfg' {off lo w rst : Nat} (hoff : off ≠ 0x54) (hlo : lo < 32) :
      ((t.setLtx c {}).fset (F.lbl_LBL_TX_STATUS_GASP_DONE c) 0).fget ⟨0x1C + 0x10 * c, off, lo, w, rst⟩ =
        s.fget ⟨0x1C + 0x10 * c, off, lo, w, rst⟩ := by
    rw [fget_fset_other, fget_setLtx _ _ _ hoff hlo, hcfg hoff hlo]
    rw [F.lbl_LBL_TX_STATUS_GASP_DONE, ne_eq, key_eq_key_iff]
    omega
  have hsend' : t.lblCanSend c = true := by rw [ht, lblCanSend_setLtx, hsend]
  have hen' : t.flag (F.lbl_LBL_TX_CFG_EN c) = true := (congrArg (· != 0) (hcfg (by decide) (by decide))).trans hen
  have hsf : t.fget (F.lbl_LBL_TX_CFG_GASP_SF c) = s.fget (F.lbl_LBL_TX_CFG_GASP_SF c) := hcfg (by decide) (by decide)
  have hltx : t.ltx c = { gasps := [(1, code)] } := by rw [ht, ltx_setLtx_self]
  have hdev : t.dev = s.dev := by rw [ht, setLtx_dev]
  have hdue : s.gaspDue c 1 code = t.lblNext c := by
    simp [State.gaspDue, hidle, ht, State.onlyIf]
  have hnext : t.lblNext c = ((t.setLtx c {}).fset (F.lbl_LBL_TX_STATUS_GASP_DONE c) 0).lblOnAir c
      ⟨3, lblSource c ++ [1, code, s.dev.mode.code], lblSf (s.fget (F.lbl_LBL_TX_CFG_GASP_SF c))⟩ := by
    simp [State.lblNext, hsend', hen', hltx, hsf, State.gaspPayload, hdev]
  rw [hdue, hnext]
  refine (lblOnAir_sends ..).of_congr (hcfg' (by decide) (by decide)) (hcfg' (by decide) (by decide)) ?_
  rw [hfset, setLtx_out, ht, setLtx_out]

end

/-- A USER that nothing refuses waits, and the next packet starts. -/
theorem lblSendUser_taken {len : Nat} (hlen : 1 ≤ len) (hlen' : len ≤ 64) (hsend : s.lblCanSend c = true)
    (hen : s.flag (F.lbl_LBL_TX_CFG_EN c) = true) (hnone : (s.ltx c).user = none) :
    s.lblCmd m c (1 + 256 * len) = (s.setLtx c { s.ltx c with
      user := some (((List.range 16).flatMap fun i => leBytes 4 (s.fget (F.lbl_LBL_TXBUF_DATA c i))).take len) }).lblNext c := by
  have hop : bitsOf (1 + 256 * len) 0 2 = 1 := by simp only [bitsOf]; omega
  have hbytes : bitsOf (1 + 256 * len) 8 8 = len := by simp only [bitsOf]; omega
  have hzero : len ≠ 0 := by omega
  simp [State.lblCmd, hop, State.lblSendUser, hbytes, hzero, Nat.not_lt.mpr hlen', hsend, hen, hnone]

/-- A GASP that the transmitter can send is due. -/
theorem lblGasp_taken (code : Byte) (hsend : s.lblCanSend c = true) (hen : s.flag (F.lbl_LBL_TX_CFG_EN c) = true) :
    s.lblCmd m c (2 + 65536 * code.toNat) = s.gaspDue c 1 code.toNat := by
  have hop : bitsOf (2 + 65536 * code.toNat) 0 2 = 2 := by simp only [bitsOf]; omega
  have hcode : bitsOf (2 + 65536 * code.toNat) 16 8 = code.toNat := by
    have := code.isLt
    simp only [bitsOf]
    omega
  simp [State.lblCmd, hop, State.lblGaspCmd, hcode, hsend, hen]

end Sys2Proof.Machine

open Sys2Proof Sys2Proof.Machine

/-- Settles O29: each event of a paired device in the state of the link that it concerns. -/
theorem twinEventsComplete : Obligations.TwinEventsComplete := by
  unfold Obligations.TwinEventsComplete
  intro s side sigLost held whole k header cell arrival crc trailer erle corr uncorr a b tRx msg hpaired
  refine ⟨fun hlink hside => yields_of_paired rfl hpaired ?_, fun hlink hside => yields_of_paired rfl hpaired ?_,
    fun hlink => yields_of_paired rfl hpaired ?_, fun hlink => yields_of_paired rfl hpaired ?_,
    fun hlink => yields_of_paired rfl hpaired ?_, yields_of_paired rfl hpaired rfl,
    fun hlink hal hpart => yields_of_paired rfl hpaired ?_, fun hlink => yields_of_paired rfl hpaired ?_,
    fun hup => yields_of_paired rfl hpaired ?_, yields_of_paired rfl hpaired rfl,
    fun hgrace hrole => yields_of_paired rfl hpaired ?_, yields_of_paired rfl hpaired rfl, yields_of_paired rfl hpaired rfl,
    fun hdisc => yields_of_paired rfl hpaired ?_, yields_of_paired rfl hpaired rfl,
    fun hsw hread => yields_of_paired rfl hpaired ?_, fun hres hrole hup => yields_of_paired rfl hpaired ?_⟩
  · simp [State.retryEnds, hside, State.linkStep, hlink]
  · have hlink' : State.link { s with twin := { s.twin with heard := true } } = 1 := hlink
    have hside' : side ≠ State.sideB { s with twin := { s.twin with heard := true } } := hside
    simp [State.callHeard, hlink', hside']
  · cases hb : s.sideB <;> simp [State.listenPasses, State.linkStep, hlink, hb]
  · simp [State.linkStep, hlink]
  · simp [State.linkStep, hlink]
  · simp [State.linkComesUp, hlink, hal, hpart]
  · simp [hlink]
  · simp [State.linkLost, State.onlyIf, hup]
  · simp [State.graceEnds, State.onlyIf, hgrace, hrole]
  · simp [hdisc]
  · simp [State.handoverFails, hsw, hread]
  · simp [hres, hrole, hup]

/-- Settles O30: each command with nothing against it. -/
theorem twinCommandsComplete : Obligations.TwinCommandsComplete := by
  unfold Obligations.TwinCommandsComplete
  intro s m en hreach
  refine ⟨fun hmode hsw hel hup hlock => yields_of_viaCmd rfl hreach (by decide) ?_,
    fun hmode hsw hread => yields_of_viaCmd rfl hreach (by decide) ?_,
    fun hmode hres hup hside => yields_of_viaCmd rfl hreach (by decide) ?_, yields_of_viaCmd rfl hreach (by decide) rfl,
    yields_of_viaPage rfl hreach (by decide) rfl⟩
  · simp [State.cmdHandover, hmode, hsw, hel, hup, hlock]
  · simp [State.cmdTakeover, hmode, hsw, hread]
  · rcases hres with hres | hres <;> simp [State.cmdResync, hmode, hres, hup, hside]

/-- Settles O31: each command of a transmitter that can send, and of the queues. -/
theorem labelCommandsComplete : Obligations.LabelCommandsComplete := by
  unfold Obligations.LabelCommandsComplete
  intro s m c len code x
  have hcmd {i : Instr} {t : State} (d : Nat) (hreach : s.reaches m (lblPage c.val))
      (hc : exec i s = finish s (s.viaCmd m (lblPage c.val) 0x50 d fun s => s.lblCmd m c.val d))
      (ht : s.lblCmd m c.val d = t) : yields i s t := yields_of_viaCmd hc hreach (copiedPage_lblPage c) ht
  refine ⟨fun hreach => ⟨fun hlen hlen' hsend hen hnone =>
      hcmd _ hreach rfl (lblSendUser_taken hlen hlen' hsend hen hnone),
    fun hsend hen => hcmd _ hreach rfl (lblGasp_taken code hsend hen), fun hsend hen hidle => ⟨fun hlen hlen' => ?_, ?_⟩,
    fun hdark => hcmd _ hreach rfl ?_, fun p hcur hkind hcut => hcmd 3 hreach rfl ?_, fun hcur => hcmd 3 hreach rfl ?_⟩,
    fun hreach => ⟨yields_of_viaCmd rfl hreach (copiedPage_rxPage x) rfl,
      yields_of_viaCmd rfl hreach (copiedPage_rxPage x) rfl⟩⟩
  · have hout := lblNext_user hsend hen
      (((List.range 16).flatMap fun i => leBytes 4 (s.fget (F.lbl_LBL_TXBUF_DATA c.val i))).take len.toNat)
    have htaken := lblSendUser_taken (m := m) hlen hlen' hsend hen (by rw [hidle])
    rw [hidle] at htaken
    exact ⟨_, hcmd _ hreach rfl htaken, hout⟩
  · have hout := gaspDue_idle hsend hen hidle code.toNat
    refine ⟨_, hcmd _ hreach rfl (lblGasp_taken code hsend hen), hout⟩
  · have hop : bitsOf (2 + 65536 * code.toNat) 0 2 = 2 := by simp only [bitsOf]; omega
    simp [State.lblCmd, hop, State.lblGaspCmd, hdark, State.lblDark, State.log]
  · have hop : bitsOf 3 0 2 = 3 := by decide
    simp [State.lblCmd, hop, State.lblAbort, hcur, hkind, hcut]
  · have hop : bitsOf 3 0 2 = 3 := by decide
    simp [State.lblCmd, hop, State.lblAbort, hcur]

/-- Settles O32: each event in the live device. -/
theorem labelEventsComplete : Obligations.LabelEventsComplete := by
  unfold Obligations.LabelEventsComplete
  intro s c x sf cc netid time now header corrected bytes rate snr depth hlive
  refine ⟨fun hperiod hsend hen => yields_of_live rfl hlive ?_, yields_of_live rfl hlive rfl, yields_of_live rfl hlive rfl,
    yields_of_live rfl hlive rfl, yields_of_live rfl hlive rfl, yields_of_live rfl hlive rfl⟩
  simp [State.identDue, hperiod, hsend, hen]
end

section
/-! PROOFS. The host interface (spec/14_host_pcie.md), the bus (spec/15_bus_counters.md) and security (spec/16_security.md). -/

namespace Sys2Proof.Machine

variable {s : State} {m : Master}

/-- A vector and its function are told apart in the word that re-arms them. -/
theorem rearm_word (vec : Fin 2048) (pf1 : Bool) : (vec.val + 2048 * b2n pf1) % 2048 = vec.val ∧
    bitsOf (vec.val + 2048 * b2n pf1) 11 1 = b2n pf1 := by
  have hvec := vec.isLt
  have hb : b2n pf1 ≤ 1 := by cases pf1 <;> decide
  rw [bitsOf]
  omega

/-- A control core is a master of its number. -/
theorem eq_core_of_isCore (h : isCore m = true) : ∃ k, m = .core k := by
  unfold isCore at h
  split at h
  next k => exact ⟨k, rfl⟩
  · cases h

/-- A mailbox command of the owner runs when it is issued, and what it answers waits (R430). -/
theorem mboxIssue_owned {op len : Nat} {f : State → List Nat → MboxResult} (hop : 1 ≤ op) (hop' : op ≤ 9)
    (howned : s.mboxOwnedBy m = true) (hdone : s.flag F.sec_MBOX_STATUS_DONE = true) :
    let r := f s (s.mboxInput (min len 4096))
    s.mboxIssue m op len f = ({ r.st with sec := { r.st.sec with
      cmd := some { op := op, master := masterId m, result := r.result, out := r.out, start := r.start, slot := r.slot } } } :
        State).fset F.sec_MBOX_STATUS_DONE 0 := by
  have hlisted : ¬ (decide (op = 0) || decide (9 < op)) = true := by
    rw [Bool.or_eq_true, decide_eq_true_eq, decide_eq_true_eq]
    omega
  exact (if_neg (by simp [howned, hdone])).trans (if_neg hlisted)

end Sys2Proof.Machine

open Sys2Proof Sys2Proof.Machine

/-- Settles O33: each event in the live device, and each command with nothing against it. -/
theorem hostCommandsComplete : Obligations.HostCommandsComplete := by
  unfold Obligations.HostCommandsComplete
  intro s m gen width pf1 bme d3 vec v k tail d hostData how
  refine ⟨fun hlive => ⟨yields_of_live rfl hlive rfl, yields_of_live rfl hlive rfl, yields_of_live rfl hlive rfl,
      yields_of_live rfl hlive rfl, fun hen hstate hjob hpend hready => ⟨fun hok => yields_of_live rfl hlive ?_,
        fun st hbad => yields_of_live rfl hlive ?_⟩, yields_of_live rfl hlive rfl, yields_of_live rfl hlive rfl⟩,
    fun hreach hvec hreq hunmasked hmay => yields_of_viaCmd rfl hreach (by decide) ?_,
    fun hreach => ⟨yields_of_viaPage rfl hreach (by decide) rfl, fun hen => yields_of_viaPage rfl hreach (by decide) (if_pos hen)⟩⟩
  · simp [State.descStart, hen, hstate, hjob, hpend, hready, hok]
  · simp [State.descStart, hen, hstate, hjob, hpend, hready, hbad]
  · obtain ⟨hv, hpf⟩ := rearm_word vec pf1
    simp only [State.rearm, hv, hpf, hreq, hunmasked, hmay, State.sendMsix]
    simp [Nat.not_lt.mpr (Nat.le_of_lt_succ hvec)]

/-- Settles O34: each event in the live device, and FREEZE as a write of its page. -/
theorem busCommandsComplete : Obligations.BusCommandsComplete := by
  unfold Obligations.BusCommandsComplete
  intro s r busy beats id m k payload frozen halt
  refine ⟨fun hlive => ⟨?_, yields_of_live rfl hlive rfl, fun hwarden => yields_of_live rfl hlive (if_neg hwarden),
    yields_of_live rfl hlive rfl, yields_of_live rfl hlive rfl⟩, fun hreach => yields_of_viaPage rfl hreach (by decide) rfl⟩
  have hlive' : (s.live || decide (r.addr < 0x10000000)) = true := by rw [hlive, Bool.true_or]
  exact congrArg (finish s) (if_pos hlive')

/-- Settles O35: each of the nine commands by `mboxIssue_owned`. -/
theorem mailboxCommandsComplete : Obligations.MailboxCommandsComplete := by
  unfold Obligations.MailboxCommandsComplete
  intro s m len flashOk hreach howned hdone
  simp only [List.forall_mem_cons, List.not_mem_nil, false_imp_iff, implies_true, and_true]
  have hcmd {i : Instr} {op d : Nat} {f : State → List Nat → MboxResult} (hop : 1 ≤ op) (hop' : op ≤ 9)
      (hc : exec i s = finish s (s.viaCmd m 0x280 0x40 d fun s => s.mboxIssue m op len.val f)) := 
    yields_of_viaCmd hc hreach (by decide) (mboxIssue_owned hop hop' howned hdone)
  exact ⟨hcmd (by decide) (by decide) rfl, hcmd (by decide) (by decide) rfl, hcmd (by decide) (by decide) rfl,
    hcmd (by decide) (by decide) rfl, hcmd (by decide) (by decide) rfl, hcmd (by decide) (by decide) rfl,
    hcmd (by decide) (by decide) rfl, hcmd (by decide) (by decide) rfl, hcmd (by decide) (by decide) rfl⟩

/-- Settles O36: each command with nothing against it, and each event in the state that it concerns. -/
theorem securityCommandsComplete : Obligations.SecurityCommandsComplete := by
  unfold Obligations.SecurityCommandsComplete
  intro s m sa run slices confirmed
  refine ⟨fun hreach => ⟨yields_of_viaCmd rfl hreach (by decide) rfl, fun howned => yields_of_viaCmd rfl hreach (by decide) ?_,
    fun hmay => yields_of_viaPage rfl hreach (by decide) ?_⟩, fun hlive => ⟨fun howned hdone => yields_of_live rfl hlive ?_,
    yields_of_live rfl hlive rfl, fun hen hsw hdue => yields_of_live rfl hlive ?_,
    fun hen => ⟨fun hsrc => yields_of_live rfl hlive ?_, fun hsrc => yields_of_live rfl hlive ?_⟩⟩⟩
  · have hheld : s.flag F.sec_MBOX_STATUS_OWNED = true := by
      rw [State.mboxOwnedBy, Bool.and_eq_true] at howned
      exact howned.1
    simp [State.mboxFree, howned, hheld]
  · rcases hmay with rfl | hcore
    · rfl
    · obtain ⟨k, rfl⟩ := eq_core_of_isCore hcore
      rfl
  · simp [howned, hdone]
  · rw [hen, hsw, hdue]
    rfl
  · simp [hen, hsrc]
  · simp [hen, hsrc]
end

section
/-! PROOFS. The service console, tests and the journal (spec/17_service_debug.md). -/

namespace Sys2Proof.Machine

variable {s : State} {m : Master}

/-- A console command, with the always-on domain powered and, where it needs it, the device out of reset (R456). -/
theorem yields_of_console {i : Instr} {aon : Bool} {f : State → State} (hc : exec i s = finish s (s.console aon f))
    (hon : s.dev.aonOn = true) (hmay : aon = true ∨ s.conBegins.live = true) : yields i s (f s.conBegins) :=
  yields_of_aon hc hon (if_pos (by simpa using hmay))

/-- Counting a console command and opening its session leave the device's mode. -/
theorem conBegins_live (s : State) : s.conBegins.live = s.live := by
  unfold State.conBegins
  dsimp only
  split <;> rfl

/-- The run that TEST_STATUS shows once test `num` has started (R458). -/
def startedTest (s : State) (num : Nat) (r : TestReq) : TestRun where
  num := num
  req := r
  su := (s.coreTestUnit r).getD 0
  step := 1
  intrusive := s.testIntrusive num r
  refs := match num with
    | 5 => [s.cget (F.lane_PRBS_ERR_C (r.unit % 256))]
    | 9 => (List.range 4).map fun k => s.cget (F.ez_FEC_UNCORR_C k)
    | _ => []
  saved := [s.save F.svc_TEST_STATUS_STATE, s.save F.svc_TEST_STATUS_TEST, s.save F.svc_TEST_STATUS_CODE]

/-- A test that nothing refuses, asked for by a register write, starts (R458, R459). -/
theorem testStart_starts {num : Nat} {r : TestReq} (hnone : s.svc.test = none) (hcon : r.console = false)
    (hunit : testUnitBad num r.unit = false) (hmay : s.testPermitted num r = true)
    (hon : s.domainOff (testPage num r.unit) = false) (hcore : num = 4 → (s.coreTestUnit r).isSome = true)
    (hidle : s.testBlockBusy num r = false) :
    s.testStart m num r = (({ s with svc := { s.svc with test := some (startedTest s num r), updateVerdict := 0 } } :
      State).fsets [(F.svc_TEST_STATUS_STATE, 1), (F.svc_TEST_STATUS_TEST, num), (F.svc_TEST_STATUS_CODE, 0)]).testBegins
        num r := by
  have hfree : ¬ (decide (num = 4) && (s.coreTestUnit r).isNone) = true := by
    simpa [Option.isSome_iff_ne_none] using hcore
  unfold State.testStart
  rw [if_neg (by simp [hnone]), if_neg (by simp [hunit]), if_neg (by simp [hmay]), if_neg (by simp [hon]), if_neg hfree]
  simp only [hcon, Bool.false_and, State.onlyIf, hidle, Bool.false_eq_true, if_false]
  rfl

end Sys2Proof.Machine

open Sys2Proof Sys2Proof.Machine

/-- Settles O37: a console command that its AON column or the device lets run is counted, and has its effect. -/
theorem consoleCommandsComplete : Obligations.ConsoleCommandsComplete := by
  unfold Obligations.ConsoleCommandsComplete
  intro s page off n d v lane eye k op mop data on hon
  refine ⟨yields_of_aon rfl hon rfl, yields_of_console (f := State.conStatus) rfl hon (.inl rfl),
    yields_of_console (f := State.conRails) rfl hon (.inl rfl), yields_of_console (f := State.conTemp) rfl hon (.inl rfl),
    fun hmay => ?_, yields_of_console (f := fun s => s.conMon v) rfl hon (.inl rfl),
    yields_of_console (f := fun s => s.conJrnl k.val) rfl hon (.inl rfl),
    yields_of_console (f := State.conClearFatal) rfl hon (.inl rfl),
    yields_of_console (f := fun s => s.attnRelease.conDone) rfl hon (.inl rfl),
    yields_of_console (f := fun s => (s.fput F.svc_SVC_STATUS_ECHO on).conDone) rfl hon (.inl rfl), fun hlive => ?_⟩
  · rw [← conBegins_live] at hmay
    exact ⟨yields_of_console (f := fun s => s.conRd page.val off.val n.val) rfl hon hmay,
      yields_of_console (f := fun s => s.conWr page.val off.val d.toNat) rfl hon hmay⟩
  · rw [← conBegins_live] at hlive
    exact ⟨yields_of_console (f := fun s => s.conEyeTest lane.val eye.val) rfl hon (.inr hlive),
      yields_of_console (f := fun s => s.conMode op.val) rfl hon (.inr hlive),
      yields_of_console (f := fun s => s.conMboxCmd mop.val (natBytes data)) rfl hon (.inr hlive),
      yields_of_console (f := fun s => s.conDone.fullReset 4) rfl hon (.inr hlive)⟩

/-- Settles O38: each of the nine commands names a unit that its test has, and so starts where nothing refuses it. -/
theorem testsStart : Obligations.TestsStart := by
  unfold Obligations.TestsStart
  intro s m n eye lane i full c hreach hm hnone
  have hstart (c : Instr) (num unit : Nat) (full leg : Bool) (eye : Nat)
      (hc : exec c s = finish s (s.startTest m num (testArgs unit full leg eye))) (hunit : testUnitBad num unit = false)
      (hmay : s.testPermitted num (testArgs unit full leg eye) = true) (hon : s.domainOff (testPage num unit) = false)
      (hcore : num = 4 → (s.coreTestUnit (testArgs unit full leg eye)).isSome = true)
      (hidle : s.testBlockBusy num (testArgs unit full leg eye) = false) :
      ∃ t : TestRun, t.num = num ∧ t.req = testArgs unit full leg eye ∧
        yields c s ((({ s with svc := { s.svc with test := some t, updateVerdict := 0 } } : State).fsets
          [(F.svc_TEST_STATUS_STATE, 1), (F.svc_TEST_STATUS_TEST, num), (F.svc_TEST_STATUS_CODE, 0)]).testBegins num
            (testArgs unit full leg eye)) :=
    ⟨startedTest s num (testArgs unit full leg eye), rfl, rfl,
      yields_of_viaCmd (hc.trans (congrArg (finish s) (if_neg hm))) hreach (by decide)
        (testStart_starts hnone rfl hunit hmay hon hcore hidle)⟩
  simp only [List.forall_mem_cons, List.not_mem_nil, false_imp_iff, implies_true, and_true]
  refine ⟨hstart _ 1 _ _ _ _ rfl rfl, hstart _ 2 _ _ _ _ rfl rfl, hstart _ 3 _ _ _ _ rfl rfl,
    fun hmay hon hcore hidle => hstart _ 4 _ _ _ _ rfl rfl hmay hon (fun _ => hcore trivial) hidle,
    hstart _ 5 _ _ _ _ rfl rfl, hstart _ 6 _ _ _ _ rfl ?_,
    hstart _ 7 _ _ _ _ rfl ?_, hstart _ 8 _ _ _ _ rfl ?_,
    hstart _ 9 _ _ _ _ rfl rfl⟩
  · rw [testUnitBad, decide_eq_false (Nat.not_le.mpr i.isLt), Bool.and_false]
    rfl
  · rw [testUnitBad, decide_eq_false (p := 2 ≤ c.val) (Nat.not_le.mpr c.isLt), Bool.and_false (7 == 7 || 7 == 8)]
    rfl
  · rw [testUnitBad, decide_eq_false (p := 2 ≤ c.val) (Nat.not_le.mpr c.isLt), Bool.and_false (8 == 7 || 8 == 8)]
    rfl

/-- Settles O39: the commands reach their pages or the always-on domain; in the verdict view an UPDATE that runs or has
ended sets the level of SVC_MON. -/
theorem serviceEventsComplete : Obligations.ServiceEventsComplete := by
  unfold Obligations.ServiceEventsComplete
  intro s m r
  refine ⟨fun hreach => ⟨yields_of_viaCmd rfl hreach (by decide) rfl, fun hm =>
      yields_of_viaCmd (congrArg (finish s) (if_neg hm)) hreach (by decide) rfl⟩,
    fun hon hlive => yields_of_console (f := fun s => s.testStop.conDone) (congrArg (finish s) (if_pos rfl)) hon
      (.inr ((conBegins_live s).trans hlive)),
    fun hreach => yields_of_viaCmd rfl hreach (by decide) rfl, fun hlive => yields_of_live rfl hlive rfl,
    fun hon => yields_of_aon rfl hon rfl, fun hview => ?_⟩
  rw [svcMon_of_monView (monView_of_verdict hview)]
  refine ⟨fun hcmd => ?_, fun hcmd => ⟨fun hpass => ?_, fun hfail => ?_⟩⟩
  · simp [State.verdictMv, hcmd]
  · simp [State.verdictMv, hcmd, hpass]
  · simp [State.verdictMv, hcmd, hfail]
end

section
/-! PROOFS. The debug port (spec/17_service_debug.md R465 to R472). -/

namespace Sys2Proof.Machine

variable {s : State} {m : Master}

/-! ## Frames -/

/-- The port of a device out of reset takes a frame whose CRC holds (R466). -/
theorem yields_of_frame {c : Instr} {t : State} {wr : Bool} {tag reg data : Nat} {crcOk : Bool}
    (hc : exec c s = finish s (s.dbgTakes wr tag reg data crcOk)) (hlive : s.live = true) (hcrc : crcOk = true)
    (ht : (s.cadd F.dbg_DBG_FRAMES_C 1).dbgFrame wr tag reg data = t) : yields c s t := by
  subst ht hcrc
  exact hc.trans (congrArg (finish s) (if_neg (by simp [hlive])))

/-- What a write that the port lets through does at its register (R467 to R471). -/
def State.dbgAct (s : State) (tag reg data : Nat) : State :=
  match reg with
  | 0xD => s.unlockCmd tag (data % 4)
  | 0x13 => s.busCmd tag data
  | 0x19 => s.cpuCtl tag (data % 8)
  | 0x1E => s.regCmd tag data
  | _ => (s.dbgWrite reg data).dbgSay tag .done

/-- A write to a register that the port lets through and that no access in progress keeps waiting acts (R468). -/
theorem dbgFrame_write {tag reg data : Nat} {l : DbgLock} (hoff : s.dbgOff = false) (hreg : dbgReg reg = some l)
    (hright : s.dbgRight l = true) (hfree : s.dbg.busOp = none ∨ dbgWaits true reg = false) :
    s.dbgFrame true tag reg data = s.dbgAct tag reg data := by
  have hwait : (s.dbg.busOp.isSome && dbgWaits true reg) = false := by
    obtain h | h := hfree <;> simp [h]
  simp only [State.dbgFrame, hoff, hreg, hright, hwait, Bool.false_and, Bool.not_true, Bool.false_eq_true, if_false]
  rfl

/-- A right to read or to write the bus opens the bus registers (R468, R470). -/
theorem dbgRight_bus_of_bit {k : Nat} (hk : k = 1 ∨ k = 2) (h : bitOf s.dbg.rights k = true) : s.dbgRight .bus = true := by
  have hbit : s.dbg.rights / 2 ^ k % 2 = 1 := by simpa [bitOf] using h
  have hne : s.dbg.rights / 2 % 4 ≠ 0 := by
    obtain rfl | rfl := hk
    · omega
    · omega
  simpa [State.dbgRight] using hne

/-- A frame to a register behind a right that is not granted, or to a closed port, is denied (R468, R471). -/
theorem dbgFrame_denied {wr : Bool} {tag reg data : Nat}
    (h : (s.dbgOff = true ∧ 2 ≤ reg) ∨ ∃ l, dbgReg reg = some l ∧ s.dbgRight l = false) :
    s.dbgFrame wr tag reg data = s.dbgSay tag .denied := by
  unfold State.dbgFrame
  split
  next => rfl
  next hopen =>
    obtain ⟨hoff, hreg⟩ | ⟨l, hreg, hright⟩ := h
    · exact absurd (by simp [hoff, hreg]) hopen
    · simp [hreg, hright]

/-! ## The registers with an action of their own -/

/-- TOKEN takes 4 bytes more (R468). -/
theorem dbgAct_token (s : State) (tag data : Nat) :
    s.dbgAct tag 0xC data = (s.tokenWrite data).dbgSay tag .done := rfl

/-- RELOCK withdraws every right (R469). -/
theorem dbgAct_relock (s : State) (tag : Nat) :
    s.dbgAct tag 0xD 2 = ({ s with dbg := { s.dbg with rights := 0 } } : State).dbgSay tag .done := rfl

/-- HALT, of a released core (R471). -/
theorem dbgAct_halt (tag : Nat) (h : s.cpuInReset s.dbg.cpuSel = false) :
    s.dbgAct tag 0x19 1 = (s.cpuHalt s.dbg.cpuSel 1).dbgSay tag .done := if_neg (ne_true_of_eq_false h)

/-- RESUME, of a released core (R471). -/
theorem dbgAct_resume (tag : Nat) (h : s.cpuInReset s.dbg.cpuSel = false) :
    s.dbgAct tag 0x19 2 = (s.cpuRun s.dbg.cpuSel).serviceIfHalted.dbgSay tag .done := if_neg (ne_true_of_eq_false h)

/-- STEP, of a released core (R471). -/
theorem dbgAct_step (tag : Nat) (h : s.cpuInReset s.dbg.cpuSel = false) :
    s.dbgAct tag 0x19 3 = (s.cpuStop s.dbg.cpuSel 3).dbgSay tag .done := if_neg (ne_true_of_eq_false h)

/-- HALT_ALL (R471). -/
theorem dbgAct_haltAll (s : State) (tag : Nat) :
    s.dbgAct tag 0x19 4 = ((List.range 8).foldl (fun s j => s.cpuHalt j 1) s).dbgSay tag .done := rfl

/-- RESUME_ALL (R471). -/
theorem dbgAct_resumeAll (s : State) (tag : Nat) :
    s.dbgAct tag 0x19 5 = ((List.range 8).foldl State.cpuRun s).serviceIfHalted.dbgSay tag .done := rfl

section
variable (hhalt : (s.cpu s.dbg.cpuSel).halted = true) (hnum : regNumOk s.dbg.regNum = true)
include hhalt hnum

/-- REG_CMD reads a register of a halted core (R468). -/
theorem dbgAct_regRead (tag : Nat) :
    s.dbgAct tag 0x1E 1 =
      ({ s with dbg := { s.dbg with regVal := s.cpuReg s.dbg.cpuSel s.dbg.regNum } } : State).dbgSay tag .done := by
  change s.regCmd tag 1 = _
  simp [State.regCmd, hhalt, hnum]

/-- REG_CMD writes a register of a halted core that is not x0 (R468). -/
theorem dbgAct_regWrite (tag : Nat) (hx0 : s.dbg.regNum ≠ 0x1000) :
    s.dbgAct tag 0x1E 2 = (s.setCpu s.dbg.cpuSel { s.cpu s.dbg.cpuSel with
      regs := spSet (s.cpu s.dbg.cpuSel).regs s.dbg.regNum s.dbg.regVal }).dbgSay tag .done := by
  change s.regCmd tag 2 = _
  simp [State.regCmd, hhalt, hnum, hx0]

end

/-- BUS_CMD takes an access whose right is granted (R467). -/
theorem busCmd_taken (tag : Nat) (wr inc : Bool) (h : bitOf s.dbg.rights (if wr then 2 else 1) = true) :
    s.busCmd tag (1 + b2n wr + 4 * b2n inc) =
      ({ s with dbg := { s.dbg with busOp := some (wr, inc, tag) } } : State).dbgSay tag .done := by
  have hbits : bitOf (1 + b2n wr + 4 * b2n inc) 0 = !wr ∧ bitOf (1 + b2n wr + 4 * b2n inc) 1 = wr ∧
      bitOf (1 + b2n wr + 4 * b2n inc) 2 = inc := by
    clear h
    revert wr inc
    decide
  obtain ⟨h0, h1, h2⟩ := hbits
  simp only [State.busCmd, h0, h1, h2]
  cases wr with
  | false => simpa using fun h' => absurd (h.symm.trans h') (by decide)
  | true => simpa using fun h' => absurd (h.symm.trans h') (by decide)

end Sys2Proof.Machine

open Sys2Proof Sys2Proof.Machine

/-- Settles O40: every frame is counted; one that the port lets through has its register's action, as R467 to R471 give it. -/
theorem debugFramesComplete : Obligations.DebugFramesComplete := by
  unfold Obligations.DebugFramesComplete
  intro s tag autoinc d wr reg crc hlive
  refine ⟨fun hcrc => yields_of_frame rfl hlive (by simpa using hcrc) rfl, fun hcrc => ?_, fun hoff => ?_⟩
  · refine congrArg (finish s) ((if_neg (by simp [hlive])).trans (if_neg ?_))
    simpa using hcrc
  have hframe (c : Instr) (reg data : Nat) (l : DbgLock) (t : State)
      (hc : exec c s = finish s (s.dbgTakes true tag.val reg data true)) (hreg : dbgReg reg = some l)
      (hright : s.dbgRight l = true) (hfree : s.dbg.busOp = none ∨ dbgWaits true reg = false)
      (ht : (s.cadd F.dbg_DBG_FRAMES_C 1).dbgAct tag.val reg data = t) : yields c s t :=
    yields_of_frame hc hlive rfl ((dbgFrame_write (s := s.cadd F.dbg_DBG_FRAMES_C 1) hoff hreg hright hfree).trans ht)
  have hbus (c : Instr) (wr : Bool) (hc : exec c s = finish s (s.dbgTakes true tag.val 0x13 (1 + b2n wr + 4 * b2n autoinc) true))
      (hidle : s.dbg.busOp = none) (hright : bitOf s.dbg.rights (if wr then 2 else 1) = true) :
      yields c s ((({ s.cadd F.dbg_DBG_FRAMES_C 1 with
        dbg := { s.dbg with busOp := some (wr, autoinc, tag.val) } } : State)).dbgSay tag.val .done) :=
    hframe c 0x13 _ .bus _ hc rfl (dbgRight_bus_of_bit (by cases wr <;> simp) hright) (.inl hidle)
      (busCmd_taken (s := s.cadd F.dbg_DBG_FRAMES_C 1) tag.val wr autoinc hright)
  have hcore (c : Instr) (reg data : Nat) (t : State) (hright : bitOf s.dbg.rights 0 = true)
      (hc : exec c s = finish s (s.dbgTakes true tag.val reg data true)) (hreg : dbgReg reg = some .core)
      (hwait : dbgWaits true reg = false) (ht : (s.cadd F.dbg_DBG_FRAMES_C 1).dbgAct tag.val reg data = t) : yields c s t :=
    hframe c reg data .core t hc hreg hright (.inr hwait) ht
  refine ⟨hframe (.tokenWrite tag d) 0xC d.toNat .open_ _ rfl rfl rfl (.inr rfl) (dbgAct_token _ _ _),
    hframe (.unlockSubmit tag) 0xD 1 .open_ _ rfl rfl rfl (.inr rfl) rfl,
    hframe (.unlockRelock tag) 0xD 2 .open_ _ rfl rfl rfl (.inr rfl) (dbgAct_relock _ _),
    fun hidle => ⟨hbus (.dbgBusRead tag autoinc) false rfl hidle, hbus (.dbgBusWrite tag autoinc) true rfl hidle⟩,
    fun hright => ⟨fun hrun => ⟨hcore (.cpuHalt tag) 0x19 1 _ hright rfl rfl rfl 
          (dbgAct_halt (s := s.cadd F.dbg_DBG_FRAMES_C 1) _ hrun),
        hcore (.cpuResume tag) 0x19 2 _ hright rfl rfl rfl 
          (dbgAct_resume (s := s.cadd F.dbg_DBG_FRAMES_C 1) _ hrun),
        hcore (.cpuStep tag) 0x19 3 _ hright rfl rfl rfl 
          (dbgAct_step (s := s.cadd F.dbg_DBG_FRAMES_C 1) _ hrun)⟩,
      hcore (.cpuHaltAll tag) 0x19 4 _ hright rfl rfl rfl (dbgAct_haltAll _ _),
      hcore (.cpuResumeAll tag) 0x19 5 _ hright rfl rfl rfl (dbgAct_resumeAll _ _),
      fun hhalt hnum => ⟨hcore (.regCmdRead tag) 0x1E 1 _ hright rfl rfl rfl
          (dbgAct_regRead (s := s.cadd F.dbg_DBG_FRAMES_C 1) hhalt hnum _),
        fun hx0 => hcore (.regCmdWrite tag) 0x1E 2 _ hright rfl rfl rfl 
          (dbgAct_regWrite (s := s.cadd F.dbg_DBG_FRAMES_C 1) hhalt hnum _ hx0)⟩⟩⟩

/-- Settles O41: the port's events, DBG_OFF through its page's gate, and the TAP. -/
theorem debugEventsComplete : Obligations.DebugEventsComplete := by
  unfold Obligations.DebugEventsComplete
  intro s m k b ir
  refine ⟨fun hlive => ⟨yields_of_live rfl hlive rfl, yields_of_live rfl hlive rfl, yields_of_live rfl hlive rfl,
      fun hrun hgo hctl hgroup => yields_of_live rfl hlive ?_⟩,
    fun hreach => yields_of_viaPage rfl hreach (by decide) rfl, rfl⟩
  have hmet : ¬ (s.cpuInReset k.val || (s.cpu k.val).halted ||
      decide (((s.cpu k.val).bps.getD b.val {}).ctl % 8 = 0)) = true := by
    rw [hrun, hgo, decide_eq_false hctl]
    decide
  have hhalt : s.cpuHalt k.val 2 = s.cpuStop k.val 2 := if_neg (by rw [hrun, hgo]; decide)
  exact (if_neg hmet).trans ((if_neg (by rw [hgroup]; decide)).trans hhalt)
end

section
/-! PROOFS. Commands that a block turns away, and writes that do not reach their page (spec/03_registers.md R54, R72 to R76). -/

namespace Sys2Proof.Machine

variable {s : State} {m : Master} {p : Nat}

/-! ## Commands turned away -/

/-- While a mode request pends, a second one is refused (R37, R73). -/
theorem modeReq_pending (op : Nat) (h : s.dev.req ≠ .none) : s.modeReq m op = s.refuseReq m :=
  if_pos (by simp [State.transiting, h])

/-- A tributary-map command while an APPLY is checked (R169). -/
theorem tribCmd_applying (x : Nat) (eg : Bool) (table op : Nat) (h : s.odu.applying.isSome = true) :
    s.tribCmd m x eg table op = s.logErr 0x40 8 (masterId m) 0 0x40 := if_pos h

/-- A tributary-map command on an index out of range ends with result 3 (R169). -/
theorem tribCmd_outOfRange {x table op : Nat} (eg : Bool) (h : s.odu.applying = none) (hop : 1 ≤ op) (hop' : op ≤ 5)
    (htable : op ≤ 3 → table ≠ 3) (hx : (if (decide (4 ≤ op) || decide (table = 2)) = true then 257 else 46079) < x) :
    s.tribCmd m x eg table op = s.tribEnd 3 0 := by
  have hlisted : ¬ (decide (op = 0) || decide (5 < op) || (decide (op ≤ 3) && decide (table = 3))) = true := by
    simp only [Bool.or_eq_true, Bool.and_eq_true, decide_eq_true_eq]
    rintro ((h | h) | ⟨h, ht⟩)
    · omega
    · omega
    · exact htable h ht
  exact (if_neg (by simp [h])).trans ((if_neg hlisted).trans (if_pos hx))

/-! ## What the gate answers -/

/-- Who writes a page that Reset and Boot leave open: Warden, anyone at page 0x000, and the service port at the always-on
pages (R72, R74). -/
def freed (m : Master) (p : Nat) : Prop := m = .warden ∨ p = 0 ∨ (m = .service ∧ pageAon p = true)

/-- The gate's own form of it. -/
theorem freed_iff : freed m p ↔ (m != .warden && p != 0 && !(decide (m = .service) && pageAon p)) = false := by
  simp only [freed, Bool.and_eq_false_iff, bne_eq_false_iff_eq, Bool.not_eq_false', Bool.and_eq_true, decide_eq_true_eq,
    or_assoc]

/-- Dormant drops every write but the service port's at the always-on pages. -/
theorem gate_dormant (hmode : s.dev.mode = .dormant) (h : ¬ (m = .service ∧ pageAon p = true)) :
    s.gate m p true = .drop := by
  have hnot : ¬ (pageAon p && decide (m = .service)) = true := by simpa [and_comm] using h
  exact (if_pos hmode).trans (if_neg hnot)

section
variable (hmode : s.dev.mode ≠ .dormant)
include hmode

/-- PF1's user counter page drops writes (R384). -/
theorem gate_userCounters (hm : m = .pf1) (hp : p = 0x3FF) : s.gate m p true = .drop :=
  (if_neg hmode).trans (if_pos (by simp [hm, hp]))

/-- A page that the map does not have. -/
theorem gate_unmapped (hmap : pageMapped p = false) (h : ¬ (m = .pf1 ∧ p = 0x3FF)) : s.gate m p true = .decode :=
  (if_neg hmode).trans ((if_neg (by simpa using h)).trans (if_pos (by simp [hmap])))

variable (hmap : pageMapped p = true)
include hmap

/-- PF1 writes no page. -/
theorem gate_pf1 (hm : m = .pf1) : s.gate m p true = .drop := by
  simp [State.gate, hmode, hmap, hm]

variable (hm : m ≠ .pf1)
include hm

/-- A mapped page asks for the mode, the domain, the shield and the secure pages, in this order. -/
theorem gate_mapped : s.gate m p true =
    if m != .warden && p != 0 && !(decide (m = .service) && pageAon p) && decide (s.dev.mode = .reset) then .drop
    else if m != .warden && p != 0 && !(decide (m = .service) && pageAon p) && decide (s.dev.mode = .boot) then .dropLog
    else if s.domainOff p then .dropLog
    else if s.bus.shield.contains (basePage p) then .shield
    else if pageSecure p && m != .warden then .secure
    else .go :=
  (if_neg hmode).trans ((if_neg (by simp [hm])).trans ((if_neg (by simp [hmap])).trans (if_neg (by simp [hm]))))

/-- Reset drops the write. -/
theorem gate_reset (hr : s.dev.mode = .reset) (hf : ¬ freed m p) : s.gate m p true = .drop := by
  have hshut := eq_true_of_ne_false (mt freed_iff.mpr hf)
  rw [gate_mapped hmode hmap hm, hshut, hr]
  rfl

/-- Boot drops the write and logs it. -/
theorem gate_boot (hb : s.dev.mode = .boot) (hf : ¬ freed m p) : s.gate m p true = .dropLog := by
  have hshut := eq_true_of_ne_false (mt freed_iff.mpr hf)
  rw [gate_mapped hmode hmap hm, hshut, hb]
  rfl

/-- Where the mode lets the write through, the domain, the shield and the secure pages decide. -/
theorem gate_open (hopen : (s.dev.mode ≠ .reset ∧ s.dev.mode ≠ .boot) ∨ freed m p) : s.gate m p true =
    if s.domainOff p then .dropLog
    else if s.bus.shield.contains (basePage p) then .shield
    else if pageSecure p && m != .warden then .secure
    else .go := by
  rw [gate_mapped hmode hmap hm]
  obtain ⟨hr, hb⟩ | hf := hopen
  · simp [hr, hb]
  · rw [freed_iff.mp hf]
    rfl

end

/-! ## What the write then meets -/

variable {off region be data : Nat}

/-- A dropped write. -/
theorem regWrite_drop (h : s.gate m p true = .drop) : s.regWrite m p off region be data = s := by
  rw [State.regWrite, State.viaPage, h]

/-- A dropped write that the matrix logs. -/
theorem regWrite_dropLog (h : s.gate m p true = .dropLog) :
    s.regWrite m p off region be data = s.logErr 0x270 6 (masterId m) region off := by
  rw [State.regWrite, State.viaPage, h]

/-- A write to an unmapped page: an unsupported request for a host function. -/
theorem regWrite_decode (h : s.gate m p true = .decode) :
    s.regWrite m p off region be data = if m = .pf0 ∨ m = .pf1
      then (s.mxError 0xA (masterId m) (p * 0x10000 + region * 0x4000 + off)).cadd F.pcie_UR_SENT_C 1
      else s.mxError 0xA (masterId m) (p * 0x10000 + region * 0x4000 + off) := by
  rw [State.regWrite, State.viaPage, h]
  simp

/-- A write to a block in reset. -/
theorem regWrite_shield (h : s.gate m p true = .shield) :
    s.regWrite m p off region be data = s.mxError 0xB (masterId m) (p * 0x10000 + region * 0x4000 + off) := by
  rw [State.regWrite, State.viaPage, h]

/-- A write to a secure page: its first two registers are read-only and log nothing. -/
theorem regWrite_secure (h : s.gate m p true = .secure) :
    s.regWrite m p off region be data = if off < 8 then s else s.logErr p 5 (masterId m) region off := by
  rw [State.regWrite, State.viaPage, h]

end Sys2Proof.Machine

open Sys2Proof Sys2Proof.Machine

/-- Settles O42: each command's block turns it away before it has an effect. -/
theorem commandsRefused : Obligations.CommandsRefused := by
  unfold Obligations.CommandsRefused
  intro s m
  refine ⟨fun hreach hreq => ?_, fun hreach hfw x => yields_of_viaCmd rfl hreach (by decide) (if_pos (by simp [hfw])),
    fun hreach i eg table => ?_, fun hreach => ?_, fun hreach hsw => ?_,
    fun hreach hm => ⟨fun hrun => ?_, fun hnone hmay => ?_⟩,
    fun tag reg d wr crc hlive hcrc hden =>
      yields_of_frame rfl hlive (by simpa using hcrc) (dbgFrame_denied (s := s.cadd F.dbg_DBG_FRAMES_C 1) hden)⟩
  · have hcmd (c : Instr) (op : Nat) (hc : exec c s = finish s (s.reqWrite m op)) :
        yields c s ((s.fset F.dev_MODE_REQ_STATUS 3).logErr 0 9 (masterId m) 0 0x44) :=
      yields_of_viaCmd hc hreach (by decide) (modeReq_pending op hreq)
    simp only [List.forall_mem_cons, List.not_mem_nil, false_imp_iff, implies_true, and_true]
    exact ⟨hcmd _ 1 rfl, hcmd _ 2 rfl, hcmd _ 3 rfl, hcmd _ 4 rfl⟩
  · have hcmd (c : Instr) (t op d : Nat) (hc : exec c s = finish s (s.viaCmd m 0x40 0x40 d fun s => s.tribCmd m i.val eg t op))
        (u : Nat) (hop : 1 ≤ op) (hop' : op ≤ 5) (ht : op ≤ 3 → t ≠ 3)
        (hu : (if u = 2 then 257 else 46079) = if (decide (4 ≤ op) || decide (t = 2)) = true then 257 else 46079) :
        (s.odu.applying.isSome = true → writes c s (s.logErr 0x40 8 (masterId m) 0 0x40)) ∧
          (s.odu.applying = none → (if u = 2 then 257 else 46079) < i.val → writes c s (s.tribEnd 3 0)) :=
      ⟨fun h => writes_of_viaCmd hc hreach (tribCmd_applying _ eg t op h),
        fun h hx => writes_of_viaCmd hc hreach (tribCmd_outOfRange eg h hop hop' ht (hu ▸ hx))⟩
    have ht : table.val ≠ 3 := by omega
    simp only [List.forall_mem_cons, List.not_mem_nil, false_imp_iff, implies_true, and_true]
    exact ⟨hcmd (.tribReadActive m i eg (table.castLE (by decide))) table.val 1 _ rfl table.val (by decide) (by decide)
        (fun _ => ht) (by simp),
      hcmd (.tribWriteStaged m i eg (table.castLE (by decide))) table.val 2 _ rfl table.val (by decide) (by decide)
        (fun _ => ht) (by simp),
      hcmd (.tribReadStaged m i eg (table.castLE (by decide))) table.val 3 _ rfl table.val (by decide) (by decide)
        (fun _ => ht) (by simp),
      hcmd (.tribApply m i eg) 0 4 _ rfl 2 (by decide) (by decide) (fun _ => by decide) rfl,
      hcmd (.tribDiscard m i eg) 0 5 _ rfl 2 (by decide) (by decide) (fun _ => by decide) rfl⟩
  · simp only [List.forall_mem_cons, List.not_mem_nil, false_imp_iff, implies_true, and_true]
    refine ⟨fun hmode hsw => yields_of_viaCmd rfl hreach (by decide) ?_,
      fun hmode hsw => yields_of_viaCmd rfl hreach (by decide) ?_,
      fun hmode _ => yields_of_viaCmd rfl hreach (by decide) ?_⟩
    · simp [State.cmdHandover, hsw.resolve_left (by decide), hmode, State.log]
    · simp [State.cmdTakeover, hsw.resolve_left (by decide), hmode, State.log]
    · simp [State.cmdResync, hmode, State.log]
  · simp only [List.forall_mem_cons, List.not_mem_nil, false_imp_iff, implies_true, and_true]
    exact ⟨yields_of_viaCmd rfl hreach (by decide) (if_pos hsw), yields_of_viaCmd rfl hreach (by decide) (if_pos hsw)⟩
  · exact yields_of_viaCmd (congrArg (finish s) (if_neg hm)) hreach (by decide) (if_pos hrun)
  · refine yields_of_viaCmd (congrArg (finish s) (if_neg hm)) hreach (by decide) ?_
    have hpermit : s.testPermitted 1 (testArgs 0 false false 1) = false := by
      simp [State.testPermitted, State.testIntrusive, hmay]
    refine (if_neg (by simp [hnone])).trans ((if_neg (by decide)).trans ((if_pos (by rw [hpermit]; rfl)).trans rfl))

/-- Settles O43: the gate's answer, in the order in which the gate asks, and what each answer leaves. -/
theorem unreachedWritesAreAnswered : Obligations.UnreachedWritesAreAnswered := by
  unfold Obligations.UnreachedWritesAreAnswered
  intro s m p dw be d e he
  have hc : exec e.1 s = finish s (s.regWrite m p.val (4 * dw.val) e.2 be.val d.toNat) := by
    simp only [List.mem_cons, List.not_mem_nil, or_false] at he
    obtain rfl | rfl | rfl | rfl := he <;> rfl
  have hcmd {t : State} (ht : s.regWrite m p.val (4 * dw.val) e.2 be.val d.toNat = t) : yields e.1 s t :=
    hc.trans (congrArg (finish s) ht)
  refine ⟨fun hmode hport => hcmd (regWrite_drop (gate_dormant hmode hport)),
    fun hmode hm hp => hcmd (regWrite_drop (gate_userCounters hmode hm hp)),
    fun hmode hmap hport => hcmd (regWrite_decode (gate_unmapped hmode hmap hport)),
    fun hmode hmap => ⟨fun hm => hcmd (regWrite_drop (gate_pf1 hmode hmap hm)),
      fun hm => ⟨fun hr hf => hcmd (regWrite_drop (gate_reset hmode hmap hm hr hf)),
        fun hb hf => hcmd (regWrite_dropLog (gate_boot hmode hmap hm hb hf)), fun hopen => ?_⟩⟩⟩
  have hgate := gate_open hmode hmap hm hopen
  refine ⟨fun hoff => ?_, fun hon => ⟨fun hres => ?_, fun hfree hsec hw => ?_⟩⟩
  · exact hcmd (regWrite_dropLog (hgate.trans (if_pos hoff)))
  · exact hcmd (regWrite_shield (hgate.trans (by rw [if_neg (ne_true_of_eq_false hon), if_pos hres])))
  · have hsecure : s.gate m p.val true = .secure := by
      rw [hgate, if_neg (ne_true_of_eq_false hon), if_neg (ne_true_of_eq_false hfree), if_pos (by simp [hsec, hw])]
    rw [regWrite_secure hsecure] at hcmd
    have hro : 4 * dw.val < 8 ↔ dw.val < 2 := by omega
    simp only [hro] at hcmd
    exact hcmd rfl
end
